-- ==== Sys2Proof/Word.lean ====
section
/-! DEFINITION. The word types of the NZ8 model: bytes and the fixed widths the manual names (R11, R18). -/
namespace Sys2Proof

/-- A byte. -/
abbrev Byte := BitVec 8
/-- A 16-bit word. -/
abbrev W16 := BitVec 16
/-- A 32-bit word: a BAR0 register (R18), an F32 value (R86), a lantern scalar register (R245). -/
abbrev W32 := BitVec 32
/-- A 64-bit word. -/
abbrev W64 := BitVec 64

end Sys2Proof
end

