-- ==== Sys2Proof/Syntax.lean ====
section
/-! DEFINITION. The commands of the NZ8: one constructor of `Instr` per row of spec/opcode_table.json, with its operands.
A cue row has no operand: the Prompter takes the cue at PC (R143). A lantern row names its lantern (R249). A host
command row carries its submission entry (R341) and what the read of the host buffers it names returned. -/
namespace Sys2Proof

/-- The masters of the register bus (R502): management cores 0 to 3, and the host. -/
inductive Master where
  | core0 | core1 | core2 | core3 | host
deriving DecidableEq, Repr

/-- The memory codes of MEM_UE_INFO (Table 10-8). -/
inductive MemCode where
  | tile | cue | lins | ldata | cast | capt | hbm
deriving DecidableEq, Repr

/-- What a read finds in its word or sector (R319, R321). -/
inductive Finding where
  | clean | corrected | uncorrectable
deriving DecidableEq, Repr

/-- What a read of a command finds at a word or sector (R318, R319, R321): the memory, its UNIT, an address in it. -/
structure Found where
  mem : MemCode
  unit : Fin 512
  addr : BitVec 39
  finding : Finding
deriving DecidableEq, Repr

/-- Samples of a lane at its slicer input (R366): their code, the level that the slicer assigned, and how many there are. -/
structure Sample where
  code : BitVec 8
  level : Fin 4
  count : Nat
deriving DecidableEq, Repr

/-- A submission entry as a pair hands it over (Table 11-5): the pair, FLAGS, CID, STREAM, JOB and operand bytes 8 to 63. -/
structure Submission where
  q : Fin 64
  opcode : Byte
  flags : Byte
  cid : W16
  stream : W16
  job : W16
  ops : List Byte
deriving DecidableEq, Repr

/-- What the reads of the host buffers a command names returned: `ok` is false when a read failed (DMA_ERROR, Table 11-8);
`bytes` the image or the parameter block, `tokens` the prompt, appended or draft words. -/
structure HostBuffer where
  ok : Bool
  bytes : List Byte
  tokens : List W32
deriving DecidableEq, Repr

/-- How a Spotlight control act is asked for: by a register write of a master, or by a SPOTLIGHT command (R497). -/
inductive SptVia where
  | reg (m : Master) (v : W32)
  | cmd (c : Submission)
deriving DecidableEq, Repr

/-- A frame as received (Table 12-5): the START block, the header block, the payload bytes, the END block's CRC, and
whether a control block other than ALIGN fell inside (R373). -/
structure Frame where
  start : W64
  hdr : W64
  payload : List Byte
  crc : W32
  stray : Bool
deriving DecidableEq, Repr

/-- The commands. -/
inductive Instr where
  /-- NOP (R191): A NOP cue occupies one issue slot and feeds its PHASE to the Dimmer. -/
  | nop
  /-- ILLEGAL_OPCODE (R147): A cue with a reserved opcode raises Prompter fault 0x01 at issue. -/
  | illegalOpcode
  /-- SCENE (R163): A SCENE cue is checked, enters the Stage queue and appends its draw to its counter's ledger list. -/
  | scene
  /-- VEC (R165): A VEC cue is checked and queued to run its vector operation on every lit tile. -/
  | vec
  /-- QNT (R172): A QNT cue is checked and queued to convert groups to N4 or N8 from their statistics records. -/
  | qnt
  /-- MOVE_LINEAR (R174): A LINEAR MOVE starts a strided transfer between HBM and tile store on its queue. -/
  | moveLinear
  /-- MOVE_GATHER_ROWS (R174): A GATHER_ROWS MOVE starts a transfer of HBM rows indexed by the manifest's token IDs into tile store. -/
  | moveGatherRows
  /-- MOVE_KV_READ (R282): A KV_READ MOVE starts reading each stream slot's KV pages or staging pages into tile store. -/
  | moveKvRead
  /-- MOVE_KV_WRITE (R282): A KV_WRITE MOVE starts writing rows or whole pages from tile store into the streams' KV blocks or staging blocks. -/
  | moveKvWrite
  /-- MOVE_SEND (R387): A SEND MOVE starts sending tile-store rows as DATA frames to a peer's receive queue. -/
  | moveSend
  /-- MOVE_RECEIVE (R387): A RECEIVE MOVE starts accepting incoming DATA frames of its queue into tile store. -/
  | moveReceive
  /-- WAIT (R156): A WAIT cue issues and stalls the Prompter until its counter holds COUNT tokens. -/
  | wait
  /-- WAIT_RETIRE (R156): A stalled WAIT is satisfied, consumes its tokens and ledger entries and retires, or faults with 0x11 or 0x03 on an error token. -/
  | waitRetire
  /-- WAIT_LIMIT_EXPIRY (R156): An unsatisfied WAIT reaches its house-tick limit and raises fault 0x10. -/
  | waitLimitExpiry
  /-- RED (R176): A RED cue starts a reduction of tile buffers across the devices of a collective group. -/
  | red
  /-- STEP_END (R183): SYNC STEP_END checks the ledger and counters, then commits the step after the commit latency and returns PC to STG_ENTRY_STEP. -/
  | stepEnd
  /-- INIT_END (R183): SYNC INIT_END ends the init section and sets PC to STG_ENTRY_STEP without committing. -/
  | initEnd
  /-- BARRIER (R184): SYNC BARRIER issues and waits for every member of its group to reach the matching barrier. -/
  | barrier
  /-- CURTAIN (R184): SYNC CURTAIN darkens the Stage, sends ARM to rank 0 and stalls the Prompter until the Curtain falls. -/
  | curtain
  /-- EVENT (R184): SYNC EVENT raises Callboard source 96 + EVT. -/
  | event
  /-- GRID_START (R180): GRID START begins an image program on every lantern of the named region. -/
  | gridStart
  /-- SAMPLER (R258): GRID START of SAMPLER chooses one token per non-verify emit row and writes result records. -/
  | sampler
  /-- MASKER (R257): GRID START of MASKER writes the vocabulary mask bits of every emit row into the chain tails' tile stores. -/
  | masker
  /-- QSTAT (R261): GRID START of QSTAT writes a statistics record for every group of a tensor. -/
  | qstat
  /-- SPECV (R260): GRID START of SPECV resolves every verify group, accepting drafts and writing result records. -/
  | specv
  /-- GRID_CHANGEOVER (R239): GRID CHANGEOVER starts a change of route configuration at the changeover barrier. -/
  | gridChangeover
  /-- HINT (R448): A HINT cue sets the hinted operating point and schedules a demand pre-arm when cue hints are selected. -/
  | hint
  /-- DIGEST (R187): A DIGEST cue places a mark entry in the digest ring after earlier scene entries. -/
  | digest
  /-- LOOP (R190): A LOOP cue opens a loop level with its count and stride and enters its body. -/
  | loop
  /-- STAGE_CUE_START (R145): The Stage takes the next Stage cue from its queue when idle and starts it, ramping up first if dark. -/
  | stageCueStart (found : List Found)
  /-- RAMP_UP_DONE (R67): At core cycle 256 of a ramp-up RAMPING clears, LIT sets and the first Stage cue begins. -/
  | rampUpDone
  /-- SCENE_BOUNDARY (R62): A Stage cue reaches its boundary and posts its token, or reports the fault detected during it. -/
  | sceneBoundary
  /-- RAMP_DOWN_DONE (R67): The ramp-down schedule ends and the Stage is dark with RAMPING and LIT clear. -/
  | rampDownDone
  /-- DARK_IDLE_EXPIRY (R66): An idle Stage reaches DARK_IDLE × 1,024 core cycles and goes dark. -/
  | darkIdleExpiry
  /-- BUBBLE (R438): The bubble accumulator reaches 64 and the core cycle is a bubble that holds every tile's state or stalls HBM acceptance. -/
  | bubble
  /-- FLICKER (R441): A core-rail droop is detected; the Dimmer inserts an 8-cycle bubble burst, counts and flags it. -/
  | flicker
  /-- FLICKER_BURST_END (R441): A Flicker burst ends 8 core cycles after its last detection and b becomes at least DIM_FLICKER.FB. -/
  | flickerBurstEnd
  /-- TRANSFER_COMPLETE (R175): A MOVE transfer has written every byte and posts its token on its queue counter in issue order. -/
  | transferComplete (q : Fin 64) (found : List Found)
  /-- RED_COMPLETE (R176): A reduction has written its result in every selected tile and posts tokens to CTR, TXQ and RXQ. -/
  | redComplete (ctr : Fin 128)
  /-- BARRIER_COMPLETE (R184): Every group member has reached the matching BARRIER and the barrier posts its token. -/
  | barrierComplete (ctr : Fin 128)
  /-- GRID_PROGRAM_DONE (R236): Every lantern of a region has finished and the GRID START token posts, as an error token if any lantern faulted or got status 0x03. -/
  | gridProgramDone (region : Fin 16)
  /-- CHANGEOVER_SWAP (R239): At the first slot-0 cycle after the barrier the new routes and regions apply, the epoch advances and held tokens are flushed. -/
  | changeoverSwap
  /-- CHANGEOVER_TIMEOUT (R240): A changeover with no swap by grid cycle t + 2,047 fails and fault 0x50 is detected. -/
  | changeoverTimeout
  /-- COLLECTIVE_TIMEOUT (R392): A RED, SYNC BARRIER or SYNC CURTAIN not complete within FAB_COLL_LIMIT is detected as fault 0x40. -/
  | collectiveTimeout
  /-- DEVICE_LOST (R386): Neither route port of a device stays UP for FAB_LOSS_HOLD and the device is recorded as lost. -/
  | deviceLost (d : BitVec 13)
  /-- CHECKPOINT_COMPLETE (R300): A checkpoint is complete: deferred releases apply, the journal empties, CST_CKPT_SEQ updates and the manifest log restarts. -/
  | checkpointComplete
  /-- FORMATION (R277): Once step s − 1's results are received and step s − 2 has committed, the Cast Table forms manifest s. -/
  | formation
  /-- SPILL_START (R296): The Cast Table begins spilling a PAUSED stream's unshared blocks to Wings frames on request or under pool pressure. -/
  | spillStart
  /-- SPILL_COMPLETE (R296): Every block of a spilling stream has been written to the Wings and the stream becomes SPILLED. -/
  | spillComplete (pcieError : Bool)
  /-- RETURN_COMPLETE (R297): A stream's frames have been copied back, its entries restored and frames freed, and it takes its saved state. -/
  | returnComplete (pcieError : Bool)
  /-- TOKEN_ARRIVAL (R229): A Lantern Grid token reaches a steering unit and is checked for epoch and paired by source and slot. -/
  | tokenArrival
  /-- CONTROL_TOKEN_EXPIRY (R229): A control token with no partner 4 grid cycles after arrival expires and is counted. -/
  | controlTokenExpiry (u : Fin 320)
  /-- ORPHAN_DATA (R229): A data token with no partner 4 grid cycles after arrival is discarded and fault 0x51 is detected. -/
  | orphanData (u : Fin 320)
  /-- TS_READ (R233): A north or south edge unit accepts a tile-store read request. -/
  | tsRead (u : Fin 320) (found : List Found)
  /-- TS_WRITE (R233): A north or south edge unit accepts a tile-store write request awaiting WDATA. -/
  | tsWrite (u : Fin 320)
  /-- HBM_READ (R233): A west edge unit accepts an HBM read request. -/
  | hbmRead (u : Fin 320) (found : List Found)
  /-- HBM_WRITE (R233): A west edge unit accepts an HBM write request awaiting WDATA. -/
  | hbmWrite (u : Fin 320)
  /-- CST_READ (R280): An east edge unit accepts a read of the Cast Table's Grid window. -/
  | cstRead (u : Fin 320)
  /-- CST_WRITE (R280): An east edge unit accepts a write to the Grid window's result records or draft proposals. -/
  | cstWrite (u : Fin 320)
  /-- WDATA (R233): An edge unit takes a WDATA pair as 16 bytes of the source's oldest open write request. -/
  | wdata (u : Fin 320)
  /-- EDGE_REPLY (R233): An edge unit finishes a request and injects its RSP pairs in the requested slot. -/
  | edgeReply (u : Fin 320)
  /-- HALT (R248): A lantern retires HALT and finishes once its requests are answered. -/
  | halt (l : Fin 256)
  /-- LANTERN_NOP (R250): A lantern NOP has no effect. -/
  | lanternNop (l : Fin 256)
  /-- ADD (R250): gA receives gB plus gC modulo 2^32. -/
  | add (l : Fin 256)
  /-- SUB (R250): gA receives gB minus gC modulo 2^32. -/
  | sub (l : Fin 256)
  /-- AND (R250): gA receives gB and gC. -/
  | and (l : Fin 256)
  /-- OR (R250): gA receives gB or gC. -/
  | or (l : Fin 256)
  /-- XOR (R250): gA receives gB xor gC. -/
  | xor (l : Fin 256)
  /-- SHL (R250): gA receives gB shifted left by gC[4:0]. -/
  | shl (l : Fin 256)
  /-- SHR (R250): gA receives gB shifted right logically by gC[4:0]. -/
  | shr (l : Fin 256)
  /-- SRA (R250): gA receives gB shifted right arithmetically by gC[4:0]. -/
  | sra (l : Fin 256)
  /-- SLT (R250): gA receives 1 if gB is below gC signed, else 0. -/
  | slt (l : Fin 256)
  /-- SLTU (R250): gA receives 1 if gB is below gC unsigned, else 0. -/
  | sltu (l : Fin 256)
  /-- MUL (R250): gA receives the low 32 bits of gB times gC. -/
  | mul (l : Fin 256)
  /-- ADDI (R250): gA receives gB plus the sign-extended immediate. -/
  | addi (l : Fin 256)
  /-- ANDI (R250): gA receives gB and the zero-extended immediate. -/
  | andi (l : Fin 256)
  /-- ORI (R250): gA receives gB or the zero-extended immediate. -/
  | ori (l : Fin 256)
  /-- LUI (R250): gA receives IMM20 shifted left by 12. -/
  | lui (l : Fin 256)
  /-- FADD (R250): gA receives the F32 sum of gB and gC. -/
  | fadd (l : Fin 256)
  /-- FSUB (R250): gA receives the F32 difference of gB and gC. -/
  | fsub (l : Fin 256)
  /-- FMUL (R250): gA receives the F32 product of gB and gC. -/
  | fmul (l : Fin 256)
  /-- FMAX (R250): gA receives fmax of gB and gC. -/
  | fmax (l : Fin 256)
  /-- FMIN (R250): gA receives fmin of gB and gC. -/
  | fmin (l : Fin 256)
  /-- FLT (R250): gA receives 1 if gB is exactly below gC, else 0. -/
  | flt (l : Fin 256)
  /-- FFMA (R250): gA receives ffma of gB, gC and gA. -/
  | ffma (l : Fin 256)
  /-- FEXP (R250): gA receives exp of gB as R168 defines. -/
  | fexp (l : Fin 256)
  /-- FLN (R251): gA receives the correctly rounded natural logarithm of gB. -/
  | fln (l : Fin 256)
  /-- FRECIP (R250): gA receives recip of gB. -/
  | frecip (l : Fin 256)
  /-- ITOF (R250): gA receives the F32 value of signed gB. -/
  | itof (l : Fin 256)
  /-- FTOI (R250): gA receives rint of gB as a clamped signed integer. -/
  | ftoi (l : Fin 256)
  /-- RNG (R252): gA receives nzr of the seed, stream, step and tag block at gB and index gC. -/
  | rng (l : Fin 256)
  /-- VADD (R250): Each lane of vA receives the F32 sum of vB and vC. -/
  | vadd (l : Fin 256)
  /-- VSUB (R250): Each lane of vA receives the F32 difference of vB and vC. -/
  | vsub (l : Fin 256)
  /-- VMUL (R250): Each lane of vA receives the F32 product of vB and vC. -/
  | vmul (l : Fin 256)
  /-- VMAX (R250): Each lane of vA receives fmax of vB and vC. -/
  | vmax (l : Fin 256)
  /-- VMIN (R250): Each lane of vA receives fmin of vB and vC. -/
  | vmin (l : Fin 256)
  /-- VFMA (R250): Each lane of vA receives ffma of vB, vC and vA. -/
  | vfma (l : Fin 256)
  /-- VEXP (R250): Each lane of vA receives exp of the corresponding lane. -/
  | vexp (l : Fin 256)
  /-- VBCAST (R250): Every lane of vA receives gB. -/
  | vbcast (l : Fin 256)
  /-- VEXTR (R250): gA receives lane IMM[3:0] of vB. -/
  | vextr (l : Fin 256)
  /-- VINS (R250): Lane IMM[3:0] of vA receives gB. -/
  | vins (l : Fin 256)
  /-- VRSUM (R250): gA receives the fadd of vB's lanes in ascending order from +0. -/
  | vrsum (l : Fin 256)
  /-- VRMAX (R250): gA receives the lowest lane index holding vB's largest value. -/
  | vrmax (l : Fin 256)
  /-- LD (R250): gA is loaded from 4 bytes of data memory at gB + IMM. -/
  | ld (l : Fin 256)
  /-- ST (R250): gA is stored to 4 bytes of data memory at gB + IMM. -/
  | st (l : Fin 256)
  /-- LDB (R250): gA is loaded zero-extended from 1 byte at gB + IMM. -/
  | ldb (l : Fin 256)
  /-- STB (R250): The low byte of gA is stored at gB + IMM. -/
  | stb (l : Fin 256)
  /-- VLD (R250): vA is loaded from 64 bytes at gB + IMM. -/
  | vld (l : Fin 256)
  /-- VST (R250): vA is stored to 64 bytes at gB + IMM. -/
  | vst (l : Fin 256)
  /-- BEQ (R250): PC advances by IMM if gA equals gB. -/
  | beq (l : Fin 256)
  /-- BNE (R250): PC advances by IMM if gA differs from gB. -/
  | bne (l : Fin 256)
  /-- BLT (R250): PC advances by IMM if gA is signed below gB. -/
  | blt (l : Fin 256)
  /-- JAL (R250): gA receives PC + 1 and PC advances by IMM. -/
  | jal (l : Fin 256)
  /-- JR (R250): PC receives gB[10:0]. -/
  | jr (l : Fin 256)
  /-- SEND (R252): A lantern injects a control and data token pair in the slot IMM[3:0]. -/
  | send (l : Fin 256)
  /-- SENDC (R252): A lantern injects a lone control token. -/
  | sendc (l : Fin 256)
  /-- SENDD (R252): A lantern injects a lone data token. -/
  | sendd (l : Fin 256)
  /-- RECV (R252): A lantern takes a pair from channel IMM[3:0], stalling until one is present. -/
  | recv (l : Fin 256)
  /-- CCOUNT (R250): gA receives the number of pairs held in a channel. -/
  | ccount (l : Fin 256)
  /-- SIGNAL (R250): A lantern raises Callboard source 144 + IMM[3:0]. -/
  | signal (l : Fin 256)
  /-- HBM_REFRESH (R316): A pseudo-channel's per-bank refresh interval elapses and a refresh is issued. -/
  | hbmRefresh (pc : Fin 512)
  /-- HBM_TEMP_READ (R316): Every 1 ms the stack temperatures are read and the refresh rate set. -/
  | hbmTempRead (temps : W64) (corrections : W32)
  /-- SCRUB_READ (R319): The patrol scrub reads the next word or sector of a memory at the lowest rank. -/
  | scrubRead (mem : MemCode) (unit : Fin 512) (addr : BitVec 39) (finding : Finding)
  /-- BAR2_READ (R334): A host read through BAR2 reaches HBM or a tile store through the aperture window. -/
  | bar2Read (off : BitVec 39) (len : BitVec 13) (found : List Found)
  /-- BAR2_WRITE (R334): A host write through BAR2 reaches HBM or a tile store through the aperture window. -/
  | bar2Write (off : BitVec 39) (data : List Byte)
  /-- MEM_REFRESH_OVR (R316): A completed MEM_REFRESH_OVR pair forces a least refresh rate. -/
  | memRefreshOvr (m : Master) (v : W32) (w : W32)
  /-- MEM_WIPE (R325): An applied MEM_WIPE.GO takes the Safety Curtain, ends streams with reason PROGRAM and starts a Strike. -/
  | memWipe (m : Master) (v : W32) (w : W32)
  /-- STRIKE_COMPLETE (R324): The Strike completes, STRIKE_DONE sets, its time is recorded and source 194 raised. -/
  | strikeComplete (us : W32)
  /-- SQ_DOORBELL (R338): A write of a submission queue tail doorbell announces entries, or disables the pair if out of range. -/
  | sqDoorbell (q : Fin 64) (v : W32)
  /-- SQ_FETCH (R337): The NZ8 fetches announced submission entries in ring order and accepts each command. -/
  | sqFetch (q : Fin 64) (entry : Option (List Byte)) (buf : HostBuffer)
  /-- CQ_DOORBELL (R339): A write of a completion queue head doorbell frees completion slots. -/
  | cqDoorbell (q : Fin 64) (v : W32)
  /-- CQ_HELD_ENTRY_WRITE (R339): A held completion entry is written once its queue has a free slot. -/
  | cqHeldEntryWrite (q : Fin 64)
  /-- CQ_IRQ_TIMER (R340): QIRQ.TIME passes after an unsignalled entry and the CQ's MSI-X message is sent. -/
  | cqIrqTimer (q : Fin 64)
  /-- QUEUE_ENABLE (R336): Writing QCFG.ENABLE = 1 checks the pair's ABI, bases and sizes and activates it. -/
  | queueEnable (m : Master) (q : Fin 64) (cfg : W32)
  /-- QUEUE_DISABLE (R338): Writing QCFG.ENABLE = 0 to an active pair aborts and disables it with ERR 5. -/
  | queueDisable (m : Master) (q : Fin 64) (cfg : W32)
  /-- LOAD_PROGRAM (R216): LOAD_PROGRAM checks an image after the running step commits and, if accepted, loads and starts it. -/
  | loadProgram (c : Submission) (buf : HostBuffer)
  /-- UNLOAD_PROGRAM (R304): UNLOAD_PROGRAM ends every stream with reason PROGRAM, halts the Prompter and clears LOADED. -/
  | unloadProgram (c : Submission)
  /-- OPEN_STREAM (R344): OPEN_STREAM validates its parameter block and creates a stream at the formation that takes it. -/
  | openStream (c : Submission) (buf : HostBuffer)
  /-- APPEND (R344): APPEND adds tokens, loads drafts or sets the automaton state of a stream at the formation that takes it. -/
  | append (c : Submission) (buf : HostBuffer)
  /-- CLOSE_STREAM (R274): CLOSE_STREAM frees a stream and releases its block references at the formation that takes it. -/
  | closeStream (c : Submission)
  /-- PAUSE_STREAM (R268): PAUSE_STREAM makes a stream PAUSED, optionally requesting a spill. -/
  | pauseStream (c : Submission)
  /-- RESUME_STREAM (R268): RESUME_STREAM returns a paused stream to its saved state, returning a spilled one from the Wings first. -/
  | resumeStream (c : Submission)
  /-- FORK_STREAM (R285): FORK_STREAM creates a stream sharing every block of its source. -/
  | forkStream (c : Submission) (buf : HostBuffer)
  /-- CHECKPOINT (R343): CHECKPOINT writes an extra checkpoint at the next commit and optionally copies it to a host buffer. -/
  | checkpoint (c : Submission)
  /-- RESTORE (R345): RESTORE replays from the newest checkpoint or loads a host checkpoint and restarts the Prompter. -/
  | restore (c : Submission) (buf : HostBuffer)
  /-- RUN_JOB (R346): RUN_JOB queues a run of stream-free steps formed ahead of streams. -/
  | runJob (c : Submission)
  /-- READ_ENERGY (R351): READ_ENERGY requests an energy reading at the next commit or at once when idle. -/
  | readEnergy (c : Submission)
  /-- ABORT_QUEUE (R348): ABORT_QUEUE disables a pair, aborts its pending commands, ends the step without commit and marks its streams. -/
  | abortQueue (c : Submission)
  /-- SAFETY_CURTAIN (R349): SAFETY_CURTAIN halts the Stage, Prompter, lanterns and transfers within 5 ms. -/
  | safetyCurtain (c : Submission)
  /-- SAFETY_CURTAIN_COMPLETE (R349): The Safety Curtain completes: pending commands end with CURTAIN and CURTAIN_DOWN sets. -/
  | safetyCurtainComplete
  /-- HIF_CURTAIN (R349): A completed HIF_CURTAIN pair with GO = 1 takes the Safety Curtain. -/
  | hifCurtain (m : Master) (v : W32) (w : W32)
  /-- MAILBOX (R343): MAILBOX passes its payload to the management firmware. -/
  | mailbox (c : Submission)
  /-- MAILBOX_ANSWER (R343): Firmware answers a MAILBOX command and its completion is written. -/
  | mailboxAnswer (status : BitVec 8) (r0 : W64) (r1 : W64) (r2 : W64)
  /-- INVALID_OPCODE (R343): A reserved host command opcode completes at once with INVALID_OPCODE. -/
  | invalidOpcode (c : Submission)
  /-- SPT_ARM (R497): SPT_CTRL.ARM or SPOTLIGHT ARM applies the Spotlight fields and arms a capture. -/
  | sptArm (via : SptVia)
  /-- SPT_STOP (R497): SPT_CTRL.STOP or SPOTLIGHT STOP disarms the Spotlight. -/
  | sptStop (via : SptVia)
  /-- SPT_FORCE (R490): SPT_CTRL.FORCE or SPOTLIGHT FORCE forces a trigger at once. -/
  | sptForce (via : SptVia)
  /-- SPOTLIGHT_READ (R498): SPOTLIGHT READ copies capture buffer or ring bytes to host memory. -/
  | spotlightRead (c : Submission)
  /-- SPT_AUTO_TIMEOUT (R490): SPT_AUTO house ticks pass after arm without a trigger and one is forced. -/
  | sptAutoTimeout
  /-- SPT_ARM_FIRE (R488): An arm of the current sequencer state sees its edge and applies its counter, timer, trigger and next-state actions. -/
  | sptArmFire (arm : Bool) (tfrac : BitVec 6)
  /-- SPT_TIMER_EXPIRY (R488): A Spotlight timer reaches 0 and presents an edge. -/
  | sptTimerExpiry (n : Fin 4)
  /-- WAVE_RECORD (R492): 2^k samples complete and a WAVE record is written to the buffer and, when streaming, the ring. -/
  | waveRecord (ev : W64) (codes : BitVec 40) (sync : BitVec 4)
  /-- PERS_ACQUISITION_END (R493): A persistence acquisition's 256 columns are accumulated and the sequencer returns to S0 or the capture is DONE. -/
  | persAcquisitionEnd (codes : List (BitVec 10))
  /-- PCIE_LINK_DOWN (R332): The link goes down without PERST# and the NZ8 takes its own Safety Curtain. -/
  | pcieLinkDown
  /-- LINK_RATE_CHANGE (R329): The PCIe link rate or width changes and HIF_LINK reports it. -/
  | linkRateChange (rate : BitVec 3) (width : BitVec 5) (flit : Bool)
  /-- D3HOT_ENTRY (R331): Entry to D3hot takes the Safety Curtain. -/
  | d3hotEntry
  /-- D0_RETURN (R331): Return to D0 leaves the device in CURTAIN_DOWN with memories unchanged. -/
  | d0Return
  /-- FLR (R330): A Function Level Reset resets the NZ8 with the link up and a Strike runs. -/
  | flr
  /-- PERST_ASSERT (R549): PERST# asserted while PWRGD is high resets the device with rails on. -/
  | perstAssert
  /-- PERST_RELEASE (R530): PERST# release starts the boot sequence of Table 18-5. -/
  | perstRelease
  /-- AUTOLOAD (R530): After JOINED the boot loads the AUTOLOAD image as LOAD_PROGRAM would. -/
  | autoload
  /-- DOE_DISCOVERY (R352): A DOE Discovery request is answered. -/
  | doeDiscovery
  /-- DOE_ABORT (R352): A DOE Abort is answered and the mailbox is reset. -/
  | doeAbort
  /-- GET_VERSION (R352): An SPDM GET_VERSION request is answered. -/
  | getVersion
  /-- GET_CAPABILITIES (R352): An SPDM GET_CAPABILITIES request is answered. -/
  | getCapabilities
  /-- NEGOTIATE_ALGORITHMS (R352): An SPDM NEGOTIATE_ALGORITHMS request is answered with P-384 and SHA-384. -/
  | negotiateAlgorithms
  /-- GET_DIGESTS (R352): An SPDM GET_DIGESTS request is answered. -/
  | getDigests
  /-- GET_CERTIFICATE (R537): An SPDM GET_CERTIFICATE request returns the identity chain of slot 0. -/
  | getCertificate (slot : BitVec 4) (off : BitVec 16) (len : BitVec 16)
  /-- CHALLENGE (R536): An SPDM CHALLENGE is answered with a signature, or refused in RETURNED. -/
  | challenge (slot : BitVec 4) (nonce : BitVec 256)
  /-- GET_MEASUREMENTS (R537): An SPDM GET_MEASUREMENTS request returns the measurement indices. -/
  | getMeasurements (idx : Byte) (sign : Bool) (nonce : BitVec 256)
  /-- UNSUPPORTED_REQUEST (R352): Any other SPDM request is answered with ERROR UnsupportedRequest. -/
  | unsupportedRequest (code : Byte)
  /-- LOS (R359): Loss of signal or lock on a port's lanes is detected and an UP port leaves UP. -/
  | los (p : Fin 17) (lol : Bool)
  /-- LANE_LOCK_LOSS (R362): A lane sees 16 invalid headers in a window and loses block lock. -/
  | laneLockLoss (p : Fin 17) (l : Fin 4)
  /-- ALIGN_BLOCK (R363): An ALIGN block is received and used to order and deskew the lanes. -/
  | alignBlock (p : Fin 17) (l : Fin 4) (blk : W64)
  /-- ALIGN_DISAGREEMENT (R363): Lanes carry unequal ACNT for 64 block times and the port leaves UP. -/
  | alignDisagreement (p : Fin 17)
  /-- TRAIN_BLOCK (R365): A TRAIN block is received and the transmitter applies a new tap or precode request. -/
  | trainBlock (p : Fin 17) (l : Fin 4) (blk : W64) (samples : List Sample)
  /-- TRAIN_CLOCK_STABLE (R368): LOS and LOL stay clear for 10 µs and training moves from CLOCK to LOCK. -/
  | trainClockStable (p : Fin 17)
  /-- TRAINING_LIMIT_EXPIRY (R369): A training step's limit expires and the attempt fails. -/
  | trainingLimitExpiry (p : Fin 17)
  /-- TRAINING_RETRY (R369): 1 ms after a failed attempt the port re-enters CLOCK. -/
  | trainingRetry (p : Fin 17)
  /-- PORT_ENABLE (R370): A write of FAB_CTRLp.ENABLE enters CLOCK or holds the port disabled. -/
  | portEnable (m : Master) (p : Fin 17) (v : W32)
  /-- PORT_RETRAIN (R369): A write of FAB_CTRLp.RETRAIN enters CLOCK and leaves DEAD. -/
  | portRetrain (m : Master) (p : Fin 17) (v : W32)
  /-- HELLO (R380): A HELLO is received and the link negotiates its version and becomes UP or fails. -/
  | hello (p : Fin 17) (f : Frame)
  /-- ACKNAK (R376): An ACK releases held frames or a NAK starts a replay from its SEQ. -/
  | acknak (p : Fin 17) (f : Frame)
  /-- CREDIT (R378): A CREDIT frame returns receive-buffer credits to the transmitter. -/
  | credit (p : Fin 17) (f : Frame)
  /-- REPLAY_TIMEOUT (R376): The oldest held frame is unacknowledged for 0.6 µs and the transmitter replays from it. -/
  | replayTimeout (p : Fin 17)
  /-- DATA_FRAME (R384): A DATA frame is accepted in sequence and delivered to a receive queue or firmware, or forwarded. -/
  | dataFrame (p : Fin 17) (f : Frame)
  /-- COLLECTIVE_FRAME (R390): A COLLECTIVE frame with matching CSEQ and ERA is combined into its reduction. -/
  | collectiveFrame (p : Fin 17) (f : Frame)
  /-- JOIN (R382): The lead receives JOIN from a device index. -/
  | join (index : BitVec 13) (device : W16) (grade : Byte)
  /-- JOIN_DONE (R382): JOIN_DONE arrives, FAB_ENS.JOINED sets and source 324 is raised. -/
  | joinDone (count : W16)
  /-- LOST (R386): A LOST message for an unaliased device marks it lost. -/
  | lost (d : BitVec 13)
  /-- ALIAS (R383): An ALIAS message writes a free FAB_ALIASn. -/
  | aliasMsg (src : BitVec 13) (dst : BitVec 13)
  /-- ERA (R383): An ERA message writes FAB_ERA. -/
  | era (era : Byte)
  /-- TAKEOVER_REQ (R469): The lead receives a takeover request and grants the first per pair, denying later ones. -/
  | takeoverReq (requester : BitVec 13) (failed : BitVec 13)
  /-- TAKEOVER_GRANT (R469): The requester receives the grant for its failed twin. -/
  | takeoverGrant (failed : BitVec 13)
  /-- TAKEOVER_DENY (R470): A requester receives a denial and takes its Safety Curtain and enters FENCED. -/
  | takeoverDeny (survivor : BitVec 13)
  /-- FENCE (R470): A module receiving FENCE takes its Safety Curtain and enters FENCED. -/
  | fence
  /-- TAKEOVER_NOTE (R471): Every device aliases the failed index, changes ERA, faults with 0x41 and replays. -/
  | takeoverNote (failed : BitVec 13) (survivor : BitVec 13) (era : Byte)
  /-- SYNC (R407): A follower accepts a SYNC on its upstream port, runs the servo and sends SYNC downstream. -/
  | sync (p : Fin 17) (f : Frame) (trx : BitVec 48) (ttx : List (BitVec 48))
  /-- SYNC_SEND (R402): Every 8,192 house ticks the time lead sends SYNC on its downstream ports. -/
  | syncSend (ttx : List (BitVec 48))
  /-- SYNC_LOSS (R408): No SYNC arrives for 8 periods; LOCKED clears and SYNC_LOST sets. -/
  | syncLoss
  /-- PDELAY_REQ_SEND (R405): Every 65,536 house ticks each UP port sends a PDELAY_REQ. -/
  | pdelayReqSend (p : Fin 17) (t1 : BitVec 48)
  /-- PDELAY_REQ (R405): A received PDELAY_REQ is answered with a PDELAY_RESP. -/
  | pdelayReq (p : Fin 17) (f : Frame) (t2 : BitVec 48) (t3 : BitVec 48)
  /-- PDELAY_RESP (R405): A received PDELAY_RESP yields a link-delay measurement. -/
  | pdelayResp (p : Fin 17) (f : Frame) (t4 : BitVec 48)
  /-- PDELAY_TIMEOUT (R405): No PDELAY_RESP arrives within 10 µs and the measurement is discarded. -/
  | pdelayTimeout (p : Fin 17)
  /-- CURTAIN_ARM_FRAME (R410): Rank 0 receives ARM and, with all members armed, schedules T and sends FALL. -/
  | curtainArmFrame (p : Fin 17) (f : Frame)
  /-- CURTAIN_FALL_FRAME (R410): A member receives FALL and records the scheduled time T. -/
  | curtainFallFrame (p : Fin 17) (f : Frame)
  /-- CURTAIN_FALL (R410): At the first house tick at or after T the Curtain falls, the CURTAIN cue retires and the ramp begins. -/
  | curtainFall
  /-- HOUSE_CLOCK_WRAP (R401): HCK_TIME_NS wraps and source 336 is raised. -/
  | houseClockWrap
  /-- HEARTBEAT (R466): A HEARTBEAT is accepted from the twin, updating its state and triggering takeover on FAILING or DRAINED. -/
  | heartbeat (p : Fin 17) (f : Frame)
  /-- HEARTBEAT_SEND (R466): Every 100 µs, or on a state change, a HEARTBEAT is sent on port 16. -/
  | heartbeatSend
  /-- HEARTBEAT_TIMEOUT (R468): 300 µs pass without a twin heartbeat and takeover is requested. -/
  | heartbeatTimeout
  /-- TAKEOVER_REQ_RESEND (R468): An unanswered takeover request is resent every 1 ms. -/
  | takeoverReqResend
  /-- TAKEOVER_SELF_GRANT (R469): When the failed module is the lead, the requester grants itself 1 ms after its first request. -/
  | takeoverSelfGrant
  /-- PAIRING_WAIT_EXPIRY (R458): The pair has not armed 100 ms after the first manifest was due and the module runs unpaired. -/
  | pairingWaitExpiry
  /-- LOG_WRITE (R462): A WRITE log record is applied to the twin region. -/
  | logWrite (p : Fin 17) (f : Frame)
  /-- LOG_COMMIT (R464): A COMMIT log record for a twin step is received and acknowledged. -/
  | logCommit (p : Fin 17) (f : Frame)
  /-- LOG_DELIVERED (R464): A DELIVERED log record updates the last delivered step of the twin. -/
  | logDelivered (p : Fin 17) (f : Frame)
  /-- COMMIT_ACKNOWLEDGED (R464): The twin acknowledges COMMIT(s), the step's completions are written and DELIVERED(s) is sent. -/
  | commitAcknowledged
  /-- LOG_QUEUE_RESUME (R465): Room frees in the full log queue and stalled program-region writes proceed. -/
  | logQueueResume
  /-- USY_DRAIN (R478): A write of USY_CMD.DRAIN on an armed module enters DRAINING. -/
  | usyDrain (m : Master)
  /-- DRAIN_ACKNOWLEDGED (R478): The drain COMMIT is acknowledged and the module sends HEARTBEAT STATE DRAINED. -/
  | drainAcknowledged
  /-- USY_FAIL (R467): A write of USY_CMD.FAIL makes the module enter FAILING. -/
  | usyFail (m : Master)
  /-- DIMMER_CONTROL_PERIOD (R437): Each 1 µs control period the Dimmer forms its estimates and updates the bubble fraction. -/
  | dimmerControlPeriod (stage : W16) (other : W16)
  /-- CALIBRATION_READING (R435): Every 1 ms the Dimmer reads rail telemetry and updates the calibration gain. -/
  | calibrationReading (power : W16) (nanojoules : W64)
  /-- THERMAL_READING (R450): Every 1 ms the Dimmer reads die and HBM temperatures and sets the thermal cap. -/
  | thermalReading (die0 : Byte) (die1 : Byte)
  /-- HINT_PREARM (R448): LEAD house ticks after a HINT its demand pre-arms the bubble fraction. -/
  | hintPrearm
  /-- DIM_CAP (R432): A completed DIM_CAP pair sets the configured cap for enforcement and the next step's ledger. -/
  | dimCap (m : Master) (v : W32) (w : W32)
  /-- DIM_FIXED (R444): A write of DIM_FIXED enters or leaves fixed-frequency mode at the next scene boundary. -/
  | dimFixed (m : Master) (v : W32)
  /-- REGISTER_WRITE (R18): A write to a register with no row of its own takes effect by its access type. -/
  | registerWrite (m : Master) (off : BitVec 26) (v : W32) (be : BitVec 4)
  /-- RWC_PAIR_TIMEOUT (R510): An open complement pair gets no second write within 64 register-bus cycles and fails. -/
  | rwcPairTimeout (m : Master)
  /-- DIGEST_RING_CONFIG (R421): A write of STG_DIG_BASE or STG_DIG_SIZE resets the ring pointers and checks the ring lies in SYS. -/
  | digestRingConfig (m : Master) (off : BitVec 26) (v : W32)
  /-- CFG_USE (R514): CFG_COMMIT USE copies CFG_REFERENCE into the active reference and enters CHECKING. -/
  | cfgUse (m : Master)
  /-- CFG_CAPTURE (R514): CFG_COMMIT CAPTURE enters CAPTURING. -/
  | cfgCapture (m : Master)
  /-- CFG_OFF (R514): CFG_COMMIT OFF stops comparisons. -/
  | cfgOff (m : Master)
  /-- CFG_PASS_COMPLETE (R513): A configuration CRC pass completes and is captured or compared. -/
  | cfgPassComplete (cycles : BitVec 24)
  /-- SNP_GO (R518): A write of SNP_COMMAND.GO requests a snapshot. -/
  | snpGo (m : Master)
  /-- SNAPSHOT (R518): At the house tick after a request or period, every 64-bit counter is copied to its holding copy. -/
  | snapshot
  /-- CLB_RAISE (R519): A write of 1 to a CLB_RAISE bit is an arrival of a software source. -/
  | clbRaise (m : Master) (w : Fin 16) (v : W32)
  /-- CLB_PENDING_CLEAR (R520): A W1C write clears a source's pending bit and count. -/
  | clbPendingClear (m : Master) (w : Fin 16) (v : W32)
  /-- SEC_LC_REQ (R535): A completed SEC_LC_REQ pair carries out a lifecycle change. -/
  | secLcReq (m : Master) (v : W32) (w : W32)
  /-- SEC_SVN_BURN (R529): A completed SEC_SVN_BURN pair burns the rollback count. -/
  | secSvnBurn (m : Master) (v : W32) (w : W32)
  /-- SEC_KEY_REVOKE (R529): A completed SEC_KEY_REVOKE pair burns key revocation fuses. -/
  | secKeyRevoke (m : Master) (v : W32) (w : W32)
  /-- SEC_VOVR (R551): A completed voltage override pair moves a rail's set point. -/
  | secVovr (m : Master) (r : Fin 4) (v : W32) (w : W32)
  /-- FLASH_READ (R539): SEC_FLASH_CMD READ reads 256 flash bytes into the page buffer. -/
  | flashRead (m : Master)
  /-- FLASH_PROGRAM (R539): SEC_FLASH_CMD PROGRAM writes the page buffer to flash. -/
  | flashProgram (m : Master)
  /-- FLASH_ERASE (R539): SEC_FLASH_CMD ERASE erases 64 KiB of flash. -/
  | flashErase (m : Master)
  /-- FLASH_COMMAND_DONE (R539): A flash command completes, BUSY clears and source 427 is raised. -/
  | flashCommandDone (flashError : Bool)
  /-- MOD_EN_RISE (R546): MOD_EN rising powers up the package rails and releases PWRGD. -/
  | modEnRise
  /-- MOD_EN_FALL (R548): MOD_EN falling powers the package down within 5 ms without a Safety Curtain. -/
  | modEnFall
  /-- INPUT_FAULT (R547): Input under- or overvoltage or a regulator fault turns the rails off and latches FAULT_OFF. -/
  | inputFault
  /-- STATUS (R550): SMBus STATUS returns the module status byte. -/
  | status
  /-- VIN (R550): SMBus VIN returns the input voltage. -/
  | vin (reading : W16)
  /-- IIN (R550): SMBus IIN returns the input current. -/
  | iin (reading : W16)
  /-- PIN (R550): SMBus PIN returns the input power. -/
  | pin (reading : W16)
  /-- TEMPS (R550): SMBus TEMPS returns die, HBM and cold-plate temperatures. -/
  | temps (outlet : Byte)
  /-- ENERGY (R550): SMBus ENERGY returns the live energy count. -/
  | energy
  /-- FRU (R550): SMBus FRU returns part number, serial number, grade and stepping. -/
  | fru
  /-- CLEAR_FAULT (R550): SMBus CLEAR_FAULT with 0xA5 clears the FAULT_OFF latch. -/
  | clearFault (b : Byte)
  /-- HEADER_LOCK (R362): A lane's header hunt counts 64 consecutive valid sync headers and the lane gains block lock. -/
  | headerLock (p : Fin 17) (l : Fin 4)
  /-- PCIE_LINK_UP (R332): The PCIe link comes up again after going down without PERST#, and the held completion entries and MSI-X messages are released. -/
  | pcieLinkUp
  /-- INPUT_IN_RANGE (R545): The 48 V input enters its operating range and the module enters standby, answering SMBus within 50 ms. -/
  | inputInRange (vin : W16)
  /-- UV_WARN (R547): The input falls below 44 V but stays above 40 V, so the module keeps running and sets UV_WARN (clearing it on return). -/
  | uvWarn (vin : W16)
  /-- HCK_TIME_NS_READ (R400): A read of HCK_TIME_NS latches the top 16 fraction bits of the same tick into HCK_TIME_FRAC. -/
  | hckTimeNsRead (m : Master)
  /-- EDGE_CANCELLED (R486): A Spotlight source's level changes again within 2 ns of an edge, so the edge is cancelled, SPT_RATE_EXC adds 1, RATE is set and source 388 may be raised. -/
  | edgeCancelled (src : BitVec 9)
  /-- MSIX_VECTOR_UNMASK (R340): The host unmasks an MSI-X vector in BAR4 whose pending bit is set, and the pending message is sent. -/
  | msixVectorUnmask (v : Fin 512)
deriving DecidableEq, Repr

end Sys2Proof
end

