-- ==== Sys2Proof/Decode.lean ====
section
/-! DEFINITION. Decoding. The opcode table gives its rows no bits, so no word spells a command. The lantern instruction words
(R249, R250), which the lanterns fetch, are decoded and encoded here. -/
namespace Sys2Proof

/-- The command that a word spells by the table's bits: the table gives no row bits (notes/assumptions/20.md). -/
def decodeTableWord (_nbits _w : Nat) : Option Instr := none

/-- The operations of Table 8-3. -/
inductive LOp where
  | halt | nop | add | sub | and | or | xor | shl | shr | sra | slt | sltu | mul | addi | andi | ori | lui
  | fadd | fsub | fmul | fmax | fmin | flt | ffma | fexp | fln | frecip | itof | ftoi | rng
  | vadd | vsub | vmul | vmax | vmin | vfma | vexp | vbcast | vextr | vins | vrsum | vrmax
  | ld | st | ldb | stb | vld | vst | beq | bne | blt | jal | jr | send | sendc | sendd | recv | ccount | signal
deriving DecidableEq, Repr

/-- The OP field of each operation (Table 8-3). -/
def LOp.code : LOp → BitVec 8
  | .halt => 0x00 | .nop => 0x01
  | .add => 0x10 | .sub => 0x11 | .and => 0x12 | .or => 0x13 | .xor => 0x14 | .shl => 0x15 | .shr => 0x16 | .sra => 0x17
  | .slt => 0x18 | .sltu => 0x19 | .mul => 0x1A | .addi => 0x1B | .andi => 0x1C | .ori => 0x1D | .lui => 0x1E
  | .fadd => 0x20 | .fsub => 0x21 | .fmul => 0x22 | .fmax => 0x23 | .fmin => 0x24 | .flt => 0x25 | .ffma => 0x26
  | .fexp => 0x27 | .fln => 0x28 | .frecip => 0x29 | .itof => 0x2A | .ftoi => 0x2B | .rng => 0x2C
  | .vadd => 0x30 | .vsub => 0x31 | .vmul => 0x32 | .vmax => 0x33 | .vmin => 0x34 | .vfma => 0x35 | .vexp => 0x36
  | .vbcast => 0x37 | .vextr => 0x38 | .vins => 0x39 | .vrsum => 0x3A | .vrmax => 0x3B
  | .ld => 0x40 | .st => 0x41 | .ldb => 0x42 | .stb => 0x43 | .vld => 0x44 | .vst => 0x45
  | .beq => 0x50 | .bne => 0x51 | .blt => 0x52 | .jal => 0x53 | .jr => 0x54
  | .send => 0x60 | .sendc => 0x61 | .sendd => 0x62 | .recv => 0x63 | .ccount => 0x64 | .signal => 0x65

/-- Every operation. -/
def LOp.all : List LOp :=
  [.halt, .nop, .add, .sub, .and, .or, .xor, .shl, .shr, .sra, .slt, .sltu, .mul, .addi, .andi, .ori, .lui,
   .fadd, .fsub, .fmul, .fmax, .fmin, .flt, .ffma, .fexp, .fln, .frecip, .itof, .ftoi, .rng,
   .vadd, .vsub, .vmul, .vmax, .vmin, .vfma, .vexp, .vbcast, .vextr, .vins, .vrsum, .vrmax,
   .ld, .st, .ldb, .stb, .vld, .vst, .beq, .bne, .blt, .jal, .jr, .send, .sendc, .sendd, .recv, .ccount, .signal]

/-- The operation of an OP field; a code that is not listed is reserved (R250). -/
def LOp.decode (c : BitVec 8) : Option LOp := LOp.all.find? (fun o => o.code == c)

/-- A lantern instruction (R249): OP, A, B, C and IMM; LUI uses IMM:C:B as its IMM20. -/
structure LInst where
  op : LOp
  a : BitVec 4
  b : BitVec 4
  c : BitVec 4
  imm : BitVec 12
deriving DecidableEq, Repr

/-- IMM20 of LUI (R249). -/
def LInst.imm20 (i : LInst) : BitVec 20 := i.imm ++ i.c ++ i.b

/-- Decode an instruction word (R249). -/
def decodeLantern (w : W32) : Option LInst :=
  (LOp.decode (w.setWidth 8)).map (fun o =>
    { op := o, a := w.extractLsb' 8 4, b := w.extractLsb' 12 4, c := w.extractLsb' 16 4, imm := w.extractLsb' 20 12 })

/-- Encode an instruction (R249). -/
def encodeLantern (i : LInst) : W32 := i.imm ++ i.c ++ i.b ++ i.a ++ i.op.code

end Sys2Proof
end

