-- ==== Sys2Proof/Machine/Tab.lean ====
section
/-! DEFINITION. Sparse tables of plain data: a list of (key, value) pairs in one canonical form. Keys rise strictly and no
entry equals what an unlisted key reads as, so equal tables are equal data. Memories and register files are such tables. -/
namespace Sys2Proof.Machine

/-- A sparse table. -/
abbrev Tab (α : Type) := List (Nat × α)

/-- What key `k` holds; `dflt` is what unlisted keys read as. -/
def tabGet {α : Type} (dflt : Nat → α) : Tab α → Nat → α
  | [], k => dflt k
  | (j, v) :: t, k => if j = k then v else tabGet dflt t k

/-- A table with key `k` taken out. -/
def tabDel {α : Type} : Tab α → Nat → Tab α
  | [], _ => []
  | (j, v) :: t, k => if j = k then tabDel t k else (j, v) :: tabDel t k

/-- A table with key `k` listed as `v`. -/
def tabIns {α : Type} : Tab α → Nat → α → Tab α
  | [], k, v => [(k, v)]
  | (j, u) :: t, k, v => if j = k then (k, v) :: t else if k < j then (k, v) :: (j, u) :: t else (j, u) :: tabIns t k v

/-- Write `v` at key `k`: writing what an unlisted key reads as takes the entry out. -/
def tabSet {α : Type} [DecidableEq α] (dflt : Nat → α) (t : Tab α) (k : Nat) (v : α) : Tab α :=
  if v = dflt k then tabDel t k else tabIns t k v

/-- The keys rise strictly and lie above `lo`. -/
def tabRising {α : Type} : Option Nat → Tab α → Bool
  | _, [] => true
  | none, (k, _) :: t => tabRising (some k) t
  | some j, (k, _) :: t => decide (j < k) && tabRising (some k) t

/-- The canonical form. -/
def tabWf {α : Type} [DecidableEq α] (dflt : Nat → α) (t : Tab α) : Bool :=
  tabRising none t && t.all (fun e => decide (e.2 ≠ dflt e.1))

/-- The entries whose key lies in [lo, hi) taken out. -/
def tabClear {α : Type} (t : Tab α) (lo hi : Nat) : Tab α := t.filter (fun e => !(decide (lo ≤ e.1) && decide (e.1 < hi)))

/-- Every entry changed by `f`, in canonical form where `f` keeps what an unlisted key reads as. -/
def tabMap {α : Type} [DecidableEq α] (dflt : Nat → α) (f : α → α) (t : Tab α) : Tab α :=
  (t.map (fun e => (e.1, f e.2))).filter (fun e => decide (e.2 ≠ dflt e.1))

/-- The keys listed. -/
def tabKeys {α : Type} (t : Tab α) : List Nat := t.map Prod.fst

/-- A memory of bytes. -/
abbrev Memory := Tab Byte

/-- What a byte of memory that nothing has written reads as: 0 (notes/assumptions/4.md). -/
def memDflt (_ : Nat) : Byte := 0

/-- One byte. -/
def memByte (m : Memory) (a : Nat) : Byte := tabGet memDflt m a
/-- Write one byte. -/
def memPut (m : Memory) (a : Nat) (b : Byte) : Memory := tabSet memDflt m a b
/-- The `n` bytes at `a`. -/
def memBytes (m : Memory) (a : Nat) : Nat → List Byte
  | 0 => []
  | n + 1 => memByte m a :: memBytes m (a + 1) n
/-- Write bytes at `a` and on. -/
def memPuts (m : Memory) (a : Nat) : List Byte → Memory
  | [] => m
  | b :: bs => memPuts (memPut m a b) (a + 1) bs
/-- The canonical form of a memory. -/
def Memory.wf (m : Memory) : Bool := tabWf memDflt m

end Sys2Proof.Machine
end

