-- ==== Sys2Proof/Machine/State.lean ====
section
/-! DEFINITION. The state of the NZ8: every register, memory, queue, counter, mode and pin the manual gives it, as plain
data, and the queue of waiting commands. -/
namespace Sys2Proof.Machine

/-! ### What cannot change, and what stays through a reset -/

/-- Grade, stepping and lit map (R5, R46): fused, never changed. `grade` 0 is the NZ8-M700 and 1 the NZ8-M650. -/
structure Ident where
  grade : BitVec 4
  stepping : Byte
  litMap : List W32
deriving DecidableEq, Repr

/-- The lifecycle states (Table 18-6). -/
inductive Lifecycle where
  | blank | provisioned | field | returned
deriving DecidableEq, Repr

/-- The security fuses (R529, R534, R535), the identity key and the part data of R550. -/
structure Fuses where
  lc : Lifecycle
  keyHash : List (List Byte)
  revoked : BitVec 4
  rollback : Nat
  idPub : List Byte
  idAlive : Bool
  partNumber : List Byte
  serial : List Byte
deriving DecidableEq, Repr

/-! ### The Prompter -/

/-- A ledger entry (R152): its draw, for a GRID cue what R238 asks of it (1 + region of a START, 17 for a CHANGEOVER), and whether it
belongs to a RED or a SYNC BARRIER (R449). -/
structure Owed where
  draw : Nat
  grid : Nat
  coll : Bool
deriving DecidableEq, Repr

/-- A token counter and its ledger list, oldest entry first (R150, R152, R153). -/
structure Counter where
  count : Nat
  err : Bool
  bounds : Bool
  ledger : List Owed
deriving DecidableEq, Repr

/-- A loop level (R190): iteration index, count, stride, first and last cue of its body. -/
structure LoopLevel where
  index : Nat
  count : Nat
  stride : Nat
  first : Nat
  last : Nat
deriving DecidableEq, Repr

/-- A stalled WAIT (R156): its counter and the tokens it waits for. -/
structure WaitCue where
  ctr : Nat
  count : Nat
deriving DecidableEq, Repr

/-- STG_PSTATUS.STATE (R199). -/
inductive PrompterState where
  | halted | init | step | curtain
deriving DecidableEq, Repr

/-- A cue as checked (R142): its 128 bits, its descriptor bytes as read at the check, the cue index and STG_STEP_SEQ. -/
structure Cue where
  word : Nat
  desc : List Byte
  pc : Nat
  seq : Nat
deriving DecidableEq, Repr

/-- A digest entry not yet written (R188): waiting for its scene, or ready with its 64-bit value. -/
structure DigestEntry where
  value : Option W64
  seq : Nat
  pc : Nat
  phase : Nat
  rows : Nat
  kind : Nat
  n : Nat
deriving DecidableEq, Repr

/-- The Prompter (R143, R150, R156, R190, R199). `due121`: the TC121 token of a step without emit rows, posted in the core cycle in
which the next cue is checked and counted after it (R151, R275). `adaptOff`: this step began with adaptation off (R123). -/
structure Prompter where
  run : PrompterState
  pc : BitVec 18
  wait : Option WaitCue
  counters : Tab Counter
  loops : List LoopLevel
  stageQueue : List Cue
  budget : Nat
  peak : Nat
  manifestRead : Bool
  curtainGroup : Nat
  digests : List DigestEntry
  xferCount : Tab Nat
  collCount : Tab Nat
  curtainCount : Tab Nat
  relaxedStep : Bool
  ndStep : Bool
  due121 : Bool
  adaptOff : Bool
deriving DecidableEq, Repr

/-! ### The Stage -/

/-- Dark, ramping or lit (R66, R67). -/
inductive StagePower where
  | dark | rampUp | lit | rampDown
deriving DecidableEq, Repr

/-- A Stage cue in progress: the cue, its row count, and a fault 0x03 detected in its first core cycle (R558): the tile, and
whether others detected it too. `cut` is set when an asynchronous fault suppresses its writes (R195). -/
structure Running where
  cue : Cue
  rows : Nat
  early : Option (Nat × Bool)
  cut : Bool
deriving DecidableEq, Repr

/-- The Stage. `wake`: a ramp-up waits for the ramp-down to end (R66). -/
structure Stage where
  power : StagePower
  wake : Bool
  running : Option Running
deriving DecidableEq, Repr

/-- A calibration slot (R119 to R126): headroom and run, events, the last committed counts, and the counts of this step,
which its commit applies (R119), with the counts of the last reduction over the devices that share it (R120). -/
structure Slot where
  h : Nat
  run : Nat
  events : Nat
  clip : Nat
  count : Nat
  maxabs : W32
  curClip : Nat
  curCount : Nat
  curMax : W32
  curInvalid : Nat
  curOver : Nat
  reduced : Option (Nat × Nat × W32)
deriving DecidableEq, Repr

/-! ### Transfers and collectives -/

/-- A MOVE in flight (R174): cue and rows; `index` is its number among the transfers to one peer queue or of one receive queue
(R387); `got` the bytes a RECEIVE has written; `err` an uncorrectable error met (Table 10-5). -/
structure Transfer where
  cue : Cue
  rows : Nat
  index : Nat
  got : Nat
  err : Bool
deriving DecidableEq, Repr

/-- A RED or BARRIER outstanding (R176, R184): cue, rows, its collective sequence number, whether it combines in order of
arrival (R391), and the pieces that have arrived, in order: (rank, byte offset, bytes). -/
structure Collective where
  ctr : Nat
  cue : Cue
  rows : Nat
  group : Nat
  cseq : Nat
  relaxed : Bool
  pieces : List (Nat × Nat × List Byte)
  err : Bool
deriving DecidableEq, Repr

/-! ### The Lantern Grid -/

/-- A lantern (R245): its registers, PC, whether it runs, its program's section as instruction indices [lo, hi), and whether its run ended
badly: by a fault (R248), a reply with status 0x03 (R236) or an uncorrectable error (Table 10-5). v registers are keyed 16 × register +
lane. `owed` are the requests it has sent and not had answered (R236). -/
structure Lantern where
  g : Tab W32
  v : Tab W32
  pc : BitVec 11
  running : Bool
  lo : Nat
  hi : Nat
  bad : Bool
  owed : Nat
deriving DecidableEq, Repr

/-- A token of one plane (R220, R226): the steering unit it reaches and the grid cycle in which it arrives, its word, and the
stamps EPOCH, SRC, SSLOT. -/
structure GridToken where
  due : Nat
  unit : Nat
  ctl : Bool
  word : Nat
  epoch : Nat
  src : Nat
  sslot : Nat
deriving DecidableEq, Repr

/-- A word on its way through the crosspoints of one plane (R222): it is on input `p` of crosspoint `x` in grid cycle `since`, with its
word and stamps as in GridToken. -/
structure GridWord where
  x : Nat
  p : Nat
  since : Nat
  ctl : Bool
  word : Nat
  epoch : Nat
  src : Nat
  sslot : Nat
deriving DecidableEq, Repr

/-- A request accepted by an edge unit (Table 7-7); `status` is 0 or the error status of R234; `data` is the write data
collected. -/
structure EdgeReq where
  src : Nat
  op : Nat
  words : Nat
  rto : Nat
  rslot : Nat
  rchan : Nat
  tile : Nat
  addr : Nat
  status : Nat
  data : List Byte
deriving DecidableEq, Repr

/-- An edge unit (R232, R233): pairs delivered and not yet taken, accepted requests in order, and the first grid cycle free
for its next reply. -/
structure EdgeUnit where
  inbox : List (Nat × Nat)
  reqs : List EdgeReq
  nextInj : Nat
deriving DecidableEq, Repr

/-- A GRID START in progress (R236): region, counter, and whether it is a standard program that has done its work. -/
structure GridRun where
  region : Nat
  ctr : Nat
  std : Bool
  bad : Bool
deriving DecidableEq, Repr

/-- A changeover in progress (R239): CONFIG, its counter, grid cycle t, the records read, and the grid cycle in which its barrier was
reached. -/
structure Changeover where
  config : Nat
  ctr : Nat
  start : Nat
  records : Tab Byte
  barrier : Option Nat
deriving DecidableEq, Repr

/-- An image Grid program (R253): code and section. -/
structure GridProg where
  code : Nat
  lo : Nat
  hi : Nat
deriving DecidableEq, Repr

/-- The Lantern Grid. `records` are the route records in force, byte b of lantern L at 80L + b (R223). Receive channels are
keyed 16 × lantern + channel, oldest pair first, as (control token, data word). `words` are the words injected that may still travel;
`flight` are the arrivals they lead to by the routes in force. -/
structure Grid where
  lanterns : Tab Lantern
  channels : Tab (List (Nat × Nat))
  steer : Tab (List GridToken)
  edges : Tab EdgeUnit
  words : List GridWord
  flight : List GridToken
  cycle : Nat
  records : Tab Byte
  change : Option Changeover
  runs : List GridRun
  progs : List GridProg
deriving DecidableEq, Repr

/-! ### The Cast Table -/

/-- Stream states (Table 9-3). -/
inductive StreamState where
  | free | prefill | decode | verify | paused | spilled | done | aborted | failed
deriving DecidableEq, Repr

/-- A stream entry (Table 9-1). -/
structure Entry where
  state : StreamState
  cls : Nat
  lp : Bool
  ndraft : Nat
  saved : StreamState
  job : Nat
  cq : Nat
  reason : Nat
  waited : Nat
  len : Nat
  pos : Nat
  gen : Nat
  maxGen : Nat
  rng : Nat
  astate : Nat
  seed : W64
  auto : Nat
  stops : Nat
  temp : W32
  topp : W32
  minp : W32
  rpen : W32
  topk : Nat
  pwin : Nat
  rhead : Nat
  endTok : Nat
  endEn : Bool
  pauseSeq : Nat
  stage : Nat
  drafts : List Nat
  recent : List Nat
deriving DecidableEq, Repr

/-- A token entry for a completion queue: the queue and its 32 bytes (Table 9-10, phase not yet set). -/
structure TokenEntry where
  q : Nat
  stream : Nat
  data : List Byte
deriving DecidableEq, Repr

/-- An accepted command (R343): the submission entry and the buffers read for it. -/
structure Command where
  sub : Submission
  buf : HostBuffer
deriving DecidableEq, Repr

/-- A job being formed or waiting (R346): its command, steps left to form and to commit, and its first SEQ. -/
structure Job where
  cmd : Submission
  toForm : Nat
  toCommit : Nat
  first : Nat
deriving DecidableEq, Repr

/-- What a record of the undo journal holds (R301): old bytes at an offset of the region, or an old frame-map bit. -/
inductive Undo where
  | bytes (off : Nat) (old : List Byte)
  | frame (f : Nat) (used : Bool)
deriving DecidableEq, Repr

/-- What a formation takes into account besides its manifest's rows (R301): the effect of a stream command, the end of a stream by
a replay or an abort (R303, R348, R298), a spill, a return (R296, R297). -/
inductive CastEffect where
  | command (c : Command)
  | ended (s : Nat) (state : StreamState) (reason : Nat)
  | spilled (s : Nat)
  | returned (s : Nat)
deriving DecidableEq, Repr

/-- A formed manifest with the effects taken since the last (R301); `job` where it belongs to a RUN_JOB, `first`
where it is that job's first; the blocks that the effects and the formation allocated, in order, the runnable streams left out, and
the draft proposals taken. -/
structure LogEntry where
  seq : Nat
  effects : List CastEffect
  job : Option Submission
  first : Bool
  blocks : List Nat
  left : List Nat
  drafts : List (Nat × List Nat)
deriving DecidableEq, Repr

/-- A checkpoint (Table 9-12). -/
structure Checkpoint where
  seq : Nat
  entries : Tab Entry
  held : List TokenEntry
  stepSeq : Nat
  optStep : Nat
  seeds : List W64
  slots : Tab (Nat × Nat)
  frames : List Nat
deriving DecidableEq, Repr

/-- The Cast Table descriptor (Table 9-4). -/
structure Geometry where
  blockBytes : Nat
  blocks : Nat
  pageBytes : Nat
  kvHeads : Nat
  pages : Nat
  maxBlocks : Nat
  poolOff : Nat
  ptOff : Nat
  refOff : Nat
  manOff : Nat
  ckptOff : Nat
deriving DecidableEq, Repr

/-- What formations did ahead of the commit of the running step, which the commit applies (R275): effects taken, blocks allocated,
proposals taken, and the manifest formed, if any: its log entry, and whether the log holds it already (a replay's). `working` stands
only inside a formation, while it works on the state that the commit will leave, with `deliver` the entries that the commit will
deliver. -/
structure Ahead where
  working : Bool
  deliver : List TokenEntry
  effects : List CastEffect
  blocks : List Nat
  drafts : List (Nat × List Nat)
  manifest : Option LogEntry
  logged : Bool
deriving DecidableEq, Repr

/-- What a formation done again allocates and takes, as it did the first time: blocks in order, draft proposals (R302). -/
structure Given where
  blocks : List Nat
  drafts : List (Nat × List Nat)
deriving DecidableEq, Repr

/-- A checkpoint being written (R300): its serial number, the commands that asked for it, and what it makes unneeded: journal records,
deferred releases, effects and allocations since the last manifest. -/
structure CheckpointDue where
  serial : Nat
  cmds : List Submission
  journal : Nat
  deferred : List Nat
  effects : Nat
  blocks : Nat
deriving DecidableEq, Repr

/-- A replay in progress (R302): the manifests of the log still to run, the RESTORE commands that wait for its end, the
streams that then end with reason REPLAY (R303), and the SEQ restored. -/
structure Replay where
  rest : List LogEntry
  cmds : List Submission
  fail : List Nat
  seq : Nat
deriving DecidableEq, Repr

/-- The Cast Table. `marked` are the streams that ABORT_QUEUE marked and `markers` the pairs it named (R348), until they have
ended; `formed` are the SEQs of manifests formed and not committed, oldest first; `results` the result records
of the running step, `received` the emit rows whose record has come; `view` the entries as of the last formation; `redo` the
effects of a discarded manifest, to take again at the next formation (R275); `allocated` the blocks and `drafted` the proposals taken
since the last manifest was formed, and `given` those of a formation done again, inside it; `hurt` an error
met by a write of the action in progress (Table 10-5); `committed` the steps that have committed outside a replay; `formedAny` whether a manifest has been
formed since the program was loaded (R457); `resuming`
the RESTORE commands with FROM_HOST that wait for formation to resume (R345); `capHold` while a replay is withheld (R208). The undo journal,
the manifests with their effects and the checkpoints lie in HBM (R559). -/
structure Cast where
  entries : Tab Entry
  opener : Tab Nat
  marked : List Nat
  markers : List Nat
  geom : Option Geometry
  view : Tab Entry
  results : Memory
  received : List Nat
  tc121 : Bool
  proposals : Memory
  deferred : List Nat
  formed : List Nat
  nextSeq : Nat
  ckptDue : Option CheckpointDue
  ckptReq : List Submission
  sinceCkpt : Nat
  ahead : Option Ahead
  frames : List Nat
  spill : Option Nat
  spillReq : List Nat
  returns : List Nat
  replay : Option Replay
  faultRuns : Nat × Nat
  jobs : List Job
  redo : List CastEffect
  allocated : List Nat
  drafted : List (Nat × List Nat)
  given : Option Given
  hurt : Bool
  committed : Nat
  formedAny : Bool
  resuming : List Submission
  capHold : Bool
deriving DecidableEq, Repr

/-! ### The host interface -/

/-- A queue pair (R336 to R340): pointers, phase, entries written and not signalled, and entries held for room. -/
structure Pair where
  active : Bool
  err : Nat
  sqHead : Nat
  sqTail : Nat
  cqHead : Nat
  cqTail : Nat
  phase : Bool
  unsignalled : Nat
  held : List (List Byte)
deriving DecidableEq, Repr

/-- The host interface: pairs, accepted commands not in effect in acceptance order (R343), mailbox commands that await an
answer, RESTORE commands that R208 withholds, energy readings that wait (R351) and the jobs of the steps since the last one, PCIe, MSI-X
(its table words keyed 4 × vector + word, the vector control apart), what AER has logged, the SAFETY_CURTAIN
commands of the action in progress (R349), and the measurement of the loaded program (R216). -/
structure Hif where
  pairs : Tab Pair
  cmds : List Command
  mailbox : List Submission
  restores : List Command
  energy : List Submission
  jobSet : List Nat
  linkUp : Bool
  d3 : Bool
  bar2Size : Nat
  msixEnable : Bool
  functionMask : Bool
  msixTable : Tab W32
  msixMasked : Tab Bool
  msixPending : List Nat
  heldMsix : List Nat
  aerCorrectable : Bool
  aerUncorrectable : Bool
  curtainCmds : List Submission
  programHash : List Byte
deriving DecidableEq, Repr

/-! ### The memories -/

/-- The memories (Table 10-1, 10.2); a tile-store byte is keyed by tile × 2^24 + TA, a lantern byte by lantern × 2^13 or
2^16 + address. `host` is host memory as the device's own writes left it. `errors` are the words and sectors that hold an
uncorrectable error (R321), `repair` the corrected reads of HBM rows (R320), `copyCue`, `copyLins` and `copyData` the load
copy (R309); `progSize` and `twinSize` are HBM_SIZE and TWIN_SIZE of the loaded image (R311). -/
structure Mems where
  tile : Memory
  cue : Memory
  lins : Memory
  ldata : Memory
  capt : Memory
  hbm : Memory
  host : Memory
  errors : List (MemCode × Nat)
  repair : Tab Nat
  copyCue : Memory
  copyLins : Memory
  copyData : Memory
  progSize : Nat
  twinSize : Nat
deriving DecidableEq, Repr

/-- What the device sends outward; the CRC of a frame stands in its END block (Table 12-5). -/
inductive Out where
  | msix (vector : Nat)
  | completion (data : List Byte)
  | unsupported
  | completerAbort
  | aer (correctable : Bool)
  | smbus (data : List Byte)
  | doe (data : List Byte)
  | frame (port : Nat) (start hdr : W64) (payload : List Byte) (crc : W32)
  | block (port lane : Nat) (w : W64)
  | syncPins (pins : Nat)
deriving DecidableEq, Repr

/-- An RWB write that waits for its block's boundary (R506): the bits written and their values. -/
structure Buffered where
  mask : W32
  value : W32
deriving DecidableEq, Repr

/-! ### The fabric -/

/-- A frame to send (Table 12-5): `b6` is header byte 6; `origin` is the port in whose buffer a forwarded frame stands until it is
sent (R378). -/
structure TxFrame where
  ftype : Nat
  dst : Nat
  src : Nat
  ens : Nat
  b6 : Nat
  era : Nat
  hop : Nat
  payload : List Byte
  origin : Option Nat
deriving DecidableEq, Repr

/-- The steps of a lane's adaptation (R367): waiting for precoding, waiting for the answer to request `idx` (tap and direction
in the order POST, PRE, MAIN, INC before DEC) or to its reversal, finished. -/
inductive EqStep where
  | precode | request (idx : Nat) (rev : Bool) | done | failed
deriving DecidableEq, Repr

/-- A lane of a port: the peer's bits (Table 12-3), its place (R363), the adaptation of its receiver (R367), the request
outstanding, and what its transmitter last applied and answered (R365). -/
structure Lane where
  peerLocked : Bool
  peerDone : Bool
  place : Option Nat
  acnt : Nat
  eq : EqStep
  best : Nat
  count : Nat
  better : Bool
  rid : Nat
  sid : Nat
  rsp : Nat
deriving DecidableEq, Repr

/-- A fabric port: consecutive failed attempts and the wait after one (R369), whether boot has released it (R530), its lanes,
the sequenced sender (held frames with their SEQ, frames waiting, credits, replays without progress: R375 to R378), the
sequenced receiver (E, frames that wait in the port buffer, credits to return once the port is UP), whether its sequence state is
new (Table 12-8), the link-delay measurement (R405) and SYNC count (R404), the SEQ of a replay and the time until which the line
carries it (R376), and the ACNT of the next ALIGN block sent (R363). -/
structure Port where
  fails : Nat
  retry : Bool
  released : Bool
  lanes : List Lane
  fresh : Bool
  txSeq : Nat
  held : List (Nat × TxFrame)
  txq : List TxFrame
  credits : Nat
  replays : Nat
  expect : Nat
  buffer : List Frame
  pdSeq : Nat
  pdReq : Option (Nat × Nat)
  delays : List Nat
  syncSeq : Nat
  owed : Nat
  replaying : Option (Nat × Nat)
  txAcnt : Nat
deriving DecidableEq, Repr

/-- The fabric: ports, frames that have no port (R385), and what firmware holds of the ensemble: indices that have joined
(R382), devices lost (R386) and of those the ones lost behind their alias, failed modules whose takeover the lead has granted (R469). -/
structure Fab where
  ports : Tab Port
  waiting : List TxFrame
  joins : List Nat
  lost : List Nat
  cut : List Nat
  granted : List Nat
deriving DecidableEq, Repr

/-! ### Time -/

/-- A SYNC CURTAIN in progress (R410): its group, its count, whether it stands in the init section, the ranks that have armed, T
once scheduled, and whether T had passed when it came (R412). -/
structure CurtainWait where
  group : Nat
  ccnt : Nat
  init : Bool
  arms : List Nat
  fall : Option Nat
  late : Bool
deriving DecidableEq, Repr

/-- The House Clock: its 56-bit time (R399), the servo's integral term and the step it has ordered (R407), good SYNCs in a row
(R408), and the Curtain. -/
structure Hck where
  time : BitVec 56
  integ : Int
  step : Option Int
  good : Nat
  curtain : Option CurtainWait
deriving DecidableEq, Repr

/-! ### The Dimmer -/

/-- The Dimmer: the cap in force (R433), the bubble accumulator (R438), calibration counts (R435) and the estimates of this millisecond, the
current phase, its largest U and whether a WAIT that counts for its slack has stalled in it (R446, R449), the HINT in force and the pre-arms that
wait, oldest first, each as the house ticks until it falls due and its DEMAND (R448), counts
of periods at BMAX and at 0 (R443), a Flicker burst (R441), a DIM_FIXED applied and not yet in force (R444), the first cue
after a Curtain (R410), critical readings in a row (R451), and the remainder of the energy count in nJ (R453). -/
structure Dim where
  cap : Nat
  acc : Nat
  dis : Nat
  agree : Nat
  estSum : Nat
  estCount : Nat
  phase : Nat
  peak : Option Nat
  stalled : Bool
  hint : Option Nat
  prearm : List (Nat × Nat)
  atMax : Nat
  atZero : Nat
  burst : Bool
  fixedNext : Option Bool
  afterCurtain : Bool
  critical : Nat
  remainder : Nat
deriving DecidableEq, Repr

/-! ### The Understudy -/

/-- What each of the two contexts has of its own (R475); of a slot its h and RUN. -/
structure Context where
  cast : Cast
  xferCount : Tab Nat
  collCount : Tab Nat
  curtainCount : Tab Nat
  slots : Tab (Nat × Nat)
  regs : List W32
deriving DecidableEq, Repr

/-- A commit whose completion entries wait for its acknowledgement (R464): whether its COMMIT record has been sent, and whether port 16
discarded that record unacknowledged (R377). -/
structure CommitWait where
  seq : Nat
  entries : List TokenEntry
  sent : Bool
  ckpt : Bool
  lost : Bool
deriving DecidableEq, Repr

/-- The Understudy: heartbeats sent, a load accepted and the pairing tried since (R457), log payloads queued on a full or
unready port 16 (R465), commits that await their acknowledgement with the entries they release (R464), the failed module a
takeover is requested for (R468), addresses of uncorrectable errors in this checkpoint interval (R467), a drain waiting
(R478), the context that is not running (R475), and the step after the last DELIVERED record of the twin (R463, R472). -/
structure Usy where
  hbCount : Nat
  loaded : Bool
  tried : Bool
  waited : Bool
  peerState : Nat
  logq : List (List Byte)
  commits : List CommitWait
  request : Option Nat
  errors : List Nat
  restored : Bool
  draining : Option Nat
  twin : Option Context
  suppress : Nat
deriving DecidableEq, Repr

/-! ### The Spotlight -/

/-- The pulse lines (R484): those on which an event came in this house tick or in one of the last two, each with the ticks since, and those
on which one came since the last WAVE record (R492). -/
structure Lines where
  recent : List (Nat × Nat)
  seen : List Nat
deriving DecidableEq, Repr

/-- The Spotlight: records written since arm, records still to write after the trigger, acquisitions done (R492, R493), a
trigger in the record being formed and whether it was forced, timers that run (R488), the commands that await a trigger, and
the counters that present an edge in the next sample (R488). -/
structure Spt where
  recs : Nat
  post : Nat
  acqs : Nat
  trig : Bool
  forced : Bool
  overflow : Bool
  cut : Bool
  timers : Tab Nat
  edges : List Nat
  waits : List Submission
deriving DecidableEq, Repr

/-! ### Boot, lifecycle and the board -/

/-- Where boot stands (R530): held in reset, waiting to join, waiting to load AUTOLOAD, done, or RECOVERY. -/
inductive BootStage where
  | held | join | autoload | done | recovery
deriving DecidableEq, Repr

/-- Boot: its stage, the AUTOLOAD image read and verified, the measurements 1 to 4 of Table 18-7, and the key slot of the
running image. -/
structure Boot where
  stage : BootStage
  autoload : List Byte
  measures : List (List Byte)
  key : Nat
deriving DecidableEq, Repr

/-- A lifecycle change under way (R535): the state asked for, and whether its fuses are burned. -/
structure LcChange where
  target : Nat
  burned : Bool
deriving DecidableEq, Repr

/-- Why a Strike runs (R323): MEM_WIPE or a lifecycle change. -/
inductive StrikeFor where
  | wipe | lifecycle
deriving DecidableEq, Repr

/-- The operations of SEC_FLASH_CMD (R539). -/
inductive FlashOp where
  | read | program | erase
deriving DecidableEq, Repr

/-- A flash command in progress: its operation, address and the page to program (R539). -/
structure FlashCommand where
  op : FlashOp
  addr : Nat
  data : List Byte
deriving DecidableEq, Repr

/-- Power of the package (R545 to R548). -/
inductive Power where
  | off | standby | on
deriving DecidableEq, Repr

/-- The board-management controller (R545 to R550): power, MOD_EN, its latches and warnings, and PERST#. -/
structure Board where
  power : Power
  modEn : Bool
  faultOff : Bool
  uvWarn : Bool
  perst : Bool
deriving DecidableEq, Repr

/-! ### The package and the machine -/

/-- The package: everything a reset returns to its reset value. `regs` holds the applied value of every BAR0 register the
software reads as stored, `pend` the RWB writes that wait (R506), `wide` and `hold` the 64-bit counters and their holding
copies (R517), `arrivals` the Callboard counts (R519), `pairs` the open complement pairs by master (R509), `slots` the calibration slots, `free` how many free
words have been taken (notes/assumptions/9.md). -/
structure Dev where
  regs : Tab W32
  pend : Tab Buffered
  wide : Tab W64
  hold : Tab W64
  arrivals : Tab Nat
  pairs : List (Master × Nat × W32)
  asleep : BitVec 4
  snapTicks : Nat
  prompter : Prompter
  stage : Stage
  slots : Tab Slot
  xfers : Tab (List Transfer)
  colls : List Collective
  grid : Grid
  cast : Cast
  hif : Hif
  mems : Mems
  fab : Fab
  hck : Hck
  dim : Dim
  usy : Usy
  spt : Spt
  lines : Lines
  boot : Boot
  lc : Option LcChange
  strike : Option StrikeFor
  flashOp : Option FlashCommand
  outbox : List Out
  free : Nat
deriving DecidableEq, Repr

/-- The machine: the commands that wait, first in first out; what a reset does not change; the package. -/
structure State where
  pending : List Instr
  ident : Ident
  fuses : Fuses
  flash : Tab Byte
  board : Board
  dev : Dev
deriving DecidableEq, Repr

/-! ### How a command ends without a next state -/

/-- Faults: there is none. The manual gives every command of the table an effect. -/
inductive Fault where
deriving DecidableEq, Repr

/-- Refusals. -/
inductive Refusal where
  /-- A command without a meaning here: raised by `exec` alone. Safe: the machine stops. -/
  | notModelled (mnemonic : String)
deriving DecidableEq, Repr

/-! ### Reset -/

/-- The Prompter after reset: halted, PC 0, every counter 0 (Table 5-24). -/
def Prompter.reset : Prompter :=
  { run := .halted, pc := 0, wait := none, counters := [], loops := [], stageQueue := [], budget := 100, peak := 0
    manifestRead := false, curtainGroup := 0, digests := [], xferCount := [], collCount := [], curtainCount := []
    relaxedStep := false, ndStep := false, due121 := false, adaptOff := false }

/-- The Stage after reset: dark (R66). -/
def Stage.reset : Stage := { power := .dark, wake := false, running := none }

/-- The Lantern Grid after reset: configuration 0, every lantern idle, no token (R221, R242). -/
def Grid.reset : Grid :=
  { lanterns := [], channels := [], steer := [], edges := [], words := [], flight := [], cycle := 0, records := [], change := none
    runs := [], progs := [] }

/-- The Cast Table after reset: every entry FREE (R268). -/
def Cast.reset : Cast :=
  { entries := [], opener := [], marked := [], markers := [], geom := none, view := [], results := [], received := [], tc121 := false
    proposals := [], deferred := [], formed := [], nextSeq := 0, ckptDue := none
    ckptReq := [], sinceCkpt := 0, ahead := none, frames := [], spill := none, spillReq := [], returns := []
    replay := none, faultRuns := (0, 0), jobs := [], redo := [], allocated := [], drafted := [], given := none, hurt := false, committed := 0, formedAny := false, resuming := [], capHold := false }

/-- The host interface after reset: no pair active, BAR2 of 64 GiB (Table 11-2), MSI-X in use and every vector
masked (notes/assumptions/15.md). -/
def Hif.reset : Hif :=
  { pairs := [], cmds := [], mailbox := [], restores := [], energy := [], jobSet := [], linkUp := true, d3 := false, bar2Size := 2 ^ 36
    msixEnable := true, functionMask := false, msixTable := [], msixMasked := [], msixPending := [], heldMsix := []
    aerCorrectable := false, aerUncorrectable := false, curtainCmds := [], programHash := [] }

/-- The memories with nothing listed (notes/assumptions/4.md). -/
def Mems.reset : Mems :=
  { tile := [], cue := [], lins := [], ldata := [], capt := [], hbm := [], host := [], errors := [], repair := []
    copyCue := [], copyLins := [], copyData := [], progSize := 0, twinSize := 0 }

/-- A lane before training. -/
def Lane.reset : Lane :=
  { peerLocked := false, peerDone := false, place := none, acnt := 0, eq := .precode, best := 0, count := 0, better := true
    rid := 0, sid := 0, rsp := 0 }

/-- A port after reset: held by boot (R530), sequence state new, 4,096 credits (R378). -/
def Port.reset : Port :=
  { fails := 0, retry := false, released := false, lanes := [Lane.reset, Lane.reset, Lane.reset, Lane.reset], fresh := true
    txSeq := 0, held := [], txq := [], credits := 4096, replays := 0, expect := 0, buffer := [], pdSeq := 0, pdReq := none
    delays := [], syncSeq := 0, owed := 0, replaying := none, txAcnt := 0 }

/-- The fabric after reset. -/
def Fab.reset : Fab := { ports := [], waiting := [], joins := [], lost := [], cut := [], granted := [] }

/-- The House Clock after reset: time 0 (R399). -/
def Hck.reset : Hck := { time := 0, integ := 0, step := none, good := 0, curtain := none }

/-- The Dimmer after reset: the cap is that of DIM_CAP and DIM_TCAP (Table 14-3). -/
def Dim.reset : Dim :=
  { cap := 100, acc := 0, dis := 0, agree := 0, estSum := 0, estCount := 0, phase := 0, peak := none, stalled := false, hint := none, prearm := []
    atMax := 0, atZero := 0, burst := false, fixedNext := none, afterCurtain := false, critical := 0, remainder := 0 }

/-- The Understudy after reset: unpaired (Table 15-7). -/
def Usy.reset : Usy :=
  { hbCount := 0, loaded := false, tried := false, waited := false, peerState := 0, logq := [], commits := []
    request := none, errors := [], restored := false, draining := none, twin := none, suppress := 0 }

/-- The Spotlight after reset: idle. -/
def Spt.reset : Spt :=
  { recs := 0, post := 0, acqs := 0, trig := false, forced := false, overflow := false, cut := false, timers := []
    edges := [], waits := [] }

/-- Boot before its first step. -/
def Boot.reset : Boot := { stage := .held, autoload := [], measures := [], key := 0 }

/-- The package after reset: every register at its reset value (R504), every memory with nothing listed. -/
def Dev.reset : Dev :=
  { regs := [], pend := [], wide := [], hold := [], arrivals := [], pairs := [], asleep := 0, snapTicks := 0
    prompter := Prompter.reset, stage := Stage.reset, slots := [], xfers := [], colls := [], grid := Grid.reset
    cast := Cast.reset, hif := Hif.reset, mems := Mems.reset, fab := Fab.reset, hck := Hck.reset, dim := Dim.reset
    usy := Usy.reset, spt := Spt.reset, lines := { recent := [], seen := [] }, boot := Boot.reset, lc := none, strike := none, flashOp := none, outbox := []
    free := 0 }

/-- An NZ8-M700 of stepping B0 (notes/assumptions/5.md). -/
def Ident.reset : Ident := { grade := 0, stepping := 0xB0, litMap := List.replicate 16 0xFFFFFFFF }

/-- Fuses of which none is burned (notes/assumptions/5.md); the part number is the ordering code of Table 19-8. -/
def Fuses.reset : Fuses :=
  { lc := .blank, keyHash := [], revoked := 0, rollback := 0, idPub := [], idAlive := false
    partNumber := [0x4E, 0x5A, 0x38, 0x2D, 0x4D, 0x37, 0x30, 0x30, 0x2D, 0x42, 0x30, 0x20, 0x20, 0x20, 0x20, 0x20]
    serial := List.replicate 8 0 }

/-- The machine right after a power-on reset of the package: rails on, PERST# asserted, boot not begun, no command waiting. -/
def State.reset : State :=
  { pending := [], ident := Ident.reset, fuses := Fuses.reset, flash := []
    board := { power := .on, modEn := true, faultOff := false, uvWarn := false, perst := true }, dev := Dev.reset }

end Sys2Proof.Machine
end

