-- ==== Sys2Proof/Config.lean ====
section
/-! DEFINITION. The free values of the model: what the manual leaves open, as constants without a body. Nothing can
evaluate one or prove a value of one, so a claim holds whatever they are. -/
namespace Sys2Proof.Config

/-- The `n`-th free word (notes/assumptions/9.md): `State` counts how many have been taken. -/
opaque freeWord : Nat → W32

/-- E and Z of a group whose statistics record holds what QSTAT never writes: R113 to R115 state no result. -/
opaque oddStatistics : W32 → W32 → Int × Int

/-- Whether an ECDSA P-384 signature of a digest verifies under a public key (R527); the curve is outside the manual. -/
opaque ecdsaVerify : (pub : List Byte) → (digest : List Byte) → (sig : List Byte) → Bool

/-- The ECDSA P-384 signature the identity key makes over a digest (R537). -/
opaque ecdsaSign : (pub : List Byte) → (digest : List Byte) → List Byte

/-- What a Stage cue or a RED reads at an address past the end of a tile store, by tile and address: R558 makes such a read a fault
and no rule gives its value (notes/assumptions/97.md). -/
opaque pastByte : Nat → Nat → Byte

/-- A byte of the candidate work area after an emit scene, by free index, tile and offset (2.7). -/
opaque workByte : Nat → Nat → Nat → Byte

/-- Whether the groups of a PAGED QNT of group size 64 run along token positions, as V groups do (R132), by its tag, slot and source: no
field of the cue says so (notes/assumptions/110.md). -/
opaque alongPositions : (tag : Nat) → (slot : Nat) → (src : Nat) → Bool

/-- The core cycle in which a grid cycle falls: the two clocks divide one root and no rule gives their phase (Table 1-3, notes/assumptions/107.md). -/
opaque coreCycle : Nat → Nat

/-- What a mirrored checkpoint holds, by free index (R300, R559): 256 bytes of each stream's entry. -/
opaque mirrorEntry : Nat → Nat → List Byte

end Sys2Proof.Config
end

