-- ==== Sys2Proof/Machine/Bits.lean ====
section
/-! DEFINITION. Bit fields, little-endian byte order, saturating and wrapping counters (R11, R18). -/
namespace Sys2Proof.Machine

/-- Bits [lo + len − 1 : lo] of `v` (R11). -/
def bits (v lo len : Nat) : Nat := (v >>> lo) % 2 ^ len

/-- `v` with bits [lo + len − 1 : lo] replaced by the low bits of `n`. -/
def putBits (v lo len n : Nat) : Nat :=
  v % 2 ^ lo + (n % 2 ^ len) <<< lo + (v >>> (lo + len)) <<< (lo + len)

/-- Bit `i` of `v`. -/
def bitAt (v i : Nat) : Bool := v.testBit i

/-- 1 for true, 0 for false. -/
def b2n (b : Bool) : Nat := if b then 1 else 0

/-- The two's-complement value of the low `w` bits of `v`. -/
def sext (w v : Nat) : Int :=
  let u := v % 2 ^ w
  if 2 ^ w ≤ 2 * u then (u : Int) - (2 ^ w : Nat) else u

/-- The low `w` bits of an integer. -/
def trunc (w : Nat) (i : Int) : Nat := (i % ((2 ^ w : Nat) : Int)).toNat

/-- An integer held between two bounds. -/
def clampInt (lo hi i : Int) : Int := if i < lo then lo else if hi < i then hi else i

/-- The number whose little-endian bytes are `bs` (R11). -/
def leNat : List Byte → Nat
  | [] => 0
  | b :: bs => b.toNat + 256 * leNat bs

/-- The `n` little-endian bytes of `v` (R11). -/
def leBytes : Nat → Nat → List Byte
  | 0, _ => []
  | n + 1, v => BitVec.ofNat 8 v :: leBytes n (v / 256)

/-- Bytes `off` to `off + len − 1` of a structure, read as a little-endian number; bytes past the end read 0. -/
def field (bs : List Byte) (off len : Nat) : Nat := leNat ((bs.drop off).take len)

/-- A byte list cut or filled with zero bytes to `n` bytes. -/
def padTo (n : Nat) (bs : List Byte) : List Byte :=
  let c := bs.take n
  c ++ List.replicate (n - c.length) 0

/-- ⌈a / b⌉. -/
def ceilDiv (a b : Nat) : Nat := (a + b - 1) / b

/-- A counter of 32 bits that saturates. -/
def sat32 (n : Nat) : Nat := min n 0xFFFFFFFF

/-- How many bits of `v` below `n` are 1. -/
def popcount : Nat → Nat → Nat
  | 0, _ => 0
  | n + 1, v => popcount n v + (if v.testBit n then 1 else 0)

/-- The indices below `n` of the bits of `v` that are 1, ascending. -/
def setBits (n v : Nat) : List Nat := (List.range n).filter (fun i => v.testBit i)

/-- The reflected CRC of a bit-reflected polynomial: one byte. -/
def crcByte (poly : Nat) : Nat → Nat → Nat
  | 0, c => c
  | k + 1, c => crcByte poly k (if c % 2 = 1 then (c >>> 1) ^^^ poly else c >>> 1)

/-- CRC-32C: polynomial 0x1EDC_6F41 reflected, initial value and final exclusive-or all ones (R374). -/
def crc32c (bs : List Byte) : Nat :=
  (bs.foldl (fun c b => crcByte 0x82F63B78 8 (c ^^^ b.toNat)) 0xFFFFFFFF) ^^^ 0xFFFFFFFF

end Sys2Proof.Machine
end

