-- ==== Sys2Proof/Machine/Float.lean ====
section
/-! DEFINITION. F32 and F16e8 arithmetic, bit for bit (R86 to R90, R99, R167 to R169, R251): every operation is formed
exactly on integers and rounded once, to nearest with ties to even; subnormals are zeros; every NaN is canonical. -/
namespace Sys2Proof.Machine

/-- The canonical NaN of F32 (Table 3-6). -/
def f32NaN : W32 := 0x7FC00000
/-- Positive infinity of F32. -/
def f32Inf : W32 := 0x7F800000
/-- Negative infinity of F32. -/
def f32NegInf : W32 := 0xFF800000
/-- 1.0. -/
def f32One : W32 := 0x3F800000

/-- The value of an F32 encoding (Table 3-6): a number is (−1)^neg × m × 2^e, a zero has m = 0. -/
inductive FVal where
  | nan
  | inf (neg : Bool)
  | num (neg : Bool) (m : Nat) (e : Int)
deriving DecidableEq, Repr

/-- Decode an F32; a subnormal is the zero of its sign (R87). -/
def f32Val (x : W32) : FVal :=
  let n := x.toNat
  let s := n.testBit 31
  let ex := bits n 23 8
  let fr := bits n 0 23
  if ex = 255 then (if fr = 0 then .inf s else .nan)
  else if ex = 0 then .num s 0 0
  else .num s (0x800000 + fr) ((ex : Int) - 150)

/-- The zero of a sign. -/
def f32Zero (neg : Bool) : W32 := if neg then 0x80000000 else 0
/-- The infinity of a sign. -/
def f32InfOf (neg : Bool) : W32 := if neg then f32NegInf else f32Inf

/-- A positive m × 2^e rounded to `p` bits of significand with an unbounded exponent range, to nearest, ties to even: the
significand in [2^(p−1), 2^p) and its exponent. -/
def roundSig (p m : Nat) (e : Int) : Nat × Int :=
  let l := m.log2
  if l + 1 ≤ p then (m <<< (p - 1 - l), e - ((p - 1 - l : Nat) : Int))
  else
    let sh := l + 1 - p
    let q := m >>> sh
    let r := m % 2 ^ sh
    let half := 2 ^ (sh - 1)
    let q' := if half < r ∨ (r = half ∧ q % 2 = 1) then q + 1 else q
    if q' = 2 ^ p then (2 ^ (p - 1), e + (sh : Int) + 1) else (q', e + (sh : Int))

/-- Rounded to F32: the subnormal test is made after rounding (R87); m = 0 is the zero of the sign. -/
def f32Round (neg : Bool) (m : Nat) (e : Int) : W32 :=
  if m = 0 then f32Zero neg
  else
    let (q, x) := roundSig 24 m e
    let ex := x + 150
    if ex < 1 then f32Zero neg
    else if 254 < ex then f32InfOf neg
    else BitVec.ofNat 32 ((if neg then 0x80000000 else 0) + ex.toNat * 0x800000 + (q - 0x800000))

/-- An integer times a power of two, rounded to F32; 0 gives the zero of `zneg`. -/
def f32OfInt (zneg : Bool) (i e : Int) : W32 :=
  if i = 0 then f32Zero zneg else f32Round (decide (i < 0)) i.natAbs e

/-- The signed integer of a significand. -/
def signed (neg : Bool) (m : Nat) : Int := if neg then -(m : Int) else m

/-- a × 2^ea + b × 2^eb as an integer and its exponent, exactly. -/
def dyAdd (a ea b eb : Int) : Int × Int :=
  if ea ≤ eb then (a + b * (2 ^ (eb - ea).toNat : Nat), ea) else (a * (2 ^ (ea - eb).toNat : Nat) + b, eb)

/-- The exact sum of two numbers, rounded; an exact zero sum is −0 only when both are negative. -/
def f32AddNum (s1 : Bool) (m1 : Nat) (e1 : Int) (s2 : Bool) (m2 : Nat) (e2 : Int) : W32 :=
  if m1 = 0 ∧ m2 = 0 then f32Zero (s1 && s2)
  else if m1 = 0 then f32Round s2 m2 e2
  else if m2 = 0 then f32Round s1 m1 e1
  else
    let (t, e) := dyAdd (signed s1 m1) e1 (signed s2 m2) e2
    f32OfInt (s1 && s2) t e

/-- fadd (R87). -/
def fadd (a b : W32) : W32 :=
  match f32Val a, f32Val b with
  | .nan, _ => f32NaN
  | _, .nan => f32NaN
  | .inf s, .inf t => if s = t then f32InfOf s else f32NaN
  | .inf s, .num _ _ _ => f32InfOf s
  | .num _ _ _, .inf t => f32InfOf t
  | .num s m e, .num t k f => f32AddNum s m e t k f

/-- The other sign. -/
def fneg (a : W32) : W32 := a ^^^ 0x80000000
/-- The magnitude. -/
def fabs (a : W32) : W32 := a &&& 0x7FFFFFFF

/-- fsub (R87). -/
def fsub (a b : W32) : W32 := fadd a (fneg b)

/-- fmul (R87). -/
def fmul (a b : W32) : W32 :=
  match f32Val a, f32Val b with
  | .nan, _ => f32NaN
  | _, .nan => f32NaN
  | .inf s, .inf t => f32InfOf (s != t)
  | .inf s, .num t k _ => if k = 0 then f32NaN else f32InfOf (s != t)
  | .num s m _, .inf t => if m = 0 then f32NaN else f32InfOf (s != t)
  | .num s m e, .num t k f => f32Round (s != t) (m * k) (e + f)

/-- ffma: a × b + c, rounded once (R87). -/
def ffma (a b c : W32) : W32 :=
  match f32Val a, f32Val b, f32Val c with
  | .nan, _, _ => f32NaN
  | _, .nan, _ => f32NaN
  | .inf s, .inf t, z => addInf (s != t) z
  | .inf s, .num t k _, z => if k = 0 then f32NaN else addInf (s != t) z
  | .num s m _, .inf t, z => if m = 0 then f32NaN else addInf (s != t) z
  | .num _ _ _, .num _ _ _, .nan => f32NaN
  | .num _ _ _, .num _ _ _, .inf u => f32InfOf u
  | .num s m e, .num t k f, .num u n g => f32AddNum (s != t) (m * k) (e + f) u n g
where
  /-- An infinite product plus c. -/
  addInf (s : Bool) : FVal → W32
    | .nan => f32NaN
    | .inf u => if s = u then f32InfOf s else f32NaN
    | .num _ _ _ => f32InfOf s

/-- A NaN. -/
def fIsNaN (a : W32) : Bool := match f32Val a with | .nan => true | _ => false
/-- A finite value. -/
def fIsFinite (a : W32) : Bool := match f32Val a with | .num _ _ _ => true | _ => false
/-- A zero: ±0 or a subnormal. -/
def fIsZero (a : W32) : Bool := match f32Val a with | .num _ m _ => m == 0 | _ => false

/-- Exact order of two values that are no NaN: a < b. −0 and +0 are equal. -/
def fltV : FVal → FVal → Bool
  | .nan, _ => false
  | _, .nan => false
  | .inf s, .inf t => s && !t
  | .inf s, .num _ _ _ => s
  | .num _ _ _, .inf t => !t
  | .num s m e, .num t k f =>
    decide ((dyAdd (signed s m) e (-(signed t k)) f).1 < 0)

/-- a < b, exactly; false when either is a NaN. -/
def flt (a b : W32) : Bool := fltV (f32Val a) (f32Val b)

/-- Subnormals made zero and NaNs canonical: the value of an encoding written back. -/
def fcanon (a : W32) : W32 :=
  match f32Val a with
  | .nan => f32NaN
  | .inf s => f32InfOf s
  | .num s m e => f32Round s m e

/-- fmax (R88). -/
def fmax (a b : W32) : W32 :=
  if fIsNaN a then (if fIsNaN b then f32NaN else fcanon b)
  else if fIsNaN b then fcanon a
  else if fIsZero a ∧ fIsZero b then f32Zero (a.getLsbD 31 && b.getLsbD 31)
  else if flt a b then fcanon b else fcanon a

/-- fmin (R167). -/
def fmin (a b : W32) : W32 :=
  if fIsNaN a then (if fIsNaN b then f32NaN else fcanon b)
  else if fIsNaN b then fcanon a
  else if fIsZero a ∧ fIsZero b then f32Zero (a.getLsbD 31 || b.getLsbD 31)
  else if flt b a then fcanon b else fcanon a

/-- Floor, and whether half of the last place or more is left: m / 2^k rounded to nearest, ties to even. -/
def rneShift (m k : Nat) : Nat :=
  if k = 0 then m
  else
    let q := m >>> k
    let r := m % 2 ^ k
    let half := 2 ^ (k - 1)
    if half < r ∨ (r = half ∧ q % 2 = 1) then q + 1 else q

/-- i × 2^e rounded to an integer, to nearest with ties to even, exactly. -/
def rneInt (i e : Int) : Int :=
  if 0 ≤ e then i * (2 ^ e.toNat : Nat) else signed (decide (i < 0)) (rneShift i.natAbs (-e).toNat)

/-- ⌊i × 2^e⌋. -/
def floorDy (i e : Int) : Int := if 0 ≤ e then i * (2 ^ e.toNat : Nat) else i / (2 ^ (-e).toNat : Nat)

/-- rint of a finite F32 as an exact integer (R168); 0 for no number. -/
def rint (a : W32) : Int :=
  match f32Val a with
  | .num s m e => rneInt (signed s m) e
  | _ => 0

/-- f32 of an integer, rounded to nearest with ties to even. -/
def f32i (i : Int) : W32 := f32OfInt false i 0

/-- exp (R168). -/
def fexp (x : W32) : W32 :=
  if fIsNaN x then f32NaN
  else
    let t := fmul x 0x3FB8AA3B
    if flt 0x43000000 t then f32Inf
    else if flt t 0xC2FE0000 then 0
    else
      let n := rint t
      let nf := f32i n
      let r := ffma nf 0xBF317200 x
      let r := ffma nf 0xB5BFBE8E r
      let p := ffma 0x3AB60B61 r 0x3C088889
      let p := ffma p r 0x3D2AAAAB
      let p := ffma p r 0x3E2AAAAB
      let p := ffma p r 0x3F000000
      let p := ffma p r 0x3F800000
      let p := ffma p r 0x3F800000
      if n = 128 then fmul (fmul p 0x7F000000) 0x40000000
      else if n = -127 then 0
      else fmul p (BitVec.ofNat 32 ((n + 127).toNat <<< 23))

/-- recip (R169): the quotient 2^64 / m with a sticky bit, rounded once. -/
def frecip (a : W32) : W32 :=
  match f32Val a with
  | .nan => f32NaN
  | .inf s => f32Zero s
  | .num s m e =>
    if m = 0 then f32InfOf s
    else f32Round s (2 * (2 ^ 64 / m) + b2n (decide (2 ^ 64 % m ≠ 0))) (-65 - e)

/-- ⌊√n⌋ for n below 2^(2k), bit by bit. -/
def isqrt (n : Nat) : Nat → Nat → Nat
  | 0, r => r
  | k + 1, r => isqrt n k (if (r + 2 ^ k) * (r + 2 ^ k) ≤ n then r + 2 ^ k else r)

/-- rsqrt (R169): ⌊√(2^120 / m)⌋ with a sticky bit, rounded once. -/
def frsqrt (a : W32) : W32 :=
  match f32Val a with
  | .nan => f32NaN
  | .inf s => if s then f32NaN else 0
  | .num s m e =>
    if m = 0 then f32InfOf s
    else if s then f32NaN
    else
      let (m, e) := if e % 2 = 0 then (m, e) else (2 * m, e - 1)
      let r := isqrt (2 ^ 120 / m) 60 0
      f32Round false (2 * r + b2n (decide (r * r * m ≠ 2 ^ 120))) (-61 - e / 2)

/-- F32 to F16e8 (R87). -/
def f16OfF32 (a : W32) : W16 :=
  match f32Val a with
  | .nan => 0x7FC0
  | .inf s => if s then 0xFF80 else 0x7F80
  | .num s m e =>
    let sg := if s then 0x8000 else 0
    if m = 0 then BitVec.ofNat 16 sg
    else
      let (q, x) := roundSig 8 m e
      let ex := x + 134
      if ex < 1 then BitVec.ofNat 16 sg
      else if 254 < ex then BitVec.ofNat 16 (sg + 0x7F80)
      else BitVec.ofNat 16 (sg + ex.toNat * 128 + (q - 128))

/-- F16e8 to F32 (R89). -/
def f32OfF16 (a : W16) : W32 := fcanon (BitVec.ofNat 32 (a.toNat * 65536))

/-- ITOF: the F32 value of a signed 32-bit integer, rounded to nearest with ties to even. -/
def itof (a : W32) : W32 := f32OfInt false a.toInt 0

/-- FTOI (Table 8-1): rint as a signed integer, held to ±(2^31 − 1); a NaN gives 0. -/
def ftoi (a : W32) : W32 :=
  match f32Val a with
  | .nan => 0
  | .inf s => if s then 0x80000001 else 0x7FFFFFFF
  | .num s m e => BitVec.ofInt 32 (clampInt (-2147483647) 2147483647 (rneInt (signed s m) e))

/-- Bits below the point of the fixed-point logarithm: far more than any binary32 argument needs (notes/assumptions/10.md). -/
def lnBits : Nat := 220

/-- z + z³/3 + z⁵/5 + …: `zp` is z^(2j+1), `z2` is z², both in units of 2^−lnBits; `j` terms are left of `n`. -/
def atanhSum (z2 : Nat) : Nat → Nat → Nat → Nat
  | 0, _, _ => 0
  | fuel + 1, j, zp => zp / (2 * j + 1) + atanhSum z2 fuel (j + 1) ((zp * z2) >>> lnBits)

/-- 2 × atanh(num / den) in units of 2^−lnBits. -/
def lnRatio (terms num den : Nat) : Nat :=
  let z := (num <<< lnBits) / den
  2 * atanhSum ((z * z) >>> lnBits) terms 0 z

/-- ln 2 in units of 2^−lnBits: 2 × atanh(1/3). -/
def ln2Fix : Nat := lnRatio 72 1 3

/-- ln of m × 2^(k − 23) in units of 2^−lnBits, for m of 24 bits: an m above √2 × 2^23 is halved first. -/
def lnFix (m : Nat) (k : Int) : Int :=
  let (den, k) := if 0xB504F3 < m then (0x1000000, k + 1) else (0x800000, k)
  let l : Int := if den ≤ m then (lnRatio 46 (m - den) (m + den) : Nat) else -((lnRatio 46 (den - m) (m + den) : Nat) : Int)
  k * (ln2Fix : Nat) + l

/-- ln (R251), rounded once from the fixed-point value. -/
def fln (a : W32) : W32 :=
  match f32Val a with
  | .nan => f32NaN
  | .inf s => if s then f32NaN else f32Inf
  | .num s m e =>
    if m = 0 then f32NegInf
    else if s then f32NaN
    else f32OfInt false (lnFix m (e + 23)) (-(lnBits : Int))

/-- SILU: a × recip(1 + exp(−a)) (Table 5-11). -/
def fsilu (a : W32) : W32 := fmul a (frecip (fadd f32One (fexp (fneg a))))

/-- rescale (R99): A × MANT × 2^(SHIFT − 47), rounded once; a zero product is +0. -/
def rescale (a : Int) (mant : Nat) (shift : Int) : W32 := f32OfInt false (a * mant) (shift - 47)

end Sys2Proof.Machine
end

