-- ==== Sys2Proof/Machine/Quant.lean ====
section
/-! DEFINITION. The narrow formats: codes, side lists, group terms, the accumulator, statistics, the choice of exponent,
zero point and escapes, conversion, and the stochastic-rounding generator (03_number_formats.md, 04_quantisation.md).
Codes, exponents, zero points and side lists: R74, R75, R77 to R82, R85; exactness: R92; draws and coinciding cases:
R104, R106, R107; statistics: R110; scale blocks and tags: R128, R129; training tensors: R135, R137; Table 4-5: R138. -/
namespace Sys2Proof.Machine

/-- Rotate a 64-bit value left (R103). -/
def rotl64 (v : W64) (n : Nat) : W64 := if n = 0 then v else (v <<< n) ||| (v >>> (64 - n))

/-- One round of nzr: x, y and the key (R103). -/
def nzrRound (s : W64 × W64 × W64) (rot : Nat) : W64 × W64 × W64 :=
  let (x, y, k) := s
  let x := x + (y ^^^ k)
  let y := rotl64 y rot ^^^ x
  let x := x * 0xA3C59E172B6D4F09
  let x := x ^^^ (x >>> 31)
  (x, y, k + 0x6C8E9CF570932BD5)

/-- The counter-based generator nzr (R103). -/
def nzr (seed : W64) (stream step tag index : Nat) : W32 :=
  let x : W64 := BitVec.ofNat 64 (step % 2 ^ 32 * 2 ^ 32 + index % 2 ^ 32)
  let y : W64 := BitVec.ofNat 64 (stream % 2 ^ 14 * 2 ^ 16 + tag % 2 ^ 16) ^^^ 0x9B2D5E31C6A417F3
  let (x, y, _) := [13, 29, 7, 41, 23, 5, 37, 17].foldl nzrRound (x, y, seed)
  (x ^^^ (y >>> 29)).setWidth 32

/-- The largest value of the accumulator format (R91). -/
def accMax : Int := 0x7FFFFFFFFFFFFFFF
/-- The smallest value of the accumulator format (R91). -/
def accMin : Int := -0x8000000000000000

/-- A clamp to the accumulator format, and 1 if it clamped (R91). -/
def accClamp (t : Int) : Int × Nat :=
  if accMax < t then (accMax, 1) else if t < accMin then (accMin, 1) else (t, 0)

/-- to_acc (R93): p × 2^x in accumulator units, with the clamp flag. -/
def toAcc (p x : Int) : Int × Nat :=
  let s := x + 24
  if p = 0 then (0, 0)
  else if 0 ≤ s then
    if 63 < s then (if 0 < p then (accMax, 1) else (accMin, 1))
    else accClamp (p * (2 ^ s.toNat : Nat))
  else if 32 < -s then (0, 0)
  else (rneInt p s, 0)

/-- The significand of an F16e8 side value (3.4): 0 when its exponent field is 0. -/
def sigOf (v : Nat) : Int :=
  if bits v 7 8 = 0 then 0 else signed (v.testBit 15) (128 + bits v 0 7)
/-- The exponent of an F16e8 side value (3.4). -/
def xpOf (v : Nat) : Int := (bits v 7 8 : Int) - 134

/-- An element of a narrow group: its code, and its side value where the code is the escape. -/
abbrev Elem := Int × Option Nat

/-- The code of element `k` of a group in memory (R76): 4 or 8 bits. -/
def codeAt (n8 : Bool) (bs : List Byte) (k : Nat) : Nat :=
  if n8 then (bs.getD k 0).toNat else bits (bs.getD (k / 2) 0).toNat (4 * (k % 2)) 4

/-- The escape code of a format (Table 3-2, Table 3-3). -/
def escCode (n8 : Bool) : Nat := if n8 then 0x80 else 0x8

/-- A side list is well formed for the escape positions of its group (R83): every condition of the list. -/
def sideOk (g : Nat) (entries escPos : List Nat) : Bool :=
  let valid := entries.takeWhile (fun e => e.testBit 31)
  let rest := entries.drop valid.length
  rest.all (· == 0) &&
    valid.all (fun e => decide (bits e 16 7 < g) && bits e 23 8 == 0 && bits e 7 8 != 255) &&
    valid.map (fun e => bits e 16 7) == escPos

/-- The side-list budget of its code (3.3). -/
def budget (code : Nat) : Nat := if code = 0 then 0 else 2 ^ code
/-- The group size of its code (Table 5-8). -/
def groupSize (code : Nat) : Nat := 32 * 2 ^ code

/-- A group read from memory: its elements, or none where the side list is not well formed (R84). `sides` are the B words. -/
def readGroup (n8 : Bool) (g : Nat) (bs : List Byte) (sides : List Nat) : Option (List Elem) :=
  let codes := (List.range g).map (codeAt n8 bs)
  let escPos := (List.range g).filter (fun k => codes.getD k 0 == escCode n8)
  if sideOk g sides escPos then
    some ((List.range g).map (fun k =>
      if codes.getD k 0 = escCode n8 then
        (0, some (bits ((sides.find? (fun e => bits e 16 7 == k && e.testBit 31)).getD 0) 0 16))
      else (sext (if n8 then 8 else 4) (codes.getD k 0), none)))
  else none

/-- What one position adds through the escape unit (R94): a term and its clamps. -/
def escTerm (ew ea z : Int) : Elem × Elem → Int × Nat
  | ((_, none), (_, none)) => (0, 0)
  | ((_, some vw), (_, some va)) => toAcc (sigOf vw * sigOf va) (xpOf vw + xpOf va)
  | ((_, some vw), (qa, none)) => toAcc (sigOf vw * (qa - z)) (xpOf vw + ea)
  | ((qw, none), (_, some va)) =>
    let (a, c) := toAcc (qw * sigOf va) (ew + xpOf va)
    let (b, d) := toAcc (qw * z) (ew + ea)
    (a + b, c + d)

/-- The cells' int32 sum over the positions that neither operand escapes (R94). -/
def cellSum (w a : List Elem) : Int :=
  ((w.zip a).map (fun
    | ((qw, none), (qa, none)) => qw * qa
    | _ => 0)).sum

/-- The group term and its number of clamps (R94). -/
def groupTerm (w a : List Elem) (ew ea z : Int) : Int × Nat :=
  let (t0, c0) := toAcc (cellSum w a) (ew + ea)
  let (t, c) := (w.zip a).foldl (fun acc p => let r := escTerm ew ea z p; (acc.1 + r.1, acc.2 + r.2)) (t0, c0)
  let (t, d) := accClamp t
  (t, c + d)

/-- The correction of one group: to_acc(z × S, ew + ea) (R95). -/
def correction (z s ew ea : Int) : Int × Nat := toAcc (z * s) (ew + ea)

/-- emx (R113): the smallest e with a < (qmax + 0.5) × 2^e. -/
def emx (a : W32) (n8 : Bool) : Int :=
  let sig := 0x800000 + bits a.toNat 0 23
  let x : Int := (bits a.toNat 23 8 : Int) - 150
  if n8 then (if sig < 0xFF0000 then x + 17 else x + 18)
  else (if sig < 0xF00000 then x + 21 else x + 22)

/-- qmax of a format. -/
def qmaxOf (n8 : Bool) : Int := if n8 then 127 else 7

/-- An exponent held to a signed byte. -/
def clampE (e : Int) : Int := clampInt (-128) 127 e

/-- E of a group without a zero point (R114), from a magnitude. -/
def chooseE (hi : W32) (n8 : Bool) (h : Int) : Int := if hi = 0 then 0 else clampE (emx hi n8 - h)

/-- A positive normal F32. -/
def isPosNormal (a : W32) : Bool := !a.getLsbD 31 && bits a.toNat 23 8 != 0 && bits a.toNat 23 8 != 255

/-- The smallest e with d × 2^x < (2·qmax + 1) × 2^e, for d > 0 (R115). -/
def spanE (n8 : Bool) (d : Nat) (x : Int) : Int :=
  let l := d.log2
  let k : Nat := if n8 then 7 else 3
  (l : Int) + x - (k : Int) + (if d * 2 ^ k < (2 ^ (k + 1) - 1) * 2 ^ l then 0 else 1)

/-- E and Z of a group from its statistics record (R113 to R115); `zp` already excludes a max-abs slot. -/
def chooseEZ (hi lo : W32) (n8 zp : Bool) (h : Int) : Int × Int :=
  if !zp then
    (if hi = 0 ∨ isPosNormal hi then (chooseE hi n8 h, 0) else Config.oddStatistics hi lo)
  else
    match f32Val hi, f32Val lo with
    | .num s m e, .num t k f =>
      let (d, x) := dyAdd (signed s m) e (-(signed t k)) f
      let (c2, cx) := dyAdd (signed s m) e (signed t k) f
      if d = 0 then (if m = 0 then 0 else chooseE (fabs hi) n8 h, 0)
      else if d < 0 then Config.oddStatistics hi lo
      else
        let ee := clampE (spanE n8 d.toNat x - h)
        (ee, clampInt (-(qmaxOf n8)) (qmaxOf n8) (rneInt (-c2) (cx - 1 - ee)))
    | _, _ => Config.oddStatistics hi lo

/-- The magnitude of a finite element as an ordered number: its encoding without the sign, a subnormal as 0 (R111). -/
def magKey (a : W32) : Nat := let m := (fabs a).toNat; if m < 0x800000 then 0 else m

/-- Insert by descending magnitude; an equal magnitude keeps the earlier element first (R111). -/
def rankIns (e : Nat × W32) : List (Nat × W32) → List (Nat × W32)
  | [] => [e]
  | f :: t => if magKey f.2 < magKey e.2 then e :: f :: t else f :: rankIns e t

/-- Elements ranked by descending magnitude, lower position first (R111). -/
def rankElems (es : List (Nat × W32)) : List (Nat × W32) := es.foldl (fun acc e => rankIns e acc) []

/-- The finite elements of a group with their positions. -/
def finiteElems (g : List W32) : List (Nat × W32) :=
  ((List.range g.length).zip g).filter (fun e => fIsFinite e.2)

/-- The body of a group (R111). -/
def body (b : Nat) (g : List W32) : List W32 :=
  let fin := rankElems (finiteElems g)
  let nz := (fin.filter (fun e => magKey e.2 != 0)).length
  (if nz ≤ b then fin.take 1 else fin.drop b).map Prod.snd

/-- HI and LO of a statistics record (Table 4-1). HI is +0 where no finite element is non-zero; LO in zero-point mode is the body's
smallest value even then, so −0 where the first-ranked zero is −0 (R111). DESIGN CHOICE (notes/assumptions/99.md): LO of a group
without a finite element, which has no body, is +0. -/
def statHiLo (b : Nat) (maxabs zp : Bool) (g : List W32) : W32 × W32 :=
  let fin := finiteElems g
  if fin.all (fun e => magKey e.2 == 0) then (0, if zp && !maxabs then fcanon ((body b g).headD 0) else 0)
  else if maxabs then ((fin.map (fun e => fabs (fcanon e.2))).foldl fmax 0, 0)
  else
    let bd := (body b g).map fcanon
    if zp then (bd.tail.foldl fmax (bd.headD 0), bd.tail.foldl fmin (bd.headD 0))
    else ((bd.map fabs).foldl fmax 0, 0)

/-- t = v × 2^−E + Z as an integer and its exponent, for a finite v; a zero is +0 (R100, R102). -/
def convT (v : W32) (ee z : Int) : Int × Int :=
  match f32Val v with
  | .num s m e => if m = 0 then (z, 0) else dyAdd (signed s m) (e - ee) z 0
  | _ => (0, 0)

/-- A clip candidate: |t| ≥ qmax + 0.5, exactly (R116). -/
def isCandidate (n8 : Bool) (v : W32) (ee z : Int) : Bool :=
  fIsFinite v &&
    (let (t, x) := convT v ee z
     decide (0 ≤ (dyAdd (2 * (t.natAbs : Int)) x (-(2 * qmaxOf n8 + 1)) 0).1))

/-- One element converted (R100 to R102): `r` is the draw of a stochastic conversion. -/
def convertElem (n8 : Bool) (v : W32) (ee z : Int) (r : Option W32) : Int :=
  let q := qmaxOf n8
  match f32Val v with
  | .nan => 0
  | .inf s => if s then -q else q
  | .num _ _ _ =>
    let (t, x) := convT v ee z
    let i := match r with
      | none => rneInt t x
      | some r =>
        let f := floorDy t (x + 32)
        let i := f / 4294967296
        if (r.toNat : Int) < f % 4294967296 then i + 1 else i
    clampInt (-q) q i

/-- What converting one group gives. -/
structure Conv where
  codes : List Nat
  side : List Nat
  sum : Int
  clip : Nat
  invalid : Nat
  escOver : Bool
  maxabs : W32
deriving DecidableEq, Repr

/-- One group converted (R116 to R118, R125): `draw` gives the random value of each position. -/
def convertGroup (n8 maxabs : Bool) (b : Nat) (ee z : Int) (draw : Nat → Option W32) (g : List W32) : Conv :=
  let es := (List.range g.length).zip g
  let cand := if maxabs then [] else rankElems (es.filter (fun e => isCandidate n8 e.2 ee z))
  let esc := (cand.filter (fun e => bits (f16OfF32 e.2).toNat 7 8 != 255)).take b
  let isEsc := fun k => esc.any (fun e => e.1 == k)
  let q := es.map (fun e => if isEsc e.1 then none else some (convertElem n8 e.2 ee z (draw e.1)))
  let entries := (es.filter (fun e => isEsc e.1)).map (fun e => 0x80000000 + e.1 * 65536 + (f16OfF32 e.2).toNat)
  { codes := q.map (fun c => match c with
      | none => escCode n8
      | some i => trunc (if n8 then 8 else 4) i)
    side := entries ++ List.replicate (b - entries.length) 0
    sum := (q.map (fun c => c.getD 0)).sum
    clip := cand.length - esc.length
    invalid := (g.filter (fun v => !fIsFinite v)).length
    escOver := decide (b < cand.length)
    maxabs := ((finiteElems g).map (fun e => fabs (fcanon e.2))).foldl fmax 0 }

/-- Codes packed as R76 states. -/
def packCodes (n8 : Bool) (cs : List Nat) : List Byte :=
  if n8 then cs.map (BitVec.ofNat 8)
  else (List.range (cs.length / 2)).map (fun i => BitVec.ofNat 8 (cs.getD (2 * i) 0 + 16 * cs.getD (2 * i + 1) 0))

end Sys2Proof.Machine
end

