-- ==== Sys2Proof/Machine/Scene.lean ====
section
/-! DEFINITION. What one SCENE computes over the logical grid: decomposition, group terms, epilogue, candidates and
log-sum-exp, write map, digest (02_stage.md; Tables 2-1 to 2-5, 5-7, 5-8; R420). Detections carry an order in time.
The rescale table is that of R98, the element index that of R416; no rule of time enters a result (R47, R51, R55, R96). -/
namespace Sys2Proof.Machine

/-- The key of byte TA of logical tile `t` (R42). -/
def tileKey (t a : Nat) : Nat := t * 2 ^ 24 + a
/-- `n` bytes of a tile store; a byte past its end is free (R558, notes/assumptions/97.md). -/
def tileBytes (m : Memory) (t a n : Nat) : List Byte :=
  if a + n ≤ 2 ^ 24 then memBytes m (tileKey t a) n
  else memBytes m (tileKey t a) (2 ^ 24 - a) ++
    (List.range (n - (2 ^ 24 - a))).map (fun o => Config.pastByte t (max a (2 ^ 24) + o))
/-- A little-endian number of `n` bytes of a tile store. -/
def tileNat (m : Memory) (t a n : Nat) : Nat := leNat (tileBytes m t a n)
/-- An F32 of a tile store. -/
def tileF32 (m : Memory) (t a : Nat) : W32 := BitVec.ofNat 32 (tileNat m t a 4)

/-- The operands of a SCENE (Tables 5-7 and 5-8). -/
structure SceneOp where
  digest : Bool
  emit : Bool
  zp : Bool
  maskF : Bool
  biasF : Bool
  residF : Bool
  wfmt : Nat
  afmt : Nat
  gsize : Nat
  kspan : Nat
  wbud : Nat
  abud : Nat
  out16 : Bool
  res16 : Bool
  wpaged : Bool
  apaged : Bool
  paxis : Nat
  m : Nat
  k : Nat
  n : Nat
  wBase : Nat
  wScale : Nat
  wSide : Nat
  aBase : Nat
  aStride : Nat
  aScale : Nat
  aSide : Nat
  rescaleT : Nat
  bias : Nat
  resid : Nat
  residStride : Nat
  wmap : Nat
  mask : Nat
  cand : Nat
  pspan : Nat
deriving DecidableEq, Repr

/-- The fields of a SCENE cue and its descriptor. -/
def sceneOp (w : Nat) (d : List Byte) : SceneOp :=
  let b := fun i => field d i 1
  let u := fun i => field d i 4
  { digest := bitAt w 25, emit := bitAt w 26, zp := bitAt w 27, maskF := bitAt w 28, biasF := bitAt w 29, residF := bitAt w 30
    wfmt := bits (b 0) 0 2, afmt := bits (b 0) 2 2, gsize := bits (b 0) 4 2
    kspan := bits (b 1) 0 3, wbud := bits (b 1) 3 2, abud := bits (b 1) 5 2
    out16 := bitAt (b 2) 0, res16 := bitAt (b 2) 1, wpaged := bitAt (b 2) 2, apaged := bitAt (b 2) 3, paxis := bits (b 2) 4 1
    m := bits (u 4) 0 17, k := bits (u 8) 0 21, n := bits (u 12) 0 25
    wBase := bits (u 16) 0 24, wScale := bits (u 20) 0 24, wSide := bits (u 24) 0 24
    aBase := bits (u 28) 0 24, aStride := u 32, aScale := bits (u 36) 0 24, aSide := bits (u 40) 0 24
    rescaleT := bits (u 44) 0 24, bias := bits (u 48) 0 24, resid := bits (u 52) 0 24, residStride := u 56
    wmap := bits (u 60) 0 24, mask := bits (u 64) 0 24, cand := bits (u 68) 0 24, pspan := field d 72 2 }

/-- K per tile per pass of a format pair (Table 2-1); 0 where the pair is not one of the table. -/
def kPerTile (wfmt afmt : Nat) : Nat :=
  if wfmt = 2 ∧ afmt = 2 then 64
  else if 2 ≤ wfmt ∨ 2 ≤ afmt then 0
  else if wfmt = 0 ∧ afmt = 0 then 256 else 128

/-- An F16e8 scene. -/
def SceneOp.f16 (p : SceneOp) : Bool := p.wfmt == 2
/-- K per tile per pass. -/
def SceneOp.kt (p : SceneOp) : Nat := kPerTile p.wfmt p.afmt
/-- The K span s (R48). -/
def SceneOp.s (p : SceneOp) : Nat := 2 ^ p.kspan
/-- The chains C (R48). -/
def SceneOp.chains (p : SceneOp) (lrows : Nat) : Nat := lrows * 32 / p.s
/-- K_pass (R48). -/
def SceneOp.kPass (p : SceneOp) : Nat := p.s * p.kt
/-- The group size; 64 stands for an F16e8 scene's K granule. -/
def SceneOp.g (p : SceneOp) : Nat := if p.f16 then 64 else groupSize p.gsize
/-- N folds. -/
def SceneOp.nFolds (p : SceneOp) (lrows : Nat) : Nat := ceilDiv p.n (64 * p.chains lrows)
/-- K folds. -/
def SceneOp.kFolds (p : SceneOp) : Nat := ceilDiv p.k p.kPass
/-- Groups along K. -/
def SceneOp.kGroups (p : SceneOp) : Nat := p.k / p.g

/-- A chain's number of active columns in a fold (R50). -/
def SceneOp.columns (p : SceneOp) (lrows nf i : Nat) : Nat := min 64 (p.n - 64 * (p.chains lrows * nf + i))

/-- Write map entries from the base to the last one read (R56, R61). -/
def SceneOp.mapEntries (p : SceneOp) (lrows : Nat) : Nat :=
  let f := p.nFolds lrows
  if p.emit then f
  else
    let a := ceilDiv (p.n - 64 * p.chains lrows * (f - 1)) 64
    max ((a - 1) * f + f) (if 2 ≤ f then (p.chains lrows - 1) * f + f - 1 else 0)

/-- The spans of tile store, as (address, bytes), that a scene of `m` rows reads or writes outside the write map (R162, R558). -/
def SceneOp.spans (p : SceneOp) (lrows m : Nat) : List (Nat × Nat) :=
  let f := p.nFolds lrows
  [(p.wBase, f * p.kFolds * 8192), (p.aBase, (m - 1) * p.aStride + p.kFolds * 128), (p.wmap, 128 * p.mapEntries lrows)] ++
  (if p.f16 then [] else
    [(p.wScale, 4 * p.n * p.kGroups), (p.wSide, 4 * budget p.wbud * p.n * p.kGroups),
     (p.aScale, 4 * m * p.kGroups), (p.aSide, 4 * budget p.abud * m * p.kGroups), (p.rescaleT, 4 * p.n)]) ++
  (if p.biasF then [(p.bias, 4 * p.n)] else []) ++
  (if p.residF then [(p.resid, (m - 1) * p.residStride + p.n * (if p.res16 then 2 else 4))] else []) ++
  (if p.emit then (p.cand, 2056 * m) :: (if p.maskF then [(p.mask, 8 * f * m)] else []) else [])

/-- Every span ends at or below TA 0xFF_FFFF (R558). -/
def spansOk (ss : List (Nat × Nat)) : Bool := ss.all (fun s => decide (s.1 + s.2 ≤ 2 ^ 24))

/-- The order of a scene's moments (R50): fold, block, streaming before epilogue, K fold, row; moment 0 is the first core cycle. -/
def sceneTime (nf mb ph kf m : Nat) : Nat := 1 + (((nf * 512 + mb) * 2 + ph) * 4096 + kf) * 65536 + m

/-- The code under which a NaN logit is counted (R59): it is no fault. -/
def countedOnly : Nat := 0

/-- A detection: its moment, its fault code, the logical tile. Code 0x22 stands for one clamp (R64). -/
structure Detection where
  time : Nat
  code : Nat
  tile : Nat
deriving DecidableEq, Repr

/-- The position index q of R130 divided into a page number. -/
def SceneOp.pageTag (p : SceneOp) (q : Nat) : Nat := if p.pspan = 0 then q / 64 else q / 64 % p.pspan

/-- What one group tap gives: group term, correction term and fault codes. -/
def intGroup (tm : Memory) (p : SceneOp) (t wAt aAt n m gk : Nat) : Int × Int × List Nat :=
  let g := p.g
  let w8 := p.wfmt == 1
  let a8 := p.afmt == 1
  let giW := n * p.kGroups + gk
  let giA := m * p.kGroups + gk
  let wBlk := tileNat tm t (p.wScale + 4 * giW) 4
  let aBlk := tileNat tm t (p.aScale + 4 * giA) 4
  let tagW := if p.wpaged then p.pageTag (if p.paxis = 0 then n else gk * g) else giW
  let tagA := if p.apaged then p.pageTag (if p.paxis = 0 then m else gk * g) else giA
  let sides := fun base bud gi => (List.range (budget bud)).map (fun e => tileNat tm t (base + 4 * budget bud * gi + 4 * e) 4)
  let wb := tileBytes tm t wAt (if w8 then g else g / 2)
  let ab := tileBytes tm t aAt (if a8 then g else g / 2)
  let wg := readGroupAny w8 g wb (sides p.wSide p.wbud giW)
  let ag := readGroupAny a8 g ab (sides p.aSide p.abud giA)
  let ew := sext 8 (bits wBlk 0 8)
  let ea := sext 8 (bits aBlk 0 8)
  let z := if p.zp then sext 8 (bits aBlk 16 8) else 0
  let (term, c) := groupTerm wg.2 ag.2 ew ea z
  let (corr, d) := if p.zp then correction z (sext 16 (bits wBlk 16 16)) ew ea else (0, 0)
  let f20 := if bits wBlk 8 8 ≠ tagW % 256 ∨ bits aBlk 8 8 ≠ tagA % 256 then [0x20] else []
  let f21 := if wg.1 && ag.1 then [] else [0x21]
  (term, corr, f20 ++ f21 ++ List.replicate (c + d) 0x22)
where
  /-- The elements of a group and whether its side list is well formed; a list that is not supplies its entries in turn. -/
  readGroupAny (n8 : Bool) (g : Nat) (bs : List Byte) (sides : List Nat) : Bool × List Elem :=
    match readGroup n8 g bs sides with
    | some es => (true, es)
    | none =>
      let codes := (List.range g).map (codeAt n8 bs)
      (false, (List.range g).map (fun k =>
        if codes.getD k 0 = escCode n8 then
          (0, some (bits (sides.getD ((codes.take k).filter (· == escCode n8)).length 0) 0 16))
        else (sext (if n8 then 8 else 4) (codes.getD k 0), none)))

/-- The group taps of one (m, n): tile along the chain, weight and activation addresses, index along K, K fold (R40, R48). -/
def intTaps (p : SceneOp) (nf i j m : Nat) : List (Nat × Nat × Nat × Nat × Nat) :=
  let g := p.g
  (List.range p.kFolds).flatMap (fun kf =>
    (List.range p.s).flatMap (fun pos =>
      ((List.range (p.kt / g)).filter (fun gl => decide (kf * p.kPass + pos * p.kt + gl * g < p.k))).map (fun gl =>
        (p.s * i + pos,
         p.wBase + (nf * p.kFolds + kf) * 8192 + 128 * j + gl * (if p.wfmt = 1 then g else g / 2),
         p.aBase + m * p.aStride + kf * 128 + gl * (if p.afmt = 1 then g else g / 2),
         (kf * p.kPass + pos * p.kt) / g + gl, kf))))

/-- The carriers of one (m, n) of an integer scene, exact (R52, R53, R95), and what was detected. -/
def intCell (tm : Memory) (p : SceneOp) (lrows nf i j m : Nat) : Int × Int × List Detection :=
  let n := 64 * (p.chains lrows * nf + i) + j
  (intTaps p nf i j m).foldl (fun acc (t, wAt, aAt, gk, kf) =>
    let r := intGroup tm p t wAt aAt n m gk
    (acc.1 + r.1, acc.2.1 + r.2.1,
     acc.2.2 ++ r.2.2.map (fun c => { time := sceneTime nf (m / 256) 0 kf (m % 256), code := c, tile := t })))
    (0, 0, [])

/-- The F32 partial of one (m, n) of an F16e8 scene, in the order of R54. DESIGN CHOICE (notes/assumptions/96.md): each column of
each tile starts at +0 and a tile beyond K passes +0 on; the head tile and the first K fold enter without an addition. -/
def f16Cell (tm : Memory) (p : SceneOp) (nf i j m : Nat) : W32 :=
  (List.range p.kFolds).foldl (fun acc kf =>
    let chain := (List.range p.s).foldl (fun part pos =>
      let t := p.s * i + pos
      let col := ((List.range 64).filter (fun k => decide (kf * p.kPass + pos * 64 + k < p.k))).foldl (fun c k =>
        let w := BitVec.ofNat 16 (tileNat tm t (p.wBase + (nf * p.kFolds + kf) * 8192 + 128 * j + 2 * k) 2)
        let a := BitVec.ofNat 16 (tileNat tm t (p.aBase + m * p.aStride + kf * 128 + 2 * k) 2)
        ffma (f32OfF16 w) (f32OfF16 a) c) 0
      if pos = 0 then col else fadd part col) 0
    if kf = 0 then chain else fadd acc chain) 0

/-- Epilogue stages 1 to 5 of one element (Table 2-3, R97): its value and its number of clamps. -/
def epilogue (tm : Memory) (p : SceneOp) (tail m n : Nat) (cell : Int × Int ⊕ W32) : W32 × Nat :=
  let (y, c) := match cell with
    | .inr y => (y, 0)
    | .inl (main, corr) =>
      let (a, c1) := accClamp main
      let (a, c2) := if p.zp then
          let (z, cz) := accClamp corr
          let (a, ca) := accClamp (a - z)
          (a, cz + ca)
        else (a, 0)
      let e := tileNat tm tail (p.rescaleT + 4 * n) 4
      (rescale a (bits e 0 24) (sext 8 (bits e 24 8)), c1 + c2)
  let y := if p.biasF then fadd y (tileF32 tm tail (p.bias + 4 * n)) else y
  let y := if p.residF then
      let at_ := p.resid + m * p.residStride + n * (if p.res16 then 2 else 4)
      fadd y (if p.res16 then f32OfF16 (BitVec.ofNat 16 (tileNat tm tail at_ 2)) else tileF32 tm tail at_)
    else y
  (y, c)

/-- dterm (R420). -/
def dterm (idx : Nat) (val : W32) (f16 : Bool) : W64 :=
  let z : W64 := BitVec.ofNat 64 (idx * 0xD6E8FEB86659FD93 + b2n f16 * 2 ^ 32 + val.toNat)
  let z := z ^^^ (z >>> 29)
  let z := z * 0xA5CB9243B1F7C2E5
  let z := z ^^^ (z >>> 32)
  let z := z * 0x8F3D4A6129BE07C7
  z ^^^ (z >>> 29)

/-- The running pair of R60. -/
def lseStep (s : W32 × W32) (x : W32) : W32 × W32 :=
  let (mx, sm) := s
  if x = f32NegInf then s
  else if mx = f32NegInf then (x, f32One)
  else if flt mx x then (x, fadd (fmul sm (fexp (fsub mx x))) f32One)
  else (mx, fadd sm (fexp (fsub x mx)))

/-- Two pairs merged (R60). -/
def lseMerge (a b : W32 × W32) : W32 × W32 :=
  let m := fmax a.1 b.1
  (m, if m = f32NegInf then 0 else fadd (fmul a.2 (fexp (fsub a.1 m))) (fmul b.2 (fexp (fsub b.1 m))))

/-- One round of the merge: neighbours in pairs, an odd last one unchanged (R60). -/
def lseRound : List (W32 × W32) → List (W32 × W32)
  | a :: b :: t => lseMerge a b :: lseRound t
  | l => l

/-- The merge of all chains, ⌈log2 C⌉ rounds (R60). -/
def lseMergeAll : Nat → List (W32 × W32) → W32 × W32
  | 0, l => l.headD (f32NegInf, 0)
  | k + 1, l => if l.length ≤ 1 then l.headD (f32NegInf, 0) else lseMergeAll k (lseRound l)

/-- Insert a logit by rank: larger first, then lower index (R59). -/
def candIns (e : Nat × W32) : List (Nat × W32) → List (Nat × W32)
  | [] => [e]
  | f :: t => if flt f.2 e.2 || (!flt e.2 f.2 && decide (e.1 < f.1)) then e :: f :: t else f :: candIns e t

/-- The 256 largest logits in rank order (R59). -/
def topCands (xs : List (Nat × W32)) : List (Nat × W32) := xs.foldl (fun l e => (candIns e l).take 256) []

/-- A candidate record (Table 2-5). -/
def candRecord (cs : List (Nat × W32)) (pair : W32 × W32) : List Byte :=
  leBytes 2 cs.length ++ leBytes 6 0 ++ leBytes 4 pair.1.toNat ++ leBytes 4 pair.2.toNat ++
    padTo 2048 (cs.flatMap (fun c => leBytes 4 c.2.toNat ++ leBytes 4 c.1))

/-- A write map entry (Table 2-4). -/
structure MapEntry where
  tiles : Nat
  addr : Nat
  stride : Nat
  ok : Bool
deriving DecidableEq, Repr

/-- The write map entry of chain `i`, fold `nf`, checked for `rows` rows whose last byte stands `last` after its address
(R56, R61). -/
def mapEntry (tm : Memory) (p : SceneOp) (lrows i nf rows last : Nat) : MapEntry :=
  let e := tileBytes tm (p.s * i + p.s - 1) (p.wmap + 128 * (i * p.nFolds lrows + nf)) 128
  let tiles := field e 0 64
  let addr := field e 64 4
  let stride := field e 68 4
  { tiles := tiles, addr := bits addr 0 24, stride := bits stride 0 24
    ok := decide (tiles < 2 ^ (32 * lrows)) && bits addr 24 8 == 0 && bits stride 24 8 == 0 && field e 72 56 == 0 &&
      decide (bits addr 0 24 + (rows - 1) * bits stride 0 24 + last < 2 ^ 24) &&
      (!p.emit || decide (2064 ≤ bits stride 0 24)) }

/-- A write to a tile store with its moment. -/
structure TileWrite where
  time : Nat
  tile : Nat
  addr : Nat
  data : List Byte
deriving DecidableEq, Repr

/-- What a scene does: its writes in the order in which later ones remain (R57), its detections and clamps, its digest. -/
structure SceneOut where
  writes : List TileWrite
  found : List Detection
  digest : W64
deriving DecidableEq, Repr

/-- One element computed: its column, its value after stage 5, and its detections. -/
structure Element where
  m : Nat
  n : Nat
  y : W32
  found : List Detection
deriving DecidableEq, Repr

/-- Element (m, j) of chain `i` and fold `nf`. -/
def sceneElement (tm : Memory) (p : SceneOp) (lrows nf i j m : Nat) : Element :=
  let n := 64 * (p.chains lrows * nf + i) + j
  let tail := p.s * i + p.s - 1
  let (cell, ds) : (Int × Int ⊕ W32) × List Detection :=
    if p.f16 then (.inr (f16Cell tm p nf i j m), [])
    else
      let r := intCell tm p lrows nf i j m
      (.inl (r.1, r.2.1), r.2.2)
  let (y, c) := epilogue tm p tail m n cell
  { m := m, n := n, y := y
    found := ds ++ List.replicate c { time := sceneTime nf (m / 256) 1 0 (m % 256), code := 0x22, tile := tail } }

/-- The active chains of a fold: DESIGN CHOICE (notes/assumptions/98.md), the write map entry of a chain none of whose columns is active in
a fold is neither read nor checked there. -/
def activeChains (p : SceneOp) (lrows nf : Nat) : List Nat :=
  (List.range (p.chains lrows)).filter (fun i => decide (0 < p.n - 64 * (p.chains lrows * nf + i)))

/-- A row of one chain and fold of a non-emit scene: its elements. -/
def sceneRow (tm : Memory) (p : SceneOp) (lrows nf i m : Nat) : List Element :=
  (List.range (p.columns lrows nf i)).map (fun j => sceneElement tm p lrows nf i j m)

/-- The digest of elements (R420). -/
def digestOf (n : Nat) (f16 : Bool) (es : List (Nat × Nat × W32)) : W64 :=
  es.foldl (fun d e => d + dterm (e.1 * n + e.2.1) e.2.2 f16) 0

/-- A non-emit scene of `rows` rows (R163): chain by chain, row by row, fold by fold, so that R57's later write comes later. -/
def runPlain (tm : Memory) (p : SceneOp) (lrows rows : Nat) : SceneOut :=
  let eb := if p.out16 then 2 else 4
  let f := p.nFolds lrows
  let per := (List.range (p.chains lrows)).flatMap (fun i =>
    (List.range rows).flatMap (fun m =>
      ((List.range f).filter (fun nf => (activeChains p lrows nf).contains i)).map (fun nf =>
        (i, m, nf, sceneRow tm p lrows nf i m))))
  let badMaps := (List.range f).flatMap (fun nf =>
    ((activeChains p lrows nf).filter (fun i => !(mapEntry tm p lrows i nf rows (64 * eb - 1)).ok)).map (fun i =>
      { time := sceneTime nf 0 1 0 0, code := 0x03, tile := p.s * i + p.s - 1 : Detection }))
  let conv := fun (y : W32) => if p.out16 then (f16OfF32 y).setWidth 32 else y
  { writes := per.flatMap (fun (i, m, nf, row) =>
      let e := mapEntry tm p lrows i nf rows (64 * eb - 1)
      let data := row.flatMap (fun x => leBytes eb (conv x.y).toNat)
      (setBits 512 e.tiles).map (fun t =>
        { time := sceneTime nf (m / 256) 1 0 (m % 256), tile := t, addr := e.addr + m * e.stride, data := data }))
    found := badMaps ++ per.flatMap (fun (_, _, _, row) => row.flatMap Element.found)
    digest := digestOf p.n p.out16 (per.flatMap (fun (_, _, _, row) => row.map (fun x => (x.m, x.n, conv x.y)))) }

/-- The mask bit of column j of chain `i`, fold `nf`, row `m` (R58). -/
def maskBit (tm : Memory) (p : SceneOp) (lrows i nf m j : Nat) : Bool :=
  !p.maskF || bitAt (tileNat tm (p.s * i + p.s - 1) (p.mask + m * 8 * p.nFolds lrows + 8 * nf) 8) j

/-- An emit scene of `rows` rows (2.7): candidates, log-sum-exp and one record a row. DESIGN CHOICE (notes/assumptions/98.md): a NaN
logit in a column whose mask bit is 0 is not offered, so it is not counted. -/
def runEmit (tm : Memory) (p : SceneOp) (lrows rows : Nat) : SceneOut :=
  let f := p.nFolds lrows
  let last := sceneTime f 0 0 0 0
  let e := mapEntry tm p lrows 0 (f - 1) rows 2063
  let perRow := (List.range rows).map (fun m =>
    (m, (List.range (p.chains lrows)).map (fun i =>
      (List.range f).flatMap (fun nf => (sceneRow tm p lrows nf i m).map (fun x => (i, nf, x))))))
  let offered := fun (c : List (Nat × Nat × Element)) (m : Nat) =>
    c.filter (fun (i, nf, x) => maskBit tm p lrows i nf m (x.n - 64 * (p.chains lrows * nf + i)))
  let recs := perRow.map (fun (m, chains) =>
    let un := chains.map (fun c => (offered c m).filter (fun (_, _, x) => !fIsNaN x.y))
    (m, candRecord (topCands (un.flatten.map (fun (_, _, x) => (x.n, x.y))))
      (lseMergeAll 10 (un.map (fun c => c.foldl (fun s (_, _, x) => lseStep s x.y) (f32NegInf, 0))))))
  let nans := perRow.flatMap (fun (m, chains) => chains.flatMap (fun c =>
    ((offered c m).filter (fun (_, _, x) => fIsNaN x.y)).map (fun (i, nf, _) =>
      { time := sceneTime nf (m / 256) 1 0 (m % 256), code := countedOnly, tile := p.s * i + p.s - 1 : Detection })))
  let els := perRow.flatMap (fun (_, chains) => chains.flatten.map (fun (_, _, x) => x))
  { writes := recs.flatMap (fun (m, r) => (setBits 512 e.tiles).map (fun t =>
      { time := last + m, tile := t, addr := e.addr + m * e.stride, data := r }))
    found := (if e.ok then [] else [{ time := sceneTime (f - 1) 0 1 0 0, code := 0x03, tile := p.s - 1 }]) ++
      els.flatMap Element.found ++ nans
    digest := digestOf p.n false (els.map (fun x => (x.m, x.n, x.y))) }

/-- A SCENE of `rows` rows over the tile stores `tm` (R163); a scene of no row does nothing (R160). -/
def runScene (tm : Memory) (p : SceneOp) (lrows rows : Nat) : SceneOut :=
  if rows = 0 then { writes := [], found := [], digest := 0 }
  else if p.emit then runEmit tm p lrows rows else runPlain tm p lrows rows

end Sys2Proof.Machine
end

