-- ==== Sys2Proof/Machine/VecQnt.lean ====
section
/-! DEFINITION. VEC and QNT on the tile vector units (R164 to R172, 04_quantisation.md).
QNT holds the Stage as VEC does (R109); it writes weights' group sums and tags under R128 and R129, KV pages under R131 to R134. -/
namespace Sys2Proof.Machine

/-- The operands of a VEC (Table 5-10). -/
structure VecOp where
  op : Nat
  rows : Nat
  rowLen : Nat
  stride : Nat
  a : Nat
  b : Nat
  c : Nat
  d : Nat
  imm : W32
deriving DecidableEq, Repr

/-- The fields of a VEC descriptor. -/
def vecOp (d : List Byte) : VecOp :=
  let u := fun i => field d i 4
  { op := bits (field d 0 1) 0 6, rows := bits (u 4) 0 17, rowLen := bits (u 8) 0 24, stride := bits (u 12) 0 24
    a := bits (u 16) 0 24, b := bits (u 20) 0 24, c := bits (u 24) 0 24, d := bits (u 28) 0 24
    imm := BitVec.ofNat 32 (u 32) }

/-- Bytes of a source element of A (Table 5-11). -/
def VecOp.aSize (v : VecOp) : Nat := if v.op = 0x0D then 2 else if v.op = 0x10 then 8 else 4
/-- Bytes of a destination element. -/
def VecOp.dSize (v : VecOp) : Nat := if v.op = 0x0C then 2 else 4
/-- B is read. -/
def VecOp.readsB (v : VecOp) : Bool := decide (1 ≤ v.op) && decide (v.op ≤ 6)

/-- The spans of tile store a VEC of `rows` rows reads and writes (R165, R558). -/
def VecOp.spans (v : VecOp) (rows : Nat) : List (Nat × Nat) :=
  let ext := fun size => (rows - 1) * v.stride + v.rowLen * size
  (v.a, ext v.aSize) :: (if v.op = 0x0E then (v.d, 4 * rows) else (v.d, ext v.dSize)) ::
    ((if v.readsB then [(v.b, ext 4)] else []) ++ (if v.op = 4 then [(v.c, ext 4)] else []))

/-- One F32 operation of Table 5-11. -/
def vecF32 (op : Nat) (a b c imm : W32) : W32 :=
  if op = 0x01 then fadd a b
  else if op = 0x02 then fsub a b
  else if op = 0x03 then fmul a b
  else if op = 0x04 then ffma a b c
  else if op = 0x05 then fmax a b
  else if op = 0x06 then fmin a b
  else if op = 0x07 then fexp a
  else if op = 0x08 then fmul a imm
  else if op = 0x09 then fadd a imm
  else if op = 0x0A then frecip a
  else if op = 0x0B then frsqrt a
  else fsilu a

/-- One element (r, e) in one tile: every read precedes the write (R165, R166). -/
def vecElem (v : VecOp) (t r e : Nat) (tm : Memory) : Memory :=
  let at_ := fun base size => base + r * v.stride + e * size
  let out := memPuts tm (tileKey t (at_ v.d v.dSize))
  if v.op = 0x0C then out (leBytes 2 (f16OfF32 (tileF32 tm t (at_ v.a 4))).toNat)
  else if v.op = 0x0D then out (leBytes 4 (f32OfF16 (BitVec.ofNat 16 (tileNat tm t (at_ v.a 2) 2))).toNat)
  else if v.op = 0x10 then out (leBytes 4 (rescale (sext 64 (tileNat tm t (at_ v.a 8) 8)) 0x800000 0).toNat)
  else out (leBytes 4 (vecF32 v.op (tileF32 tm t (at_ v.a 4)) (if v.readsB then tileF32 tm t (at_ v.b 4) else 0)
    (if v.op = 4 then tileF32 tm t (at_ v.c 4) else 0) v.imm).toNat)

/-- One row in one tile. -/
def vecRow (v : VecOp) (t r : Nat) (tm : Memory) : Memory :=
  if v.op = 0x0E then
    let s := (List.range v.rowLen).foldl (fun acc e => fadd acc (tileF32 tm t (v.a + r * v.stride + e * 4))) 0
    memPuts tm (tileKey t (v.d + 4 * r)) (leBytes 4 s.toNat)
  else (List.range v.rowLen).foldl (fun m e => vecElem v t r e m) tm

/-- A VEC of `rows` rows in every lit tile (R165). -/
def runVec (v : VecOp) (tiles rows : Nat) (tm : Memory) : Memory :=
  (List.range tiles).foldl (fun m t => (List.range rows).foldl (fun m r => vecRow v t r m) m) tm

/-- The operands of a QNT (Tables 5-12 and 5-13). -/
structure QntOp where
  stoch : Bool
  zp : Bool
  paged : Bool
  optStep : Bool
  n8 : Bool
  src16 : Bool
  gcode : Nat
  bud : Nat
  weight : Bool
  slot : Nat
  seed : Nat
  tag : Nat
  k : Nat
  m : Nat
  src : Nat
  srcStride : Nat
  dst : Nat
  dstStride : Nat
  scale : Nat
  side : Nat
  stat : Nat
  ktot : Nat
  base : Nat
deriving DecidableEq, Repr

/-- The fields of a QNT cue and its descriptor. -/
def qntOp (w : Nat) (d : List Byte) : QntOp :=
  let u := fun i => field d i 4
  let b0 := field d 0 1
  { stoch := bitAt w 25, zp := bitAt w 26, paged := bitAt w 27, optStep := bitAt w 28
    n8 := bitAt b0 0, src16 := bitAt b0 1, gcode := bits b0 2 2, bud := bits b0 4 2, weight := bitAt b0 6
    slot := field d 1 1, seed := bits (field d 2 1) 0 2, tag := field d 4 2
    k := bits (u 8) 0 21, m := bits (u 12) 0 17, src := bits (u 16) 0 24, srcStride := u 20
    dst := bits (u 24) 0 24, dstStride := u 28, scale := bits (u 32) 0 24, side := bits (u 36) 0 24
    stat := bits (u 40) 0 24, ktot := bits (u 44) 0 21, base := bits (u 48) 0 24 }

/-- The group size of a QNT. -/
def QntOp.g (q : QntOp) : Nat := groupSize q.gcode
/-- Its groups are V groups: each is one page column, along the positions of the page (R132, R416, notes/assumptions/110.md). -/
def QntOp.along (q : QntOp) : Bool := q.paged && q.g == 64 && Config.alongPositions q.tag q.slot q.src
/-- The bytes of a converted group. -/
def QntOp.groupBytes (q : QntOp) : Nat := if q.n8 then q.g else q.g / 2
/-- The bytes of a source element. -/
def QntOp.srcSize (q : QntOp) : Nat := if q.src16 then 2 else 4

/-- The spans a QNT of `rows` rows fixes without its placement words (R558). -/
def QntOp.spans (q : QntOp) (rows : Nat) : List (Nat × Nat) :=
  [(q.base, 8), (q.src, (rows - 1) * q.srcStride + q.k * q.srcSize),
   (q.dst, (rows - 1) * q.dstStride + q.k / q.g * q.groupBytes)]

/-- ROW0 and G0 of a tile's placement word. -/
def placement (tm : Memory) (q : QntOp) (t : Nat) : Nat × Nat := (tileNat tm t q.base 4, tileNat tm t (q.base + 4) 4)

/-- The canonical group index of row r, local group g (R171). -/
def QntOp.gi (q : QntOp) (pl : Nat × Nat) (r g : Nat) : Nat := (pl.1 + r) * (q.ktot / q.g) + pl.2 + g

/-- The spans that follow from a placement word: statistics, scale blocks and side lists of the first and last row. -/
def QntOp.placedSpans (q : QntOp) (pl : Nat × Nat) (rows : Nat) : List (Nat × Nat) :=
  let lastGi := q.gi pl (rows - 1) (q.k / q.g - 1) + 1
  [(q.stat, 16 * lastGi), (q.scale, 4 * lastGi), (q.side, 4 * budget q.bud * lastGi)]

/-- A manifest row as QNT needs it: stream ID, RNG counter, position (R171). -/
structure RowInfo where
  stream : Nat
  rng : Nat
  pos : Nat
deriving DecidableEq, Repr

/-- What a QNT reads beside its operands: headroom and mode of its slot, seed, STG_OPT_STEP, the step's SEQ, and the manifest
rows where its rows are bound (R171). -/
structure QntEnv where
  h : Nat
  maxabs : Bool
  seed : W64
  optStep : Nat
  seq : Nat
  rows : Option (List RowInfo)
deriving DecidableEq, Repr

/-- What one group of a QNT gives (R172; the draws of bound rows by R416: the position and the column of each element): its writes, or none where its record fails the check of R112. -/
def qntGroup (tm : Memory) (q : QntOp) (env : QntEnv) (t r gl : Nat) : Option (List TileWrite × Conv) :=
  let pl := placement tm q t
  let g := q.g
  let gi := q.gi pl r gl
  let rec_ := tileBytes tm t (q.stat + 16 * gi) 16
  if field rec_ 8 1 ≠ gi % 256 ∨ field rec_ 9 1 ≠ env.seq % 256 then none
  else
    let zp := q.zp && !env.maxabs
    let (ee, z) := chooseEZ (BitVec.ofNat 32 (field rec_ 0 4)) (BitVec.ofNat 32 (field rec_ 4 4)) q.n8 zp
      (if env.maxabs then 0 else env.h)
    let elem := fun k => let at_ := q.src + r * q.srcStride + (gl * g + k) * q.srcSize
      if q.src16 then f32OfF16 (BitVec.ofNat 16 (tileNat tm t at_ 2)) else tileF32 tm t at_
    let col := fun k => if q.along then pl.2 + gl else pl.2 * g + gl * g + k
    let posOf := fun (i : RowInfo) k => if q.along then i.pos / 64 * 64 + k else i.pos
    let draw := fun k =>
      if !q.stoch then none
      else match env.rows with
        | none => some (nzr env.seed 0 env.optStep q.tag ((pl.1 + r) * q.ktot + pl.2 * g + gl * g + k))
        | some rows =>
          let i := rows.getD (pl.1 + r) { stream := 0, rng := 0, pos := 0 }
          let idx := posOf i k % 4096 * q.ktot + col k
          some (if q.optStep then nzr env.seed 0 env.optStep q.tag idx else nzr env.seed i.stream i.rng q.tag idx)
    let cv := convertGroup q.n8 env.maxabs (budget q.bud) ee z draw ((List.range g).map elem)
    let tag := if q.paged then
        (match env.rows with
         | some rows => (rows.getD (pl.1 + r) { stream := 0, rng := 0, pos := 0 }).pos / 64
         | none => 0)
      else gi
    let blk := trunc 8 ee + tag % 256 * 256 + (if q.weight then trunc 16 cv.sum * 65536 else trunc 8 z * 65536)
    let time := 1 + r * 65536 + gl
    let w := fun a d => { time := time, tile := t, addr := a, data := d : TileWrite }
    some ([w (q.dst + r * q.dstStride + gl * q.groupBytes) (packCodes q.n8 cv.codes), w (q.scale + 4 * gi) (leBytes 4 blk),
      w (q.side + 4 * budget q.bud * gi) (cv.side.flatMap (leBytes 4))], cv)

/-- What a QNT does: writes, detections, and the counts it adds to its slot (R118). -/
structure QntOut where
  writes : List TileWrite
  found : List Detection
  clip : Nat
  count : Nat
  invalid : Nat
  escOver : Nat
  maxabs : W32
deriving DecidableEq, Repr

/-- A QNT of `rows` rows in every lit tile (R172). DESIGN CHOICE (notes/assumptions/98.md): it goes on checking records after its first
mismatch, so that later ones are further detections (R63). -/
def runQnt (tm : Memory) (q : QntOp) (env : QntEnv) (tiles rows : Nat) : QntOut :=
  let gs := (List.range tiles).flatMap (fun t => (List.range rows).flatMap (fun r =>
    (List.range (q.k / q.g)).map (fun gl => (t, r, gl, qntGroup tm q env t r gl))))
  let ok := gs.filterMap (fun x => x.2.2.2)
  { writes := ok.flatMap Prod.fst
    found := (gs.filter (fun x => x.2.2.2.isNone)).map (fun x =>
      { time := 1 + x.2.1 * 65536 + x.2.2.1, code := 0x20, tile := x.1 })
    clip := (ok.map (fun x => x.2.clip)).sum
    count := ok.length * q.g
    invalid := (ok.map (fun x => x.2.invalid)).sum
    escOver := (ok.filter (fun x => x.2.escOver)).length
    maxabs := (ok.map (fun x => x.2.maxabs)).foldl fmax 0 }

end Sys2Proof.Machine
end

