-- ==== Sys2Proof/Machine/CueFmt.lean ====
section
/-! DEFINITION. The cue encodings (Tables 5-1 to 5-22): classes, reserved bits, descriptors, and the bounds that the cue and
its descriptor fix (R148, R154, R159, R162, R170, R173, R174, R176, R179, R181, R185, R187, R189, R557, R558).
The fields of SCENE are those of R161. -/
namespace Sys2Proof.Machine

/-- The cue classes (Table 5-2). -/
inductive CueClass where
  | nop | scene | vec | qnt | move | wait | red | sync | grid | hint | digest | loop | illegal
deriving DecidableEq, Repr

/-- OPCODE decoded (R147). -/
def cueClass (w : Nat) : CueClass :=
  let o := bits w 0 8
  if o = 0x00 then .nop else if o = 0x10 then .scene else if o = 0x11 then .vec else if o = 0x12 then .qnt
  else if o = 0x20 then .move else if o = 0x21 then .wait else if o = 0x30 then .red else if o = 0x31 then .sync
  else if o = 0x40 then .grid else if o = 0x50 then .hint else if o = 0x51 then .digest else if o = 0x60 then .loop
  else .illegal

/-- PHASE. -/
def cuePhase (w : Nat) : Nat := bits w 8 8
/-- DRAW. -/
def cueDraw (w : Nat) : Nat := bits w 16 7
/-- XSEL. -/
def cueXsel (w : Nat) : Nat := bits w 23 2
/-- CTR of a cue that posts a token, or of a WAIT. -/
def cueCtr (w : Nat) : Nat := bits w 32 7
/-- DESC. -/
def cueDesc (w : Nat) : Nat := bits w 40 16
/-- MSEL of SCENE, VEC, QNT and RED. -/
def cueMsel (w : Nat) : Nat := bits w 56 4
/-- QUEUE of a MOVE. -/
def moveQueue (w : Nat) : Nat := bits w 32 6
/-- MODE of a MOVE. -/
def moveMode (w : Nat) : Nat := bits w 56 4
/-- FUNC of a GRID or SYNC. -/
def cueFunc (w : Nat) : Nat := bits w 40 4
/-- PROG of a GRID. -/
def gridProg (w : Nat) : Nat := bits w 44 8
/-- REGION of a GRID. -/
def gridRegion (w : Nat) : Nat := bits w 52 4
/-- PSET of a GRID. -/
def gridPset (w : Nat) : Nat := bits w 56 12
/-- MSEL of a GRID. -/
def gridMsel (w : Nat) : Nat := bits w 68 4
/-- CONFIG of a GRID. -/
def gridConfig (w : Nat) : Nat := bits w 72 8
/-- GROUP of a SYNC. -/
def syncGroup (w : Nat) : Nat := bits w 44 12

/-- The class carries a draw (Table 5-2). -/
def CueClass.hasDraw : CueClass → Bool
  | .scene | .vec | .qnt | .move | .red | .grid => true
  | _ => false

/-- The class's indexed field (Table 5-2): low bit and width. -/
def CueClass.indexed : CueClass → Option (Nat × Nat)
  | .scene | .vec | .qnt | .move | .red => some (40, 16)
  | .grid => some (56, 12)
  | .digest => some (32, 32)
  | _ => none

/-- Descriptor units of a class. -/
def CueClass.units : CueClass → Nat
  | .scene | .move | .red => 2
  | .vec | .qnt => 1
  | _ => 0

/-- The defined fields of a class as (low bit, width): every other bit of the cue is reserved (R14). -/
def cueFields (w : Nat) : List (Nat × Nat) :=
  (0, 16) ::
  match cueClass w with
  | .scene => [(16, 15), (32, 7), (40, 20)]
  | .vec => [(16, 9), (32, 7), (40, 20)]
  | .qnt => [(16, 13), (32, 7), (40, 20)]
  | .move => [(16, 9), (32, 6), (40, 20)]
  | .wait => [(32, 7), (40, 7)]
  | .red => [(16, 10), (32, 7), (40, 20)]
  | .sync =>
    (40, 4) :: (if cueFunc w = 0 then [(25, 1)] else if cueFunc w = 2 then [(32, 7), (44, 12)]
      else if cueFunc w = 3 then [(44, 12)] else if cueFunc w = 4 then [(56, 4)] else [])
  | .grid => [(16, 9), (32, 7), (40, 40)]
  | .hint => [(32, 3), (36, 7), (44, 16)]
  | .digest => [(23, 2), (32, 36)]
  | .loop => [(32, 28), (64, 16)]
  | .nop => []
  | .illegal => [(16, 112)]

/-- A set of fields as a mask. -/
def fieldMask (fs : List (Nat × Nat)) : Nat := fs.foldl (fun m f => m ||| ((2 ^ f.2 - 1) <<< f.1)) 0

/-- A bit outside the given fields is set. -/
def outside (v : Nat) (fs : List (Nat × Nat)) : Bool := v ||| fieldMask fs != fieldMask fs

/-- A reserved bit of the cue is set (R14, R148). -/
def cueReservedBad (w : Nat) : Bool := outside (w % 2 ^ 128) (cueFields w)

/-- Fields of a descriptor given in bytes: (byte, low bit, width). -/
def descFields (w : Nat) (d : List Byte) : List (Nat × Nat) :=
  let f := fun (b lo n : Nat) => (8 * b + lo, n)
  match cueClass w with
  | .scene => [f 0 0 6, f 1 0 7, f 2 0 5, f 4 0 17, f 8 0 21, f 12 0 25, f 16 0 24, f 20 0 24, f 24 0 24, f 28 0 24, f 32 0 32,
      f 36 0 24, f 40 0 24, f 44 0 24, f 48 0 24, f 52 0 24, f 56 0 32, f 60 0 24, f 64 0 24, f 68 0 24, f 72 0 16]
  | .vec => [f 0 0 6, f 4 0 17, f 8 0 24, f 12 0 24, f 16 0 24, f 20 0 24, f 24 0 24, f 28 0 24, f 32 0 32]
  | .qnt => [f 0 0 7, f 1 0 8, f 2 0 2, f 4 0 16, f 8 0 21, f 12 0 17, f 16 0 24, f 20 0 32, f 24 0 24, f 28 0 32, f 32 0 24,
      f 36 0 24, f 40 0 24, f 44 0 21, f 48 0 24]
  | .move =>
    let addr := if moveMode w = 4 then [f 64 0 13, f 66 0 6]
      else if moveMode w = 2 ∨ moveMode w = 3 then [f 64 0 24, f 64 38 1] else [f 64 0 39]
    addr ++ [f 0 0 512, f 72 0 24, f 76 0 24, f 80 0 17, f 80 20 4, f 84 0 32, f 88 0 24, f 92 0 24, f 96 0 16]
  | .red => [f 0 0 512, f 64 0 4, f 66 0 12, f 68 0 8, f 69 0 8, f 70 0 16, f 72 0 24, f 76 0 24, f 80 0 24, f 84 0 17,
      f 88 0 24, f 92 0 24, f 96 0 4]
  | _ => [(0, 8 * d.length)]

/-- A reserved bit of the descriptor is set (R148, R557). -/
def descReservedBad (w : Nat) (d : List Byte) : Bool := outside (leNat d) (descFields w d)

/-- TC64 to TC119. -/
def cueCounterOk (c : Nat) : Bool := decide (64 ≤ c) && decide (c ≤ 119)

/-- MSEL and a static count: 1 to 65,536 where the static count is used, otherwise 0 (R148, R159). -/
def staticRowsOk (msel m : Nat) : Bool :=
  decide (msel ≤ 2) && (if msel = 0 then decide (1 ≤ m) && decide (m ≤ 65536) else m == 0)

/-- SCENE raises no 0x03 from its static fields (R49, R162). -/
def sceneStaticOk (lrows w : Nat) (d : List Byte) : Bool :=
  let p := sceneOp w d
  let base := kPerTile p.wfmt p.afmt != 0 && decide (p.kspan ≤ 5)
  base && cueCounterOk (cueCtr w) && staticRowsOk (cueMsel w) p.m &&
    (if p.f16 then p.gsize == 0 && p.wbud == 0 && p.abud == 0 && !p.zp else decide (p.gsize ≤ 2)) &&
    (if p.wpaged || p.apaged then !(p.paxis == 1 && p.gsize == 2) else p.paxis == 0 && p.pspan == 0) &&
    (!p.maskF || p.emit) &&
    p.k != 0 && p.k % p.g == 0 && (if p.f16 then decide (p.k ≤ 1048576) else decide (p.k / p.g ≤ 65536)) &&
    decide (1 ≤ p.n) && decide (p.n ≤ 16777216) && decide (p.nFolds lrows ≤ 16384) && decide (p.kFolds ≤ 4096) &&
    decide (p.kFolds * 128 ≤ p.aStride) &&
    (cueMsel w != 0 || spansOk (p.spans lrows p.m))

/-- VEC raises no 0x03 from its static fields (R164 to R166). -/
def vecStaticOk (w : Nat) (d : List Byte) : Bool :=
  let v := vecOp d
  cueCounterOk (cueCtr w) && decide (1 ≤ v.op) && decide (v.op ≤ 0x10) && staticRowsOk (cueMsel w) v.rows &&
    decide (1 ≤ v.rowLen) && decide (v.rowLen ≤ 4194304) && (cueMsel w != 0 || spansOk (v.spans v.rows))

/-- QNT raises no 0x03 from its static fields (R170). -/
def qntStaticOk (w : Nat) (d : List Byte) : Bool :=
  let q := qntOp w d
  cueCounterOk (cueCtr w) && staticRowsOk (cueMsel w) q.m && decide (q.gcode ≤ 2) &&
    q.k != 0 && q.ktot != 0 && q.k % q.g == 0 && q.ktot % q.g == 0 && decide (q.k ≤ q.ktot) &&
    !(q.zp && q.weight) && (cueMsel w != 0 || spansOk (q.spans q.m))

/-- A MOVE descriptor (Table 5-15). -/
structure MoveOp where
  tiles : Nat
  addr : Nat
  ta : Nat
  len : Nat
  rows : Nat
  msel : Nat
  sstride : Nat
  dstride : Nat
  layer : Nat
  head : Nat
  maxPages : Nat
deriving DecidableEq, Repr

/-- The fields of a MOVE descriptor. -/
def moveOp (d : List Byte) : MoveOp :=
  { tiles := field d 0 64, addr := field d 64 8, ta := bits (field d 72 4) 0 24, len := bits (field d 76 4) 0 24
    rows := bits (field d 80 4) 0 17, msel := bits (field d 80 4) 20 4, sstride := field d 84 4
    dstride := bits (field d 88 4) 0 24, layer := bits (field d 92 4) 0 12, head := bits (field d 92 4) 12 12
    maxPages := field d 96 2 }

/-- The mode suits the queue's direction (R173). -/
def moveModeOk (mode q : Nat) : Bool :=
  if mode = 0 then decide (q ≤ 47)
  else if mode = 1 ∨ mode = 2 then decide (q ≤ 31)
  else if mode = 3 then decide (32 ≤ q) && decide (q ≤ 47)
  else if mode = 4 then decide (56 ≤ q)
  else if mode = 5 then decide (48 ≤ q) && decide (q ≤ 55)
  else false

/-- The MOVE reads tile store: out of tile store to HBM or to the fabric (R174). -/
def moveReadsTile (w : Nat) : Bool := decide (32 ≤ moveQueue w) && !(moveMode w == 5)

/-- MOVE raises no 0x03 from its static fields, the HBM range and the KV geometry apart (R173, R174, R205). -/
def moveStaticOk (tiles w : Nat) (d : List Byte) : Bool :=
  let m := moveOp d
  moveModeOk (moveMode w) (moveQueue w) && m.len % 64 == 0 && decide (64 ≤ m.len) && decide (m.len ≤ 1048576) &&
    decide (m.msel ≤ 2) && (m.msel == 0 || m.rows == 0) && decide (m.tiles < 2 ^ tiles) &&
    (!moveReadsTile w || popcount 512 m.tiles == 1) &&
    (moveMode w != 4 || (decide (48 ≤ bits m.addr 16 6) && decide (bits m.addr 16 6 ≤ 55))) &&
    (moveMode w == 2 || moveMode w == 3 || m.msel != 0 || m.rows == 0 ||
      decide (m.ta + (m.rows - 1) * m.dstride + m.len ≤ 2 ^ 24))

/-- A RED descriptor (Table 5-17). -/
structure RedOp where
  tiles : Nat
  op : Nat
  group : Nat
  txq : Nat
  rxq : Nat
  first : Nat
  last : Nat
  src : Nat
  dst : Nat
  elems : Nat
  rows : Nat
  scale : Nat
  side : Nat
  gcode : Nat
  bud : Nat
deriving DecidableEq, Repr

/-- The fields of a RED descriptor. -/
def redOp (d : List Byte) : RedOp :=
  { tiles := field d 0 64, op := bits (field d 64 1) 0 4, group := bits (field d 66 2) 0 12, txq := field d 68 1
    rxq := field d 69 1, first := field d 70 1, last := field d 71 1, src := bits (field d 72 4) 0 24
    dst := bits (field d 76 4) 0 24, elems := bits (field d 80 4) 0 24, rows := bits (field d 84 4) 0 17
    scale := bits (field d 88 4) 0 24, side := bits (field d 92 4) 0 24
    gcode := bits (field d 96 1) 0 2, bud := bits (field d 96 1) 2 2 }

/-- Bytes of an element of a RED operation, source and result (Table 5-17). -/
def redElemBytes (op : Nat) : Nat × Nat :=
  if op = 0 then (8, 8) else if op = 1 then (1, 8) else if op = 2 ∨ op = 3 then (4, 4) else (1, 1)

/-- The spans of tile store a RED of `rows` rows reads and writes, for a group of `n` devices. -/
def RedOp.spans (r : RedOp) (rows n : Nat) : List (Nat × Nat) :=
  let e := rows * r.elems
  let (sb, db) := redElemBytes r.op
  if r.op = 4 then [] else
    [(r.src, e * sb), (r.dst, e * db * (if r.op = 5 then n else 1))] ++
      (if r.op = 1 then [(r.scale, 4 * (e / groupSize r.gcode)), (r.side, 4 * budget r.bud * (e / groupSize r.gcode))] else [])

/-- RED raises no 0x03 from its static fields (R176). -/
def redStaticOk (tiles members w : Nat) (d : List Byte) : Bool :=
  let r := redOp d
  cueCounterOk (cueCtr w) && decide (cueMsel w ≤ 2) && (cueMsel w == 0 || r.rows == 0) && decide (r.op ≤ 6) &&
    decide (56 ≤ r.txq) && decide (r.txq ≤ 63) && decide (48 ≤ r.rxq) && decide (r.rxq ≤ 55) &&
    decide (r.tiles < 2 ^ tiles) && (r.op != 4 || (r.tiles == 0 && decide (r.first ≤ r.last))) &&
    (!(r.op == 5 || r.op == 6) || r.elems % 64 == 0) && (r.op != 1 || decide (r.gcode ≤ 2)) &&
    (cueMsel w != 0 || spansOk (r.spans r.rows members))

/-- GRID raises no 0x03 from its static fields, the loaded image programs apart (R179). -/
def gridStaticOk (w : Nat) : Bool :=
  cueCounterOk (cueCtr w) &&
    decide (gridMsel w ≤ 2) &&
    (if cueFunc w = 0 then
      gridConfig w == 0 &&
        ((decide (1 ≤ gridProg w) && decide (gridProg w ≤ 4)) || decide (0x40 ≤ gridProg w))
    else if cueFunc w = 1 then gridProg w == 0
    else false)

/-- HINT raises no 0x03 (R185). -/
def hintStaticOk (w : Nat) : Bool := bits w 32 3 != 6 && decide (bits w 36 7 ≤ 100)

/-- DIGEST raises no 0x03 (R187). -/
def digestStaticOk (w : Nat) : Bool := decide (bits w 64 4 ≤ 1)

/-- LOOP's COUNT and BODY raise no 0x03 (R189). -/
def loopStaticOk (w : Nat) : Bool := bits w 32 16 != 0 && bits w 48 12 != 0

/-- A cue that a loop body may not contain (R190): SYNC STEP_END, INIT_END or CURTAIN. -/
def endsSection (w : Nat) : Bool :=
  cueClass w == .sync && (cueFunc w == 0 || cueFunc w == 1 || cueFunc w == 3)

/-- The cue reads the manifest (R158): by MSEL, by a MOVE mode, or as a QNT whose rows its SLOTS and ROW_COUNT bind (R171:
notes/assumptions/78.md). -/
def readsManifest (w : Nat) (d : List Byte) : Bool :=
  match cueClass w with
  | .scene | .vec | .red => cueMsel w == 1 || cueMsel w == 2
  | .qnt => cueMsel w == 1 || cueMsel w == 2 || bitAt w 27 || !bitAt w 28
  | .move => moveMode w == 1 || moveMode w == 2 || moveMode w == 3 || (moveOp d).msel == 1 || (moveOp d).msel == 2
  | .grid => cueFunc w == 0 && (gridMsel w == 1 || gridMsel w == 2)
  | _ => false

/-- The ledger lists a cue appends to, with the draw it appends (R151, R152). -/
def cueLists (w : Nat) (d : List Byte) : List (Nat × Nat) :=
  match cueClass w with
  | .scene | .vec | .qnt | .grid => [(cueCtr w, cueDraw w)]
  | .move => [(moveQueue w, cueDraw w)]
  | .red => [(cueCtr w, cueDraw w), ((redOp d).txq, 0), ((redOp d).rxq, 0)]
  | .sync => if cueFunc w = 2 then [(cueCtr w, 0)] else []
  | _ => []

end Sys2Proof.Machine
end

