-- ==== Sys2Proof/Machine/Regs.lean ====
section
/-! DEFINITION. The BAR0 register map: the offset of every register, its reset value and the bits of each access type (R18),
the blocks, alias periods and boundaries of Table 17-1 (R505, R506). -/
namespace Sys2Proof.Machine

/-! ### Offsets (the register tables of each chapter) -/

/-- TOP_IDENT (R5). -/
def Reg.topIdent : Nat := 0x0
/-- TOP_FW (R505). -/
def Reg.topFw : Nat := 0x4
/-- TOP_RESET (R505). -/
def Reg.topReset : Nat := 0x8
/-- TOP_SCRATCH (R505). -/
def Reg.topScratch : Nat := 0x10
/-- CLB_ENABLE (R523). -/
def Reg.clbEnable (n : Nat) : Nat := 0x10000 + 4 * n
/-- CLB_PENDING (R523). -/
def Reg.clbPending (n : Nat) : Nat := 0x10040 + 4 * n
/-- CLB_RAISE (R523). -/
def Reg.clbRaise (n : Nat) : Nat := 0x10080 + 4 * n
/-- CLB_MASK (R523). -/
def Reg.clbMask (m n : Nat) : Nat := 0x10100 + 64 * m + 4 * n
/-- CLB_NEXT (R523). -/
def Reg.clbNext (n : Nat) : Nat := 0x10400 + 4 * n
/-- CLB_ROUTE (R523). -/
def Reg.clbRoute (n : Nat) : Nat := 0x10800 + 4 * n
/-- CLB_COUNT (R523). -/
def Reg.clbCount (n : Nat) : Nat := 0x11000 + 4 * n
/-- CFG_CTRL (R516). -/
def Reg.cfgCtrl : Nat := 0x20000
/-- CFG_STATUS (R516). -/
def Reg.cfgStatus : Nat := 0x20004
/-- CFG_REFERENCE (R516). -/
def Reg.cfgReference : Nat := 0x20008
/-- CFG_REF_ACTIVE (R516). -/
def Reg.cfgRefActive : Nat := 0x2000C
/-- CFG_LAST_CRC (R516). -/
def Reg.cfgLastCrc : Nat := 0x20010
/-- CFG_COMMIT (R516). -/
def Reg.cfgCommit : Nat := 0x20014
/-- CFG_PASSES (R516). -/
def Reg.cfgPasses : Nat := 0x20018
/-- CFG_MISMATCHES (R516). -/
def Reg.cfgMismatches : Nat := 0x2001C
/-- CFG_PASS_TIME (R516). -/
def Reg.cfgPassTime : Nat := 0x20020
/-- CFG_PEND (R516). -/
def Reg.cfgPend : Nat := 0x20024
/-- CFG_PAIR_INFO (R516). -/
def Reg.cfgPairInfo : Nat := 0x20030
/-- CFG_PAIR_FAILS (R516). -/
def Reg.cfgPairFails : Nat := 0x20034
/-- CFG_BAD_INFO (R516). -/
def Reg.cfgBadInfo : Nat := 0x20038
/-- CFG_BAD_COUNT (R516). -/
def Reg.cfgBadCount : Nat := 0x2003C
/-- SNP_COMMAND (R518). -/
def Reg.snpCommand : Nat := 0x30000
/-- SNP_STATUS (R518). -/
def Reg.snpStatus : Nat := 0x30004
/-- SNP_SEQ (R518). -/
def Reg.snpSeq : Nat := 0x30008
/-- SNP_TIME_NS (R518). -/
def Reg.snpTimeNs : Nat := 0x3000C
/-- SNP_PERIOD (R518). -/
def Reg.snpPeriod : Nat := 0x30010
/-- HIF_STATUS (R354). -/
def Reg.hifStatus : Nat := 0x100000
/-- HIF_LINK (R354). -/
def Reg.hifLink : Nat := 0x100004
/-- HIF_VERSION (R354). -/
def Reg.hifVersion : Nat := 0x100008
/-- HIF_CURTAIN (R354). -/
def Reg.hifCurtain : Nat := 0x100010
/-- HIF_BAR2_WIN_LO and _HI at + 4 (R354). -/
def Reg.hifBar2Win : Nat := 0x100020
/-- HIF_QCFG (R354). -/
def Reg.hifQcfg (n : Nat) : Nat := 0x101000 + 64 * n
/-- HIF_QSTATUS (R354). -/
def Reg.hifQstatus (n : Nat) : Nat := 0x101004 + 64 * n
/-- HIF_QSQ_BASE_LO and _HI at + 4 (R354). -/
def Reg.hifQsqBase (n : Nat) : Nat := 0x101008 + 64 * n
/-- HIF_QCQ_BASE_LO and _HI at + 4 (R354). -/
def Reg.hifQcqBase (n : Nat) : Nat := 0x101010 + 64 * n
/-- HIF_QSIZE (R354). -/
def Reg.hifQsize (n : Nat) : Nat := 0x101018 + 64 * n
/-- HIF_QIRQ (R354). -/
def Reg.hifQirq (n : Nat) : Nat := 0x10101C + 64 * n
/-- HIF_QPTR (R354). -/
def Reg.hifQptr (n : Nat) : Nat := 0x101020 + 64 * n
/-- CST_CTRL (R306). -/
def Reg.cstCtrl : Nat := 0x200000
/-- CST_STATUS (R306). -/
def Reg.cstStatus : Nat := 0x200004
/-- CST_POOL (R306). -/
def Reg.cstPool : Nat := 0x200008
/-- CST_FREE (R306). -/
def Reg.cstFree : Nat := 0x20000C
/-- CST_ACTIVE (R306). -/
def Reg.cstActive : Nat := 0x200010
/-- CST_CKPT_SEQ (R306). -/
def Reg.cstCkptSeq : Nat := 0x200014
/-- CST_WINGS_BASE_LO and _HI at + 4 (R306). -/
def Reg.cstWingsBase : Nat := 0x200018
/-- CST_WINGS_FRAMES (R306). -/
def Reg.cstWingsFrames : Nat := 0x200020
/-- CST_WINGS_USED (R306). -/
def Reg.cstWingsUsed : Nat := 0x200024
/-- CST_CLASS (R306). -/
def Reg.cstClass (n : Nat) : Nat := 0x200030 + 4 * n
/-- CST_MISS (R306). -/
def Reg.cstMiss (n : Nat) : Nat := 0x200040 + 4 * n
/-- CST_CQ_STALLS (R306). -/
def Reg.cstCqStalls : Nat := 0x200050
/-- CST_COW_COUNT (R306). -/
def Reg.cstCowCount : Nat := 0x200054
/-- CST_SPILLS (R306). -/
def Reg.cstSpills : Nat := 0x200058
/-- CST_RETURNS (R306). -/
def Reg.cstReturns : Nat := 0x20005C
/-- CST_REPLAYS (R306). -/
def Reg.cstReplays : Nat := 0x200060
/-- STG_CTRL (R70). -/
def Reg.stgCtrl : Nat := 0x400000
/-- STG_STATUS (R71). -/
def Reg.stgStatus : Nat := 0x400004
/-- STG_FAULT_CODE (R72). -/
def Reg.stgFaultCode : Nat := 0x400010
/-- STG_FAULT_TILE (R72). -/
def Reg.stgFaultTile : Nat := 0x400014
/-- STG_SAT_COUNT_LO and _HI at + 4 (R73). -/
def Reg.stgSatCount : Nat := 0x400020
/-- STG_RAMP_PAUSES (R73). -/
def Reg.stgRampPauses : Nat := 0x400028
/-- STG_LIT_MAP (R73). -/
def Reg.stgLitMap (n : Nat) : Nat := 0x400040 + 4 * n
/-- STG_PC (R199). -/
def Reg.stgPc : Nat := 0x400100
/-- STG_ENTRY_INIT (R199). -/
def Reg.stgEntryInit : Nat := 0x400104
/-- STG_ENTRY_STEP (R199). -/
def Reg.stgEntryStep : Nat := 0x400108
/-- STG_PSTATUS (R199). -/
def Reg.stgPstatus : Nat := 0x40010C
/-- STG_WAIT_LIMIT (R199). -/
def Reg.stgWaitLimit : Nat := 0x400110
/-- STG_STEP_SEQ (R199). -/
def Reg.stgStepSeq : Nat := 0x400114
/-- STG_OPT_STEP (R199). -/
def Reg.stgOptStep : Nat := 0x400118
/-- STG_LEDGER (R199). -/
def Reg.stgLedger : Nat := 0x40011C
/-- STG_FAULT_PC (R199). -/
def Reg.stgFaultPc : Nat := 0x400120
/-- STG_CTR (R200). -/
def Reg.stgCtr (n : Nat) : Nat := 0x400200 + 4 * n
/-- STG_SEED_LO and _HI at + 4 (R201). -/
def Reg.stgSeed (n : Nat) : Nat := 0x400400 + 8 * n
/-- STG_IMG_BASE_LO and _HI at + 4 (R217). -/
def Reg.stgImgBase : Nat := 0x400500
/-- STG_IMG_TWIN_LO and _HI at + 4 (R217). -/
def Reg.stgImgTwin : Nat := 0x400508
/-- STG_IMG_INFO (R217). -/
def Reg.stgImgInfo : Nat := 0x400510
/-- STG_IMG_LOAD (R217). -/
def Reg.stgImgLoad : Nat := 0x400514
/-- STG_DET_CTRL (R430). -/
def Reg.stgDetCtrl : Nat := 0x400600
/-- STG_DET_STATUS (R430). -/
def Reg.stgDetStatus : Nat := 0x400604
/-- STG_ND_CHOICES_LO and _HI at + 4 (R430). -/
def Reg.stgNdChoices : Nat := 0x400608
/-- STG_DIG_BASE_LO and _HI at + 4 (R430). -/
def Reg.stgDigBase : Nat := 0x400610
/-- STG_DIG_SIZE (R430). -/
def Reg.stgDigSize : Nat := 0x400618
/-- STG_DIG_WR (R430). -/
def Reg.stgDigWr : Nat := 0x40061C
/-- STG_DIG_RD (R430). -/
def Reg.stgDigRd : Nat := 0x400620
/-- STG_GCONF_LAST (R430). -/
def Reg.stgGconfLast : Nat := 0x400624
/-- STG_GCONF_TIME (R430). -/
def Reg.stgGconfTime : Nat := 0x400628
/-- STG_GCONF_PAIR (R430). -/
def Reg.stgGconfPair (n : Nat) : Nat := 0x400640 + 4 * n
/-- QST_CFG (R139). -/
def Reg.qstCfg (n : Nat) : Nat := 0x401000 + 32 * n
/-- QST_STATE (R139). -/
def Reg.qstState (n : Nat) : Nat := 0x401004 + 32 * n
/-- QST_CLIP (R139). -/
def Reg.qstClip (n : Nat) : Nat := 0x401008 + 32 * n
/-- QST_COUNT (R139). -/
def Reg.qstCount (n : Nat) : Nat := 0x40100C + 32 * n
/-- QST_MAXABS (R139). -/
def Reg.qstMaxabs (n : Nat) : Nat := 0x401010 + 32 * n
/-- QST_STATUS (R140). -/
def Reg.qstStatus : Nat := 0x403000
/-- QST_ESC_OVF_LO and _HI at + 4 (R140). -/
def Reg.qstEscOvf : Nat := 0x403008
/-- QST_INVALID_LO and _HI at + 4 (R140). -/
def Reg.qstInvalid : Nat := 0x403010
/-- QST_SEQ_MISMATCH (R140). -/
def Reg.qstSeqMismatch : Nat := 0x403018
/-- LGR_CTRL (R244). -/
def Reg.lgrCtrl : Nat := 0x800000
/-- LGR_STATUS (R244). -/
def Reg.lgrStatus : Nat := 0x800004
/-- LGR_ROUTES (R244). -/
def Reg.lgrRoutes : Nat := 0x800008
/-- LGR_CHG_CYCLES (R244). -/
def Reg.lgrChgCycles : Nat := 0x80000C
/-- LGR_STALE_COUNT (R244). -/
def Reg.lgrStaleCount : Nat := 0x800010
/-- LGR_EXPIRED_COUNT (R244). -/
def Reg.lgrExpiredCount : Nat := 0x800014
/-- LGR_MISROUTE_COUNT (R244). -/
def Reg.lgrMisrouteCount : Nat := 0x800018
/-- LGR_OVF_COUNT (R244). -/
def Reg.lgrOvfCount : Nat := 0x80001C
/-- LGR_EDGE_ERR_COUNT (R244). -/
def Reg.lgrEdgeErrCount : Nat := 0x800020
/-- LGR_ORPHAN_INFO (R244). -/
def Reg.lgrOrphanInfo : Nat := 0x800024
/-- LGR_LFAULT (R264). -/
def Reg.lgrLfault : Nat := 0x800100
/-- MEM_STATUS (R327). -/
def Reg.memStatus : Nat := 0xC00000
/-- MEM_CE_HBM_LO and _HI at + 4 (R327). -/
def Reg.memCeHbm : Nat := 0xC00008
/-- MEM_CE_SRAM_LO and _HI at + 4 (R327). -/
def Reg.memCeSram : Nat := 0xC00010
/-- MEM_CE_STACK_LO and _HI at + 4 (R327). -/
def Reg.memCeStack : Nat := 0xC00018
/-- MEM_UE_COUNT (R327). -/
def Reg.memUeCount : Nat := 0xC00020
/-- MEM_UE_INFO (R327). -/
def Reg.memUeInfo : Nat := 0xC00024
/-- MEM_UE_ADDR_LO and _HI at + 4 (R327). -/
def Reg.memUeAddr : Nat := 0xC00028
/-- MEM_CE_THRESH (R327). -/
def Reg.memCeThresh : Nat := 0xC00030
/-- MEM_HOST_REFUSED (R327). -/
def Reg.memHostRefused : Nat := 0xC00034
/-- MEM_STRIKE_TIME (R327). -/
def Reg.memStrikeTime : Nat := 0xC00038
/-- MEM_PROG_BASE_LO and _HI at + 4 (R327). -/
def Reg.memProgBase : Nat := 0xC00040
/-- MEM_TWIN_BASE_LO and _HI at + 4 (R327). -/
def Reg.memTwinBase : Nat := 0xC00048
/-- MEM_TEMP (R327). -/
def Reg.memTemp (n : Nat) : Nat := 0xC00080 + 4 * n
/-- MEM_REFRESH_OVR (R327). -/
def Reg.memRefreshOvr : Nat := 0xC00100
/-- MEM_WIPE (R327). -/
def Reg.memWipe : Nat := 0xC00108
/-- FAB_CTRL (R395). -/
def Reg.fabCtrl (n : Nat) : Nat := 0x1000000 + 0x10000 * n
/-- FAB_STATUS (R395). -/
def Reg.fabStatus (n : Nat) : Nat := 0x1000004 + 0x10000 * n
/-- FAB_PEER (R395). -/
def Reg.fabPeer (n : Nat) : Nat := 0x1000008 + 0x10000 * n
/-- FAB_PEER_ID (R395). -/
def Reg.fabPeerId (n : Nat) : Nat := 0x100000C + 0x10000 * n
/-- FAB_TAP (R395). -/
def Reg.fabTap (m n : Nat) : Nat := 0x1000010 + 0x10000 * m + 4 * n
/-- FAB_FOM (R395). -/
def Reg.fabFom (m n : Nat) : Nat := 0x1000020 + 0x10000 * m + 4 * n
/-- FAB_EQ (R395). -/
def Reg.fabEq (n : Nat) : Nat := 0x1000030 + 0x10000 * n
/-- FAB_EQMIN (R395). -/
def Reg.fabEqmin (n : Nat) : Nat := 0x1000034 + 0x10000 * n
/-- FAB_ASYM (R395). -/
def Reg.fabAsym (n : Nat) : Nat := 0x1000038 + 0x10000 * n
/-- FAB_CRC_ERR (R395). -/
def Reg.fabCrcErr (n : Nat) : Nat := 0x1000080 + 0x10000 * n
/-- FAB_RETRIES (R395). -/
def Reg.fabRetries (n : Nat) : Nat := 0x1000084 + 0x10000 * n
/-- FAB_LOCK_LOSS (R395). -/
def Reg.fabLockLoss (n : Nat) : Nat := 0x1000088 + 0x10000 * n
/-- FAB_TRAINS (R395). -/
def Reg.fabTrains (n : Nat) : Nat := 0x100008C + 0x10000 * n
/-- FAB_DROP (R395). -/
def Reg.fabDrop (n : Nat) : Nat := 0x1000090 + 0x10000 * n
/-- FAB_STALE (R395). -/
def Reg.fabStale (n : Nat) : Nat := 0x1000094 + 0x10000 * n
/-- FAB_TX_BYTES_LO and _HI at + 4 (R395). -/
def Reg.fabTxBytes (n : Nat) : Nat := 0x10000A0 + 0x10000 * n
/-- FAB_RX_BYTES_LO and _HI at + 4 (R395). -/
def Reg.fabRxBytes (n : Nat) : Nat := 0x10000A8 + 0x10000 * n
/-- FAB_ENS (R397). -/
def Reg.fabEns : Nat := 0x1110000
/-- FAB_ENS_COUNT (R397). -/
def Reg.fabEnsCount : Nat := 0x1110004
/-- FAB_ERA (R397). -/
def Reg.fabEra : Nat := 0x1110008
/-- FAB_COLL_LIMIT (R397). -/
def Reg.fabCollLimit : Nat := 0x111000C
/-- FAB_LOSS_HOLD (R397). -/
def Reg.fabLossHold : Nat := 0x1110010
/-- FAB_SERVE (R397). -/
def Reg.fabServe : Nat := 0x1110014
/-- FAB_ERR_THRESH (R397). -/
def Reg.fabErrThresh : Nat := 0x1110018
/-- FAB_LOST_LAST (R397). -/
def Reg.fabLostLast : Nat := 0x111001C
/-- FAB_GTABLE_LO and _HI at + 4 (R397). -/
def Reg.fabGtable : Nat := 0x1110020
/-- FAB_ALIAS (R397). -/
def Reg.fabAlias (n : Nat) : Nat := 0x1110100 + 4 * n
/-- FAB_ROUTE (R397). -/
def Reg.fabRoute (n : Nat) : Nat := 0x1120000 + 4 * n
/-- USY_CTRL (R480). -/
def Reg.usyCtrl : Nat := 0x1400000
/-- USY_STATUS (R480). -/
def Reg.usyStatus : Nat := 0x1400004
/-- USY_CMD (R480). -/
def Reg.usyCmd : Nat := 0x1400008
/-- USY_PEER_IMG_LO and _HI at + 4 (R480). -/
def Reg.usyPeerImg : Nat := 0x1400010
/-- USY_TWIN_SEQ (R480). -/
def Reg.usyTwinSeq : Nat := 0x1400018
/-- USY_TWIN_CKPT (R480). -/
def Reg.usyTwinCkpt : Nat := 0x140001C
/-- USY_DELIVERED (R480). -/
def Reg.usyDelivered : Nat := 0x1400020
/-- USY_HB_LAST (R480). -/
def Reg.usyHbLast : Nat := 0x1400024
/-- USY_TWIN_GTABLE_LO and _HI at + 4 (R480). -/
def Reg.usyTwinGtable : Nat := 0x1400028
/-- USY_LOG_BACKLOG (R480). -/
def Reg.usyLogBacklog : Nat := 0x1400030
/-- USY_HB_MISSED (R480). -/
def Reg.usyHbMissed : Nat := 0x1400040
/-- USY_TAKEOVERS (R480). -/
def Reg.usyTakeovers : Nat := 0x1400044
/-- USY_LOG_BYTES_LO and _HI at + 4 (R480). -/
def Reg.usyLogBytes : Nat := 0x1400048
/-- HCK_TIME_NS (R429). -/
def Reg.hckTimeNs : Nat := 0x1800000
/-- HCK_TIME_FRAC (R429). -/
def Reg.hckTimeFrac : Nat := 0x1800004
/-- HCK_INCR (R429). -/
def Reg.hckIncr : Nat := 0x1800008
/-- HCK_INCR_NOM (R429). -/
def Reg.hckIncrNom : Nat := 0x180000C
/-- HCK_ADJ (R429). -/
def Reg.hckAdj : Nat := 0x1800010
/-- HCK_CTRL (R429). -/
def Reg.hckCtrl : Nat := 0x1800014
/-- HCK_DOWN (R429). -/
def Reg.hckDown : Nat := 0x1800018
/-- HCK_STATUS (R429). -/
def Reg.hckStatus : Nat := 0x180001C
/-- HCK_OFFSET_LO and _HI at + 4 (R429). -/
def Reg.hckOffset : Nat := 0x1800020
/-- HCK_CORR_LO and _HI at + 4 (R429). -/
def Reg.hckCorr : Nat := 0x1800028
/-- HCK_STEP_LIMIT (R429). -/
def Reg.hckStepLimit : Nat := 0x1800030
/-- HCK_CURTAIN_LEAD (R429). -/
def Reg.hckCurtainLead : Nat := 0x1800034
/-- HCK_CURTAIN_T_LO and _HI at + 4 (R429). -/
def Reg.hckCurtainT : Nat := 0x1800038
/-- HCK_SYNCS (R429). -/
def Reg.hckSyncs : Nat := 0x1800040
/-- HCK_STEPS (R429). -/
def Reg.hckSteps : Nat := 0x1800044
/-- HCK_CURTAINS (R429). -/
def Reg.hckCurtains : Nat := 0x1800048
/-- HCK_CURTAINS_LATE (R429). -/
def Reg.hckCurtainsLate : Nat := 0x180004C
/-- HCK_PDELAY (R429). -/
def Reg.hckPdelay (n : Nat) : Nat := 0x1800100 + 4 * n
/-- DIM_CTRL (R455). -/
def Reg.dimCtrl : Nat := 0x1C00000
/-- DIM_STATUS (R455). -/
def Reg.dimStatus : Nat := 0x1C00004
/-- DIM_CAP (R455). -/
def Reg.dimCap : Nat := 0x1C00008
/-- DIM_FIXED (R455). -/
def Reg.dimFixed : Nat := 0x1C00010
/-- DIM_LIMITS (R455). -/
def Reg.dimLimits : Nat := 0x1C00014
/-- DIM_PACE (R455). -/
def Reg.dimPace : Nat := 0x1C00018
/-- DIM_FLICKER (R455). -/
def Reg.dimFlicker : Nat := 0x1C0001C
/-- DIM_THERM (R455). -/
def Reg.dimTherm : Nat := 0x1C00020
/-- DIM_TEMP (R455). -/
def Reg.dimTemp : Nat := 0x1C00024
/-- DIM_TCAP (R455). -/
def Reg.dimTcap : Nat := 0x1C00028
/-- DIM_GAIN (R455). -/
def Reg.dimGain : Nat := 0x1C0002C
/-- DIM_ENERGY_LO and _HI at + 4 (R455). -/
def Reg.dimEnergy : Nat := 0x1C00030
/-- DIM_EST (R455). -/
def Reg.dimEst : Nat := 0x1C00038
/-- DIM_FLICKERS (R455). -/
def Reg.dimFlickers : Nat := 0x1C00040
/-- DIM_OP_CHANGES (R455). -/
def Reg.dimOpChanges : Nat := 0x1C00044
/-- DIM_BUBBLES_LO and _HI at + 4 (R455). -/
def Reg.dimBubbles : Nat := 0x1C00048
/-- DIM_PHASE_A (R455). -/
def Reg.dimPhaseA (n : Nat) : Nat := 0x1C01000 + 8 * n
/-- DIM_PHASE_B (R455). -/
def Reg.dimPhaseB (n : Nat) : Nat := 0x1C01004 + 8 * n
/-- SPT_CTRL (R500). -/
def Reg.sptCtrl : Nat := 0x2000000
/-- SPT_STATUS (R500). -/
def Reg.sptStatus : Nat := 0x2000004
/-- SPT_POST (R500). -/
def Reg.sptPost : Nat := 0x2000008
/-- SPT_AUTO (R500). -/
def Reg.sptAuto : Nat := 0x200000C
/-- SPT_CAPSEL (R500). -/
def Reg.sptCapsel : Nat := 0x2000010
/-- SPT_ACC (R500). -/
def Reg.sptAcc : Nat := 0x2000014
/-- SPT_ARM (R500). -/
def Reg.sptArm (m n : Nat) : Nat := 0x2000020 + 8 * m + 4 * n
/-- SPT_CMP (R500). -/
def Reg.sptCmp (n : Nat) : Nat := 0x2000060 + 4 * n
/-- SPT_CNT (R500). -/
def Reg.sptCnt (n : Nat) : Nat := 0x2000070 + 4 * n
/-- SPT_TIM (R500). -/
def Reg.sptTim (n : Nat) : Nat := 0x2000080 + 4 * n
/-- SPT_SAMP (R500). -/
def Reg.sptSamp (n : Nat) : Nat := 0x2000100 + 4 * n
/-- SPT_PHASE (R500). -/
def Reg.sptPhase (n : Nat) : Nat := 0x2000140 + 4 * n
/-- SPT_TTIME_LO and _HI at + 4 (R500). -/
def Reg.sptTtime : Nat := 0x2000160
/-- SPT_TPOS (R500). -/
def Reg.sptTpos : Nat := 0x2000168
/-- SPT_FILL (R500). -/
def Reg.sptFill : Nat := 0x200016C
/-- SPT_RING_BASE_LO and _HI at + 4 (R500). -/
def Reg.sptRingBase : Nat := 0x2000170
/-- SPT_RING_SIZE (R500). -/
def Reg.sptRingSize : Nat := 0x2000178
/-- SPT_RING_WR (R500). -/
def Reg.sptRingWr : Nat := 0x200017C
/-- SPT_RING_RD (R500). -/
def Reg.sptRingRd : Nat := 0x2000180
/-- SPT_RATE_EXC (R500). -/
def Reg.sptRateExc : Nat := 0x2000190
/-- SPT_FORCED (R500). -/
def Reg.sptForced : Nat := 0x2000194
/-- SPT_TRIGGERS (R500). -/
def Reg.sptTriggers : Nat := 0x2000198
/-- SEC_STATUS (R539). -/
def Reg.secStatus : Nat := 0x2400000
/-- SEC_BOOT_TIME (R539). -/
def Reg.secBootTime : Nat := 0x2400004
/-- SEC_SVN_IMG (R539). -/
def Reg.secSvnImg : Nat := 0x2400008
/-- SEC_LC_REQ (R539). -/
def Reg.secLcReq : Nat := 0x2400010
/-- SEC_SVN_BURN (R539). -/
def Reg.secSvnBurn : Nat := 0x2400018
/-- SEC_KEY_REVOKE (R539). -/
def Reg.secKeyRevoke : Nat := 0x2400020
/-- SEC_KEY_STAGE (R539). -/
def Reg.secKeyStage (n : Nat) : Nat := 0x2400100 + 4 * n
/-- SEC_KEYHASH (R539). -/
def Reg.secKeyhash (n : Nat) : Nat := 0x2400200 + 4 * n
/-- SEC_ID_PUB (R539). -/
def Reg.secIdPub (n : Nat) : Nat := 0x2400300 + 4 * n
/-- SEC_FLASH_ADDR (R539). -/
def Reg.secFlashAddr : Nat := 0x2400400
/-- SEC_FLASH_CMD (R539). -/
def Reg.secFlashCmd : Nat := 0x2400404
/-- SEC_FLASH_STAT (R539). -/
def Reg.secFlashStat : Nat := 0x2400408
/-- SEC_FLASH_BUF (R539). -/
def Reg.secFlashBuf (n : Nat) : Nat := 0x2400500 + 4 * n
/-- SEC_VOVR (R552). -/
def Reg.secVovr (n : Nat) : Nat := 0x2400600 + 8 * n

/-! ### Access types and reset values -/

/-- One register, or an array of them: its first offset, stride and count, its reset value, and the bits of each writable type
(R18); every other bit is RO. -/
structure RegRow where
  base : Nat
  stride : Nat
  count : Nat
  reset : W32
  rw : W32
  rwb : W32
  w1c : W32
  rwc : W32
deriving DecidableEq, Repr

/-- Registers of TOP. -/
def regRowsTop : List RegRow :=
  [⟨0x0, 4, 1, 0x80000, 0, 0, 0, 0⟩, ⟨0x4, 4, 1, 0, 0, 0, 0, 0⟩, ⟨0x8, 4, 1, 0, 0, 0, 0, 0⟩,
   ⟨0x10, 4, 1, 0, 0xFFFFFFFF, 0, 0, 0⟩]
/-- Registers of CLB. -/
def regRowsClb : List RegRow :=
  [⟨0x10000, 4, 16, 0, 0xFFFFFFFF, 0, 0, 0⟩, ⟨0x10040, 4, 16, 0, 0, 0, 0xFFFFFFFF, 0⟩, ⟨0x10080, 4, 16, 0, 0, 0, 0, 0⟩,
   ⟨0x10100, 4, 80, 0xFFFFFFFF, 0xFFFFFFFF, 0, 0, 0⟩, ⟨0x10400, 4, 4, 0, 0, 0, 0, 0⟩, ⟨0x10800, 4, 512, 0, 0x1FF1F, 0, 0, 0⟩,
   ⟨0x11000, 4, 128, 0, 0, 0, 0, 0⟩]
/-- Registers of CFG. -/
def regRowsCfg : List RegRow :=
  [⟨0x20000, 4, 1, 0x1, 0x3, 0, 0, 0⟩, ⟨0x20004, 4, 1, 0x1, 0, 0, 0x1C, 0⟩, ⟨0x20008, 4, 1, 0, 0xFFFFFFFF, 0, 0, 0⟩,
   ⟨0x2000C, 4, 1, 0, 0, 0, 0, 0⟩, ⟨0x20010, 4, 1, 0, 0, 0, 0, 0⟩, ⟨0x20014, 4, 1, 0, 0, 0, 0, 0⟩,
   ⟨0x20018, 4, 1, 0, 0, 0, 0, 0⟩, ⟨0x2001C, 4, 1, 0, 0, 0, 0, 0⟩, ⟨0x20020, 4, 1, 0, 0, 0, 0, 0⟩,
   ⟨0x20024, 4, 1, 0, 0, 0, 0, 0⟩, ⟨0x20030, 4, 1, 0, 0, 0, 0, 0⟩, ⟨0x20034, 4, 1, 0, 0, 0, 0, 0⟩,
   ⟨0x20038, 4, 1, 0, 0, 0, 0, 0⟩, ⟨0x2003C, 4, 1, 0, 0, 0, 0, 0⟩]
/-- Registers of SNP. -/
def regRowsSnp : List RegRow :=
  [⟨0x30000, 4, 1, 0, 0, 0, 0, 0⟩, ⟨0x30004, 4, 1, 0, 0, 0, 0, 0⟩, ⟨0x30008, 4, 1, 0, 0, 0, 0, 0⟩,
   ⟨0x3000C, 4, 1, 0, 0, 0, 0, 0⟩, ⟨0x30010, 4, 1, 0, 0xFFFFFF, 0, 0, 0⟩]
/-- Registers of HIF. -/
def regRowsHif : List RegRow :=
  [⟨0x100000, 4, 1, 0, 0, 0, 0, 0⟩, ⟨0x100004, 4, 1, 0, 0, 0, 0, 0⟩, ⟨0x100008, 4, 1, 0x200, 0, 0, 0, 0⟩,
   ⟨0x100010, 4, 1, 0, 0, 0, 0, 0x1⟩, ⟨0x100020, 4, 1, 0, 0xC0000000, 0, 0, 0⟩, ⟨0x100024, 4, 1, 0, 0xFF, 0, 0, 0⟩,
   ⟨0x101000, 64, 64, 0, 0xFFFF1FF1, 0, 0, 0⟩, ⟨0x101004, 64, 64, 0, 0, 0, 0, 0⟩, ⟨0x101008, 64, 64, 0, 0xFFFFFFFF, 0, 0, 0⟩,
   ⟨0x10100C, 64, 64, 0, 0xFFFFFFFF, 0, 0, 0⟩, ⟨0x101010, 64, 64, 0, 0xFFFFFFFF, 0, 0, 0⟩, ⟨0x101014, 64, 64, 0, 0xFFFFFFFF, 0, 0, 0⟩,
   ⟨0x101018, 64, 64, 0, 0xFFFFFFFF, 0, 0, 0⟩, ⟨0x10101C, 64, 64, 0, 0xFFFFFF, 0, 0, 0⟩, ⟨0x101020, 64, 64, 0, 0, 0, 0, 0⟩]
/-- Registers of CST. -/
def regRowsCst : List RegRow :=
  [⟨0x200000, 4, 1, 0x8001000, 0, 0x1FFFFFFF, 0, 0⟩, ⟨0x200004, 4, 1, 0, 0, 0, 0x76, 0⟩, ⟨0x200008, 4, 1, 0, 0, 0xFFFFFF, 0, 0⟩,
   ⟨0x20000C, 4, 1, 0, 0, 0, 0, 0⟩, ⟨0x200010, 4, 1, 0, 0, 0, 0, 0⟩, ⟨0x200014, 4, 1, 0, 0, 0, 0, 0⟩,
   ⟨0x200018, 4, 1, 0, 0, 0xFFFFF000, 0, 0⟩, ⟨0x20001C, 4, 1, 0, 0, 0xFFFFFFFF, 0, 0⟩, ⟨0x200020, 4, 1, 0, 0, 0xFFFFFF, 0, 0⟩,
   ⟨0x200024, 4, 1, 0, 0, 0, 0, 0⟩, ⟨0x200030, 4, 4, 0, 0, 0xFFFF, 0, 0⟩, ⟨0x200040, 4, 4, 0, 0, 0, 0, 0⟩,
   ⟨0x200050, 4, 1, 0, 0, 0, 0, 0⟩, ⟨0x200054, 4, 1, 0, 0, 0, 0, 0⟩, ⟨0x200058, 4, 1, 0, 0, 0, 0, 0⟩,
   ⟨0x20005C, 4, 1, 0, 0, 0, 0, 0⟩, ⟨0x200060, 4, 1, 0, 0, 0, 0, 0⟩]
/-- Registers of STG. -/
def regRowsStg : List RegRow :=
  [⟨0x400000, 4, 1, 0, 0, 0xFFF1, 0, 0⟩, ⟨0x400004, 4, 1, 0, 0, 0, 0x100, 0⟩, ⟨0x400010, 4, 1, 0, 0, 0, 0, 0⟩,
   ⟨0x400014, 4, 1, 0x1FF, 0, 0, 0, 0⟩, ⟨0x400020, 4, 1, 0, 0, 0, 0, 0⟩, ⟨0x400024, 4, 1, 0, 0, 0, 0, 0⟩,
   ⟨0x400028, 4, 1, 0, 0, 0, 0, 0⟩, ⟨0x400040, 4, 16, 0, 0, 0, 0, 0⟩, ⟨0x400100, 4, 1, 0, 0, 0, 0, 0⟩,
   ⟨0x400104, 4, 1, 0, 0, 0, 0, 0⟩, ⟨0x400108, 4, 1, 0, 0, 0, 0, 0⟩, ⟨0x40010C, 4, 1, 0, 0, 0, 0, 0⟩,
   ⟨0x400110, 4, 1, 0, 0, 0xFFFFFF, 0, 0⟩, ⟨0x400114, 4, 1, 0, 0, 0, 0, 0⟩, ⟨0x400118, 4, 1, 0, 0, 0, 0, 0⟩,
   ⟨0x40011C, 4, 1, 0x6400, 0, 0, 0, 0⟩, ⟨0x400120, 4, 1, 0, 0, 0, 0, 0⟩, ⟨0x400200, 4, 128, 0, 0, 0, 0, 0⟩,
   ⟨0x400400, 8, 4, 0, 0, 0, 0, 0⟩, ⟨0x400404, 8, 4, 0, 0, 0, 0, 0⟩, ⟨0x400500, 4, 1, 0, 0, 0, 0, 0⟩,
   ⟨0x400504, 4, 1, 0, 0, 0, 0, 0⟩, ⟨0x400508, 4, 1, 0, 0, 0, 0, 0⟩, ⟨0x40050C, 4, 1, 0, 0, 0, 0, 0⟩,
   ⟨0x400510, 4, 1, 0, 0, 0, 0, 0⟩, ⟨0x400514, 4, 1, 0, 0, 0, 0, 0⟩, ⟨0x400600, 4, 1, 0, 0, 0x3, 0, 0⟩,
   ⟨0x400604, 4, 1, 0, 0, 0, 0x7, 0⟩, ⟨0x400608, 4, 1, 0, 0, 0, 0, 0⟩, ⟨0x40060C, 4, 1, 0, 0, 0, 0, 0⟩,
   ⟨0x400610, 4, 1, 0, 0, 0xFFFFFFFF, 0, 0⟩, ⟨0x400614, 4, 1, 0, 0, 0xFFFFFFFF, 0, 0⟩, ⟨0x400618, 4, 1, 0x10, 0, 0x1FFFFF, 0, 0⟩,
   ⟨0x40061C, 4, 1, 0, 0, 0, 0, 0⟩, ⟨0x400620, 4, 1, 0, 0xFFFFF, 0, 0, 0⟩, ⟨0x400624, 4, 1, 0, 0, 0, 0, 0⟩,
   ⟨0x400628, 4, 1, 0, 0, 0, 0, 0⟩, ⟨0x400640, 4, 15, 0, 0, 0, 0, 0⟩]
/-- Registers of QST. -/
def regRowsQst : List RegRow :=
  [⟨0x401000, 32, 256, 0xFF000C, 0, 0xFFFF0F, 0, 0⟩, ⟨0x401004, 32, 256, 0, 0, 0, 0, 0⟩, ⟨0x401008, 32, 256, 0, 0, 0, 0, 0⟩,
   ⟨0x40100C, 32, 256, 0, 0, 0, 0, 0⟩, ⟨0x401010, 32, 256, 0, 0, 0, 0, 0⟩, ⟨0x403000, 4, 1, 0, 0, 0, 0x6, 0⟩,
   ⟨0x403008, 4, 1, 0, 0, 0, 0, 0⟩, ⟨0x40300C, 4, 1, 0, 0, 0, 0, 0⟩, ⟨0x403010, 4, 1, 0, 0, 0, 0, 0⟩,
   ⟨0x403014, 4, 1, 0, 0, 0, 0, 0⟩, ⟨0x403018, 4, 1, 0, 0, 0, 0, 0⟩]
/-- Registers of LGR. -/
def regRowsLgr : List RegRow :=
  [⟨0x800000, 4, 1, 0, 0, 0x3, 0, 0⟩, ⟨0x800004, 4, 1, 0, 0, 0, 0xE0000, 0⟩, ⟨0x800008, 4, 1, 0, 0, 0, 0, 0⟩,
   ⟨0x80000C, 4, 1, 0, 0, 0, 0, 0⟩, ⟨0x800010, 4, 1, 0, 0, 0, 0, 0⟩, ⟨0x800014, 4, 1, 0, 0, 0, 0, 0⟩,
   ⟨0x800018, 4, 1, 0, 0, 0, 0, 0⟩, ⟨0x80001C, 4, 1, 0, 0, 0, 0, 0⟩, ⟨0x800020, 4, 1, 0, 0, 0, 0, 0⟩,
   ⟨0x800024, 4, 1, 0, 0, 0, 0, 0⟩, ⟨0x800100, 4, 1, 0, 0, 0, 0x80000000, 0⟩]
/-- Registers of MEM. -/
def regRowsMem : List RegRow :=
  [⟨0xC00000, 4, 1, 0, 0, 0, 0x1C, 0⟩, ⟨0xC00008, 4, 1, 0, 0, 0, 0, 0⟩, ⟨0xC0000C, 4, 1, 0, 0, 0, 0, 0⟩,
   ⟨0xC00010, 4, 1, 0, 0, 0, 0, 0⟩, ⟨0xC00014, 4, 1, 0, 0, 0, 0, 0⟩, ⟨0xC00018, 4, 1, 0, 0, 0, 0, 0⟩,
   ⟨0xC0001C, 4, 1, 0, 0, 0, 0, 0⟩, ⟨0xC00020, 4, 1, 0, 0, 0, 0, 0⟩, ⟨0xC00024, 4, 1, 0, 0, 0, 0, 0⟩,
   ⟨0xC00028, 4, 1, 0, 0, 0, 0, 0⟩, ⟨0xC0002C, 4, 1, 0, 0, 0, 0, 0⟩, ⟨0xC00030, 4, 1, 0, 0xFFFFFFFF, 0, 0, 0⟩,
   ⟨0xC00034, 4, 1, 0, 0, 0, 0, 0⟩, ⟨0xC00038, 4, 1, 0, 0, 0, 0, 0⟩, ⟨0xC00040, 4, 1, 0, 0, 0, 0, 0⟩,
   ⟨0xC00044, 4, 1, 0, 0, 0, 0, 0⟩, ⟨0xC00048, 4, 1, 0, 0, 0, 0, 0⟩, ⟨0xC0004C, 4, 1, 0, 0, 0, 0, 0⟩,
   ⟨0xC00080, 4, 8, 0, 0, 0, 0, 0⟩, ⟨0xC00100, 4, 1, 0, 0, 0, 0, 0x3⟩, ⟨0xC00108, 4, 1, 0, 0, 0, 0, 0x1⟩]
/-- Registers of FAB. -/
def regRowsFab : List RegRow :=
  [⟨0x1000000, 0x10000, 17, 0x7, 0, 0x7, 0, 0⟩, ⟨0x1000004, 0x10000, 17, 0, 0, 0, 0x30000, 0⟩, ⟨0x1000008, 0x10000, 17, 0, 0, 0, 0, 0⟩,
   ⟨0x100000C, 0x10000, 17, 0, 0, 0, 0, 0⟩, ⟨0x1000010, 0x10000, 17, 0x8344, 0, 0, 0, 0⟩, ⟨0x1000014, 0x10000, 17, 0x8344, 0, 0, 0, 0⟩,
   ⟨0x1000018, 0x10000, 17, 0x8344, 0, 0, 0, 0⟩, ⟨0x100001C, 0x10000, 17, 0x8344, 0, 0, 0, 0⟩, ⟨0x1000020, 0x10000, 17, 0, 0, 0, 0, 0⟩,
   ⟨0x1000024, 0x10000, 17, 0, 0, 0, 0, 0⟩, ⟨0x1000028, 0x10000, 17, 0, 0, 0, 0, 0⟩, ⟨0x100002C, 0x10000, 17, 0, 0, 0, 0, 0⟩,
   ⟨0x1000030, 0x10000, 17, 0x8000600, 0, 0xFFFFFFF, 0, 0⟩, ⟨0x1000034, 0x10000, 17, 0x300, 0, 0xFFFF, 0, 0⟩, ⟨0x1000038, 0x10000, 17, 0, 0, 0xFFFFFFFF, 0, 0⟩,
   ⟨0x1000080, 0x10000, 17, 0, 0, 0, 0, 0⟩, ⟨0x1000084, 0x10000, 17, 0, 0, 0, 0, 0⟩, ⟨0x1000088, 0x10000, 17, 0, 0, 0, 0, 0⟩,
   ⟨0x100008C, 0x10000, 17, 0, 0, 0, 0, 0⟩, ⟨0x1000090, 0x10000, 17, 0, 0, 0, 0, 0⟩, ⟨0x1000094, 0x10000, 17, 0, 0, 0, 0, 0⟩,
   ⟨0x10000A0, 0x10000, 17, 0, 0, 0, 0, 0⟩, ⟨0x10000A4, 0x10000, 17, 0, 0, 0, 0, 0⟩, ⟨0x10000A8, 0x10000, 17, 0, 0, 0, 0, 0⟩,
   ⟨0x10000AC, 0x10000, 17, 0, 0, 0, 0, 0⟩, ⟨0x1110000, 4, 1, 0, 0, 0x1FFFFFFF, 0, 0⟩, ⟨0x1110004, 4, 1, 0x1, 0, 0x1FFF3FFF, 0, 0⟩,
   ⟨0x1110008, 4, 1, 0, 0, 0xFF, 0, 0⟩, ⟨0x111000C, 4, 1, 0x2710, 0, 0xFFFFFF, 0, 0⟩, ⟨0x1110010, 4, 1, 0xC8, 0, 0xFFFF, 0, 0⟩,
   ⟨0x1110014, 4, 1, 0, 0, 0x80001FFF, 0, 0⟩, ⟨0x1110018, 4, 1, 0, 0, 0xFFFFFFFF, 0, 0⟩, ⟨0x111001C, 4, 1, 0, 0, 0, 0x80000000, 0⟩,
   ⟨0x1110020, 4, 1, 0, 0, 0xFFFFFFFF, 0, 0⟩, ⟨0x1110024, 4, 1, 0, 0, 0xFFFFFFFF, 0, 0⟩, ⟨0x1110100, 4, 16, 0, 0, 0x9FFF1FFF, 0, 0⟩,
   ⟨0x1120000, 4, 8192, 0, 0, 0x800001FF, 0, 0⟩]
/-- Registers of USY. -/
def regRowsUsy : List RegRow :=
  [⟨0x1400000, 4, 1, 0x2080, 0, 0x3FFF, 0, 0⟩, ⟨0x1400004, 4, 1, 0x6, 0, 0, 0x400, 0⟩, ⟨0x1400008, 4, 1, 0, 0, 0, 0, 0⟩,
   ⟨0x1400010, 4, 1, 0, 0xFFFFFFFF, 0, 0, 0⟩, ⟨0x1400014, 4, 1, 0, 0xFFFFFFFF, 0, 0, 0⟩, ⟨0x1400018, 4, 1, 0, 0, 0, 0, 0⟩,
   ⟨0x140001C, 4, 1, 0, 0, 0, 0, 0⟩, ⟨0x1400020, 4, 1, 0, 0, 0, 0, 0⟩, ⟨0x1400024, 4, 1, 0, 0, 0, 0, 0⟩,
   ⟨0x1400028, 4, 1, 0, 0, 0xFFFFFFFF, 0, 0⟩, ⟨0x140002C, 4, 1, 0, 0, 0xFFFFFFFF, 0, 0⟩, ⟨0x1400030, 4, 1, 0, 0, 0, 0, 0⟩,
   ⟨0x1400040, 4, 1, 0, 0, 0, 0, 0⟩, ⟨0x1400044, 4, 1, 0, 0, 0, 0, 0⟩, ⟨0x1400048, 4, 1, 0, 0, 0, 0, 0⟩,
   ⟨0x140004C, 4, 1, 0, 0, 0, 0, 0⟩]
/-- Registers of HCK. -/
def regRowsHck : List RegRow :=
  [⟨0x1800000, 4, 1, 0, 0, 0, 0, 0⟩, ⟨0x1800004, 4, 1, 0, 0, 0, 0, 0⟩, ⟨0x1800008, 4, 1, 0x4000000, 0, 0, 0, 0⟩,
   ⟨0x180000C, 4, 1, 0x4000000, 0, 0xFFFFFFFF, 0, 0⟩, ⟨0x1800010, 4, 1, 0, 0, 0, 0, 0⟩, ⟨0x1800014, 4, 1, 0x1, 0, 0x7F, 0, 0⟩,
   ⟨0x1800018, 4, 1, 0, 0, 0x1FFFF, 0, 0⟩, ⟨0x180001C, 4, 1, 0, 0, 0, 0x6C, 0⟩, ⟨0x1800020, 4, 1, 0, 0, 0, 0, 0⟩,
   ⟨0x1800024, 4, 1, 0, 0, 0, 0, 0⟩, ⟨0x1800028, 4, 1, 0, 0, 0, 0, 0⟩, ⟨0x180002C, 4, 1, 0, 0, 0, 0, 0⟩,
   ⟨0x1800030, 4, 1, 0x3E8, 0, 0xFFFF, 0, 0⟩, ⟨0x1800034, 4, 1, 0x64, 0, 0xFFFF, 0, 0⟩, ⟨0x1800038, 4, 1, 0, 0, 0, 0, 0⟩,
   ⟨0x180003C, 4, 1, 0, 0, 0, 0, 0⟩, ⟨0x1800040, 4, 1, 0, 0, 0, 0, 0⟩, ⟨0x1800044, 4, 1, 0, 0, 0, 0, 0⟩,
   ⟨0x1800048, 4, 1, 0, 0, 0, 0, 0⟩, ⟨0x180004C, 4, 1, 0, 0, 0, 0, 0⟩, ⟨0x1800100, 4, 17, 0, 0, 0, 0, 0⟩]
/-- Registers of DIM. -/
def regRowsDim : List RegRow :=
  [⟨0x1C00000, 4, 1, 0, 0, 0xF, 0, 0⟩, ⟨0x1C00004, 4, 1, 0x1, 0, 0, 0x18000, 0⟩, ⟨0x1C00008, 4, 1, 0x64, 0, 0, 0, 0x7F⟩,
   ⟨0x1C00010, 4, 1, 0x1, 0, 0xF, 0, 0⟩, ⟨0x1C00014, 4, 1, 0x38, 0, 0x3F, 0, 0⟩, ⟨0x1C00018, 4, 1, 0x4010, 0, 0xFFFF, 0, 0⟩,
   ⟨0x1C0001C, 4, 1, 0x1028, 0, 0x3FFF, 0, 0⟩, ⟨0x1C00020, 4, 1, 0x646E555F, 0, 0xFFFFFFFF, 0, 0⟩, ⟨0x1C00024, 4, 1, 0, 0, 0, 0, 0⟩,
   ⟨0x1C00028, 4, 1, 0x64, 0, 0, 0, 0⟩, ⟨0x1C0002C, 4, 1, 0x1000, 0, 0, 0, 0⟩, ⟨0x1C00030, 4, 1, 0, 0, 0, 0, 0⟩,
   ⟨0x1C00034, 4, 1, 0, 0, 0, 0, 0⟩, ⟨0x1C00038, 4, 1, 0, 0, 0, 0, 0⟩, ⟨0x1C00040, 4, 1, 0, 0, 0, 0, 0⟩,
   ⟨0x1C00044, 4, 1, 0, 0, 0, 0, 0⟩, ⟨0x1C00048, 4, 1, 0, 0, 0, 0, 0⟩, ⟨0x1C0004C, 4, 1, 0, 0, 0, 0, 0⟩,
   ⟨0x1C01000, 8, 256, 0xE, 0, 0, 0, 0⟩, ⟨0x1C01004, 8, 256, 0, 0, 0, 0, 0⟩]
/-- Registers of SPT. -/
def regRowsSpt : List RegRow :=
  [⟨0x2000000, 4, 1, 0, 0, 0x7FF8, 0, 0⟩, ⟨0x2000004, 4, 1, 0, 0, 0, 0x7C0, 0⟩, ⟨0x2000008, 4, 1, 0, 0, 0x3FFFF, 0, 0⟩,
   ⟨0x200000C, 4, 1, 0, 0, 0xFFFFFFFF, 0, 0⟩, ⟨0x2000010, 4, 1, 0, 0, 0xFFFF03, 0, 0⟩, ⟨0x2000014, 4, 1, 0x100FF0, 0, 0xFFFFFFFF, 0, 0⟩,
   ⟨0x2000020, 4, 16, 0x1FF, 0, 0xFFFF7FF, 0, 0⟩, ⟨0x2000060, 4, 4, 0xFFFFFFFF, 0, 0xFFFFFFFF, 0, 0⟩, ⟨0x2000070, 4, 4, 0, 0, 0, 0, 0⟩,
   ⟨0x2000080, 4, 4, 0, 0, 0xFFFFFFFF, 0, 0⟩, ⟨0x2000100, 4, 16, 0x4000, 0, 0xF7FF, 0, 0⟩, ⟨0x2000140, 4, 8, 0, 0, 0x1FF, 0, 0⟩,
   ⟨0x2000160, 4, 1, 0, 0, 0, 0, 0⟩, ⟨0x2000164, 4, 1, 0, 0, 0, 0, 0⟩, ⟨0x2000168, 4, 1, 0, 0, 0, 0, 0⟩,
   ⟨0x200016C, 4, 1, 0, 0, 0, 0, 0⟩, ⟨0x2000170, 4, 1, 0, 0, 0xFFFFFFFF, 0, 0⟩, ⟨0x2000174, 4, 1, 0, 0, 0xFFFFFFFF, 0, 0⟩,
   ⟨0x2000178, 4, 1, 0x1000, 0, 0xFFFFFF, 0, 0⟩, ⟨0x200017C, 4, 1, 0, 0, 0, 0, 0⟩, ⟨0x2000180, 4, 1, 0, 0, 0, 0, 0⟩,
   ⟨0x2000190, 4, 1, 0, 0, 0, 0, 0⟩, ⟨0x2000194, 4, 1, 0, 0, 0, 0, 0⟩, ⟨0x2000198, 4, 1, 0, 0, 0, 0, 0⟩]
/-- Registers of SEC. -/
def regRowsSec : List RegRow :=
  [⟨0x2400000, 4, 1, 0, 0, 0, 0, 0⟩, ⟨0x2400004, 4, 1, 0, 0, 0, 0, 0⟩, ⟨0x2400008, 4, 1, 0, 0, 0, 0, 0⟩,
   ⟨0x2400010, 4, 1, 0, 0, 0, 0, 0x3⟩, ⟨0x2400018, 4, 1, 0, 0, 0, 0, 0x7F⟩, ⟨0x2400020, 4, 1, 0, 0, 0, 0, 0xF⟩,
   ⟨0x2400100, 4, 48, 0, 0xFFFFFFFF, 0, 0, 0⟩, ⟨0x2400200, 4, 48, 0, 0, 0, 0, 0⟩, ⟨0x2400300, 4, 24, 0, 0, 0, 0, 0⟩,
   ⟨0x2400400, 4, 1, 0, 0xFFFFFFF, 0, 0, 0⟩, ⟨0x2400404, 4, 1, 0, 0, 0, 0, 0⟩, ⟨0x2400408, 4, 1, 0, 0, 0, 0, 0⟩,
   ⟨0x2400500, 4, 64, 0, 0xFFFFFFFF, 0, 0, 0⟩, ⟨0x2400600, 8, 4, 0, 0, 0, 0, 0xFF⟩]
/-- Every register. -/
def regRows : List RegRow :=
  regRowsTop ++ regRowsClb ++ regRowsCfg ++ regRowsSnp ++ regRowsHif ++ regRowsCst ++ regRowsStg ++ regRowsQst ++ regRowsLgr ++ regRowsMem ++ regRowsFab ++ regRowsUsy ++ regRowsHck ++ regRowsDim ++ regRowsSpt ++ regRowsSec

/-- The register at a canonical offset. -/
def regRow (off : Nat) : Option RegRow :=
  regRows.find? (fun r => decide (r.base ≤ off) && (off - r.base) % r.stride == 0 && decide ((off - r.base) / r.stride < r.count))

/-- The reset value of the register at `off`: NEXT of SPT_STs_ARMa is s (Table 16-6), and entry 0 of the phase table is valid
(Table 14-3). -/
def regReset (off : Nat) : W32 :=
  match regRow off with
  | none => 0
  | some r =>
    if r.base = Reg.sptArm 0 0 then r.reset ||| BitVec.ofNat 32 (((off - r.base) / 8) <<< 12)
    else if off = Reg.dimPhaseA 0 then r.reset ||| 1
    else r.reset

/-! ### Blocks -/

/-- The blocks of Table 17-1. -/
inductive Block where
  | top | clb | cfg | snp | hif | cst | stg | lgr | mem | fab | usy | hck | dim | spt | sec | none
deriving DecidableEq, Repr

/-- The block that an offset of BAR0 lies in (R505). -/
def blockOf (off : Nat) : Block :=
  if off < 0x10000 then .top else if off < 0x20000 then .clb else if off < 0x30000 then .cfg else if off < 0x100000 then .snp
  else if off < 0x200000 then .hif else if off < 0x400000 then .cst else if off < 0x800000 then .stg
  else if off < 0xC00000 then .lgr else if off < 0x1000000 then .mem else if off < 0x1400000 then .fab
  else if off < 0x1800000 then .usy else if off < 0x1C00000 then .hck else if off < 0x2000000 then .dim
  else if off < 0x2400000 then .spt else if off < 0x2800000 then .sec else .none

/-- The canonical offset of an offset of BAR0, by the alias period of its block (R505). -/
def canonOff (a : Nat) : Nat :=
  let off := a / 4 * 4
  match blockOf off with
  | .top => off % 0x1000
  | .clb => 0x10000 + off % 0x2000
  | .cfg => 0x20000 + off % 0x1000
  | .snp => 0x30000 + off % 0x1000
  | .hif => 0x100000 + off % 0x2000
  | .cst => 0x200000 + off % 0x1000
  | .stg => 0x400000 + off % 0x4000
  | .lgr => 0x800000 + off % 0x1000
  | .mem => 0xC00000 + off % 0x1000
  | .fab => if off < 0x1120000 then off / 0x10000 * 0x10000 + off % 0x1000 else off
  | .usy => 0x1400000 + off % 0x1000
  | .hck => 0x1800000 + off % 0x1000
  | .dim => 0x1C00000 + off % 0x2000
  | .spt => 0x2000000 + off % 0x1000
  | .sec => 0x2400000 + off % 0x10000
  | .none => off

/-- The bits of a register that the configuration check covers (R512, the checked column of Table 17-1). -/
def checkMask (off : Nat) : W32 :=
  match regRow off with
  | none => 0
  | some r =>
    let all := r.rw ||| r.rwb ||| r.rwc
    match blockOf off with
    | .top | .cfg | .sec | .none => 0
    | .clb => r.rw
    | .hif => if off = Reg.hifCurtain then 0 else all
    | .stg => if off = Reg.stgDigRd then 0 else all
    | .mem => if off = Reg.memWipe then 0 else all
    | _ => all

/-- The A of an RWC register (Table 17-3). -/
def rwcA (off : Nat) : Bool := match regRow off with | some r => r.rwc != 0 | none => false

/-- The registers whose HI half is the holding copy of a 64-bit counter (R517): the LO offset of the counter at `off`. -/
def wideOf (off : Nat) : Option Nat :=
  let lo := off / 8 * 8
  if lo = Reg.stgSatCount || lo = Reg.qstEscOvf || lo = Reg.qstInvalid || lo = Reg.stgNdChoices || lo = Reg.memCeHbm ||
      lo = Reg.memCeSram || lo = Reg.memCeStack || lo = Reg.dimEnergy || lo = Reg.dimBubbles || lo = Reg.usyLogBytes ||
      (decide (Reg.fabTxBytes 0 ≤ lo) && decide (lo < 0x1110000) &&
        (lo % 0x10000 = Reg.fabTxBytes 0 % 0x10000 || lo % 0x10000 = Reg.fabRxBytes 0 % 0x10000)) then some lo else none

end Sys2Proof.Machine
end

