-- ==== Sys2Proof/Machine/Ops.lean ====
section
/-! DEFINITION. The named operations over registers, counters, the Callboard, completion queues.
Each block's Callboard sources (R307, R328, R355, R398, R431, R456, R481, R540) are raised where their events happen. -/
namespace Sys2Proof.Machine

/-! ### Registers -/

/-- The stored value of a register, by canonical offset. -/
def Dev.reg (d : Dev) (off : Nat) : W32 := tabGet regReset d.regs off
/-- Store a register. -/
def Dev.setReg (d : Dev) (off : Nat) (v : W32) : Dev := { d with regs := tabSet regReset d.regs off v }
/-- Field [hi:lo] of a register (R12). -/
def Dev.fld (d : Dev) (off hi lo : Nat) : Nat := bits (d.reg off).toNat lo (hi + 1 - lo)
/-- Store field [hi:lo] of a register. -/
def Dev.setFld (d : Dev) (off hi lo n : Nat) : Dev :=
  d.setReg off (BitVec.ofNat 32 (putBits (d.reg off).toNat lo (hi + 1 - lo) n))
/-- Bit `i` of a register. -/
def Dev.bit (d : Dev) (off i : Nat) : Bool := (d.reg off).getLsbD i
/-- Set bit `i` of a register. -/
def Dev.setBit (d : Dev) (off i : Nat) : Dev := d.setFld off i i 1
/-- Clear bit `i` of a register. -/
def Dev.clrBit (d : Dev) (off i : Nat) : Dev := d.setFld off i i 0
/-- Add to a 32-bit counter that saturates. -/
def Dev.addReg (d : Dev) (off n : Nat) : Dev := d.setReg off (BitVec.ofNat 32 (sat32 ((d.reg off).toNat + n)))
/-- Count one event. -/
def Dev.count (d : Dev) (off : Nat) : Dev := d.addReg off 1
/-- A pair of LO and HI registers. -/
def Dev.reg64 (d : Dev) (off : Nat) : Nat := (d.reg off).toNat + (d.reg (off + 4)).toNat * 2 ^ 32
/-- Store a pair of LO and HI registers. -/
def Dev.setReg64 (d : Dev) (off v : Nat) : Dev :=
  (d.setReg off (BitVec.ofNat 32 v)).setReg (off + 4) (BitVec.ofNat 32 (v >>> 32))
/-- The live value of a 64-bit counter (R517). -/
def Dev.wideGet (d : Dev) (off : Nat) : W64 := tabGet (fun _ => 0) d.wide off
/-- Add to a 64-bit counter, which wraps (R517). -/
def Dev.wideAdd (d : Dev) (off n : Nat) : Dev :=
  { d with wide := tabSet (fun _ => 0) d.wide off (d.wideGet off + BitVec.ofNat 64 n) }

/-! ### Free values and time -/

/-- The next free word (notes/assumptions/9.md). -/
def Dev.takeFree (d : Dev) : W32 × Dev := (Config.freeWord d.free, { d with free := d.free + 1 })

/-- A quotient whose rounding the manual does not state: rounded down or up by a free value. -/
def Dev.freeQuot (d : Dev) (num den : Nat) : Nat × Dev :=
  if num % den = 0 then (num / den, d)
  else let (w, d) := d.takeFree
    (num / den + w.toNat % 2, d)

/-- The nanosecond bits of the House Clock (R399). -/
def Dev.ns (d : Dev) : W32 := d.hck.time.extractLsb' 24 32
/-- The House Clock in ns × 2^16 (R400). -/
def Dev.time48 (d : Dev) : Nat := d.hck.time.toNat >>> 8
/-- Time a is at or after time b, both ns × 2^16 (R401). -/
def atOrAfter (a b : Nat) : Bool := decide ((a + 2 ^ 48 - b % 2 ^ 48) % 2 ^ 48 < 2 ^ 47)

/-! ### What the device sends -/

/-- Send something outward. -/
def Dev.emit (d : Dev) (o : Out) : Dev := { d with outbox := d.outbox ++ [o] }

/-- A vector is masked: by its own mask bit or by the function's. -/
def Dev.vectorMasked (d : Dev) (v : Nat) : Bool := d.hif.functionMask || tabGet (fun _ => true) d.hif.msixMasked v

/-- An MSI-X message falls due on a vector: held while the link is down (R332), made pending while masked (R340), else sent; none is
while MSI-X is not in use. -/
def Dev.msix (d : Dev) (v : Nat) : Dev :=
  if !d.hif.msixEnable then d
  else if !d.hif.linkUp then { d with hif := { d.hif with heldMsix := d.hif.heldMsix ++ [v] } }
  else if d.vectorMasked v then
    if d.hif.msixPending.contains v then d else { d with hif := { d.hif with msixPending := d.hif.msixPending ++ [v] } }
  else d.emit (.msix v)

/-! ### Event lines (R484) -/

/-- An event comes on a pulse line. -/
def Dev.pulse (d : Dev) (n : Nat) : Dev :=
  { d with lines := { recent := (n, 0) :: d.lines.recent.filter (fun e => e.1 != n)
                      seen := if d.lines.seen.contains n then d.lines.seen else n :: d.lines.seen } }

/-- `k` house ticks pass on the pulse lines: an event's line is active for 4.0 ns, which is one tick, and an edge of it is presented
within two (notes/assumptions/111.md). -/
def Lines.pass (x : Lines) (k : Nat) : Lines :=
  { x with recent := (x.recent.filter (fun e => decide (e.2 + k ≤ 2))).map (fun e => (e.1, e.2 + k)) }

/-- The pulse line of an event that has a Callboard source of its own (Table 16-2). -/
def lineOf (src : Nat) : Option Nat :=
  match src with
  | 71 => some 172 | 118 => some 83 | 128 => some 98 | 134 => some 100 | 136 => some 101 | 192 => some 163 | 341 => some 168
  | _ => if 448 ≤ src then some (src - 272) else none

/-! ### The Callboard -/

/-- The 8-bit count of a source; the source is pending while it is above 0 (R519, R520). -/
def Dev.arrivalCount (d : Dev) (src : Nat) : Nat := tabGet (fun _ => 0) d.arrivals src

/-- A source is enabled. -/
def Dev.clbEnabled (d : Dev) (src : Nat) : Bool := d.bit (Reg.clbEnable (src / 32)) (src % 32)

/-- A source's route names target t: management cores 0 to 3, or 4 the host (R521). -/
def Dev.clbRouted (d : Dev) (src t : Nat) : Bool := d.bit (Reg.clbRoute src) t

/-- A source is deliverable to target t (R521). -/
def Dev.deliverable (d : Dev) (src t : Nat) : Bool :=
  decide (0 < d.arrivalCount src) && d.clbEnabled src && d.clbRouted src t && !d.bit (Reg.clbMask t (src / 32)) (src % 32)

/-- The cores that a pending source wakes: those it is routed to while enabled, masked or not (R522). -/
def Dev.wakeFor (d : Dev) (src : Nat) : Dev :=
  if decide (0 < d.arrivalCount src) && d.clbEnabled src then
    { d with asleep := d.asleep &&& ~~~((d.reg (Reg.clbRoute src)).extractLsb' 0 4) }
  else d

/-- The message of a source deliverable to the host (R523). -/
def Dev.deliverHost (d : Dev) (src : Nat) : Dev :=
  if d.deliverable src 4 then d.msix (d.fld (Reg.clbRoute src) 16 8) else d

/-- An arrival of a source (R519, R522, R523), and the event line that follows it (R484). -/
def Dev.raise (d : Dev) (src : Nat) : Dev :=
  let d := { d with arrivals := tabSet (fun _ => 0) d.arrivals src (min 255 (d.arrivalCount src + 1)) }
  let d := match lineOf src with | some n => d.pulse n | none => d
  (d.wakeFor src).deliverHost src

/-- Set a status flag and raise a source. -/
def Dev.flagRaise (d : Dev) (off i src : Nat) : Dev := (d.setBit off i).raise src

/-! ### Completion queues -/

/-- A pair that has never been enabled. -/
def Pair.init (_ : Nat) : Pair :=
  { active := false, err := 0, sqHead := 0, sqTail := 0, cqHead := 0, cqTail := 0, phase := true, unsignalled := 0
    held := [] }

/-- Pair q. -/
def Dev.pair (d : Dev) (q : Nat) : Pair := tabGet Pair.init d.hif.pairs q
/-- Store pair q. -/
def Dev.setPair (d : Dev) (q : Nat) (p : Pair) : Dev :=
  { d with hif := { d.hif with pairs := tabSet Pair.init d.hif.pairs q p } }

/-- Entries of the submission queue. -/
def Dev.sqSize (d : Dev) (q : Nat) : Nat := d.fld (Reg.hifQsize q) 15 0 + 1
/-- Entries of the completion queue. -/
def Dev.cqSize (d : Dev) (q : Nat) : Nat := d.fld (Reg.hifQsize q) 31 16 + 1

/-- The completion queue has a free slot: a ring of n entries holds n − 1 (notes/assumptions/21.md). -/
def Dev.cqRoom (d : Dev) (q : Nat) : Bool :=
  let p := d.pair q
  (p.cqTail + 1) % d.cqSize q != p.cqHead

/-- Send the pair's message (R340). -/
def Dev.cqSignal (d : Dev) (q : Nat) : Dev :=
  (d.setPair q { d.pair q with unsignalled := 0 }).msix (d.fld (Reg.hifQcfg q) 12 4)

/-- Write one entry into the next slot of the completion queue, with the phase of the pass (R339), and signal (R340). -/
def Dev.cqWrite (d : Dev) (q : Nat) (e : List Byte) : Dev :=
  let p := d.pair q
  let b0 := (e.headD 0) ||| (if p.phase then 1 else 0)
  let base := d.reg64 (Reg.hifQcqBase q)
  let d := { d with mems := { d.mems with host := memPuts d.mems.host (base + 32 * p.cqTail) (b0 :: e.drop 1) } }
  let t := p.cqTail + 1
  let wrap := decide (d.cqSize q ≤ t)
  let p := { p with cqTail := if wrap then 0 else t, phase := if wrap then !p.phase else p.phase, unsignalled := p.unsignalled + 1 }
  let d := d.setPair q p
  if d.fld (Reg.hifQirq q) 7 0 ≤ p.unsignalled then d.cqSignal q else d

/-- Write an entry, or hold it while its queue is full or the link is down, keeping the order (R332, R339). -/
def Dev.post (d : Dev) (q : Nat) (e : List Byte) : Dev :=
  let p := d.pair q
  if p.held.isEmpty && d.cqRoom q && d.hif.linkUp then d.cqWrite q e else d.setPair q { p with held := p.held ++ [e] }

/-- Write held entries while there is room, at most `n`. -/
def Dev.drain : Nat → Dev → Nat → Dev
  | 0, d, _ => d
  | n + 1, d, q =>
    match (d.pair q).held with
    | [] => d
    | e :: es => if d.cqRoom q && d.hif.linkUp then Dev.drain n ((d.setPair q { d.pair q with held := es }).cqWrite q e) q else d

/-- Write every held entry that has room. -/
def Dev.drainAll (d : Dev) (q : Nat) : Dev := Dev.drain (d.pair q).held.length d q

/-- The status codes (Table 11-8). -/
inductive Status where
  | success | invalidOpcode | reservedField | outOfRange | noProgram | refused | streamState | noEntry | noSpace | dmaError
  | aborted | curtain | notReady
deriving DecidableEq, Repr

/-- The code of a status. -/
def Status.code : Status → Nat
  | .success => 0x00 | .invalidOpcode => 0x01 | .reservedField => 0x02 | .outOfRange => 0x03 | .noProgram => 0x04
  | .refused => 0x05 | .streamState => 0x06 | .noEntry => 0x07 | .noSpace => 0x08 | .dmaError => 0x09 | .aborted => 0x0A
  | .curtain => 0x0B | .notReady => 0x0C

/-- The bytes of a command completion, its phase not yet set (Table 11-7). -/
def completionBytes (sqHead cid st reason r0 r1 r2 : Nat) : List Byte :=
  leBytes 2 0x10 ++ leBytes 2 sqHead ++ leBytes 2 cid ++ leBytes 1 st ++ leBytes 1 reason ++ leBytes 8 r0 ++ leBytes 8 r1 ++ leBytes 8 r2

/-- Complete a command with a reason and results (R342). -/
def Dev.completeWith (d : Dev) (c : Submission) (st : Status) (reason r0 r1 r2 : Nat) : Dev :=
  d.post c.q.val (completionBytes (d.pair c.q.val).sqHead c.cid.toNat st.code reason r0 r1 r2)

/-- Complete a command without results. -/
def Dev.complete (d : Dev) (c : Submission) (st : Status) : Dev := d.completeWith c st 0 0 0 0

/-- Complete several commands. -/
def Dev.completeAll (d : Dev) (cs : List Submission) (st : Status) : Dev := cs.foldl (fun d c => d.complete c st) d

/-- Bytes of host memory. -/
def Dev.hostWrite (d : Dev) (a : Nat) (bs : List Byte) : Dev := { d with mems := { d.mems with host := memPuts d.mems.host a bs } }

/-! ### Grades -/

/-- Lit tiles (R4): 512 on the NZ8-M700, 480 on the NZ8-M650. -/
def Ident.tiles (i : Ident) : Nat := if i.grade = 1 then 480 else 512
/-- Logical rows of the Stage (R46). -/
def Ident.rows (i : Ident) : Nat := if i.grade = 1 then 15 else 16
/-- The Stage's full-rate draw S (R437). -/
def Ident.stageDraw (i : Ident) : Nat := if i.grade = 1 then 44 else 46

/-! ### Regions of HBM -/

/-- The end of HBM (10.3). -/
def hbmEnd : Nat := 0x6000000000
/-- The program region starts here (R311). -/
def hbmProg : Nat := 0x0800000000
/-- The twin region starts after `size` bytes of program region, at a multiple of 1 GiB (R311). -/
def twinStart (size : Nat) : Nat := hbmProg + ceilDiv size (2 ^ 30) * 2 ^ 30

/-! ### Lifting a meaning of the package to the machine -/

/-- What a command of the package does: nothing while the package has no power (R545). -/
def onDev (f : Ident → Dev → Dev) (s : State) : Host.Outcome State Fault Refusal :=
  if s.board.power = .on then .next { s with dev := f s.ident s.dev } else .next s

end Sys2Proof.Machine
end

