-- ==== Sys2Proof/Machine/Fabric.lean ====
section
/-! DEFINITION. The fabric's link layer: training (R359 to R371), frames (R372 to R374), retry and credits (R375 to R378),
versions (R380, R381), routing (R384, R385), groups (R389) and heartbeats (R466).
Table 12-12: R394; reasons of failure: R396. -/
namespace Sys2Proof.Machine

/-! ### Ports -/

/-- Port p. -/
def Dev.port (d : Dev) (p : Nat) : Port := tabGet (fun _ => Port.reset) d.fab.ports p
/-- Store port p. -/
def Dev.setPort (d : Dev) (p : Nat) (x : Port) : Dev :=
  { d with fab := { d.fab with ports := tabSet (fun _ => Port.reset) d.fab.ports p x } }
/-- FAB_STATUSp.STATE (Table 12-13). -/
def Dev.portState (d : Dev) (p : Nat) : Nat := d.fld (Reg.fabStatus p) 2 0
/-- Port p is UP. -/
def Dev.portUp (d : Dev) (p : Nat) : Bool := d.portState p == 6
/-- The port runs version 2 (R381). -/
def Dev.portV2 (d : Dev) (p : Nat) : Bool := d.bit (Reg.fabStatus p) 13
/-- LEN limit of the negotiated version (Table 12-9). -/
def Dev.lenLimit (d : Dev) (p : Nat) : Nat := if d.portV2 p then 2048 else 4096
/-- Lane l of a port. -/
def Port.lane (x : Port) (l : Nat) : Lane := x.lanes.getD l Lane.reset
/-- Change lane l of port p. -/
def Dev.onLane (d : Dev) (p l : Nat) (f : Lane → Lane) : Dev :=
  let x := d.port p
  d.setPort p { x with lanes := x.lanes.set l (f (x.lane l)) }

/-- This device's index. -/
def Dev.index (d : Dev) : Nat := d.fld Reg.fabEns 28 16
/-- The ensemble's device count. -/
def Dev.devices (d : Dev) : Nat := d.fld Reg.fabEnsCount 13 0
/-- The lead's index. -/
def Dev.leadIndex (d : Dev) : Nat := d.fld Reg.fabEnsCount 28 16
/-- FAB_SERVE names `i` (R384). -/
def Dev.serves (d : Dev) (i : Nat) : Bool := d.bit Reg.fabServe 31 && d.fld Reg.fabServe 12 0 == i
/-- A destination is this device (R384). -/
def Dev.forMe (d : Dev) (i : Nat) : Bool := i == d.index || d.serves i
/-- FAB_ENS.LEAD: INDEX equals LEAD_INDEX (Table 12-15). -/
def Dev.ensLead (d : Dev) : Bool := d.index == d.leadIndex
/-- This device has the role of the lead: by its index, or taken with FAB_SERVE from a lead that failed (R469). -/
def Dev.isLead (d : Dev) : Bool := d.forMe d.leadIndex
/-- The device has joined its ensemble (R382). -/
def Dev.joined (d : Dev) : Bool := d.bit Reg.fabEns 29

/-! ### Frames -/

/-- FTYPE of a frame. -/
def frameType (f : Frame) : Nat := bits f.start.toNat 8 4
/-- SEQ of a frame. -/
def frameSeq (f : Frame) : Nat := bits f.start.toNat 16 8
/-- ACK of a frame. -/
def frameAck (f : Frame) : Nat := bits f.start.toNat 24 8
/-- ACKV of a frame. -/
def frameAckV (f : Frame) : Bool := bitAt f.start.toNat 32
/-- NAK of a frame. -/
def frameNak (f : Frame) : Bool := bitAt f.start.toNat 33
/-- LEN of a frame. -/
def frameLen (f : Frame) : Nat := bits f.start.toNat 40 13
/-- HOPLIM of a frame. -/
def frameHop (f : Frame) : Nat := bits f.start.toNat 56 8
/-- DST of a frame. -/
def frameDst (f : Frame) : Nat := bits f.hdr.toNat 0 13
/-- SRC of a frame. -/
def frameSrc (f : Frame) : Nat := bits f.hdr.toNat 16 13
/-- ENS of a frame. -/
def frameEns (f : Frame) : Nat := bits f.hdr.toNat 32 16
/-- Header byte 6 of a frame: DQ and MGMT. -/
def frameB6 (f : Frame) : Nat := bits f.hdr.toNat 48 8
/-- ERA of a frame. -/
def frameEra (f : Frame) : Nat := bits f.hdr.toNat 56 8

/-- The CRC of a frame (R374): START bytes 1 to 7, the header, the payload. -/
def frameCrc (start hdr : W64) (payload : List Byte) : Nat :=
  crc32c ((leBytes 8 start.toNat).drop 1 ++ leBytes 8 hdr.toNat ++ payload)

/-- A frame is malformed (R373). -/
def frameBad (limit : Nat) (f : Frame) : Bool :=
  f.stray || f.payload.length != frameLen f || frameLen f % 8 != 0 || decide (limit < frameLen f) ||
    frameCrc f.start f.hdr f.payload != f.crc.toNat

/-- The START block of a frame to send (Table 12-5). -/
def TxFrame.start (f : TxFrame) (seq ack : Nat) (nak : Bool) : W64 :=
  BitVec.ofNat 64 (leNat (leBytes 1 0x78 ++ leBytes 1 f.ftype ++ leBytes 1 seq ++ leBytes 1 ack ++ leBytes 1 (1 + 2 * b2n nak) ++
    leBytes 2 f.payload.length ++ leBytes 1 f.hop))

/-- The header block of a frame to send (Table 12-5). -/
def TxFrame.hdr (f : TxFrame) : W64 :=
  BitVec.ofNat 64 (leNat (leBytes 2 f.dst ++ leBytes 2 f.src ++ leBytes 2 f.ens ++ leBytes 1 f.b6 ++ leBytes 1 f.era))

/-- Bytes that a sequenced frame counts in the window (R375). -/
def TxFrame.size (f : TxFrame) : Nat := f.payload.length + 24
/-- Credits that a frame takes (R378). -/
def frameCredits (payload : Nat) : Nat := ceilDiv (payload + 24) 64

/-- A frame of this device: its INDEX, ENS and ERA, HOPLIM 32 (R384). -/
def Dev.frame (d : Dev) (ftype dst b6 : Nat) (payload : List Byte) : TxFrame :=
  { ftype := ftype, dst := dst, src := d.index, ens := d.fld Reg.fabEns 15 0, b6 := b6, era := d.fld Reg.fabEra 7 0, hop := 32
    payload := payload, origin := none }

/-- A frame as it goes out: its START, header and payload blocks, and the CRC of its END block (R372, R374). -/
def TxFrame.out (f : TxFrame) (p seq ack : Nat) (nak : Bool) : Out :=
  .frame p (f.start seq ack nak) f.hdr f.payload (BitVec.ofNat 32 (frameCrc (f.start seq ack nak) f.hdr f.payload))

/-- Transmit a frame on a port now, carrying ACK = E (R375). -/
def Dev.transmit (d : Dev) (p : Nat) (f : TxFrame) (seq : Nat) (nak : Bool) : Dev :=
  (d.emit (f.out p seq (d.port p).expect nak)).wideAdd (Reg.fabTxBytes p) f.payload.length

/-- Send an unsequenced frame on a port that is UP; SEQ is 0 (R373). -/
def Dev.sendPlain (d : Dev) (p : Nat) (f : TxFrame) : Dev := if d.portUp p then d.transmit p f 0 false else d

/-- Send ACK = E, or a NAK, in a LINK_CTRL ACKNAK (R375, R376). Frames go both ways in step HELLO too (Table 12-4). -/
def Dev.sendAck (d : Dev) (p : Nat) (nak : Bool) : Dev :=
  if d.portUp p || (d.portState p == 5 && !(d.port p).retry) then
    d.transmit p (d.frame 7 (d.fld (Reg.fabPeer p) 12 0) 0 (padTo 8 [2])) 0 nak
  else d

/-- Return credits in a LINK_CTRL CREDIT frame (R378); a port that is not UP owes them until it is. -/
def Dev.sendCredit (d : Dev) (p n : Nat) : Dev :=
  if d.portUp p then d.transmit p (d.frame 7 (d.fld (Reg.fabPeer p) 12 0) 0 ([3, 0, 0, 0] ++ leBytes 4 n)) 0 false
  else d.setPort p { d.port p with owed := (d.port p).owed + n }

/-- A forwarded frame has left the buffer it stood in, and its credits are returned (R378). -/
def Dev.leaveBuffer (d : Dev) (f : TxFrame) : Dev :=
  match f.origin with
  | some q => d.sendCredit q (frameCredits f.payload.length)
  | none => d

/-! ### The sequenced sender -/

/-- The head of the waiting frames may enter the retry window (R375, R378, Table 12-9). -/
def Dev.mayEnter (d : Dev) (p : Nat) (f : TxFrame) : Bool :=
  let x := d.port p
  let v2 := d.portV2 p
  d.portUp p && decide (x.held.length < (if v2 then 32 else 64)) &&
    decide ((x.held.map (fun h => h.2.size)).sum + f.size ≤ (if v2 then 65536 else 131072)) &&
    decide (frameCredits f.payload.length ≤ x.credits)

/-- Send waiting frames while they may enter the window, at most `n`. -/
def Dev.pump : Nat → Dev → Nat → Dev
  | 0, d, _ => d
  | n + 1, d, p =>
    let x := d.port p
    match x.txq with
    | [] => d
    | f :: fs =>
      if d.mayEnter p f then
        let d := d.transmit p f x.txSeq false
        let d := d.setPort p { x with txq := fs, held := x.held ++ [(x.txSeq, f)], txSeq := (x.txSeq + 1) % 256
                                      credits := x.credits - frameCredits f.payload.length }
        Dev.pump n (d.leaveBuffer f) p
      else d

/-- Move records of the Understudy's log queue to port 16 while they may enter its window, at most `n` (R465). -/
def Dev.pumpLog : Nat → Dev → Dev
  | 0, d => d
  | n + 1, d =>
    match d.usy.logq with
    | [] => d
    | r :: rs =>
      let f := d.frame 6 (d.fld (Reg.fabPeer 16) 12 0) 0 r
      if (d.port 16).txq.isEmpty && d.mayEnter 16 f then
        let d := { d with usy := { d.usy with logq := rs } }
        let d := Dev.pump 1 (d.setPort 16 { d.port 16 with txq := [f] }) 16
        let d := d.setReg Reg.usyLogBacklog (BitVec.ofNat 32 (min (rs.map List.length).sum 268435456))
        Dev.pumpLog n (d.wideAdd Reg.usyLogBytes r.length)
      else d

/-- Send whatever may be sent on a port; on port 16 the log queue follows. -/
def Dev.pumpAll (d : Dev) (p : Nat) : Dev :=
  let d := Dev.pump (d.port p).txq.length d p
  if p = 16 then Dev.pumpLog d.usy.logq.length d else d

/-- Put a sequenced frame on a port. -/
def Dev.enqueue (d : Dev) (p : Nat) (f : TxFrame) : Dev :=
  let x := d.port p
  (d.setPort p { x with txq := x.txq ++ [f] }).pumpAll p

/-- The index that routing uses for a destination (R385): TO of a valid alias. -/
def Dev.routeIndex (d : Dev) (dst : Nat) : Nat :=
  match (List.range 16).find? (fun n => d.bit (Reg.fabAlias n) 31 && d.fld (Reg.fabAlias n) 12 0 == dst) with
  | some n => d.fld (Reg.fabAlias n) 28 16
  | none => dst

/-- A valid alias names the device (R386). -/
def Dev.aliased (d : Dev) (i : Nat) : Bool :=
  (List.range 16).any (fun n => d.bit (Reg.fabAlias n) 31 && d.fld (Reg.fabAlias n) 12 0 == i)

/-- The port a frame to `dst` leaves on (R385). -/
def Dev.routePort (d : Dev) (dst : Nat) : Option Nat :=
  let e := Reg.fabRoute (d.routeIndex dst)
  if !d.bit e 31 then none
  else if d.portUp (d.fld e 3 0) then some (d.fld e 3 0)
  else if d.bit e 8 && d.portUp (d.fld e 7 4) then some (d.fld e 7 4)
  else none

/-- Send a sequenced frame to its destination; without a port it waits (R385). -/
def Dev.sendRouted (d : Dev) (f : TxFrame) : Dev :=
  match d.routePort f.dst with
  | some p => d.enqueue p f
  | none => { d with fab := { d.fab with waiting := d.fab.waiting ++ [f] } }

/-- Try the frames that had no port again. -/
def Dev.reroute (d : Dev) : Dev :=
  d.fab.waiting.foldl (fun d f => d.sendRouted f) { d with fab := { d.fab with waiting := [] } }

/-- Send a management message (R383). -/
def Dev.sendMgmt (d : Dev) (dst msg : Nat) (content : List Byte) : Dev :=
  d.sendRouted (d.frame 1 dst 8 (padTo 16 (leBytes 4 msg ++ content)))

/-! ### Retry -/

/-- A frame carries the COMMIT record of a step (Table 15-3). -/
def TxFrame.commitOf (f : TxFrame) (seq : Nat) : Bool := f.ftype == 6 && field f.payload 0 1 == 2 && field f.payload 4 4 == seq % 2 ^ 32

/-- Discard the frames of the retry window, counting them (R377). The twin will not acknowledge a COMMIT among them (R464). -/
def Dev.discardHeld (d : Dev) (p : Nat) : Dev :=
  let x := d.port p
  let gone := fun (c : CommitWait) => p == 16 && x.held.any (fun h => h.2.commitOf c.seq)
  let d := { d with usy := { d.usy with commits := d.usy.commits.map (fun (c : CommitWait) => { c with lost := c.lost || gone c }) } }
  (d.setPort p { x with held := [] }).addReg (Reg.fabDrop p) x.held.length

/-- Enter CLOCK (Table 12-4): preset taps, no precoding, lanes to be trained again. -/
def Dev.enterClock (d : Dev) (p : Nat) : Dev :=
  let d := (List.range 4).foldl (fun d l => d.setReg (Reg.fabTap p l) (regReset (Reg.fabTap p l))) d
  let d := (d.setFld (Reg.fabStatus p) 2 0 1).setFld (Reg.fabStatus p) 15 13 0
  d.setPort p { d.port p with retry := false, lanes := Port.reset.lanes }

/-- Leaving UP, for whatever cause, sets DOWN and raises the port's source (R371, Table 12-16). -/
def Dev.noteDown (d : Dev) (p : Nat) : Dev := d.flagRaise (Reg.fabStatus p) 16 (256 + 4 * p + 1)

/-- An UP port leaves UP (R371). -/
def Dev.leaveUp (d : Dev) (p reason : Nat) : Dev := ((d.setFld (Reg.fabStatus p) 6 3 reason).enterClock p).noteDown p

/-- A training attempt fails (R369); after sixteen in a row the port is DEAD, and its held frames are discarded (R377). -/
def Dev.trainFail (d : Dev) (p reason : Nat) : Dev :=
  let d := (d.setFld (Reg.fabStatus p) 6 3 reason).count (Reg.fabTrains p)
  let n := (d.port p).fails + 1
  let d := d.setPort p { d.port p with fails := n, retry := decide (n < 16) }
  if n < 16 then d
  else ((d.setFld (Reg.fabStatus p) 2 0 7).discardHeld p).raise (256 + 4 * p + 1)

/-- An ACK releases every held frame before SEQ `a` (R375). -/
def Dev.ackTo (d : Dev) (p a : Nat) : Dev :=
  let x := d.port p
  match x.held with
  | [] => d
  | (s, _) :: _ =>
    let k := (a + 256 - s) % 256
    if x.held.length < k then d
    else d.setPort p { x with held := x.held.drop k, replays := if k = 0 then x.replays else 0 }

/-- The time that some frames take on the four lanes of a port, in ns × 2^16 (R356, R360): LEN + 24 bytes each, 66 bits at 212.5 Gb/s
for 8 of them. -/
def lineTime (fs : List TxFrame) : Nat := (fs.map TxFrame.size).sum / 8 * 66 * 655360 / (4 * 2125)

/-- Replay the held frames (R376); the sixteenth replay without progress takes the port down (R377). -/
def Dev.replayHeld (d : Dev) (p : Nat) : Dev :=
  let x := d.port p
  match x.held with
  | [] => d
  | (s, _) :: _ =>
    let d := (d.count (Reg.fabRetries p)).pulse (112 + 3 * p)
    let d := x.held.foldl (fun d h => d.transmit p h.2 h.1 false) d
    let till := (d.time48 + lineTime (x.held.map Prod.snd)) % 2 ^ 48
    let d := d.setPort p { x with replays := x.replays + 1, replaying := some (s, till) }
    if 16 ≤ x.replays + 1 then (d.setPort p { d.port p with replays := 0 }).leaveUp p 8 else d

/-- A replay from SEQ `a` is on the line (R376, notes/assumptions/104.md). -/
def Dev.replaysFrom (d : Dev) (p a : Nat) : Bool :=
  match (d.port p).replaying with
  | some (s, till) => s == a && !atOrAfter d.time48 till
  | none => false

/-- What the ACK fields of a well-formed frame do (R375, R376): held frames are replayed before new ones are sent (R374). -/
def Dev.takeAck (d : Dev) (p : Nat) (f : Frame) : Dev :=
  if frameAckV f then
    let d := d.ackTo p (frameAck f)
    (if frameNak f && !d.replaysFrom p (frameAck f) then d.replayHeld p else d).pumpAll p
  else d

/-! ### Receiving -/

/-- Count a CRC error, with the source of each multiple of the threshold that the count passes (R361, R373, Table 12-15). -/
def Dev.crcError (d : Dev) (p : Nat) : Dev :=
  let n := (d.reg (Reg.fabCrcErr p)).toNat + 1
  let t := (d.reg Reg.fabErrThresh).toNat
  let d := (d.count (Reg.fabCrcErr p)).pulse (113 + 3 * p)
  if t ≠ 0 ∧ n < 2 ^ 32 ∧ n % t = 0 then d.raise (256 + 4 * p + 2) else d

/-- Discard an accepted frame (R373). -/
def Dev.dropFrame (d : Dev) (p : Nat) : Dev :=
  ((d.count (Reg.fabDrop p)).setBit (Reg.fabStatus p) 17).raise (256 + 4 * p + 3)

/-- A frame for this device that no cue will take: counted alone (R393). -/
def Dev.countDrop (d : Dev) (p : Nat) : Dev := d.count (Reg.fabDrop p)

/-- Receive an unsequenced frame that the port does not accept: counted and lost (R373, Table 12-6, notes/assumptions/104.md). -/
def Dev.refusePlain (d : Dev) (p : Nat) (f : Frame) : Dev :=
  if !d.portUp p then d
  else if frameBad (d.lenLimit p) f then (d.crcError p).sendAck p true
  else (d.takeAck p f).dropFrame p

/-- Receive an unsequenced frame on a port that is UP: a malformed one is counted and answered by a NAK (R373). -/
def Dev.receivePlain (d : Dev) (p : Nat) (f : Frame) (act : Dev → Dev) : Dev :=
  if !d.portUp p then d
  else if frameBad (d.lenLimit p) f then (d.crcError p).sendAck p true
  else act ((d.takeAck p f).wideAdd (Reg.fabRxBytes p) (frameLen f))

/-- A port accepts the FTYPE (Table 12-6). -/
def typeAccepted (p t : Nat) : Bool := if t = 6 then p == 16 else (t == 1 || t == 2 || t == 4) && p != 16

/-- What becomes of a frame that is for this device: taken, or it waits in the port buffer. -/
inductive Delivered where
  | taken (d : Dev) | waits

/-- Forward a frame that came in on a port; it stands in that port's buffer until it is sent (R378, R384). -/
def Dev.forward (d : Dev) (p : Nat) (f : Frame) : Dev :=
  d.sendRouted { ftype := frameType f, dst := frameDst f, src := frameSrc f, ens := frameEns f, b6 := frameB6 f
                 era := frameEra f, hop := frameHop f - 1, payload := f.payload, origin := some p }

/-- Deliver an accepted frame, or keep it in the port buffer, holding its credits (R378, R387, R390, R409). -/
def Dev.deliverOrKeep (d : Dev) (p : Nat) (f : Frame) (deliver : Dev → Nat → Frame → Delivered) : Dev :=
  match deliver d p f with
  | .taken d => d.sendCredit p (frameCredits (frameLen f))
  | .waits => d.setPort p { d.port p with buffer := (d.port p).buffer ++ [f] }

/-- A sequenced frame accepted in sequence is checked further, forwarded or delivered (R373, R384). -/
def Dev.acceptSeq (d : Dev) (p : Nat) (f : Frame) (deliver : Dev → Nat → Frame → Delivered) : Dev :=
  let n := frameCredits (frameLen f)
  if !typeAccepted p (frameType f) || frameEns f != d.fld Reg.fabEns 15 0 then (d.dropFrame p).sendCredit p n
  else if frameType f = 6 || d.forMe (frameDst f) then d.deliverOrKeep p f deliver
  else if frameHop f = 0 then (d.dropFrame p).sendCredit p n
  else d.forward p f

/-- Receive a sequenced frame (R373, R375). -/
def Dev.receiveSeq (d : Dev) (p : Nat) (f : Frame) (deliver : Dev → Nat → Frame → Delivered) : Dev :=
  if !d.portUp p then d
  else if frameBad (d.lenLimit p) f then (d.crcError p).sendAck p true
  else
    let d := d.takeAck p f
    let e := (d.port p).expect
    let back := (e + 256 - frameSeq f) % 256
    if back = 0 then
      let d := (d.setPort p { d.port p with expect := (e + 1) % 256 }).wideAdd (Reg.fabRxBytes p) (frameLen f)
      (d.sendAck p false).acceptSeq p f deliver
    else d.sendAck p (decide (64 < back))

/-! ### Training -/

/-- A tap register as PRE, MAIN, POST (Table 12-13). -/
def tapsOf (v : W32) : Nat × Nat × Nat := (bits v.toNat 0 4, bits v.toNat 4 7, bits v.toNat 12 5)
/-- A tap register. -/
def tapsReg (t : Nat × Nat × Nat) : W32 := BitVec.ofNat 32 (t.1 + t.2.1 * 16 + t.2.2 * 4096)
/-- Taps that R364 permits. -/
def tapsOk (t : Nat × Nat × Nat) : Bool :=
  decide (t.1 ≤ 12) && decide (32 ≤ t.2.1) && decide (t.2.1 ≤ 64) && decide (t.2.2 ≤ 24) && decide (t.1 + t.2.1 + t.2.2 ≤ 64)

/-- One request on one tap: the new value and the answer (Table 12-3): 0 none, 1 updated, 2 limit. -/
def tapAsk (r v : Nat) (ok : Nat → Bool) : Nat × Nat :=
  if r = 1 then (if ok (v + 1) then (v + 1, 1) else (v, 2))
  else if r = 2 then (if v ≠ 0 && ok (v - 1) then (v - 1, 1) else (v, 2))
  else (v, 0)

/-- Apply the requests of a TRAIN block: PRE, MAIN, POST in turn, or PRESET; the answers are RSP of byte 4. -/
def tapRequest (b2 : Nat) (t : Nat × Nat × Nat) : (Nat × Nat × Nat) × Nat :=
  if bitAt b2 6 then (tapsOf (regReset (Reg.fabTap 0 0)), 0x15)
  else
    let (pre, a) := tapAsk (bits b2 0 2) t.1 (fun v => tapsOk (v, t.2.1, t.2.2))
    let (main, b) := tapAsk (bits b2 2 2) t.2.1 (fun v => tapsOk (pre, v, t.2.2))
    let (pst, c) := tapAsk (bits b2 4 2) t.2.2 (fun v => tapsOk (pre, main, v))
    ((pre, main, pst), a + b * 4 + c * 16)

/-- Send the next request of the adaptation (R367). -/
def Lane.ask (x : Lane) (idx : Nat) (rev : Bool) : Lane :=
  { x with eq := .request idx rev, rid := (x.rid + 1) % 16, count := (x.count + 1) % 4096 }

/-- The head of the while loop of R367. -/
def Lane.loop (x : Lane) (target minfom maxreq : Nat) : Lane :=
  if x.better && decide (x.best < target) && decide (x.count < maxreq) then { x with better := false }.ask 0 false
  else if minfom ≤ x.best then { x with eq := .done }
  else { x with eq := .failed }

/-- The next tap and direction, or the next round. -/
def Lane.advance (x : Lane) (idx target minfom maxreq : Nat) : Lane :=
  if 6 ≤ idx then x.loop target minfom maxreq else x.ask idx false

/-- The answer to request `idx`: taps in the order POST, PRE, MAIN (R367); RSP holds PRE, MAIN, POST. -/
def rspOf (rsp idx : Nat) : Nat := bits rsp (if idx / 2 = 0 then 4 else if idx / 2 = 1 then 0 else 2) 2

/-- One TRAIN block as the receiver's adaptation sees it (R367): the figure of merit now, the peer's SID and RSP, and whether
the peer precodes as asked. -/
def Lane.adapt (x : Lane) (target minfom maxreq fom sid rsp : Nat) (precoded : Bool) : Lane :=
  match x.eq with
  | .precode => if precoded then { x with best := fom, count := 0, better := true }.loop target minfom maxreq else x
  | .request idx rev =>
    if sid ≠ x.rid then x
    else if rev then x.advance (idx + 1) target minfom maxreq
    else if rspOf rsp idx = 1 then
      if x.best < fom then { x with best := fom, better := true }.advance (idx + 1) target minfom maxreq else x.ask idx true
    else x.advance (idx + 1) target minfom maxreq
  | .done => x
  | .failed => x

/-- The TRAIN block this device sends on a lane (Table 12-3). -/
def Dev.trainBlock (d : Dev) (p l fom : Nat) : W64 :=
  let x := (d.port p).lane l
  let b1 := l + 4 * b2n (d.bit (Reg.fabStatus p) (9 + l)) + 8 * b2n (d.portState p == 3 && d.bit (Reg.fabCtrl p) 1) +
    16 * b2n (d.bit (Reg.fabStatus p) 14) + 32 * b2n (x.eq == .done)
  let b2 := match x.eq with
    | .request idx rev =>
      let dir := if (idx % 2 == 0) != rev then 1 else 2
      dir <<< (if idx / 2 = 0 then 4 else if idx / 2 = 1 then 0 else 2)
    | _ => 0
  BitVec.ofNat 64 (leNat (leBytes 1 0x55 ++ leBytes 1 b1 ++ leBytes 1 b2 ++ leBytes 1 (x.rid + x.sid * 16) ++ leBytes 1 x.rsp ++
    leBytes 2 fom ++ leBytes 1 0))

/-- Every lane sends a TRAIN block (R365), with its receiver's current figure of merit. -/
def Dev.sendTrain (d : Dev) (p : Nat) : Dev :=
  (List.range 4).foldl (fun d l => d.emit (.block p l (d.trainBlock p l (d.fld (Reg.fabFom p l) 15 0)))) d

/-- Every lane sends an ALIGN block at the same point (R363): its number and the count. -/
def Dev.sendAlign (d : Dev) (p : Nat) : Dev :=
  let n := (d.port p).txAcnt
  let d := d.setPort p { d.port p with txAcnt := (n + 1) % 65536 }
  (List.range 4).foldl (fun d l => d.emit (.block p l (BitVec.ofNat 64 (0x4B + l * 2 ^ 8 + n * 2 ^ 16)))) d

/-- LOCK ends when all four lanes are locked at both ends (Table 12-4). -/
def Dev.lockCheck (d : Dev) (p : Nat) : Dev :=
  if d.portState p = 2 && d.fld (Reg.fabStatus p) 12 9 == 15 && (d.port p).lanes.all (fun x => x.peerLocked) && !(d.port p).retry then
    (d.setFld (Reg.fabStatus p) 2 0 3).sendTrain p
  else d

/-- CLOCK ends: LOCK begins, in which the lanes send TRAIN blocks (Table 12-4). -/
def Dev.enterLock (d : Dev) (p : Nat) : Dev := ((d.setFld (Reg.fabStatus p) 2 0 2).sendTrain p).lockCheck p

/-- The HELLO payload (Table 12-8). -/
def Dev.helloPayload (d : Dev) (p : Nat) : List Byte :=
  let vmin := if p ≠ 16 && d.bit (Reg.fabCtrl p) 2 then 2 else 3
  padTo 32 ([1, 3, BitVec.ofNat 8 vmin, BitVec.ofNat 8 p] ++ leBytes 2 8 ++ leBytes 2 (d.fld Reg.fabEns 15 0) ++ leBytes 2 d.index ++
    leBytes 1 (d.port p).expect ++ leBytes 1 (b2n (d.port p).fresh))

/-- Send a HELLO (R368). -/
def Dev.sendHello (d : Dev) (p : Nat) : Dev :=
  d.transmit p (d.frame 7 0 0 (d.helloPayload p)) 0 false

/-- EQ ends when every lane is DONE at both ends, and ALIGN blocks begin (Table 12-4); a lane below MINFOM fails the attempt with reason 2 (R367, R368). -/
def Dev.eqCheck (d : Dev) (p : Nat) : Dev :=
  let x := d.port p
  if d.portState p ≠ 3 || x.retry then d
  else if x.lanes.any (fun y => y.eq == .failed) then d.trainFail p 2
  else if x.lanes.all (fun y => y.eq == .done && y.peerDone) then (d.setFld (Reg.fabStatus p) 2 0 4).sendAlign p
  else d

/-- DESKEW ends when the lanes are ordered and carry one ACNT (R363, R368); HELLO begins. -/
def Dev.deskewCheck (d : Dev) (p : Nat) : Dev :=
  let x := d.port p
  let ps := x.lanes.map (fun y => y.place)
  if d.portState p = 4 && !x.retry && ps.all Option.isSome && ps.Nodup && x.lanes.all (fun y => y.acnt == (x.lane 0).acnt) then
    (d.setFld (Reg.fabStatus p) 2 0 5).sendHello p
  else d

/-- Enter CLOCK from a write of ENABLE (R370) or RETRAIN (R369), once boot has released the port (R530). -/
def Dev.portStart (d : Dev) (p : Nat) : Dev :=
  if d.bit (Reg.fabCtrl p) 0 && (d.port p).released then
    ((if d.portUp p then d.noteDown p else d).setPort p { d.port p with fails := 0 }).enterClock p
  else d

/-- An applied ENABLE (R370): 0 holds the port in STATE 0, 1 enters CLOCK from it. -/
def Dev.portEnableApplied (d : Dev) (p : Nat) : Dev :=
  if d.bit (Reg.fabCtrl p) 0 then (if d.portState p = 0 then d.portStart p else d)
  else
    let d := (if d.portUp p then d.noteDown p else d).setFld (Reg.fabStatus p) 2 0 0
    d.setPort p { d.port p with retry := false }

/-- What a HELLO says against this side (R380): none, or the failing reason; with the version. -/
def Dev.helloVerdict (d : Dev) (p : Nat) (h : List Byte) : Option Nat × Nat :=
  let vmax := field h 1 1
  let vmin := field h 2 1
  let mine := if p ≠ 16 && d.bit (Reg.fabCtrl p) 2 then 2 else 3
  let v := min 3 vmax
  (if v < max mine vmin then some 5
   else if p ≠ 16 && field h 6 2 != d.fld Reg.fabEns 15 0 then some 6
   else if p = 16 && bits (field h 3 1) 0 5 != 16 then some 7
   else none, v)

/-- A HELLO in step HELLO (R377, R380): the port becomes UP and resumes from the peer's NEXT_SEQ, or the attempt fails. -/
def Dev.takeHello (d : Dev) (p : Nat) (h : List Byte) : Dev :=
  if d.portState p ≠ 5 || (d.port p).retry then d
  else
    let d := (d.setReg (Reg.fabPeer p) (BitVec.ofNat 32 (bits (field h 8 2) 0 13 + bits (field h 3 1) 0 5 * 65536))).setReg
      (Reg.fabPeerId p) (BitVec.ofNat 32 (field h 4 2 + field h 6 2 * 65536))
    match d.helloVerdict p h with
    | (some r, _) => d.trainFail p r
    | (none, v) =>
      let d := (d.setFld (Reg.fabStatus p) 13 13 (b2n (v == 2))).setFld (Reg.fabStatus p) 2 0 6
      let next := field h 10 1
      let peerFresh := bitAt (field h 11 1) 0
      let x := d.port p
      let d :=
        if peerFresh || x.fresh then
          let d := d.discardHeld p
          d.setPort p { d.port p with txSeq := if peerFresh then next else x.txSeq, credits := 4096, owed := 0
                                      expect := if peerFresh then 0 else x.expect }
        else
          let d := d.ackTo p next
          let d := if (d.port p).held.isEmpty then d.setPort p { d.port p with txSeq := next } else d
          (d.port p).held.foldl (fun d h => d.transmit p h.2 h.1 false) d
      let owed := (d.port p).owed
      let d := d.setPort p { d.port p with fails := 0, fresh := false, replays := 0, delays := [], pdReq := none, owed := 0
                                           replaying := none }
      let d := if owed = 0 then d else d.sendCredit p owed
      ((d.raise (256 + 4 * p)).pumpAll p).reroute

/-! ### Groups -/

/-- A group as this device knows it (R389). -/
structure Group where
  v2 : Bool
  count : Nat
  rank : Nat
  members : List Nat
deriving DecidableEq, Repr

/-- The base of the group table of the context that runs (R389, R476). -/
def Dev.groupTable (d : Dev) : Nat :=
  bits (if d.bit Reg.usyStatus 9 then d.reg64 Reg.usyTwinGtable else d.reg64 Reg.fabGtable) 0 39

/-- The index this context answers to (R476). -/
def Dev.ownIndex (d : Dev) : Nat := if d.bit Reg.usyStatus 9 then d.fld Reg.fabServe 12 0 else d.index

/-- Group g: none where it is not VALID or does not include this device; alone, group 0 is this device with rank 0 (R389). -/
def Dev.group (d : Dev) (g : Nat) : Option Group :=
  let t := d.groupTable
  let b0 := if t = 0 then 0 else leNat (memBytes d.mems.hbm (t + 16 * g) 1)
  if g = 0 then
    if d.devices = 1 then some { v2 := bitAt b0 1, count := 1, rank := 0, members := [d.ownIndex] }
    else some { v2 := bitAt b0 1, count := d.devices, rank := d.ownIndex, members := List.range d.devices }
  else if !bitAt b0 0 then none
  else
    let rec_ := memBytes d.mems.hbm (t + 16 * g) 16
    let n := field rec_ 2 2
    let ms := (List.range n).map (fun k => leNat (memBytes d.mems.hbm (bits (field rec_ 8 8) 0 39 + 2 * k) 2))
    if ms.contains d.ownIndex then some { v2 := bitAt b0 1, count := n, rank := field rec_ 4 2, members := ms } else none

/-- A device is lost (R386): a valid alias stands in for it, unless it was lost behind its alias
(notes/assumptions/104.md). -/
def Dev.lostNow (d : Dev) (k : Nat) : Bool := (d.fab.lost.contains k && !d.aliased k) || d.fab.cut.contains k

/-- A device of the group is lost (R386). -/
def Dev.groupLost (d : Dev) (g : Group) : Bool := g.members.any (fun m => d.lostNow m)

/-! ### Heartbeats -/

/-- USY_STATUS.STATE (Table 15-7). -/
def Dev.usyState (d : Dev) : Nat := d.fld Reg.usyStatus 2 0
/-- ARMED. -/
def Dev.armed (d : Dev) : Bool := d.bit Reg.usyStatus 7

/-- The payload of a HEARTBEAT (Table 15-4); a module that is not armed yet, or drains, says RUNNING. SEQ is that of the last
committed step. -/
def Dev.heartbeatPayload (d : Dev) : List Byte :=
  let st := if d.usyState ≤ 5 then d.usyState else 0
  padTo 32 (leBytes 1 st ++ [0] ++ leBytes 2 d.usy.hbCount ++ leBytes 4 ((d.reg Reg.stgStepSeq).toNat + 2 ^ 32 - 1) ++
    leBytes 4 (d.reg Reg.cstCkptSeq).toNat)

/-- Send a HEARTBEAT on port 16 (R466): an armed or two-context module, and one that pairs. -/
def Dev.sendHeartbeat (d : Dev) : Dev :=
  if d.portUp 16 && (d.armed || (d.bit Reg.usyCtrl 0 && d.usy.loaded)) then
    (({ d with usy := { d.usy with hbCount := (d.usy.hbCount + 1) % 65536 } }).pulse 171).sendPlain 16
      (d.frame 5 (d.fld (Reg.fabPeer 16) 12 0) 0 d.heartbeatPayload)
  else d

/-- USY_STATUS.STATE takes a value; a change is told the twin at once (R466). -/
def Dev.enterUsy (d : Dev) (st : Nat) : Dev :=
  if d.usyState = st then d else (d.setFld Reg.usyStatus 2 0 st).sendHeartbeat

end Sys2Proof.Machine
end

