-- ==== Sys2Proof/Machine/Errors.lean ====
section
/-! DEFINITION. The memories and their errors (R308, R318 to R321, R326): reads and writes of bytes, what a read finds, and how an
uncorrectable error makes a paired module fail (R467). -/
namespace Sys2Proof.Machine

/-! ### Memories and their errors -/

/-- The MEMORY code (Table 10-8). -/
def memNum : MemCode → Nat
  | .tile => 1 | .cue => 2 | .lins => 3 | .ldata => 4 | .cast => 5 | .capt => 6 | .hbm => 7

/-- Bytes of the unit that carries a code: a 64-bit SRAM word or a 64-byte HBM sector (R308, R318). -/
def memUnit : MemCode → Nat
  | .hbm => 64
  | _ => 8

/-- UNIT and byte address of a key of a memory (Table 10-8): the stack of R312 for HBM. -/
def memPlace (c : MemCode) (k : Nat) : Nat × Nat :=
  match c with
  | .tile => (k / 2 ^ 24, k % 2 ^ 24)
  | .lins => (k / 2 ^ 13, k % 2 ^ 13)
  | .ldata => (k / 2 ^ 16, k % 2 ^ 16)
  | .hbm => (bits k 8 3 ^^^ bits k 19 3, k)
  | _ => (0, k)

/-- The memory of a code; the Cast Table store is held as entries, not bytes. -/
def Mems.get (m : Mems) : MemCode → Memory
  | .tile => m.tile | .cue => m.cue | .lins => m.lins | .ldata => m.ldata | .cast => [] | .capt => m.capt | .hbm => m.hbm

/-- Store a memory. -/
def Mems.put (m : Mems) (c : MemCode) (x : Memory) : Mems :=
  match c with
  | .tile => { m with tile := x } | .cue => { m with cue := x } | .lins => { m with lins := x }
  | .ldata => { m with ldata := x } | .cast => m | .capt => { m with capt := x } | .hbm => { m with hbm := x }

/-- The units with an uncorrectable error that bytes [k, k + n) touch, ascending as recorded. -/
def Dev.errorsIn (d : Dev) (c : MemCode) (k n : Nat) : List Nat :=
  (d.mems.errors.filter (fun e => e.1 == c && decide (e.2 * memUnit c < k + n) && decide (k < (e.2 + 1) * memUnit c))).map Prod.snd

/-- The module is FAILING by its errors (R467): a second error at one address within one checkpoint interval, or an error of
the cue store or the Cast Table store after a RESTORE. -/
def Dev.errorsFailing (d : Dev) (c : MemCode) (a : Nat) : Bool :=
  d.usy.errors.contains a || (d.usy.restored && (c == .cue || c == .cast))

/-- A paired module enters FAILING (R467); unpaired, STATE keeps reading UNPAIRED (Table 15-7, notes/assumptions/22.md). -/
def Dev.enterFailing (d : Dev) : Dev :=
  if d.armed && d.usyState != 2 && d.usyState != 4 then (d.enterUsy 2).raise 73
  else d

/-- One uncorrectable error (R321): counted, recorded if UE was clear, flagged, raised. -/
def Dev.uncorrectable (d : Dev) (c : MemCode) (k : Nat) : Dev :=
  let (u, a) := memPlace c k
  let d := d.count Reg.memUeCount
  let d := if d.bit Reg.memStatus 2 then d
    else (d.setReg Reg.memUeInfo (BitVec.ofNat 32 (memNum c + u * 16))).setReg64 Reg.memUeAddr a
  let d := d.flagRaise Reg.memStatus 2 192
  let d := if d.errorsFailing c (memNum c * 2 ^ 64 + k) then d.enterFailing else d
  { d with usy := { d.usy with errors := d.usy.errors ++ [memNum c * 2 ^ 64 + k] } }

/-- The errors that a read of bytes [k, k + n) meets, each one uncorrectable error (R321). -/
def Dev.readErrors (d : Dev) (c : MemCode) (k n : Nat) : Bool × Dev :=
  let es := d.errorsIn c k n
  (!es.isEmpty, es.foldl (fun d e => d.uncorrectable c (e * memUnit c)) d)

/-- The bytes of a memory. -/
def Dev.load (d : Dev) (c : MemCode) (k n : Nat) : List Byte := memBytes (d.mems.get c) k n

/-- The units with an error that a write of bytes [k, k + n) covers in part. -/
def Dev.errorsCut (d : Dev) (c : MemCode) (k n : Nat) : List Nat :=
  (d.errorsIn c k n).filter (fun e => !(decide (k ≤ e * memUnit c) && decide ((e + 1) * memUnit c ≤ k + n)))

/-- Write bytes one by one, leaving out the units in `skip`. -/
def memPutsSkip (unit : Nat) (skip : List Nat) : Memory → Nat → List Byte → Memory
  | m, _, [] => m
  | m, a, b :: bs => memPutsSkip unit skip (if skip.contains (a / unit) then m else memPut m a b) (a + 1) bs

/-- Write bytes (R321): a unit with an error that the write covers gets a valid code; one it covers in part keeps its bytes, and
counts as one uncorrectable error. The answer says whether there was such a unit. -/
def Dev.store (d : Dev) (c : MemCode) (k : Nat) (bs : List Byte) : Bool × Dev :=
  if d.mems.errors.isEmpty then (false, { d with mems := d.mems.put c (memPuts (d.mems.get c) k bs) })
  else
    let es := d.errorsIn c k bs.length
    let part := d.errorsCut c k bs.length
    let whole := es.filter (fun e => !part.contains e)
    let m := d.mems.put c (memPutsSkip (memUnit c) part (d.mems.get c) k bs)
    let d := { d with mems := { m with errors := m.errors.filter (fun e => !(e.1 == c && whole.contains e.2)) } }
    (!part.isEmpty, part.foldl (fun d e => d.uncorrectable c (e * memUnit c)) d)

/-! ### What reads find -/

/-- The key of a byte of a memory by UNIT and address, where that memory has it (Table 10-1). -/
def memKey (i : Ident) (c : MemCode) (unit a : Nat) : Option Nat :=
  let within := fun (units size : Nat) => if decide (unit < units) && decide (a < size) then some (unit * size + a) else none
  match c with
  | .tile => within i.tiles (2 ^ 24)
  | .lins => within 256 (2 ^ 13)
  | .ldata => within 256 (2 ^ 16)
  | .cue => if a < 2 ^ 22 then some a else none
  | .cast => if a < 2 ^ 22 then some a else none
  | .capt => if a < 2 ^ 22 then some a else none
  | .hbm => if a < hbmEnd then some a else none

/-- The row of HBM that holds a byte, by stack, pseudo-channel and local granule (R312), of 4 granules (notes/assumptions/44.md). -/
def hbmRow (a : Nat) : Nat := ((bits a 8 3 ^^^ bits a 19 3) * 64 + (bits a 11 6 ^^^ bits a 22 6)) * 2 ^ 20 + bits a 17 22 / 4

/-- A corrected error of HBM counts for its row (R320). -/
def Dev.countRow (d : Dev) (a : Nat) : Dev :=
  let r := hbmRow a
  { d with mems := { d.mems with repair := tabSet (fun _ => 0) d.mems.repair r (tabGet (fun _ => 0) d.mems.repair r + 1) } }

/-- The rows recorded as repair candidates: 16 or more corrected reads in one scrub pass (R320). -/
def Dev.repairs (d : Dev) : Tab Nat := d.mems.repair.filter (fun e => decide (16 ≤ e.2))

/-- A corrected error (R319). -/
def Dev.correctedError (d : Dev) (off : Nat) : Dev :=
  let d := (d.wideAdd off 1).pulse 164
  let t := (d.reg Reg.memCeThresh).toNat
  if t ≠ 0 && (d.wideGet off).toNat % t == 0 then d.flagRaise Reg.memStatus 3 193 else d

/-- A read meets what it finds in a word or sector (R319, R321): a corrected error is written back and counted; an uncorrectable one
stays in the word, for the reads of the same command and of all later ones to meet. -/
def Dev.meet (d : Dev) (i : Ident) (f : Found) : Dev :=
  match memKey i f.mem f.unit.val f.addr.toNat with
  | none => d
  | some k =>
    if d.mems.errors.contains (f.mem, k / memUnit f.mem) then d
    else match f.finding with
      | .clean => d
      | .corrected => if f.mem = .hbm then (d.countRow k).correctedError Reg.memCeHbm else d.correctedError Reg.memCeSram
      | .uncorrectable => { d with mems := { d.mems with errors := d.mems.errors ++ [(f.mem, k / memUnit f.mem)] } }

/-- What a command's reads find, in their order (notes/assumptions/58.md). -/
def Dev.meets (d : Dev) (i : Ident) (fs : List Found) : Dev := fs.foldl (fun d f => d.meet i f) d

end Sys2Proof.Machine
end

