-- ==== Sys2Proof/Machine/Saved.lean ====
section
/-! DEFINITION. What the Cast Table keeps in HBM in a layout of its own (R300, R301, R559): the bytes of undo records, of the command
effects of the manifest log, and of checkpoints, and how they are read back. The manual publishes none of these layouts; they are the
model's (notes/assumptions/17.md). The 256 bytes of a stream entry are those of Table 9-1. -/
namespace Sys2Proof.Machine

/-! ### Stream entries -/

/-- State codes (Table 9-3). -/
def StreamState.code : StreamState → Nat
  | .free => 0 | .prefill => 1 | .decode => 2 | .verify => 3 | .paused => 4 | .spilled => 5 | .done => 6 | .aborted => 7
  | .failed => 8

/-- The state of a code. -/
def stateOf (n : Nat) : StreamState :=
  match n with
  | 1 => .prefill | 2 => .decode | 3 => .verify | 4 => .paused | 5 => .spilled | 6 => .done | 7 => .aborted | 8 => .failed
  | _ => .free

/-- A FREE entry. -/
def Entry.zero (_ : Nat) : Entry :=
  { state := .free, cls := 0, lp := false, ndraft := 0, saved := .free, job := 0, cq := 0, reason := 0, waited := 0, len := 0
    pos := 0, gen := 0, maxGen := 0, rng := 0, astate := 0, seed := 0, auto := 0, stops := 0, temp := 0, topp := 0, minp := 0
    rpen := 0, topk := 0, pwin := 0, rhead := 0, endTok := 0, endEn := false, pauseSeq := 0, stage := 0, drafts := []
    recent := List.replicate 32 0 }

/-- The 256 bytes of an entry (Table 9-1). -/
def Entry.bytes (e : Entry) : List Byte :=
  leBytes 1 (e.state.code + e.cls * 16 + b2n e.lp * 64) ++ leBytes 1 (e.ndraft + e.saved.code * 16) ++ leBytes 2 e.job ++
    leBytes 1 e.cq ++ leBytes 1 e.reason ++ leBytes 2 e.waited ++ leBytes 4 e.len ++ leBytes 4 e.pos ++ leBytes 4 e.gen ++
    leBytes 4 e.maxGen ++ leBytes 4 e.rng ++ leBytes 4 e.astate ++ leBytes 8 e.seed.toNat ++ leBytes 8 e.auto ++
    leBytes 8 e.stops ++ leBytes 4 e.temp.toNat ++ leBytes 4 e.topp.toNat ++ leBytes 4 e.minp.toNat ++ leBytes 4 e.rpen.toNat ++
    leBytes 2 e.topk ++ leBytes 1 e.pwin ++ leBytes 1 e.rhead ++ leBytes 4 (e.endTok + b2n e.endEn * 2 ^ 31) ++
    leBytes 4 e.pauseSeq ++ leBytes 4 e.stage ++ (List.range 8).flatMap (fun i => leBytes 4 (e.drafts.getD i 0)) ++
    (List.range 32).flatMap (fun i => leBytes 4 (e.recent.getD i 0)) ++ leBytes 8 0

/-- An entry read from 256 bytes (Table 9-1). -/
def entryOf (b : List Byte) : Entry :=
  let f := fun o n => BitVec.ofNat 32 (field b o n)
  { state := stateOf (bits (field b 0 1) 0 4), cls := bits (field b 0 1) 4 2, lp := bitAt (field b 0 1) 6
    ndraft := bits (field b 1 1) 0 4, saved := stateOf (bits (field b 1 1) 4 4), job := field b 2 2, cq := bits (field b 4 1) 0 6
    reason := bits (field b 5 1) 0 4, waited := field b 6 2, len := field b 8 4, pos := field b 12 4, gen := field b 16 4
    maxGen := field b 20 4, rng := field b 24 4, astate := field b 28 4, seed := BitVec.ofNat 64 (field b 32 8)
    auto := bits (field b 40 8) 0 39, stops := bits (field b 48 8) 0 39, temp := f 56 4, topp := f 60 4, minp := f 64 4
    rpen := f 68 4, topk := bits (field b 72 2) 0 9, pwin := bits (field b 74 1) 0 6, rhead := bits (field b 75 1) 0 5
    endTok := bits (field b 76 4) 0 24, endEn := bitAt (field b 76 4) 31, pauseSeq := field b 80 4, stage := field b 84 4
    drafts := (List.range (bits (field b 1 1) 0 4)).map (fun i => bits (field b (88 + 4 * i) 4) 0 24)
    recent := (List.range 32).map (fun i => bits (field b (120 + 4 * i) 4) 0 24) }

/-! ### Undo records -/

/-- The 16 bytes of an undo record (R301). -/
def Undo.record : Undo → List Byte
  | .bytes off old => leBytes 1 1 ++ leBytes 1 old.length ++ leBytes 6 off ++ padTo 8 old
  | .frame f used => leBytes 1 2 ++ leBytes 1 (b2n used) ++ leBytes 6 f ++ leBytes 8 0

/-- The undo record of 16 bytes. -/
def undoOf (b : List Byte) : Undo :=
  if field b 0 1 = 2 then .frame (field b 2 6) (field b 1 1 == 1)
  else .bytes (field b 2 6) ((b.drop 8).take (min 8 (field b 1 1)))

/-! ### The effects of the manifest log -/

/-- The 66 bytes of a submission entry and its pair. -/
def subBytes (c : Submission) : List Byte :=
  leBytes 2 c.q.val ++ [c.opcode, c.flags] ++ leBytes 2 c.cid.toNat ++ leBytes 2 c.stream.toNat ++ leBytes 2 c.job.toNat ++
    padTo 56 c.ops

/-- A submission entry read back. -/
def subOf (b : List Byte) : Submission :=
  { q := Fin.ofNat 64 (field b 0 2), opcode := b.getD 2 0, flags := b.getD 3 0, cid := BitVec.ofNat 16 (field b 4 2)
    stream := BitVec.ofNat 16 (field b 6 2), job := BitVec.ofNat 16 (field b 8 2), ops := (b.drop 10).take 56 }

/-- A list of 32-bit numbers, its length first. -/
def listBytes (l : List Nat) : List Byte := leBytes 4 l.length ++ l.flatMap (leBytes 4)

/-- `n` 32-bit numbers at `o`. -/
def listAt (b : List Byte) (o : Nat) : List Nat := (List.range (field b o 4)).map (fun k => field b (o + 4 + 4 * k) 4)

/-- What follows a list at `o`. -/
def listEnd (b : List Byte) (o : Nat) : Nat := o + 4 + 4 * field b o 4

/-- The kind and the bytes of an effect. -/
def CastEffect.bytes : CastEffect → Nat × List Byte
  | .command c => (1, subBytes c.sub ++ leBytes 1 (b2n c.buf.ok) ++ listBytes (c.buf.tokens.map BitVec.toNat) ++ c.buf.bytes)
  | .ended s st r => (2, leBytes 2 s ++ leBytes 1 st.code ++ leBytes 1 r)
  | .spilled s => (3, leBytes 2 s)
  | .returned s => (4, leBytes 2 s)

/-- The effect of a kind and its bytes. -/
def effectOf (kind : Nat) (b : List Byte) : CastEffect :=
  match kind with
  | 2 => .ended (field b 0 2) (stateOf (field b 2 1)) (field b 3 1)
  | 3 => .spilled (field b 0 2)
  | 4 => .returned (field b 0 2)
  | _ => .command { sub := subOf b
                    buf := { ok := field b 66 1 == 1, bytes := b.drop (listEnd b 67), tokens := (listAt b 67).map (BitVec.ofNat 32) } }

/-- The bytes that name a formed manifest: SEQ, its job, the blocks allocated, the streams left out, the proposals taken. -/
def LogEntry.markBytes (e : LogEntry) : List Byte :=
  leBytes 4 e.seq ++ leBytes 1 (b2n e.first) ++ leBytes 1 (b2n e.job.isSome) ++
    (match e.job with | some c => subBytes c | none => List.replicate 66 0) ++ listBytes e.blocks ++ listBytes e.left ++
    listBytes (e.drafts.flatMap (fun p => p.1 :: p.2.length :: p.2))

/-- Proposals taken, read back from their numbers. -/
def draftsOf : Nat → List Nat → List (Nat × List Nat)
  | 0, _ => []
  | n + 1, s :: k :: l => (s, l.take k) :: draftsOf n (l.drop k)
  | _, _ => []

/-- A formed manifest read back, with the effects before it. -/
def markOf (effects : List CastEffect) (b : List Byte) : LogEntry :=
  let o := listEnd b 72
  let l := listAt b (listEnd b o)
  { seq := field b 0 4, first := field b 4 1 == 1, job := if field b 5 1 = 1 then some (subOf (b.drop 6)) else none
    blocks := listAt b 72, left := listAt b o, drafts := draftsOf l.length l, effects := effects }

/-- A record of the log: its kind (5 a formed manifest, else an effect), its length and its bytes. -/
def recordBytes (kind : Nat) (b : List Byte) : List Byte := leBytes 1 kind ++ leBytes 4 b.length ++ b

/-- The bytes of an effect's record. -/
def CastEffect.record (x : CastEffect) : List Byte := recordBytes x.bytes.1 x.bytes.2

/-- The bytes of a formed manifest's record. -/
def LogEntry.record (e : LogEntry) : List Byte := recordBytes 5 e.markBytes

/-- Log entries and the effects after the last, read from their records; `acc` are the effects read and not yet of an entry. -/
def readRecords : Nat → List CastEffect → List Byte → List LogEntry × List CastEffect
  | 0, acc, _ => ([], acc)
  | n + 1, acc, b =>
    if b.length < 5 then ([], acc)
    else
      let body := (b.drop 5).take (field b 1 4)
      let rest := b.drop (5 + field b 1 4)
      if field b 0 1 = 5 then
        let r := readRecords n [] rest
        (markOf acc body :: r.1, r.2)
      else readRecords n (acc ++ [effectOf (field b 0 1) body]) rest

/-! ### Checkpoints -/

/-- The first word of a checkpoint. -/
def ckptMagic : Nat := 0x4E5A434B

/-- The frames in use, rising, as a bit map. -/
def frameMap (fs : List Nat) : List Byte :=
  (List.range ((fs.getLast?.map (· / 8 + 1)).getD 0)).flatMap (fun j =>
    leBytes 1 ((List.range 8).map (fun i => b2n (fs.contains (8 * j + i)) * 2 ^ i)).sum)

/-- The frames of a bit map. -/
def framesOf (b : List Byte) : List Nat :=
  ((List.range b.length).zip b).flatMap (fun e =>
    ((List.range 8).filter (fun i => bitAt e.2.toNat i)).map (fun i => 8 * e.1 + i))

/-- The bytes of a checkpoint (Table 9-12) with its serial number. -/
def Checkpoint.bytes (k : Checkpoint) (serial : Nat) : List Byte :=
  let fm := frameMap k.frames
  leBytes 4 ckptMagic ++ leBytes 4 0 ++ leBytes 8 serial ++ leBytes 4 k.seq ++ leBytes 4 k.stepSeq ++ leBytes 4 k.optStep ++ leBytes 4 0 ++
    (List.range 4).flatMap (fun n => leBytes 8 (k.seeds.getD n 0).toNat) ++
    (List.range 256).flatMap (fun n => let hr := tabGet (fun _ => (0, 0)) k.slots n
      leBytes 1 (hr.1 + 4 * hr.2)) ++
    leBytes 4 k.entries.length ++ leBytes 4 k.held.length ++ leBytes 4 fm.length ++ leBytes 4 0 ++
    k.entries.flatMap (fun e => leBytes 4 e.1 ++ e.2.bytes) ++
    k.held.flatMap (fun t => leBytes 2 t.q ++ leBytes 2 t.stream ++ padTo 32 t.data) ++ fm

/-- The length of a checkpoint by its first 336 bytes. -/
def ckptLength (b : List Byte) : Nat := 336 + 260 * field b 320 4 + 36 * field b 324 4 + field b 328 4

/-- A checkpoint read back. -/
def ckptOf (b : List Byte) : Checkpoint :=
  let n := field b 320 4
  let h := field b 324 4
  { seq := field b 16 4, stepSeq := field b 20 4, optStep := field b 24 4
    seeds := (List.range 4).map (fun k => BitVec.ofNat 64 (field b (32 + 8 * k) 8))
    slots := (List.range 256).foldl (fun t k =>
      let v := field b (64 + k) 1
      tabSet (fun _ => (0, 0)) t k (bits v 0 2, bits v 2 3)) []
    entries := (List.range n).foldl (fun t k => let e := (b.drop (336 + 260 * k)).take 260
      tabSet Entry.zero t (field e 0 4) (entryOf (e.drop 4))) []
    held := (List.range h).map (fun k => let e := (b.drop (336 + 260 * n + 36 * k)).take 36
      { q := field e 0 2, stream := field e 2 2, data := e.drop 4 })
    frames := framesOf ((b.drop (336 + 260 * n + 36 * h)).take (field b 328 4)) }

/-- A complete checkpoint stands at `a`: its serial number. -/
def ckptSerial (m : Memory) (a : Nat) : Option Nat :=
  let b := memBytes m a 16
  if field b 0 4 = ckptMagic ∧ field b 4 4 = 1 then some (field b 8 8) else none

end Sys2Proof.Machine
end

