-- ==== Sys2Proof/Machine/Kv.lean ====
section
/-! DEFINITION. HBM as programs and the Cast Table use it: regions (R311), the Understudy's mirror of program-region writes
(R462 to R465), the Cast Table descriptor and areas (R269 to R273), the undo journal and the effects of the log (R301), and manifests
(R279).
KV pages and their logical numbers: R131 to R133; a staging write that breaks R283 is not checked. -/
namespace Sys2Proof.Machine

/-! ### Regions -/

/-- The two-context mode runs the twin's context (R475). -/
def Dev.inTwin (d : Dev) : Bool := d.bit Reg.usyStatus 9
/-- The base of the region that holds the Cast Table's areas of the context that runs. -/
def Dev.progBase (d : Dev) : Nat := bits (if d.inTwin then d.reg64 Reg.memTwinBase else d.reg64 Reg.memProgBase) 0 39
/-- [a, a + n) lies in the program region or in the twin region (Table 10-3). -/
def Dev.inRegions (d : Dev) (a n : Nat) : Bool :=
  (decide (hbmProg ≤ a) && decide (a + n ≤ hbmProg + d.mems.progSize)) ||
    (decide (twinStart d.mems.progSize ≤ a) && decide (a + n ≤ twinStart d.mems.progSize + d.mems.twinSize))

/-! ### The Understudy's log -/

/-- The pair is armed and this module mirrors its writes (R462, R477). -/
def Dev.mirrors (d : Dev) : Bool := d.bit Reg.usyStatus 7 && !d.bit Reg.usyStatus 8

/-- A log record (Table 15-3). -/
def logRecord (rtype flags seq off : Nat) (data : List Byte) : List Byte :=
  leBytes 1 rtype ++ leBytes 1 1 ++ leBytes 1 flags ++ leBytes 1 0 ++ leBytes 4 seq ++ leBytes 8 off ++ data

/-- Ship a log record (R465): it joins the log queue, whose records go to port 16 as its window and its credits allow; a queue that has
become full raises its source. That writes then stall changes time only (notes/assumptions/95.md). -/
def Dev.shipRecord (d : Dev) (r : List Byte) : Dev :=
  let q := d.usy.logq ++ [r]
  let d := { d with usy := { d.usy with logq := q } }
  let d := (d.setReg Reg.usyLogBacklog (BitVec.ofNat 32 (min (q.map List.length).sum 268435456))).pumpAll 16
  let n := (d.usy.logq.map List.length).sum
  if decide (268435456 ≤ n) && decide (n - r.length < 268435456) then d.raise 75 else d

/-- The chunks of a shipped write: at most 4,080 bytes each. -/
def chunks (size : Nat) : Nat → List Byte → List (List Byte)
  | 0, _ => []
  | n + 1, bs => if bs.isEmpty then [] else bs.take size :: chunks size n (bs.drop size)

/-- Ship a write to the program region: the 8-byte words that it touches (R462). -/
def Dev.shipWrite (d : Dev) (a n : Nat) : Dev :=
  if d.mirrors && decide (hbmProg ≤ a) && decide (a < hbmProg + d.mems.progSize) && n != 0 then
    let lo := (a - hbmProg) / 8 * 8
    let data := memBytes d.mems.hbm (hbmProg + lo) (ceilDiv (a - hbmProg + n) 8 * 8 - lo)
    let step := fun (acc : Dev × Nat) (c : List Byte) =>
      (acc.1.shipRecord (logRecord 1 0 (acc.1.reg Reg.stgStepSeq).toNat acc.2 c), acc.2 + c.length)
    ((chunks 4080 (data.length / 4080 + 1) data).foldl step (d, lo)).1
  else d

/-- Write HBM, shipping the write to the twin where it falls in the program region; the answer says whether a partial write met
an uncorrectable error (R321). -/
def Dev.hbmWrite (d : Dev) (a : Nat) (bs : List Byte) : Bool × Dev :=
  let (e, d) := d.store .hbm a bs
  (e, d.shipWrite a bs.length)

/-- The 8-byte words that some bytes lie in, each once; the addresses rise. -/
def wordsOf : List Nat → List Nat
  | [] => []
  | a :: as => let ws := wordsOf as
    if ws.head? = some (a / 8) then ws else a / 8 :: ws

/-- Bytes of HBM become 0 (R304, R323): an empty memory lists no byte. Sectors wholly covered get a valid code. The words that change
are shipped to the twin (R462); of the others it holds the same zeros. -/
def Dev.hbmZero (d : Dev) (a n : Nat) : Dev :=
  let es := d.errorsIn .hbm a n
  let whole := es.filter (fun e => decide (a ≤ e * 64) && decide ((e + 1) * 64 ≤ a + n))
  let part := es.filter (fun e => !whole.contains e)
  let stays := fun (e : Host.Cell) => part.contains (e.1 / 64) || !(decide (a ≤ e.1) && decide (e.1 < a + n))
  let ws := wordsOf ((d.mems.hbm.filter (fun e => !stays e)).map Prod.fst)
  let d := { d with mems := { d.mems with
      hbm := d.mems.hbm.filter stays, errors := d.mems.errors.filter (fun e => !(e.1 == .hbm && whole.contains e.2)) } }
  ws.foldl (fun d w => d.shipWrite (8 * w) 8) (part.foldl (fun d e => d.uncorrectable .hbm (e * 64)) d)

/-! ### The Cast Table's areas -/

/-- The bytes of the descriptor (R269). -/
def Dev.descBytes (d : Dev) : List Byte := memBytes d.mems.hbm d.progBase 64

/-- The fields of a descriptor (Table 9-4). -/
def geometryOf (b : List Byte) : Geometry :=
  { blockBytes := field b 4 4, blocks := field b 8 4, pageBytes := field b 12 4, kvHeads := field b 16 2, pages := field b 18 2
    maxBlocks := field b 20 4, poolOff := field b 24 8, ptOff := field b 32 8, refOff := field b 40 8, manOff := field b 48 8
    ckptOff := field b 56 8 }

/-- The five areas as (offset, bytes). -/
def Geometry.areas (g : Geometry) : List (Nat × Nat) :=
  [(g.poolOff, g.blocks * g.blockBytes), (g.ptOff, 16384 * g.maxBlocks * 4), (g.refOff, 2 * g.blocks),
   (g.manOff, 1026 * 2 ^ 18), (g.ckptOff, 96 * 2 ^ 20)]

/-- Two spans (offset, bytes) overlap. -/
def overlap (a b : Nat × Nat) : Bool := decide (a.1 < b.1 + b.2) && decide (b.1 < a.1 + a.2)

/-- No two spans of a list overlap. -/
def disjoint : List (Nat × Nat) → Bool
  | [] => true
  | a :: t => t.all (fun b => !overlap a b) && disjoint t

/-- The descriptor in a region of `size` bytes, where it is valid (R270). -/
def readGeometry (b : List Byte) (size : Nat) : Option Geometry :=
  let g := geometryOf b
  if field b 0 4 = 0x4E5A4354 ∧ g.pageBytes ≠ 0 ∧ g.pageBytes % 64 = 0 ∧ 1 ≤ g.kvHeads ∧ g.kvHeads ≤ 4096 ∧ g.pages ≠ 0 ∧
      g.pages % g.kvHeads = 0 ∧ g.blockBytes % 4096 = 0 ∧ 256 + g.pages * g.pageBytes ≤ g.blockBytes ∧ 1 ≤ g.blocks ∧
      g.blocks ≤ 16777215 ∧ 1 ≤ g.maxBlocks ∧ g.maxBlocks ≤ 65536 ∧
      (g.areas.all (fun a => a.1 % 4096 == 0 && decide (a.1 + a.2 ≤ size))) = true ∧ disjoint g.areas = true
  then some g else none

/-- The geometry in force; a geometry of zeros stands where there is none. -/
def Dev.geom (d : Dev) : Geometry := d.cast.geom.getD (geometryOf [])

/-- Where entry j of a stream's page table lies. -/
def Dev.ptAddr (d : Dev) (s j : Nat) : Nat := d.progBase + d.geom.ptOff + 4 * (s * d.geom.maxBlocks + j)
/-- Entry j of a stream's page table, read from HBM (R559). -/
def Dev.ptEntry (d : Dev) (s j : Nat) : Nat := leNat (memBytes d.mems.hbm (d.ptAddr s j) 4)
/-- Where a block's reference count lies. -/
def Dev.refAddr (d : Dev) (b : Nat) : Nat := d.progBase + d.geom.refOff + 2 * b
/-- A block's reference count, read from HBM (R559). -/
def Dev.refCount (d : Dev) (b : Nat) : Nat := leNat (memBytes d.mems.hbm (d.refAddr b) 2)
/-- Where a block lies. -/
def Dev.blockAddr (d : Dev) (b : Nat) : Nat := d.progBase + d.geom.poolOff + b * d.geom.blockBytes
/-- Where a manifest slot or log entry lies: 0 and 1 the slots, 2 + i log entry i (R279). -/
def Dev.manAddr (d : Dev) (k : Nat) : Nat := d.progBase + d.geom.manOff + k * 2 ^ 18

/-- An entry names a block of the pool (R313). -/
def Dev.blockOk (d : Dev) (b : Nat) : Bool := decide (b < d.geom.blocks)

/-- A formation works on the state that the commit of the running step will leave (R275): what it writes now is not the state yet. -/
def Dev.drafting (d : Dev) : Bool :=
  match d.cast.ahead with
  | some a => a.working
  | none => false

/-- A Cast Table write to HBM. One that covers part of a sector in error meets that error (R321), and the Cast Table stops after its
action (Table 10-5). -/
def Dev.castWrite (d : Dev) (a : Nat) (bs : List Byte) : Dev :=
  if d.drafting then { d with mems := { d.mems with hbm := memPuts d.mems.hbm a bs } }
  else
    let (e, d) := d.hbmWrite a bs
    if e then { d with cast := { d.cast with hurt := true } } else d

/-- The Cast Table reads HBM: it meets the uncorrectable errors there, and stops after its action (Table 10-5). -/
def Dev.castMeets (d : Dev) (a n : Nat) : Dev :=
  if d.mems.errors.isEmpty then d
  else
    let (e, d) := d.readErrors .hbm a n
    if e then { d with cast := { d.cast with hurt := true } } else d

/-! ### The checkpoint area -/

/-- Where byte `o` of the checkpoint area lies (Table 9-4). -/
def Dev.ckptAddr (d : Dev) (o : Nat) : Nat := d.progBase + d.geom.ckptOff + o
/-- The undo journal: its record count, then 16 bytes a record (notes/assumptions/17.md). -/
def Dev.undoAddr (d : Dev) (k : Nat) : Nat := d.ckptAddr (2 ^ 25 + 16 * k)
/-- The effects of the manifest log: their byte length, then their records (notes/assumptions/17.md). -/
def Dev.logAddr (d : Dev) (o : Nat) : Nat := d.ckptAddr (2 ^ 26 + o)

/-- Records in the undo journal. -/
def Dev.undoCount (d : Dev) : Nat := min (2 ^ 21 - 1) (leNat (memBytes d.mems.hbm (d.undoAddr 0) 8))
/-- The records of the undo journal, oldest first. -/
def Dev.undos (d : Dev) : List Undo := (List.range d.undoCount).map (fun k => undoOf (memBytes d.mems.hbm (d.undoAddr (k + 1)) 16))
/-- Set the record count. -/
def Dev.setUndoCount (d : Dev) (n : Nat) : Dev := d.castWrite (d.undoAddr 0) (leBytes 8 n)
/-- A record joins the undo journal (R301); one past the end of its area is lost (notes/assumptions/17.md). -/
def Dev.addUndo (d : Dev) (u : Undo) : Dev :=
  let n := d.undoCount
  if d.drafting || decide (2 ^ 21 - 1 ≤ n) then d else (d.castWrite (d.undoAddr (n + 1)) u.record).setUndoCount (n + 1)
/-- The first `n` records leave the undo journal. -/
def Dev.dropUndos (d : Dev) (n : Nat) : Dev :=
  let us := d.undos.drop n
  let d := (List.range us.length).foldl (fun d k => d.castWrite (d.undoAddr (k + 1)) (memBytes d.mems.hbm (d.undoAddr (n + k + 1)) 16)) d
  d.setUndoCount us.length

/-- Bytes that the effects of the log take. -/
def Dev.logLength (d : Dev) : Nat := min (2 ^ 25 - 8) (leNat (memBytes d.mems.hbm (d.logAddr 0) 8))
/-- The entries of the manifest log with their effects, and the effects since the last (R301). -/
def Dev.logRead (d : Dev) : List LogEntry × List CastEffect :=
  let n := d.logLength
  readRecords n [] (memBytes d.mems.hbm (d.logAddr 8) n)
/-- The entries of the manifest log. -/
def Dev.log (d : Dev) : List LogEntry := d.logRead.1
/-- The effects that streams have had since the last manifest was formed. -/
def Dev.taken (d : Dev) : List CastEffect := d.logRead.2
/-- A record joins the log; one past the end of its area is lost (notes/assumptions/17.md). -/
def Dev.addLog (d : Dev) (b : List Byte) : Dev :=
  let n := d.logLength
  if 2 ^ 25 - 8 < n + b.length then d else (d.castWrite (d.logAddr (8 + n)) b).castWrite (d.logAddr 0) (leBytes 8 (n + b.length))
/-- The log holds these entries and effects, and nothing else. -/
def Dev.setLog (d : Dev) (es : List LogEntry) (taken : List CastEffect) : Dev :=
  let b := es.flatMap (fun e => e.effects.flatMap CastEffect.record ++ e.record) ++ taken.flatMap CastEffect.record
  (d.castWrite (d.logAddr 8) b).castWrite (d.logAddr 0) (leBytes 8 b.length)

/-- A Cast Table write whose old value goes to the undo journal (R301). -/
def Dev.castJournal (d : Dev) (a : Nat) (bs : List Byte) : Dev :=
  (d.addUndo (.bytes (a - d.progBase) (memBytes d.mems.hbm a bs.length))).castWrite a bs

/-- Set a page-table entry. -/
def Dev.setPt (d : Dev) (s j v : Nat) : Dev := d.castJournal (d.ptAddr s j) (leBytes 4 v)

/-- A block is free: its count is 0 and no release of it is deferred (R273). -/
def Dev.blockFree (d : Dev) (b : Nat) : Bool := d.refCount b == 0 && !d.cast.deferred.contains b

/-- The free blocks, ascending. -/
def Dev.freeBlocks (d : Dev) : List Nat := (List.range d.geom.blocks).filter (fun b => d.blockFree b)

/-- Take a reference to a block. -/
def Dev.refer (d : Dev) (b : Nat) : Dev := d.castJournal (d.refAddr b) (leBytes 2 (d.refCount b + 1))

/-- Release a reference: a count that reaches 0 is a deferred release (R273). -/
def Dev.release (d : Dev) (b : Nat) : Dev :=
  let n := d.refCount b
  if n = 0 then d
  else
    let d := d.castJournal (d.refAddr b) (leBytes 2 (n - 1))
    if n = 1 then { d with cast := { d.cast with deferred := d.cast.deferred ++ [b] } } else d

/-- The block to allocate next: the lowest-numbered free one (R273), or in a formation done again the block it took the first time
(R302, notes/assumptions/102.md). -/
def Dev.nextBlock (d : Dev) : Option Nat :=
  match d.cast.given with
  | some g => (match g.blocks with
    | b :: _ => some b
    | [] => (List.range d.geom.blocks).find? (fun b => d.blockFree b))
  | none => (List.range d.geom.blocks).find? (fun b => d.blockFree b)

/-- Allocate a block (R273). -/
def Dev.alloc (d : Dev) : Option (Nat × Dev) :=
  match d.nextBlock with
  | some b =>
    let later := d.cast.given.map (fun (g : Given) => { g with blocks := g.blocks.drop 1 })
    some (b, ({ d with cast := { d.cast with allocated := d.cast.allocated ++ [b], given := later } }).refer b)
  | none => none

/-- Allocate a staging block, all zeros (R272). -/
def Dev.allocStaging (d : Dev) : Option (Nat × Dev) :=
  match d.alloc with
  | some (b, d) => some (b, d.castWrite (d.blockAddr b) (List.replicate d.geom.blockBytes 0))
  | none => none

/-- Copy a block (R286). -/
def Dev.copyBlock (d : Dev) (from_ to_ : Nat) : Dev :=
  (d.castMeets (d.blockAddr from_) d.geom.blockBytes).castWrite (d.blockAddr to_) (memBytes d.mems.hbm (d.blockAddr from_) d.geom.blockBytes)

/-- Where the token at position p of a stream stands (R271). -/
def Dev.tokenAddr (d : Dev) (s p : Nat) : Nat := d.blockAddr (d.ptEntry s (p / 64)) + 4 * (p % 64)

/-- The token at position p of a stream (R271). -/
def Dev.tokenAt (d : Dev) (s p : Nat) : Nat := bits (leNat (memBytes d.mems.hbm (d.tokenAddr s p) 4)) 0 24

/-- Store the token of position p of a stream (R288). -/
def Dev.setToken (d : Dev) (s p t : Nat) : Dev := d.castWrite (d.tokenAddr s p) (leBytes 4 t)

/-! ### Manifests -/

/-- A manifest row (Table 9-5). -/
structure ManRow where
  token : Nat
  slot : Nat
  pos : Nat
deriving DecidableEq, Repr

/-- A stream slot of a manifest (Table 9-5). -/
structure ManSlot where
  stream : Nat
  rng : Nat
  lenAfter : Nat
  nb : Nat
  jw : Nat
  nw : Nat
  six : Nat
deriving DecidableEq, Repr

/-- A manifest. -/
structure Man where
  seq : Nat
  emit : Nat
  groups : Nat
  rows : List ManRow
  slots : List ManSlot
  staging : List Nat
deriving DecidableEq, Repr

/-- Read the manifest at `a`. -/
def readMan (m : Memory) (a : Nat) : Man :=
  let h := memBytes m a 12
  let slots := (List.range (field h 8 2)).map (fun u =>
    let b := memBytes m (a + 0x11000 + 32 * u) 32
    { stream := bits (field b 0 2) 0 14, rng := field b 4 4, lenAfter := field b 8 4, nb := field b 12 4, jw := field b 16 4
      nw := field b 20 2, six := field b 24 4 : ManSlot })
  { seq := field h 0 4, emit := field h 6 2, groups := field h 10 2
    rows := (List.range (field h 4 2)).map (fun r =>
      let b := memBytes m (a + 0x1000 + 16 * r) 16
      { token := bits (field b 0 4) 0 24, slot := field b 4 2, pos := field b 8 4 })
    slots := slots
    staging := (List.range ((slots.map ManSlot.nw).sum)).map (fun i => leNat (memBytes m (a + 0x31000 + 4 * i) 4)) }

/-- The bytes of a manifest as (offset, bytes); everything else in its 256 KiB is 0 (R279). -/
def Man.parts (m : Man) : List (Nat × List Byte) :=
  [(0, leBytes 4 m.seq ++ leBytes 2 m.rows.length ++ leBytes 2 m.emit ++ leBytes 2 m.slots.length ++ leBytes 2 m.groups),
   (0x1000, m.rows.flatMap (fun r => leBytes 4 r.token ++ leBytes 4 r.slot ++ leBytes 4 r.pos ++ leBytes 4 0)),
   (0x11000, m.slots.flatMap (fun u => leBytes 4 u.stream ++ leBytes 4 u.rng ++ leBytes 4 u.lenAfter ++ leBytes 4 u.nb ++
      leBytes 4 u.jw ++ leBytes 4 u.nw ++ leBytes 4 u.six ++ leBytes 4 0)),
   (0x31000, m.staging.flatMap (leBytes 4))]

/-- Write a manifest at `a`: zeros first, then its parts. -/
def Dev.writeMan (d : Dev) (a : Nat) (m : Man) : Dev :=
  m.parts.foldl (fun d p => d.castWrite (a + p.1) p.2) (d.castWrite a (List.replicate (2 ^ 18) 0))

/-- Where the manifest of the step that runs lies: slot STG_STEP_SEQ mod 2 (R157). -/
def Dev.stepMan (d : Dev) : Nat := d.manAddr ((d.reg Reg.stgStepSeq).toNat % 2)
/-- The manifest of the step that runs. -/
def Dev.man (d : Dev) : Man := readMan d.mems.hbm d.stepMan
/-- What a reader of emit row e reads of it: header, row, and the slot records (R280, Table 9-7). -/
def Dev.rowSpans (d : Dev) (e : Nat) : List (Nat × Nat) :=
  [(d.stepMan, 12), (d.stepMan + 0x1000 + 16 * e, 16), (d.stepMan + 0x11000, 32 * d.man.slots.length)]

/-- A row count by MSEL (Table 5-6). -/
def Dev.rowCount (d : Dev) (msel static : Nat) : Nat :=
  if msel = 1 then leNat (memBytes d.mems.hbm (d.stepMan + 4) 2)
  else if msel = 2 then leNat (memBytes d.mems.hbm (d.stepMan + 6) 2)
  else static

/-- The rows of the manifest as a QNT binds them (R171): none where it has no slot. -/
def Dev.boundRows (d : Dev) : Option (List RowInfo) :=
  let m := d.man
  if m.slots.isEmpty then none
  else some (m.rows.map (fun r =>
    let u := m.slots.getD r.slot { stream := 0, rng := 0, lenAfter := 0, nb := 0, jw := 0, nw := 0, six := 0 }
    { stream := u.stream, rng := u.rng, pos := r.pos }))

end Sys2Proof.Machine
end

