-- ==== Sys2Proof/Machine/Power.lean ====
section
/-! DEFINITION. The Dimmer as cues and boundaries meet it: conflict events (R427), caps (R433), operating points (R442 to
R444), phases, hints and pacing (R446 to R449). -/
namespace Sys2Proof.Machine

/-- Rank kept, rank that gave way, and pair counter of a conflict event (Table 13-7, R427). -/
def conflictOf : Nat → Nat × Nat × Nat
  | 1 => (1, 4, 2) | 2 => (1, 4, 2) | 3 => (1, 5, 3) | 4 => (1, 6, 4) | 5 => (2, 4, 6) | 6 => (2, 5, 7) | 7 => (2, 6, 8)
  | 8 => (1, 5, 3) | _ => (0, 0, 0)

/-- A conflict event (R427). Of events in one core cycle the lowest code is recorded: whether an event at the device time of the one recorded
falls in its core cycle is a matter of time, and is free. -/
def Dev.conflict (d : Dev) (code : Nat) : Dev :=
  let (kept, gave, i) := conflictOf code
  let last := d.fld Reg.stgGconfLast 7 0
  let (w, d) := d.takeFree
  let d := if last != 0 && decide (last < code) && d.reg Reg.stgGconfTime == d.ns && w.getLsbD 0 then d
    else (d.setReg Reg.stgGconfLast (BitVec.ofNat 32 (code + kept * 256 + gave * 2048))).setReg Reg.stgGconfTime d.ns
  (d.count (Reg.stgGconfPair i)).flagRaise Reg.stgDetStatus 2 65

/-- The enforcement cap C of this control period, in units (R433). -/
def Dev.capC (d : Dev) : Nat := d.dim.cap
/-- A change of C takes effect with the next control period (R433). -/
def Dev.takeCap (d : Dev) : Dev := { d with dim := { d.dim with cap := min (d.fld Reg.dimCap 6 0) (d.fld Reg.dimTcap 6 0) } }
/-- BMAX: a value above 56 acts as 56. -/
def Dev.bMax (d : Dev) : Nat := min 56 (d.fld Reg.dimLimits 5 0)
/-- b (DIM_STATUS.B). -/
def Dev.bubbleB (d : Dev) : Nat := d.fld Reg.dimStatus 14 9
/-- Store b. The accumulator has added the old b in the core cycles since it last overflowed (R438): how many they are is a matter of
time, and is free, short of the next overflow. -/
def Dev.setB (d : Dev) (b : Nat) : Dev :=
  let (w, d) := d.takeFree
  let old := d.bubbleB
  let n := if old = 0 then 0 else w.toNat % ((63 - d.dim.acc) / old + 1)
  { d.setFld Reg.dimStatus 14 9 b with dim := { d.dim with acc := d.dim.acc + n * old } }
/-- Fixed-frequency mode is in force. -/
def Dev.fixedMode (d : Dev) : Bool := d.bit Reg.dimStatus 3

/-- Learned demand of a phase. -/
def Dev.phaseLd (d : Dev) (p : Nat) : Nat := d.fld (Reg.dimPhaseA p) 18 8
/-- A phase is valid: phase 0 always is (R148). -/
def Dev.phaseValid (d : Dev) (p : Nat) : Bool := p == 0 || d.bit (Reg.dimPhaseA p) 0

/-- The preference of Table 14-1. -/
def Dev.preference (d : Dev) : Nat :=
  let m0 := if d.bit Reg.dimCtrl 2 then 0 else 1
  let pref := d.fld (Reg.dimPhaseA d.dim.phase) 3 1
  let ofPhase := if pref = 7 then m0 else pref
  match d.fld Reg.dimCtrl 1 0 with
  | 0 => m0
  | 1 => ofPhase
  | 2 => d.dim.hint.getD m0
  | _ => d.dim.hint.getD ofPhase

/-- OP0 is permitted (R442). -/
def Dev.boostOk (d : Dev) : Bool :=
  d.bit Reg.dimCtrl 2 && d.fld Reg.dimTcap 6 0 == 100 && !d.bit Reg.dimStatus 4 &&
    decide (d.phaseLd d.dim.phase * 8 ≤ 7 * 16 * d.capC)

/-- The operating point that R442 and R444 choose. -/
def Dev.chosenOp (d : Dev) : Nat :=
  if d.dim.afterCurtain then 1
  else if d.fixedMode then d.fld Reg.dimFixed 2 0
  else
    let pace := if d.bit Reg.dimCtrl 3 then d.fld (Reg.dimPhaseA d.dim.phase) 6 4 else 0
    let op := max (max d.preference pace) (d.fld Reg.dimStatus 8 6)
    if op = 0 && !d.boostOk then 1 else op

/-- Take an operating point, counting a change (R443). -/
def Dev.setOp (d : Dev) (op : Nat) : Dev :=
  if d.fld Reg.dimStatus 2 0 = op then d else ((d.setFld Reg.dimStatus 2 0 op).count Reg.dimOpChanges).pulse 9

/-- The Dimmer chooses a point while no Stage cue runs (R442). -/
def Dev.choosePoint (d : Dev) : Dev := if d.stage.running.isNone then d.setOp d.chosenOp else d

/-- What the Dimmer does at a scene boundary, and between Stage cues: a DIM_FIXED comes into force (R444), the point is
chosen (R442). -/
def Dev.dimBoundary (d : Dev) : Dev :=
  let d := match d.dim.fixedNext with
    | some on => { d.setFld Reg.dimStatus 3 3 (b2n on) with dim := { d.dim with fixedNext := none } }
    | none => d
  d.setOp d.chosenOp

/-- The pre-armed b of a demand in 1/16 units (R447). -/
def Dev.prearmed (d : Dev) (i : Ident) (ld : Nat) : Nat := min d.bMax (ceilDiv (64 * (ld - 16 * d.capC)) (16 * i.stageDraw))

/-- LD at the end of an occurrence (R446); the difference is a signed 13-bit number. -/
def learn (ld upk : Nat) : Nat := (clampInt 0 1600 ((ld : Int) + sext 13 (trunc 13 ((upk : Int) - ld)) / 8)).toNat

/-- The end of an occurrence of phase p: LD, and SLACK and PACED_OP while PACE_EN is 1 (R446, R449). The measured slack is 0 where no WAIT
that counts for it has stalled; else it is a matter of time: a free value; so is Upk of an occurrence in which no period ended. -/
def Dev.endOccurrence (d : Dev) (p : Nat) : Dev :=
  if p = 0 then d
  else
    let (upk, d) : Nat × Dev := match d.dim.peak with
      | some u => (u, d)
      | none => let (w, d) := d.takeFree
        (w.toNat % 8192, d)
    let d := d.setFld (Reg.dimPhaseA p) 18 8 (learn (d.phaseLd p) upk)
    if d.bit Reg.dimCtrl 3 then
      let (w, d) := d.takeFree
      let old := d.fld (Reg.dimPhaseB p) 7 0
      let new := if d.dim.stalled then w.toNat % 257 else 0
      let slack := ((old : Int) + ((new : Int) - old) / 4).toNat
      let d := d.setFld (Reg.dimPhaseB p) 7 0 slack
      let op := d.fld (Reg.dimPhaseA p) 6 4
      let op := if d.fld Reg.dimPace 15 8 < slack then min 5 (op + 1) else if slack < d.fld Reg.dimPace 7 0 then op - 1 else op
      d.setFld (Reg.dimPhaseA p) 6 4 op
    else d

/-- A cue of phase p has issued (R191, R446, R447). -/
def Dev.phaseCue (d : Dev) (i : Ident) (p : Nat) : Dev :=
  if p = 0 || p == d.dim.phase then d
  else
    let d := d.endOccurrence d.dim.phase
    let d := { d with dim := { d.dim with phase := p, peak := none, stalled := false } }
    let d := d.setFld (Reg.dimPhaseB p) 23 8 (min 0xFFFF (d.fld (Reg.dimPhaseB p) 23 8 + 1))
    (d.setB (d.prearmed i (d.phaseLd p))).choosePoint

/-- An issued HINT (R448): its pre-arm falls due LEAD house ticks later. -/
def Dev.hintCue (d : Dev) (op demand lead : Nat) : Dev :=
  if d.fld Reg.dimCtrl 1 0 < 2 then d
  else ({ d with dim := { d.dim with hint := if op = 7 then none else some op
                                     prearm := if demand = 0 then d.dim.prearm else d.dim.prearm ++ [(lead, demand)] } }).choosePoint

/-- `k` house ticks nearer to what falls due. -/
def nearer (k : Nat) (xs : List (Nat × Nat)) : List (Nat × Nat) := xs.map (fun x => (x.1 - k, x.2))

/-- The pre-arm that falls due first (R448), the oldest of several in one tick, and the others as they then stand. -/
def firstDue (xs : List (Nat × Nat)) : Option (Nat × List (Nat × Nat)) :=
  match xs with
  | [] => none
  | x :: _ =>
    let k := xs.foldl (fun m y => min m y.1) x.1
    let y := (xs.find? (fun y => y.1 == k)).getD x
    some (y.2, nearer k (xs.erase y))

/-- LOAD_PROGRAM, RESTORE and the Safety Curtain clear the HINT and its pending pre-arms (R448). -/
def Dev.clearHint (d : Dev) : Dev := { d with dim := { d.dim with hint := none, prearm := [] } }

end Sys2Proof.Machine
end

