-- ==== Sys2Proof/Machine/Xfer.lean ====
section
/-! DEFINITION. Tokens (R151, R153) and transfers: what a MOVE moves (R174, R282, R313), SEND frames and received rows (R387).
Engines run concurrently; only the orderings of R202 hold among them. -/
namespace Sys2Proof.Machine

/-! ### Tokens -/

/-- An empty counter. -/
def Counter.zero (_ : Nat) : Counter := { count := 0, err := false, bounds := false, ledger := [] }
/-- Counter TCn. -/
def Dev.counter (d : Dev) (n : Nat) : Counter := tabGet Counter.zero d.prompter.counters n
/-- Store a counter. -/
def Dev.setCounter (d : Dev) (n : Nat) (c : Counter) : Dev :=
  { d with prompter := { d.prompter with counters := tabSet Counter.zero d.prompter.counters n c } }
/-- The Prompter is halted. -/
def Dev.halted (d : Dev) : Bool := d.prompter.run == .halted

/-- The event line of a token (Table 16-2). -/
def tokenLine (n : Nat) : Option Nat := if n < 64 then some (16 + n) else if n = 120 then some 81 else if n = 121 then some 82 else none

/-- Post a token; an error token marks ERR and, for a page-list overflow, BOUNDS (R151, R153). A halted Prompter takes none (R197). -/
def Dev.postToken (d : Dev) (n : Nat) (err bounds : Bool) : Dev :=
  if d.halted then d
  else
    let c := d.counter n
    let d := match tokenLine n with | some l => d.pulse l | none => d
    d.setCounter n { c with count := (c.count + 1) % 65536, err := c.err || err, bounds := c.bounds || bounds }

/-- The TC121 token that fell due is posted (R151, R275). -/
def Dev.post121 (d : Dev) : Dev :=
  if d.prompter.due121 then ({ d with prompter := { d.prompter with due121 := false } }).postToken 121 false false else d

/-! ### Bytes from one memory to others -/

/-- The pieces of [k, k + n) along units of `u` bytes, as (offset, length), leaving out the units in `bad`. -/
def goodPieces (u : Nat) (bad : List Nat) (k n : Nat) : List (Nat × Nat) :=
  if bad.isEmpty then [(0, n)]
  else
    ((List.range ((k + n - 1) / u + 1 - k / u)).filter (fun j => !bad.contains (k / u + j))).map (fun j =>
      let lo := max k ((k / u + j) * u)
      let hi := min (k + n) ((k / u + j + 1) * u)
      (lo - k, hi - lo))

/-- Write bytes of a memory as a queue or edge does; writes to HBM are shipped (R462). -/
def Dev.putBytes (d : Dev) (c : MemCode) (k : Nat) (bs : List Byte) : Bool × Dev :=
  match c with
  | .hbm => d.hbmWrite k bs
  | c => d.store c k bs

/-- Bytes of what a MOVE leaves out at an error: a sector of HBM, a line of a tile store (Table 10-5). -/
def lossUnit : MemCode → Nat
  | .hbm | .tile => 64
  | c => memUnit c

/-- Move `n` bytes from (src, sk) to every destination; a sector or line of the source with an uncorrectable error is not written and a
destination unit with one is not written in part (Table 10-5). The answer says whether an error was met. -/
def Dev.moveBytes (d : Dev) (src : MemCode) (sk : Nat) (dsts : List (MemCode × Nat)) (n : Nat) : Bool × Dev :=
  let bad := (d.errorsIn src sk n).map (fun e => e * memUnit src / lossUnit src)
  let (e, d) := d.readErrors src sk n
  let bs := d.load src sk n
  dsts.foldl (fun acc t =>
    (goodPieces (lossUnit src) bad sk n).foldl (fun acc p =>
      let (e, d) := acc.2.putBytes t.1 (t.2 + p.1) ((bs.drop p.1).take p.2)
      (acc.1 || e, d)) acc) (e, d)

/-- The bytes that a reader without a row in Table 10-5 gets: those of a unit with an uncorrectable error are free. -/
def Dev.readOpen (d : Dev) (c : MemCode) (a n : Nat) : List Byte × Dev :=
  let bad := d.errorsIn c a n
  let (e, d) := d.readErrors c a n
  let bs := d.load c a n
  if e then ((List.range n).map (fun i => if bad.contains ((a + i) / memUnit c) then Config.workByte d.free 0 i else bs.getD i 0),
      { d with free := d.free + 1 })
  else (bs, d)

/-! ### What a MOVE moves -/

/-- A piece of a transfer: HBM address, tile-store address, bytes, and where in HBM the transfer reads which bytes these are: spans of the
manifest and of a page table. -/
structure Piece where
  hbm : Nat
  ta : Nat
  len : Nat
  via : List (Nat × Nat)
deriving DecidableEq, Repr

/-- Page k of a block (9.6). -/
def Dev.pageAt (d : Dev) (b k : Nat) : Nat := d.blockAddr b + 256 + k * d.geom.pageBytes

/-- The pieces of a LINEAR or GATHER_ROWS MOVE of `rows` rows (R174). -/
def Dev.rowPieces (d : Dev) (gather : Bool) (m : MoveOp) (rows : Nat) : List Piece :=
  let row := fun r => d.stepMan + 0x1000 + 16 * r
  (List.range rows).map (fun r =>
    let idx := if gather then bits (leNat (memBytes d.mems.hbm (row r) 4)) 0 24 else r
    { hbm := bits m.addr 0 39 + idx * m.sstride, ta := m.ta + r * m.dstride, len := m.len, via := if gather then [(row r, 4)] else [] })

/-- A slot has more pages than MAXPAGES: NB, or NW in the staging and page forms (R174, R282). -/
def MoveOp.beyond (m : MoveOp) (write : Bool) (u : ManSlot) : Bool :=
  decide (m.maxPages < (if bitAt m.addr 38 || (write && m.sstride == 0) then u.nw else u.nb))

/-- Some bytes of HBM that a transfer reads hold an uncorrectable error. -/
def Dev.viaBad (d : Dev) (ss : List (Nat × Nat)) : Bool := ss.any (fun s => !(d.errorsIn .hbm s.1 s.2).isEmpty)

/-- The pieces of a KV MOVE (Table 9-8), and whether a slot has more pages than MAXPAGES: no page of such a slot moves (R174, R282).
The row form takes the selected rows, the others every slot. -/
def Dev.kvPieces (d : Dev) (write : Bool) (m : MoveOp) (rows : Nat) : List Piece × Bool :=
  let man := d.man
  let k := m.layer * d.geom.kvHeads + m.head
  let off := bits m.addr 0 24
  let stg := bitAt m.addr 38
  let blk := fun (u : ManSlot) (j : Nat) => if stg then man.staging.getD (u.six + (j - u.jw)) d.geom.blocks else d.ptEntry u.stream j
  let slotAt := fun (v : Nat) => [(d.stepMan, 12), (d.stepMan + 0x11000 + 32 * v, 32)]
  let blkAt := fun (u : ManSlot) (j : Nat) => if stg then (d.stepMan + 0x31000 + 4 * (u.six + (j - u.jw)), 4) else (d.ptAddr u.stream j, 4)
  let beyond := fun (v : Nat) (u : ManSlot) => m.beyond write u && !d.viaBad (slotAt v)
  let slots := (List.range man.slots.length).zip man.slots
  let good := fun (u : ManSlot) => !m.beyond write u
  if write && m.sstride != 0 then
    ((List.range rows).filterMap (fun r => match man.rows[r]? with
      | none => none
      | some x => match man.slots[x.slot]? with
        | none => none
        | some u =>
          if good u then some { hbm := d.pageAt (blk u (x.pos / 64)) k + off + x.pos % 64 * m.sstride, ta := m.ta + r * m.dstride
                                len := m.len, via := (d.stepMan + 0x1000 + 16 * r, 12) :: blkAt u (x.pos / 64) :: slotAt x.slot }
          else none), ((man.rows.take rows).any (fun x => (man.slots[x.slot]?).any (beyond x.slot))))
  else
    let whole := !write && !stg
    ((slots.filter (fun p => good p.2)).flatMap (fun p =>
        (List.range (if whole then p.2.nb else p.2.nw)).map (fun i =>
          let j := if whole then i else p.2.jw + i
          { hbm := d.pageAt (blk p.2 j) k + off, ta := m.ta + (p.1 * m.maxPages + i) * m.dstride, len := m.len
            via := blkAt p.2 j :: slotAt p.1 })),
     slots.any (fun p => beyond p.1 p.2))

/-- The pieces of a transfer between HBM and tile store; a selected row count of 0 moves nothing in any mode (R160). -/
def Dev.pieces (d : Dev) (w : Nat) (m : MoveOp) (rows : Nat) : List Piece × Bool :=
  if rows = 0 then ([], false)
  else if moveMode w = 0 then (d.rowPieces false m rows, false)
  else if moveMode w = 1 then (d.rowPieces true m rows, false)
  else d.kvPieces (moveMode w == 3) m rows

/-- Carry out one piece: out of the permitted regions or past the tile store it is not moved and is an error (R313), as is one whose place
cannot be read (Table 10-5). -/
def Dev.movePiece (d : Dev) (w : Nat) (m : MoveOp) (p : Piece) : Bool × Dev :=
  let tiles := setBits 512 m.tiles
  if d.viaBad p.via then (true, p.via.foldl (fun d s => (d.readErrors .hbm s.1 s.2).2) d)
  else if !d.inRegions p.hbm p.len || decide (2 ^ 24 < p.ta + p.len) then (true, d)
  else if moveQueue w < 32 then d.moveBytes .hbm p.hbm (tiles.map (fun t => (.tile, tileKey t p.ta))) p.len
  else d.moveBytes .tile (tileKey (tiles.headD 0) p.ta) [(.hbm, p.hbm)] p.len

/-- Carry out a transfer between HBM and tile store: whether it ends with an error, and with a page-list overflow. -/
def Dev.runMove (d : Dev) (x : Transfer) : (Bool × Bool) × Dev :=
  let m := moveOp x.cue.desc
  let (ps, beyond) := d.pieces x.cue.word m x.rows
  let (e, d) := ps.foldl (fun acc p =>
    let (e, d) := acc.2.movePiece x.cue.word m p
    (acc.1 || e, d)) (false, d)
  ((e || beyond, beyond), d)

/-! ### Queues -/

/-- The transfers of a queue, oldest first. -/
def Dev.queue (d : Dev) (q : Nat) : List Transfer := tabGet (fun _ => []) d.xfers q
/-- Store the transfers of a queue. -/
def Dev.setQueue (d : Dev) (q : Nat) (xs : List Transfer) : Dev := { d with xfers := tabSet (fun _ => []) d.xfers q xs }

/-- Rows of a SEND cut into DATA payloads (R387): prefix and bytes. -/
def sendPayloads (limit index row : Nat) (bs : List Byte) : List (List Byte) :=
  let per := limit - 8
  ((List.range (ceilDiv bs.length per)).map (fun j =>
    leBytes 3 row ++ leBytes 1 (index % 256) ++ leBytes 4 (j * per) ++ (bs.drop (j * per)).take per))

/-- The peer of a SEND and its receive queue (Table 5-15). -/
def sendPeer (m : MoveOp) : Nat × Nat := (bits m.addr 0 13, bits m.addr 16 6)

/-- The LEN limit towards a device: that of the port its frames leave on. -/
def Dev.limitTo (d : Dev) (dst : Nat) : Nat := d.lenLimit ((d.routePort dst).getD 0)

/-- Send the rows of a SEND; a word of tile store with an uncorrectable error makes an error token (Table 10-5), and what is sent
in its place is open: free bytes. -/
def Dev.sendRows (d : Dev) (x : Transfer) : Bool × Dev :=
  let m := moveOp x.cue.desc
  let t := (setBits 512 m.tiles).headD 0
  let (peer, q) := sendPeer m
  (List.range x.rows).foldl (fun acc r =>
    let k := tileKey t (m.ta + r * m.dstride)
    let bad := acc.2.errorsIn .tile k m.len
    let (e, d) := acc.2.readErrors .tile k m.len
    let bs := d.load .tile k m.len
    let clean := if bad.isEmpty then bs else (List.range m.len).map (fun i => if bad.contains ((k + i) / 8) then Config.workByte acc.2.free r i else bs.getD i 0)
    ((acc.1 || e), (sendPayloads (d.limitTo peer) x.index r clean).foldl (fun d pl =>
      d.sendRouted { d.frame 1 peer (q - 48) pl with src := d.ownIndex }) { d with free := d.free + b2n e })) (false, d)

/-- Bytes that a RECEIVE expects. -/
def Transfer.total (x : Transfer) : Nat := x.rows * (moveOp x.cue.desc).len

/-- Write the bytes of a DATA frame for a RECEIVE (R387). -/
def Dev.receiveRow (d : Dev) (x : Transfer) (payload : List Byte) : Bool × Dev :=
  let m := moveOp x.cue.desc
  let row := bits (field payload 0 3) 0 17
  let off := bits (field payload 4 4) 0 20
  let bs := payload.drop 8
  let ta := m.ta + row * m.dstride + off
  if x.rows ≤ row || m.len < off + bs.length || 2 ^ 24 < ta + bs.length then (true, d)
  else (setBits 512 m.tiles).foldl (fun acc t =>
    let (e, d) := acc.2.store .tile (tileKey t ta) bs
    (acc.1 || e, d)) (false, d)

/-! ### What a Prompter fault or the end of a program does to transfers -/

/-- Transfers in flight run to completion and post no token (R197): those between HBM and tile store move their bytes now
(notes/assumptions/23.md), the frames of a SEND are on their way, and a RECEIVE stays to take the frames that are still to come. -/
def Dev.flushTransfers (d : Dev) : Dev :=
  let d := (List.range 48).foldl (fun d q => (d.queue q).foldl (fun d x => (d.runMove x).2) d) d
  { d with xfers := d.xfers.filter (fun e => decide (48 ≤ e.1) && decide (e.1 < 56)) }

end Sys2Proof.Machine
end

