-- ==== Sys2Proof/Machine/Apply.lean ====
section
/-! DEFINITION. Buffered register writes taking effect (R506), and the digest ring (R188, R421, R422). -/
namespace Sys2Proof.Machine

/-! ### The digest ring -/

/-- Entries of the ring: values outside 16 to 1,048,576 act as 16 (Table 13-10). -/
def Dev.digSize (d : Dev) : Nat :=
  let n := d.fld Reg.stgDigSize 20 0
  if 16 ≤ n ∧ n ≤ 1048576 then n else 16
/-- The base of the ring: HI bits [6:0] are used. -/
def Dev.digBase (d : Dev) : Nat := bits (d.reg64 Reg.stgDigBase) 0 39
/-- The digest unit queues and writes entries (R421, R422). -/
def Dev.digOn (d : Dev) : Bool := d.bit Reg.stgDetCtrl 1 && !d.bit Reg.stgDetStatus 3
/-- The ring has room for n entries (R422). -/
def Dev.digRoom (d : Dev) (n : Nat) : Bool :=
  let s := d.digSize
  decide (n ≤ (d.fld Reg.stgDigRd 19 0 + 2 * s - d.fld Reg.stgDigWr 19 0 % s - 1) % s)

/-- An applied base or size: the pointers return to 0 and the ring must lie in SYS (R421, R430). -/
def Dev.digConfigured (d : Dev) : Dev :=
  let d := (d.setReg Reg.stgDigWr 0).setReg Reg.stgDigRd 0
  let bad := decide (hbmProg < d.digBase + 32 * d.digSize)
  d.setFld Reg.stgDetStatus 3 3 (b2n bad)

/-- A ring entry (Table 13-5). -/
def Dev.digEntry (d : Dev) (e : DigestEntry) (v : W64) : List Byte :=
  leBytes 8 v.toNat ++ leBytes 4 e.seq ++ leBytes 4 (e.pc % 2 ^ 18 + e.phase * 2 ^ 24) ++
    leBytes 4 (e.rows % 2 ^ 17 + e.kind * 2 ^ 24 + b2n (d.bit Reg.cstStatus 3) * 2 ^ 28 + b2n d.prompter.ndStep * 2 ^ 29) ++
    leBytes 4 e.n ++ leBytes 4 d.index ++ leBytes 4 d.ns.toNat

/-- Write one ring entry (R421, R422); while DIG_BAD is 1 no byte is written. -/
def Dev.digWrite (d : Dev) (e : DigestEntry) (v : W64) : Dev :=
  if d.bit Reg.stgDetStatus 3 then d
  else
    let s := d.digSize
    let w := d.fld Reg.stgDigWr 19 0
    let d := (d.store .hbm (d.digBase + 32 * w) (d.digEntry e v)).2
    let w := (w + 1) % s
    let d := d.setFld Reg.stgDigWr 19 0 w
    if (w + s - d.fld Reg.stgDigRd 19 0 % s) % s = s / 2 then d.flagRaise Reg.stgDetStatus 1 67 else d

/-- Write the entries at the front that are ready, in issue order (R188), at most `n`. -/
def Dev.digFlush : Nat → Dev → Dev
  | 0, d => d
  | n + 1, d =>
    match d.prompter.digests with
    | [] => d
    | e :: es => match e.value with
      | none => d
      | some v => Dev.digFlush n ({ d with prompter := { d.prompter with digests := es } }.digWrite e v)

/-- Write every entry that is ready. -/
def Dev.digFlushAll (d : Dev) : Dev := Dev.digFlush d.prompter.digests.length d

/-- Queue an entry. -/
def Dev.digQueue (d : Dev) (e : DigestEntry) : Dev :=
  ({ d with prompter := { d.prompter with digests := d.prompter.digests ++ [e] } }).digFlushAll

/-- The first entry that waits for its scene gets its value, or is taken out (R62). -/
def digResolve (v : Option W64) : List DigestEntry → List DigestEntry
  | [] => []
  | e :: es => if e.value.isNone then (match v with | some _ => { e with value := v } :: es | none => es) else e :: digResolve v es

/-- The scene at the boundary gives its digest value, or none. -/
def Dev.digDone (d : Dev) (v : Option W64) : Dev :=
  ({ d with prompter := { d.prompter with digests := digResolve v d.prompter.digests } }).digFlushAll

/-! ### Buffered writes -/

/-- DIM_THERM takes an applied field only where it does not exceed the reset value (R452). -/
def thermTake (old new : W32) : W32 :=
  let f := fun lo => let n := bits new.toNat lo 8
    if n ≤ bits (regReset Reg.dimTherm).toNat lo 8 then n else bits old.toNat lo 8
  BitVec.ofNat 32 (f 0 + f 8 * 2 ^ 8 + f 16 * 2 ^ 16 + f 24 * 2 ^ 24)

/-- What an applied register does beside holding its value. -/
def Dev.applied (d : Dev) (off : Nat) (old : W32) : Dev :=
  if off = Reg.stgDigBase || off = Reg.stgDigBase + 4 || off = Reg.stgDigSize then d.digConfigured
  else if off = Reg.dimTherm then d.setReg off (thermTake old (d.reg off))
  else if off = Reg.dimFixed then
    { d with dim := { d.dim with fixedNext := some (d.bit off 3 && decide (d.fld off 2 0 ≤ 5)) } }
  else d

/-- One buffered write takes effect: only the bits written change (R506). -/
def Dev.applyOne (d : Dev) (off : Nat) (b : Buffered) : Dev :=
  let old := d.reg off
  (d.setReg off ((old &&& ~~~b.mask) ||| (b.value &&& b.mask))).applied off old

/-- The buffered writes of the blocks that `p` names take effect, in ascending offset (R506). -/
def Dev.applyPend (d : Dev) (p : Block → Bool) : Dev :=
  let now := d.pend.filter (fun e => p (blockOf e.1))
  now.foldl (fun d e => d.applyOne e.1 e.2) { d with pend := d.pend.filter (fun e => !p (blockOf e.1)) }

/-- The blocks whose boundary is the scene boundary (R506). -/
def sceneBlocks (b : Block) : Bool := b == .stg || b == .lgr || b == .cst

end Sys2Proof.Machine
end

