-- ==== Sys2Proof/Machine/Engine.lean ====
section
/-! DEFINITION. The Stage cue in progress: its first core cycle (R558), what it reads, writes and detects (R62, R163, R165, R172),
and its writes landing in tile store (R321, Table 10-5).
A cue's reads and writes meet those of others in the order of the rows, not by core cycle (R43, R44;
notes/assumptions/3.md). -/
namespace Sys2Proof.Machine

/-! ### The first core cycle -/

/-- A calibration slot before any program (Table 4-6): h 0. -/
def Slot.zero (_ : Nat) : Slot :=
  { h := 0, run := 0, events := 0, clip := 0, count := 0, maxabs := 0, curClip := 0, curCount := 0, curMax := 0, curInvalid := 0
    curOver := 0, reduced := none }
/-- Calibration slot n. -/
def Dev.slot (d : Dev) (n : Nat) : Slot := tabGet Slot.zero d.slots n
/-- Store a calibration slot. -/
def Dev.setSlot (d : Dev) (n : Nat) (s : Slot) : Dev := { d with slots := tabSet Slot.zero d.slots n s }

/-- What a QNT reads beside its operands (R108, R171). -/
def Dev.qntEnv (d : Dev) (q : QntOp) : QntEnv :=
  let c := Reg.qstCfg q.slot
  { h := (d.slot q.slot).h, maxabs := d.bit c 1, seed := BitVec.ofNat 64 (d.reg64 (Reg.stgSeed q.seed))
    optStep := (d.reg Reg.stgOptStep).toNat, seq := (d.reg Reg.stgStepSeq).toNat
    rows := if q.paged || !q.optStep then d.boundRows else none }

/-- The selected row count of a Stage cue or RED, from the cue and its descriptor (R159). -/
def Dev.stageRows (d : Dev) (w : Nat) (desc : List Byte) : Nat :=
  match cueClass w with
  | .scene => d.rowCount (cueMsel w) (sceneOp w desc).m
  | .vec => d.rowCount (cueMsel w) (vecOp desc).rows
  | .qnt => d.rowCount (cueMsel w) (qntOp w desc).m
  | _ => d.rowCount (cueMsel w) (redOp desc).rows

/-- A tile whose placement word breaks a bound of a QNT (R171, R558). -/
def Dev.placementBad (d : Dev) (q : QntOp) (env : QntEnv) (rows t : Nat) : Bool :=
  let pl := placement d.mems.tile q t
  !spansOk (q.placedSpans pl rows) ||
    (match env.rows with
     | some rs => decide (rs.length < pl.1 + rows)
     | none => false)

/-- The detection of fault 0x03 in the first core cycle (R49, R171, R558): the lowest tile, and whether others detected it too;
0x1FF where the bound is not one of a tile. -/
def Dev.firstCycle (d : Dev) (i : Ident) (w : Nat) (desc : List Byte) (rows : Nat) : Option (Nat × Bool) :=
  match cueClass w with
  | .scene =>
    if rows = 0 then none
    else if 65536 < rows || !spansOk ((sceneOp w desc).spans i.rows rows) then some (0x1FF, false) else none
  | .vec => if rows = 0 || spansOk ((vecOp desc).spans rows) then none else some (0x1FF, false)
  | .qnt =>
    let q := qntOp w desc
    let env := d.qntEnv q
    if q.paged && env.rows.isNone then some (0x1FF, false)
    else if rows = 0 then none
    else if !spansOk (q.spans rows) then some (0x1FF, false)
    else match (List.range i.tiles).filter (fun t => d.placementBad q env rows t) with
      | [] => none
      | t :: ts => some (t, !ts.isEmpty)
  | _ => none

/-- A Stage cue as it starts: its row count is read and its bounds are checked. -/
def Dev.running (d : Dev) (i : Ident) (c : Cue) : Running :=
  let rows := d.stageRows c.word c.desc
  { cue := c, rows := rows, early := d.firstCycle i c.word c.desc rows, cut := false }

/-! ### What it reads -/

/-- The spans that a scene of `m` rows reads in tile `t`: operands everywhere, the epilogue's tables in the tails (R45). -/
def SceneOp.reads (p : SceneOp) (lrows m t : Nat) : List (Nat × Nat) :=
  let f := p.nFolds lrows
  let tail := t % p.s == p.s - 1
  [(p.wBase, f * p.kFolds * 8192), (p.aBase, (m - 1) * p.aStride + p.kFolds * 128)] ++
  (if p.f16 then [] else
    [(p.wScale, 4 * p.n * p.kGroups), (p.wSide, 4 * budget p.wbud * p.n * p.kGroups),
     (p.aScale, 4 * m * p.kGroups), (p.aSide, 4 * budget p.abud * m * p.kGroups)]) ++
  (if !tail then [] else
    (if p.f16 then [] else [(p.rescaleT, 4 * p.n)]) ++
    (if p.biasF then [(p.bias, 4 * p.n)] else []) ++
    (if p.residF then [(p.resid, (m - 1) * p.residStride + p.n * (if p.res16 then 2 else 4))] else []) ++
    (if p.emit then (if t = p.s - 1 then [(p.wmap + 128 * (f - 1), 128)] else []) ++ (if p.maskF then [(p.mask, 8 * f * m)] else [])
     else [(p.wmap + 128 * (t / p.s * f), 128 * f)]))

/-- The spans that the cue in progress reads in tile `t`. -/
def Dev.stageReads (d : Dev) (i : Ident) (r : Running) (t : Nat) : List (Nat × Nat) :=
  let w := r.cue.word
  if r.rows = 0 then []
  else match cueClass w with
    | .scene => (sceneOp w r.cue.desc).reads i.rows r.rows t
    | .vec =>
      let v := vecOp r.cue.desc
      let ext := fun size => (r.rows - 1) * v.stride + v.rowLen * size
      (v.a, ext v.aSize) :: ((if v.readsB then [(v.b, ext 4)] else []) ++ (if v.op = 4 then [(v.c, ext 4)] else []))
    | .qnt =>
      let q := qntOp w r.cue.desc
      let pl := placement d.mems.tile q t
      (q.base, 8) :: (q.src, (r.rows - 1) * q.srcStride + q.k * q.srcSize) ::
        (List.range r.rows).map (fun row => (q.stat + 16 * q.gi pl row 0, 16 * (q.k / q.g)))
    | _ => []

/-- The words of tile store with an uncorrectable error that the cue in progress reads (Table 10-5). -/
def Dev.stageErrors (d : Dev) (i : Ident) (r : Running) : List Nat :=
  (d.mems.errors.filter (fun e =>
    let t := e.2 * 8 / 2 ^ 24
    let a := e.2 * 8 % 2 ^ 24
    e.1 == .tile && decide (t < i.tiles) && (d.stageReads i r t).any (fun s => decide (a < s.1 + s.2) && decide (s.1 < a + 8)))).map
    Prod.snd

/-! ### What it detects and writes -/

/-- What a QNT in progress does. -/
def Dev.qntOut (d : Dev) (i : Ident) (r : Running) : QntOut :=
  let q := qntOp r.cue.word r.cue.desc
  runQnt d.mems.tile q (d.qntEnv q) i.tiles r.rows

/-- What a scene in progress does. -/
def Dev.sceneOut (d : Dev) (i : Ident) (r : Running) : SceneOut :=
  runScene d.mems.tile (sceneOp r.cue.word r.cue.desc) i.rows r.rows

/-- What the cue in progress detects, beside its first core cycle: after a detection there it runs on to its boundary without
writing (R62), so what it meets still counts (R63, R64, R130). -/
def Dev.stageFound (d : Dev) (i : Ident) (r : Running) : List Detection :=
  match cueClass r.cue.word with
    | .scene => (d.sceneOut i r).found
    | .qnt => (d.qntOut i r).found
    | _ => []

/-- Element (r, e) of a VEC in every row up to `n` elements of each tile. -/
def vecRowUpTo (v : VecOp) (t r n : Nat) (tm : Memory) : Memory :=
  if v.op = 0x0E then (if (r + 1) * v.rowLen ≤ n then vecRow v t r tm else tm)
  else (List.range (min v.rowLen (n - r * v.rowLen))).foldl (fun m e => vecElem v t r e m) tm

/-- The first `n` elements of a VEC in every lit tile (R165): the tiles run in lockstep. -/
def runVecUpTo (v : VecOp) (tiles rows n : Nat) (tm : Memory) : Memory :=
  (List.range tiles).foldl (fun m t => (List.range rows).foldl (fun m r => vecRowUpTo v t r n m) m) tm

/-- The first `n` tile-store moments of the cue: the writes before moment `n`. -/
def putWrites (tm : Memory) (ws : List TileWrite) (n : Option Nat) : Memory × List (Nat × Nat) :=
  let ws := match n with
    | none => ws
    | some n => ws.filter (fun w => decide (w.time < n))
  (ws.foldl (fun m w => memPuts m (tileKey w.tile w.addr) w.data) tm, ws.map (fun w => (tileKey w.tile w.addr, w.data.length)))

/-- The candidate work area after an emit scene holds bytes that nothing fixes (2.7). -/
def workArea (free tiles : Nat) (p : SceneOp) (rows : Nat) (acc : Memory × List (Nat × Nat)) : Memory × List (Nat × Nat) :=
  if !p.emit || rows = 0 then acc
  else ((List.range tiles).filter (fun t => t % p.s == p.s - 1)).foldl (fun a t =>
    (memPuts a.1 (tileKey t p.cand) ((List.range (2056 * rows)).map (fun o => Config.workByte free t o)),
     a.2 ++ [(tileKey t p.cand, 2056 * rows)])) acc

/-- Tile store after the cue's writes before moment `n`, or after all of them, and the spans written. -/
def Dev.stageMem (d : Dev) (i : Ident) (r : Running) (n : Option Nat) : Memory × List (Nat × Nat) :=
  let tm := d.mems.tile
  if r.early.isSome then (tm, [])
  else match cueClass r.cue.word with
    | .scene =>
      let p := sceneOp r.cue.word r.cue.desc
      workArea d.free i.tiles p r.rows (putWrites tm (d.sceneOut i r).writes n)
    | .qnt => putWrites tm (d.qntOut i r).writes n
    | .vec =>
      let v := vecOp r.cue.desc
      let rows := match n with
        | none => r.rows
        | some n => min r.rows (ceilDiv n v.rowLen)
      (match n with | none => runVec v i.tiles r.rows tm | some n => runVecUpTo v i.tiles r.rows n tm,
       (List.range i.tiles).flatMap (fun t => (List.range rows).map (fun row =>
         if v.op = 0x0E then (tileKey t (v.d + 4 * row), 4) else (tileKey t (v.d + row * v.stride), v.rowLen * v.dSize))))
    | _ => (tm, [])

/-- The last moment of a cue. -/
def Dev.stageEnd (d : Dev) (i : Ident) (r : Running) : Nat :=
  match cueClass r.cue.word with
  | .scene => ((d.sceneOut i r).writes.map TileWrite.time).foldl max 0 + 1
  | .qnt => ((d.qntOut i r).writes.map TileWrite.time).foldl max 0 + 1
  | _ => r.rows * (vecOp r.cue.desc).rowLen

/-- The new contents of tile store land: a word with an uncorrectable error that a span covers gets a valid code, one that is
covered in part keeps its bytes and counts (R321). The answer says whether there was one of the latter. -/
def Dev.landTile (d : Dev) (new : Memory × List (Nat × Nat)) : Bool × Dev :=
  let es := (d.mems.errors.filter (fun e => e.1 == .tile)).map Prod.snd
  if es.isEmpty then (false, { d with mems := { d.mems with tile := new.1 } })
  else
    let hit := es.filter (fun e => new.2.any (fun s => decide (e * 8 < s.1 + s.2) && decide (s.1 < e * 8 + 8)))
    let whole := hit.filter (fun e => new.2.any (fun s => decide (s.1 ≤ e * 8) && decide (e * 8 + 8 ≤ s.1 + s.2)))
    let part := hit.filter (fun e => !whole.contains e)
    let tm := part.foldl (fun m e => memPuts m (e * 8) (memBytes d.mems.tile (e * 8) 8)) new.1
    let d := { d with mems := { d.mems with tile := tm, errors := d.mems.errors.filter (fun e => !(e.1 == .tile && whole.contains e.2)) } }
    (!part.isEmpty, part.foldl (fun d e => d.uncorrectable .tile (e * 8)) d)

/-! ### What was detected -/

/-- Every fault detected in the cue, clamps apart unless SAT_FAULT_EN is set (R62, R64). -/
def Dev.detections (d : Dev) (i : Ident) (r : Running) : List Detection :=
  let early := match r.early with
    | some (t, m) => { time := 0, code := 0x03, tile := t } :: (if m then [{ time := 0, code := 0x03, tile := t + 1 }] else [])
    | none => []
  early ++ (d.stageFound i r).filter (fun x => x.code != countedOnly && (x.code != 0x22 || d.bit Reg.stgCtrl 0))

/-- Detection `a` is recorded rather than `b` (R63): the earlier, then the lower code, then the lower tile. -/
def Detection.before (a b : Detection) : Bool :=
  decide (a.time < b.time) ||
    (a.time == b.time && (decide (a.code < b.code) || (a.code == b.code && decide (a.tile < b.tile))))

/-- The detection that is recorded. -/
def firstDetection : List Detection → Option Detection
  | [] => none
  | x :: xs => match firstDetection xs with
    | none => some x
    | some y => if y.before x then some y else some x

/-- Another tile or another code detected a fault too (R63). -/
def multiDetected (x : Detection) (xs : List Detection) : Bool := xs.any (fun y => y.tile != x.tile || y.code != x.code)

/-- Clamps and NaN logits counted, clamps alone flagged (R59, R64), and a cue in which fault 0x20 was detected (R130, Table 4-7). -/
def Dev.countMet (d : Dev) (found : List Detection) : Dev :=
  let n := (found.filter (fun x => x.code == 0x22 || x.code == countedOnly)).length
  let d := if n = 0 then d else d.wideAdd Reg.stgSatCount n
  let d := if found.any (fun x => x.code == 0x22) then d.setBit Reg.stgStatus 8 else d
  if found.any (fun x => x.code == 0x20) then d.count Reg.qstSeqMismatch else d

/-- What the cue that reaches its boundary met is counted. -/
def Dev.countFound (d : Dev) (i : Ident) (r : Running) : Dev := d.countMet (d.stageFound i r)

/-- What the cue read with uncorrectable errors is counted (R321, Table 10-5). -/
def Dev.countReads (d : Dev) (es : List Nat) : Dev := es.foldl (fun d e => d.uncorrectable .tile (e * 8)) d

/-! ### Writes that another event cut short -/

/-- The moments of a cue whose writes may have landed when another fault cut it: those before its own first detection (R62, R112). -/
def Dev.cutBound (d : Dev) (i : Ident) (r : Running) (xs : List Detection) : Nat :=
  match firstDetection xs with
  | some x => x.time
  | none => d.stageEnd i r

/-- Writes that were suppressed from a moment the manual does not fix: those before a free moment land (R62). -/
def Dev.landPrefix (d : Dev) (i : Ident) (r : Running) (bound : Nat) : Dev :=
  let (w, d') := d.takeFree
  (d'.landTile (d.stageMem i r (some (w.toNat % (bound + 1))))).2

/-- A cue that the Safety Curtain stops at a moment the manual does not fix (R65): its writes before that moment, and before its own
first detection, land; what it met before that moment counts (R64), some of the words in error it would have read among it. -/
def Dev.curtainCut (d : Dev) (i : Ident) (r : Running) : Dev :=
  let n := d.stageEnd i r
  let es := d.stageErrors i r
  let own := d.cutBound i r (d.detections i r)
  let met := d.stageFound i r
  let (w, d) := d.takeFree
  let (v, d) := d.takeFree
  let at_ := w.toNat % (n + 1)
  let d := (d.countReads (es.take (v.toNat % (es.length + 1)))).countMet (met.filter (fun x => decide (x.time < at_)))
  (d.landTile (d.stageMem i r (some (min at_ own)))).2

end Sys2Proof.Machine
end

