-- ==== Sys2Proof/Machine/Routes.lean ====
section
/-! DEFINITION. The circuits of the Lantern Grid (R218 to R225): route words, the units a word reaches, and words on their way over a
changeover (R239). -/
namespace Sys2Proof.Machine

/-! ### Circuits -/

/-- The route word of crosspoint x in a slot of one plane (R222, R223). -/
def Grid.routeWord (g : Grid) (ctl : Bool) (x slot : Nat) : Nat :=
  leNat (memBytes g.records (80 * x + (if ctl then 0 else 32) + 2 * (slot % 16)) 2)

/-- The unit or crosspoint input that output o of crosspoint x leads to (Table 7-1): outputs 0 N, 1 E, 2 S, 3 W. -/
def neighbour (x o : Nat) : Nat ⊕ (Nat × Nat) :=
  let r := x / 16
  let c := x % 16
  match o with
  | 0 => if r = 0 then .inl (256 + c) else .inr (x - 16, 3)
  | 1 => if c = 15 then .inl (272 + r) else .inr (x + 1, 4)
  | 2 => if r = 15 then .inl (288 + c) else .inr (x + 16, 1)
  | _ => if c = 0 then .inl (304 + r) else .inr (x - 1, 2)

/-- Where a word on input `p` (Table 7-3) of crosspoint x in `slot` comes out, and after how many hops (R222), within `n` hops. -/
def Grid.paths (g : Grid) (ctl : Bool) : Nat → Nat → Nat → Nat → Nat → List (Nat × Nat)
  | 0, _, _, _, _ => []
  | n + 1, x, p, slot, hops =>
    let w := g.routeWord ctl x slot
    (if bits w 12 3 = p then [(x, hops + 1)] else []) ++
      (List.range 4).flatMap (fun o =>
        if bits w (3 * o) 3 = p then
          match neighbour x o with
          | .inl u => [(u, hops + 1)]
          | .inr (y, q) => Grid.paths g ctl n y q (slot + 1) (hops + 1)
        else [])

/-- The crosspoint and input of an injection point (R219). -/
def injectAt (u : Nat) : Nat × Nat :=
  if u < 256 then (u, 5)
  else if u < 272 then (u - 256, 1)
  else if u < 288 then (16 * (u - 272) + 15, 2)
  else if u < 304 then (240 + (u - 288), 3)
  else (16 * (u - 304), 4)

/-- The route entry of unit u's injection point in a slot is present (R228): a selector names its input. -/
def Grid.routed (g : Grid) (ctl : Bool) (u slot : Nat) : Bool :=
  let (x, p) := injectAt u
  (List.range 5).any (fun o => bits (g.routeWord ctl x slot) (3 * o) 3 == p)

/-- The steering units that a word of unit u injected in a slot reaches (R222). -/
def Grid.reached (g : Grid) (ctl : Bool) (u slot : Nat) : List (Nat × Nat) :=
  let (x, p) := injectAt u
  g.paths ctl 64 x p slot 0

/-- The first grid cycle at or after `c` of a slot (R221). -/
def slotCycle (c slot : Nat) : Nat := c + (slot % 16 + 16 - c % 16) % 16

/-! ### Words on their way -/

/-- A word as it enters the network (R226). -/
def GridWord.inject (u c : Nat) (ctl : Bool) (word epoch : Nat) : GridWord :=
  let (x, p) := injectAt u
  { x := x, p := p, since := c, ctl := ctl, word := word, epoch := epoch, src := u, sslot := c % 16 }

/-- The arrivals that a word leads to by the routes in force. -/
def Grid.tokens (g : Grid) (w : GridWord) : List GridToken :=
  (g.paths w.ctl 64 w.x w.p w.since 0).map (fun t =>
    { due := w.since + t.2, unit := t.1, ctl := w.ctl, word := w.word, epoch := w.epoch, src := w.src, sslot := w.sslot })

/-- The crosspoint inputs that a word on input p of crosspoint x in `slot` is on `n` grid cycles later (R222). -/
def Grid.after (g : Grid) (ctl : Bool) : Nat → Nat → Nat → Nat → List (Nat × Nat)
  | 0, x, p, _ => [(x, p)]
  | n + 1, x, p, slot =>
    (List.range 4).flatMap (fun o =>
      if bits (g.routeWord ctl x slot) (3 * o) 3 = p then
        match neighbour x o with
        | .inl _ => []
        | .inr (y, q) => Grid.after g ctl n y q (slot + 1)
      else [])

/-- The words that travel in grid cycle c, where each is then; a word injected later, or 64 hops old (R241), is none of them. -/
def Grid.moved (g : Grid) (c : Nat) : Grid :=
  let ws := (g.words.filter (fun w => decide (w.since ≤ c) && decide (c ≤ w.since + 64))).flatMap (fun w =>
    (g.after w.ctl (c - w.since) w.x w.p w.since).map (fun t => { w with x := t.1, p := t.2, since := c }))
  { g with words := ws, flight := g.flight.filter (fun t => decide (t.due ≤ c)) ++ ws.flatMap g.tokens }

/-- New route records in grid cycle c: a word on its way follows them from the crosspoint it has reached (R239). -/
def Grid.reroute (g : Grid) (c : Nat) (records : Memory) : Grid :=
  let g := { g.moved c with records := records }
  { g with flight := g.flight.filter (fun t => decide (t.due ≤ c)) ++ g.words.flatMap g.tokens }

end Sys2Proof.Machine
end

