-- ==== Sys2Proof/Machine/Halt.lean ====
section
/-! DEFINITION. How the Prompter retires a cue and moves on (R143, R190), how a fault halts it (R194 to R197), and the Safety
Curtain (R65, R349, Table 11-9). -/
namespace Sys2Proof.Machine

/-! ### Moving on -/

/-- The PC and loop levels after the cue at `pc` retires, innermost level first (R190). The list given is innermost first. -/
def loopEnd (pc : Nat) : List LoopLevel → Nat × List LoopLevel
  | [] => (pc + 1, [])
  | l :: ls =>
    if l.last = pc then
      if l.index + 1 < l.count then (l.first, { l with index := l.index + 1 } :: ls) else loopEnd pc ls
    else (pc + 1, l :: ls)

/-- The PC after the cue at PC retires, and the loop levels, outermost first. -/
def Prompter.after (p : Prompter) : BitVec 18 × List LoopLevel :=
  let r := loopEnd p.pc.toNat p.loops.reverse
  (BitVec.ofNat 18 r.1, r.2.reverse)

/-- The cue at PC retires (R143). -/
def Dev.retire (d : Dev) : Dev :=
  let r := d.prompter.after
  { d with prompter := { d.prompter with pc := r.1, loops := r.2, wait := none } }

/-- The first cue not issued (R195): a stalled WAIT or CURTAIN has issued. -/
def Dev.firstUnissued (d : Dev) : BitVec 18 :=
  if d.prompter.wait.isSome || d.prompter.run == .curtain then d.prompter.after.1 else d.prompter.pc

/-! ### Faults -/

/-- Record a fault (R63, R72, R148, R195): code, IN_SCENE, tile, MULTI, cue index. -/
def Dev.writeFault (d : Dev) (code : Nat) (inScene : Bool) (tile : Nat) (multi : Bool) (pc : BitVec 18) : Dev :=
  ((d.setReg Reg.stgFaultCode (BitVec.ofNat 32 (code + b2n inScene * 256))).setReg Reg.stgFaultTile
    (BitVec.ofNat 32 (tile + b2n multi * 512))).setReg Reg.stgFaultPc (pc.setWidth 32)

/-- The recorded fault code. -/
def Dev.faultCode (d : Dev) : Nat := d.fld Reg.stgFaultCode 7 0

/-- Go dark (R66): a lit or rising Stage begins its ramp-down; a cue that waited for a ramp no longer does. -/
def Dev.goDark (d : Dev) : Dev :=
  let p := match d.stage.power with
    | .lit => StagePower.rampDown
    | .rampUp => .rampDown
    | x => x
  { d with stage := { d.stage with power := p, wake := false } }

/-- The counts of the step are discarded (R119). -/
def Dev.dropCounts (d : Dev) : Dev :=
  { d with slots := d.slots.foldl (fun t e =>
      tabSet Slot.zero t e.1 { e.2 with curClip := 0, curCount := 0, curMax := 0, curInvalid := 0, curOver := 0, reduced := none }) [] }

/-- The Prompter halts (R197): counters, ledger lists, loops and pending digest entries are cleared; queued Stage cues and
outstanding collectives post no token; the Stage goes dark, after the cue in progress. -/
def Dev.haltPrompter (d : Dev) : Dev :=
  let d := { d with
    prompter := { d.prompter with run := .halted, wait := none, counters := [], loops := [], stageQueue := [], digests := [], due121 := false }
    colls := [], hck := { d.hck with curtain := none } }
  let d := d.dropCounts
  match d.stage.running with
  | some r => { d with stage := { d.stage with running := some { r with cut := true } } }
  | none => d.goDark

/-! ### The manifest formed ahead -/

/-- Undo one journal record. -/
def Dev.undoOne (d : Dev) : Undo → Dev
  | .bytes off old => d.castWrite (d.progBase + off) old
  | .frame f used =>
    { d with cast := { d.cast with frames := if used then (d.cast.frames.filter (· < f)) ++ f :: d.cast.frames.filter (f < ·)
                                            else d.cast.frames.filter (· != f) } }

/-- Undo the journal in reverse order and empty it (R302). -/
def Dev.undoJournal (d : Dev) : Dev := (d.undos.reverse.foldl (fun d u => d.undoOne u) d).setUndoCount 0

/-- A manifest formed and not run goes back to its job (R346). -/
def jobBack (job : Option Submission) : List Job → List Job
  | [] => []
  | j :: js => if job = some j.cmd then { j with toForm := j.toForm + 1 } :: js else j :: jobBack job js

/-- Draft proposals that a discarded formation took stand again where no later one has come (R281). -/
def Dev.giveBack (d : Dev) (ps : List (Nat × List Nat)) : Dev :=
  ps.foldl (fun d p =>
    if bits (leNat (memBytes d.cast.proposals (64 * p.1 + 32) 4)) 0 4 = 0 then
      { d with cast := { d.cast with
          proposals := memPuts (memPuts d.cast.proposals (64 * p.1) (p.2.flatMap (leBytes 4))) (64 * p.1 + 32) (leBytes 4 p.2.length) } }
    else d) d

/-- What formations did ahead of the commit of the running step is discarded (R275): no state has changed; a manifest formed is, in a
replay, formed again from the log; the commands taken have completed and are taken again at the next formation. -/
def Dev.dropAhead (d : Dev) : Dev :=
  match d.cast.ahead with
  | none => d
  | some a =>
    let d := { d with cast := { d.cast with ahead := none } }
    if a.logged then { d with cast := { d.cast with formed := d.cast.formed.take 1 } }
    else
      let d := (d.giveBack a.drafts)
      let d := { d with cast := { d.cast with redo := a.effects ++ d.cast.redo } }
      match a.manifest with
      | none => d
      | some e =>
        { d with cast := { d.cast with
            formed := d.cast.formed.dropLast, nextSeq := (d.cast.nextSeq + 2 ^ 32 - 1) % 2 ^ 32, jobs := jobBack e.job d.cast.jobs } }

/-- A fault of a logged step in a replay (R303): how many times in a row that step has faulted. -/
def Dev.countReplayFault (d : Dev) : Dev :=
  let q := (d.reg Reg.stgStepSeq).toNat
  if d.cast.replay.isSome && d.prompter.run == .step then
    let n := if d.cast.faultRuns.1 = q then d.cast.faultRuns.2 + 1 else 1
    { d with cast := { d.cast with faultRuns := (q, n) } }
  else d

/-- A Prompter fault (R194, R196, R197): the earliest recorded code stays. -/
def Dev.promptFault (d : Dev) (code : Nat) (inScene : Bool) (tile : Nat) (multi : Bool) (pc : BitVec 18) : Dev :=
  if d.halted then d
  else ((((d.countReplayFault.writeFault code inScene tile multi pc).haltPrompter).flushTransfers).dropAhead).raise 64

/-- A fault detected while a cue is checked, or by a WAIT: not tile-specific, at the cue's own index. -/
def Dev.cueFault (d : Dev) (code : Nat) : Dev := d.promptFault code false 0x1FF false d.prompter.pc

/-- An asynchronous fault (R195). -/
def Dev.asyncFault (d : Dev) (code : Nat) : Dev := d.promptFault code false 0x1FF false d.firstUnissued

/-! ### The Safety Curtain -/

/-- CURTAIN_DOWN (R350). -/
def Dev.curtainDown (d : Dev) : Bool := d.bit Reg.hifStatus 0
/-- A Safety Curtain is in progress. -/
def Dev.halting (d : Dev) : Bool := d.bit Reg.hifStatus 1

/-- Entries of the Spotlight's ring. -/
def Dev.sptRingSize (d : Dev) : Nat := max 4096 (d.fld Reg.sptRingSize 23 0)
/-- The base of the Spotlight's ring. -/
def Dev.sptRingBase (d : Dev) : Nat := bits (d.reg64 Reg.sptRingBase) 0 39
/-- The Spotlight streams (R495). -/
def Dev.sptStreaming (d : Dev) : Bool :=
  d.bit Reg.sptCtrl 4 && d.fld Reg.sptCtrl 6 5 == 0 && (d.fld Reg.sptStatus 2 0 == 1 || d.fld Reg.sptStatus 2 0 == 2) && !d.spt.cut

/-- Streaming stops at the Curtain's halt point: the last record sent to the ring carries CUT (R496). -/
def Dev.sptCut (d : Dev) : Dev :=
  if !d.sptStreaming then d
  else
    let last := (d.fld Reg.sptRingWr 23 0 + d.sptRingSize - 1) % d.sptRingSize
    let a := d.sptRingBase + 16 * last + 14
    let d := if d.spt.recs = 0 then d else (d.store .hbm a [memByte d.mems.hbm a ||| 4]).2
    ({ d with spt := { d.spt with cut := true } }).flagRaise Reg.sptStatus 8 389

/-- A transfer is abandoned without a token: how many of its pieces had moved is not stated, and is free. -/
def Dev.abandonMove (d : Dev) (x : Transfer) : Dev :=
  let m := moveOp x.cue.desc
  let (ps, _) := d.pieces x.cue.word m x.rows
  let (w, d) := d.takeFree
  (ps.take (w.toNat % (ps.length + 1))).foldl (fun d p => (d.movePiece x.cue.word m p).2) d

/-- Every transfer is abandoned. -/
def Dev.abandonTransfers (d : Dev) : Dev :=
  let d := (List.range 48).foldl (fun d q => (d.queue q).foldl (fun d x => d.abandonMove x) d) d
  { d with xfers := [] }

/-- An idle edge unit. -/
def EdgeUnit.idle (_ : Nat) : EdgeUnit := { inbox := [], reqs := [], nextInj := 0 }
/-- A lantern before any program. -/
def Lantern.idle (_ : Nat) : Lantern := { g := [], v := [], pc := 0, running := false, lo := 0, hi := 0, bad := false, owed := 0 }

/-- Every lantern stops; its programs, edge requests and a changeover are abandoned (Table 11-9, R243). What travels goes on; a reply that
was to be injected in a later grid cycle is abandoned with its request. -/
def Grid.stop (g : Grid) : Grid :=
  { g.moved g.cycle with
    lanterns := tabMap Lantern.idle (fun x => { x with running := false }) g.lanterns
    edges := tabMap EdgeUnit.idle (fun e => { e with reqs := [], inbox := [], nextInj := 0 }) g.edges
    runs := [], change := none }

/-- SEQ a comes before SEQ b, counted modulo 2^32. -/
def seqBefore (a b : Nat) : Bool := let n := (b + 2 ^ 32 - a) % 2 ^ 32
  decide (0 < n) && decide (n < 2 ^ 31)

/-- The manifests of the log from SEQ `bound` on are discarded, and `bound` is formed next; what they took is taken again. -/
def Dev.dropLog (d : Dev) (bound : Nat) : Dev :=
  if d.cast.geom.isNone then { d with cast := { d.cast with formed := [], nextSeq := bound } }
  else
    let (log, taken) := d.logRead
    let gone := log.filter (fun e => !seqBefore e.seq bound)
    let d := if gone.isEmpty && taken.isEmpty then d
      else (d.setLog (log.filter (fun e => seqBefore e.seq bound)) []).giveBack (gone.flatMap LogEntry.drafts)
    let c := d.cast
    { d with cast := { c with
        formed := [], nextSeq := bound, allocated := [], redo := gone.flatMap LogEntry.effects ++ taken ++ c.redo
        jobs := gone.foldl (fun js e => jobBack e.job js) c.jobs } }

/-- Spills and returns are abandoned (Table 11-9). -/
def Dev.stopWings (d : Dev) : Dev := { d with cast := { d.cast with spill := none, spillReq := [], returns := [] } }

/-- The Cast Table at the halt point: formation stops, manifests of uncommitted steps are discarded, spills and returns are
abandoned (Table 11-9). A replay keeps the manifests of the steps that had committed before it. -/
def Dev.castHalt (d : Dev) : Dev :=
  (d.dropAhead.dropLog d.cast.committed).stopWings

/-- DATA and COLLECTIVE frames that wait for this device are discarded and counted (R393). -/
def Dev.dropBuffers (d : Dev) : Dev :=
  (List.range 17).foldl (fun d p =>
    let b := (d.port p).buffer
    let gone := b.filter (fun f => frameType f != 4)
    gone.foldl (fun d f => (d.countDrop p).sendCredit p (frameCredits (frameLen f)))
      (if gone.isEmpty then d else d.setPort p { d.port p with buffer := b.filter (fun f => frameType f == 4) })) d

/-- The halt of a Safety Curtain (R65, R349): one action where one is in progress, none once it is complete, unless a RESTORE has
started the Prompter again (R345). -/
def Dev.curtainHalt (d : Dev) (i : Ident) : Dev :=
  if d.halting || (d.curtainDown && d.halted) then d
  else
    let pc := d.firstUnissued
    let new := d.faultCode != 0x70
    let d := match d.stage.running with
      | some r => (let d := d.curtainCut i r; { d with stage := { d.stage with running := none } })
      | none => d
    let d := (d.writeFault 0x70 false 0x1FF false pc).abandonTransfers.haltPrompter.goDark
    let d := (if new then d.raise 64 else d).applyPend sceneBlocks
    let d := (({ d with grid := d.grid.stop }).clrBit Reg.lgrStatus 16).castHalt.clearHint.dropBuffers.sptCut
    let d := if d.armed && d.usyState == 0 then d.enterUsy 1 else d
    (d.setB 0).setBit Reg.hifStatus 1

/-! ### SPOTLIGHT as the Curtain meets it -/

/-- A byte of a submission entry's operands, by its place in the entry (Table 11-6). -/
def subOp (c : Submission) (byte len : Nat) : Nat := field c.ops (byte - 8) len

/-- A job is in effect: a step of it has been formed (R346), and not all its manifests were discarded. -/
def Job.begun (j : Job) : Bool := decide (j.toForm < subOp j.cmd 8 4)

/-- Complete a SPOTLIGHT command with its results (R498). -/
def Dev.sptComplete (d : Dev) (c : Submission) (st : Status) : Dev :=
  d.completeWith c st 0 ((d.reg Reg.sptStatus).toNat + (d.reg Reg.sptFill).toNat * 2 ^ 32) (d.reg64 Reg.sptTtime) (d.reg Reg.sptTpos).toNat

/-- Bytes of the capture buffer (R492). -/
def captureBytes : Nat := 4 * 2 ^ 20

/-- SPOTLIGHT READ (R498): copies bytes to host memory; a READ of the ring advances SPT_RING_RD past them. -/
def Dev.sptRead (d : Dev) (c : Submission) : Dev :=
  let space := subOp c 9 1
  let host := subOp c 16 8
  let n := subOp c 24 4
  let off := subOp c 28 4
  if 1 < space || host % 64 != 0 || n % 64 != 0 then d.sptComplete c .outOfRange
  else if space = 0 then
    if d.fld Reg.sptStatus 2 0 == 1 || d.fld Reg.sptStatus 2 0 == 2 then d.sptComplete c .notReady
    else if captureBytes < off + n then d.sptComplete c .outOfRange
    else
      let (bs, d) := d.readOpen .capt off n
      (d.hostWrite host bs).sptComplete c .success
  else if 16 * d.sptRingSize < off + n then d.sptComplete c .outOfRange
  else
    let (bs, d) := d.readOpen .hbm (d.sptRingBase + off) n
    let d := if n = 0 then d else d.setReg Reg.sptRingRd (BitVec.ofNat 32 (ceilDiv (off + n) 16 % d.sptRingSize))
    (d.hostWrite host bs).sptComplete c .success

/-- The SPOTLIGHT commands that waited as the Curtain completes: a READ is carried out (R498), a FORCE was not in effect (R349). -/
def Dev.sptAfterCurtain (d : Dev) : Dev :=
  let ws := d.spt.waits
  ws.foldl (fun d c => if subOp c 8 1 = 3 then d.sptRead c else d.sptComplete c .curtain) { d with spt := { d.spt with waits := [] } }

/-- The commands that a context holds and has not completed. -/
def Cast.unfinished (c : Cast) : List Submission :=
  (c.jobs.filter (fun j => !j.begun)).map Job.cmd ++ c.ckptReq ++ (match c.ckptDue with | some x => x.cmds | none => []) ++
    (match c.replay with | some r => r.cmds | none => []) ++ c.resuming

/-- A context without them: its checkpoint and its replay are abandoned. -/
def Cast.curtained (c : Cast) : Cast :=
  { c with jobs := c.jobs.filter Job.begun, ckptReq := [], ckptDue := none, replay := none, resuming := [] }

/-- The Safety Curtain completes (R349): commands not in effect complete with CURTAIN; CURTAIN_DOWN is set. -/
def Dev.curtainComplete (d : Dev) : Dev :=
  if !d.halting then d
  else
    let other := match d.usy.twin with | some c => c.cast.unfinished | none => []
    let d := d.completeAll (d.hif.cmds.map Command.sub ++ d.cast.unfinished ++ d.hif.energy ++ d.hif.restores.map Command.sub ++ other) .curtain
    let subs := d.hif.curtainCmds
    let d := { d with
      hif := { d.hif with cmds := [], restores := [], energy := [], curtainCmds := [] }
      cast := d.cast.curtained
      usy := { d.usy with twin := d.usy.twin.map (fun (c : Context) => { c with cast := c.cast.curtained }) }
      stage := { d.stage with power := .dark, wake := false } }
    let d := ((d.clrBit Reg.cstStatus 3).clrBit Reg.hifStatus 1).setBit Reg.hifStatus 0
    ((d.raise 0).completeAll subs .success).sptAfterCurtain

/-- CURTAIN_DOWN is left (R350): source 1. -/
def Dev.leaveCurtain (d : Dev) : Dev :=
  if d.curtainDown then
    let d := if d.armed && d.usyState == 1 then d.enterUsy 0 else d
    (d.clrBit Reg.hifStatus 0).raise 1
  else d

/-- A Cast Table transfer that would leave its regions (R313): RANGE_ERR, source 119, the Safety Curtain. -/
def Dev.castRange (d : Dev) (i : Ident) : Dev := (d.flagRaise Reg.cstStatus 6 119).curtainHalt i

/-- An error that a read or a partial write of the Cast Table met takes the Safety Curtain after its action (Table 10-5). -/
def Dev.stopIfHurt (d : Dev) (i : Ident) : Dev :=
  if d.cast.hurt then ({ d with cast := { d.cast with hurt := false } }).curtainHalt i else d

/-- The Cast Table reads bytes of its store or of its HBM areas: an uncorrectable error takes the Safety Curtain (Table 10-5). -/
def Dev.castReads (d : Dev) (i : Ident) (c : MemCode) (a n : Nat) : Dev :=
  let (e, d) := d.readErrors c a n
  if e then d.curtainHalt i else d

end Sys2Proof.Machine
end

