-- ==== Sys2Proof/Machine/Sampling.lean ====
section
/-! DEFINITION. What the standard programs compute: the automaton (R255, R256), SAMPLER's choice (R258), the result record
(R259), SPECV's resolution of a group (R260). -/
namespace Sys2Proof.Machine

/-- The state that rejects (Table 8-5). -/
def rejectState : Nat := 0xFFFFFFFF

/-- A 32-bit number of a memory. -/
def mem32 (m : Memory) (a : Nat) : Nat := leNat (memBytes m a 4)

/-- Where the record of state `s` lies, when the automaton at `h` has one (R255, R256): the MAGIC is right, s < STATES and
s is not reject. -/
def autoState (m : Memory) (h s : Nat) : Option Nat :=
  if mem32 m h = 0x4E5A4131 ∧ s ≠ rejectState ∧ s < mem32 m (h + 8) then some (h + mem32 m (h + 16) + 16 * s) else none

/-- A state's transitions and bitmap lie within their tables (R256): BITMAP below BITMAPS, and the transition range within
the transition table, whose end is the end of the program region. -/
def autoOk (m : Memory) (h r limit : Nat) : Bool :=
  decide (mem32 m r < mem32 m (h + 12)) &&
    decide (h + mem32 m (h + 24) + 8 * (mem32 m (r + 4) + mem32 m (r + 8)) ≤ limit)

/-- The NEXT of token `t` among `n` entries at `a`, in order. -/
def autoFind (m : Memory) (a t : Nat) : Nat → Option Nat
  | 0 => none
  | n + 1 => if bits (mem32 m a) 0 24 = t then some (mem32 m (a + 4)) else autoFind m (a + 8) t n

/-- The step of an automaton (R256); an automaton address of 0 leaves the state unchanged. -/
def autoStep (m : Memory) (limit h s t : Nat) : Nat :=
  if h = 0 then s
  else match autoState m h s with
    | none => rejectState
    | some r =>
      if !autoOk m h r limit then rejectState
      else match autoFind m (h + mem32 m (h + 24) + 8 * mem32 m (r + 4)) t (mem32 m (r + 8)) with
        | some nx => nx
        | none => mem32 m (r + 12)

/-- Token `v` is allowed in state `s` (R255, R256). -/
def autoAllows (m : Memory) (limit h s v : Nat) : Bool :=
  if h = 0 then true
  else match autoState m h s with
    | none => false
    | some r =>
      let vocab := bits (mem32 m (h + 4)) 0 24
      autoOk m h r limit && decide (v < vocab) &&
        bitAt (memByte m (h + mem32 m (h + 20) + mem32 m r * (16 * ceilDiv vocab 128) + v / 8)).toNat (v % 8)

/-- The sampling parameters of a row (R258). -/
structure SampleParams where
  temp : W32
  topp : W32
  minp : W32
  rpen : W32
  topk : Nat
  window : List Nat
  seed : W64
  stream : Nat
  rng : Nat
  tag : Nat
  index : Nat
deriving DecidableEq, Repr

/-- Insert a candidate by descending logit, lower index first (the order of R59). -/
def zIns (e : W32 × Nat) : List (W32 × Nat) → List (W32 × Nat)
  | [] => [e]
  | f :: t => if flt f.1 e.1 || (!flt e.1 f.1 && decide (e.2 < f.2)) then e :: f :: t else f :: zIns e t

/-- The repetition penalty (R258). -/
def penalise (p : SampleParams) (c : W32 × Nat) : W32 × Nat :=
  if p.window.contains c.2 then
    ((if flt 0 c.1 then fmul c.1 (frecip p.rpen) else fmul c.1 p.rpen), c.2)
  else c

/-- The weights of the candidates up to the min-p cut (R258): rank 0 weighs 1. -/
def sampleWeights (p : SampleParams) (z0 it : W32) : List (W32 × Nat) → List (W32 × Nat)
  | [] => []
  | c :: t =>
    let w := fexp (fmul (fsub c.1 z0) it)
    if flt w p.minp then [] else (w, c.2) :: sampleWeights p z0 it t

/-- The top-p cut (R258): the weights kept and their sum. -/
def topPCut (lim : W32) : W32 → List (W32 × Nat) → Option (List (W32 × Nat) × W32)
  | _, [] => none
  | c, w :: t =>
    let c := fadd c w.1
    if flt c lim then (topPCut lim c t).map (fun r => (w :: r.1, r.2)) else some ([w], c)

/-- The first candidate whose running sum exceeds t, else the last (R258). -/
def drawPick (t : W32) : W32 → List (W32 × Nat) → Nat
  | _, [] => 0
  | c, w :: r =>
    let c := fadd c w.1
    if flt t c || r.isEmpty then w.2 else drawPick t c r

/-- SAMPLER's choice among (logit, index) candidates (R258); none is DEAD_END. -/
def sampleChoice (p : SampleParams) (cands : List (W32 × Nat)) : Option Nat :=
  match (cands.map (penalise p)).foldl (fun l e => zIns e l) [] with
  | [] => none
  | c0 :: rest =>
    if fIsZero p.temp then some c0.2
    else
      let k := if p.topk ≠ 0 ∧ p.topk < cands.length then p.topk else cands.length
      let ws := (f32One, c0.2) :: sampleWeights p c0.1 (frecip p.temp) (rest.take (k - 1))
      let tot := ws.foldl (fun s w => fadd s w.1) 0
      let (ws, tot) :=
        if flt p.topp f32One then (topPCut (fmul p.topp tot) 0 ws).getD (ws, tot) else (ws, tot)
      let r := nzr p.seed p.stream p.rng p.tag p.index
      some (drawPick (fmul (fmul (itof (r >>> 8)) 0x33800000) tot) 0 ws)

/-- The candidates of a record (Table 2-5) with MX and SM. -/
def readCandidates (rec_ : List Byte) : List (W32 × Nat) × W32 × W32 :=
  ((List.range (min 256 (field rec_ 0 2))).map (fun j =>
    (BitVec.ofNat 32 (field rec_ (16 + 8 * j) 4), bits (field rec_ (20 + 8 * j) 4) 0 24)),
   BitVec.ofNat 32 (field rec_ 8 4), BitVec.ofNat 32 (field rec_ 12 4))

/-- LOGPROB of a chosen token (R259): from its LOGIT before penalty. -/
def logProb (rec_ : List Byte) (t : Nat) : W32 :=
  let (cs, mx, sm) := readCandidates rec_
  match cs.find? (fun c => c.2 == t) with
  | some c => fsub c.1 (fadd mx (fln sm))
  | none => 0

/-- The records of a stop list at `a` (R267), as token lists. -/
def stopList (m : Memory) (a : Nat) : Nat → List (List Nat)
  | 0 => []
  | n + 1 =>
    let len := bits (mem32 m a) 0 4
    if len = 0 then [] else
      ((List.range len).map (fun i => bits (mem32 m (a + 4 + 4 * i)) 0 24)) :: stopList m (a + 64) n

/-- The generated tokens, oldest first, end with a stop sequence (R259, R267). -/
def endsWithStop (gen : List Nat) (stops : List (List Nat)) : Bool :=
  stops.any (fun s => decide (s.length ≤ gen.length) && gen.drop (gen.length - s.length) == s)

/-- A result record (Table 8-6) as the Grid writes it. -/
structure ResultRecord where
  token : Nat
  stop : Bool
  deadEnd : Bool
  grammarErr : Bool
  void : Bool
  logprob : W32
  state : Nat
deriving DecidableEq, Repr

/-- The 16 bytes of a result record. -/
def ResultRecord.bytes (r : ResultRecord) : List Byte :=
  leBytes 4 (r.token + b2n r.stop * 2 ^ 24 + b2n r.deadEnd * 2 ^ 25 + b2n r.grammarErr * 2 ^ 26 + b2n r.void * 2 ^ 27) ++
    leBytes 4 r.logprob.toNat ++ leBytes 4 r.state ++ leBytes 4 0

/-- A result record read back. -/
def readResult (b : List Byte) : ResultRecord :=
  let w := field b 0 4
  { token := bits w 0 24, stop := bitAt w 24, deadEnd := bitAt w 25, grammarErr := bitAt w 26, void := bitAt w 27
    logprob := BitVec.ofNat 32 (field b 4 4), state := field b 8 4 }

/-- The record of a token chosen, or of a dead end, from automaton state `s` with `gen` generated before it (R259). -/
def resultOf (m : Memory) (limit auto s : Nat) (rec_ : List Byte) (gen : List Nat) (stops : List (List Nat))
    (endTok : Option Nat) : Option Nat → ResultRecord
  | none => { token := 0, stop := false, deadEnd := true, grammarErr := false, void := false, logprob := 0, state := s }
  | some t =>
    let s' := autoStep m limit auto s t
    { token := t, stop := endTok == some t || endsWithStop (gen ++ [t]) stops, deadEnd := false
      grammarErr := auto != 0 && s' == rejectState, void := false, logprob := logProb rec_ t, state := s' }

/-- The record of a verify row after the last token delivered (R260). -/
def voidRecord (s : Nat) : ResultRecord :=
  { token := 0, stop := false, deadEnd := false, grammarErr := false, void := true, logprob := 0, state := s }

/-- SPECV on one group (R260): rows in order as (candidate record, choice), the drafts still to match, the state and generated
tokens so far; the group ends at the first mismatch, stop or dead end, and every later row is VOID. -/
def resolveGroup (m : Memory) (limit auto : Nat) (stops : List (List Nat)) (endTok : Option Nat) :
    List (List Byte × Option Nat) → List Nat → Nat → List Nat → Bool → List ResultRecord
  | [], _, _, _, _ => []
  | (rec_, c) :: rest, drafts, s, gen, live =>
    if !live then voidRecord s :: resolveGroup m limit auto stops endTok rest drafts.tail s gen false
    else
      let r := resultOf m limit auto s rec_ gen stops endTok c
      let go := c.isSome && drafts.head? == c && !r.stop
      r :: resolveGroup m limit auto stops endTok rest drafts.tail r.state (gen ++ c.toList) go

end Sys2Proof.Machine
end

