-- ==== Sys2Proof/Machine/Cast.lean ====
section
/-! DEFINITION. The Cast Table: stream entries (R266), the effects of stream commands (R268, R284, R285, R344), and the commit
of a step (R288 to R292). -/
namespace Sys2Proof.Machine

/-! ### Entries -/

/-- STAGE where there is no staging block (Table 9-1). -/
def noStage : Nat := 0xFFFFFFFF
/-- A page-table entry or STAGE at or above this names a frame of the Wings (R296). -/
def inWings : Nat := 0x80000000

/-- Entry of stream s. -/
def Dev.entry (d : Dev) (s : Nat) : Entry := tabGet Entry.zero d.cast.entries s
/-- Store an entry. -/
def Dev.setEntry (d : Dev) (s : Nat) (e : Entry) : Dev :=
  { d with cast := { d.cast with entries := tabSet Entry.zero d.cast.entries s e } }

/-- Blocks that a stream holds between steps: those of its LEN positions. -/
def Entry.blocks (e : Entry) : Nat := ceilDiv e.len 64

/-- The pair that opened a stream (R348); 64 where none has. -/
def Dev.openerOf (d : Dev) (s : Nat) : Nat := tabGet (fun _ => 64) d.cast.opener s

/-- Only one half of the stream IDs is this context's, where the pair is armed or the module serves two slices (R459, R477). -/
def Dev.inHalf (d : Dev) (s : Nat) : Bool :=
  if d.bit Reg.usyStatus 7 || d.bit Reg.usyStatus 8 then (s / 8192 == d.fld Reg.usyCtrl 1 1) != d.inTwin else true

/-- A held token entry of stream s stands on a queue (R294). -/
def Dev.streamHeld (d : Dev) (s : Nat) : Bool :=
  (d.pair (d.entry s).cq).held.any (fun e => bits (field e 0 1) 4 4 == 2 && bits (field e 2 2) 0 14 == s)

/-! ### Blocks of a stream -/

/-- Frames of the Wings (R295). -/
def Dev.frameCount (d : Dev) : Nat := d.fld Reg.cstWingsFrames 23 0

/-- Mark a frame used or free, keeping the old bit in the journal (R301). -/
def Dev.setFrame (d : Dev) (f : Nat) (used : Bool) : Dev :=
  let d := d.addUndo (.frame f (d.cast.frames.contains f))
  let rest := d.cast.frames.filter (· != f)
  { d with cast := { d.cast with frames := if used then rest.filter (· < f) ++ f :: rest.filter (f < ·) else rest } }

/-- Release what a page-table entry or STAGE refers to: a block (R273), or a frame of the Wings. -/
def Dev.releaseAny (d : Dev) (v : Nat) : Dev := if inWings ≤ v then d.setFrame (v - inWings) false else d.release v

/-- A stream's references are released and its entry is FREE (R274). -/
def Dev.freeStream (d : Dev) (s : Nat) : Dev :=
  let e := d.entry s
  let d := (List.range e.blocks).foldl (fun d j => d.releaseAny (d.ptEntry s j)) d
  let d := if e.stage = noStage then d else d.releaseAny e.stage
  let c := d.cast
  { d.setEntry s (Entry.zero s) with cast := { c with
      entries := tabSet Entry.zero c.entries s (Entry.zero s), marked := c.marked.filter (· != s)
      spillReq := c.spillReq.filter (· != s), returns := c.returns.filter (· != s)
      spill := if c.spill = some s then none else c.spill } }

/-- Store tokens from position p on. -/
def Dev.setTokens (d : Dev) (s : Nat) : Nat → List Nat → Dev
  | _, [] => d
  | p, t :: ts => Dev.setTokens (d.setToken s p t) s (p + 1) ts

/-- Allocate blocks for entries [j, j + n) of a stream's page table, ascending. -/
def Dev.growBlocks (d : Dev) (s : Nat) : Nat → Nat → Dev
  | _, 0 => d
  | j, n + 1 =>
    match d.alloc with
    | some (b, d) => Dev.growBlocks (d.setPt s j b) s (j + 1) n
    | none => d

/-- What the copy of block j of a stream copies: the block, and its staging block if it has one, where one of them has several
references (R286); `gone` are references that copies before it release. -/
def Dev.copiesOf (d : Dev) (gone : List Nat) (s j : Nat) : List Nat :=
  let e := d.entry s
  let bs := d.ptEntry s j :: (if j = e.pos / 64 ∧ e.stage ≠ noStage then [e.stage] else [])
  if bs.any (fun b => decide (1 < d.refCount b - gone.count b)) then bs else []

/-- Copy one block to a new one and release the reference to the old (R286). A copy in the state that a commit will leave is made, and
counted, at that commit. -/
def Dev.copyTo (d : Dev) (old : Nat) (point : Dev → Nat → Dev) : Dev :=
  match d.alloc with
  | some (b, d) =>
    let d := (point (d.copyBlock old b) b).release old
    if d.drafting then d else d.count Reg.cstCowCount
  | none => d

/-- The copy of R286 for block j of a stream. -/
def Dev.copyShared (d : Dev) (s j : Nat) : Dev :=
  if (d.copiesOf [] s j).isEmpty then d
  else
    let d := d.copyTo (d.ptEntry s j) (fun d b => d.setPt s j b)
    let e := d.entry s
    if j = e.pos / 64 && e.stage != noStage then d.copyTo e.stage (fun d b => d.setEntry s { d.entry s with stage := b }) else d

/-! ### Stream commands -/

/-- The parameter-block fields that OPEN_STREAM and FORK_STREAM take (R344), as (low bit, width). -/
def paramFields (fork : Bool) : List (Nat × Nat) :=
  [(4, 3), (32, 6), (160, 32), (256, 64), (384, 39), (448, 128), (576, 9), (592, 6), (608, 24), (639, 1)] ++
    (if fork then [] else [(224, 32), (320, 39)])

/-- TEMP, TOPP, MINP, RPEN, TOPK and PWIN lie in their ranges (Table 9-1). -/
def Entry.paramsOk (e : Entry) : Bool :=
  let unit := fun (x : W32) => fIsZero x || (fIsFinite x && !x.getLsbD 31 && !flt f32One x)
  (fIsZero e.temp || (fIsFinite e.temp && !e.temp.getLsbD 31)) && unit e.topp && unit e.minp && isPosNormal e.rpen &&
    decide (e.topk ≤ 256) && decide (e.pwin ≤ 32)

/-- The entry that a parameter block describes, or the status that refuses it (R344). -/
def takeParams (c : Command) (fork : Bool) : Except Status Entry :=
  if !c.buf.ok || c.buf.bytes.length != 256 then .error .dmaError
  else if outside (leNat c.buf.bytes) (paramFields fork) then .error .reservedField
  else
    let e := entryOf c.buf.bytes
    if e.paramsOk then .ok { e with job := c.sub.job.toNat, stage := noStage, recent := List.replicate 32 0 }
    else .error .outOfRange

/-- Every reserved bit of a submission entry is 0 (Table 11-5): `flags` and `used` name the bits that the command has. -/
def subReservedOk (c : Submission) (flags : Nat) (stream job : Bool) (used : List (Nat × Nat)) : Bool :=
  !outside c.flags.toNat [(0, flags)] && (if stream then decide (c.stream.toNat < 16384) else c.stream == 0) &&
    (job || c.job == 0) && !outside (leNat c.ops) (used.map (fun u => (8 * (u.1 - 8), 8 * u.2)))

/-- The lowest FREE entry that a command may take (R344, R459). -/
def Dev.freeEntry (d : Dev) : Option Nat :=
  (List.range 16384).find? (fun s => (d.entry s).state == .free && d.inHalf s)

/-- Tokens of a stream at most before it generates (R344). -/
def Dev.lenLimit' (d : Dev) : Nat := 64 * d.geom.maxBlocks - 1

/-- Blocks that OPEN_STREAM shares from entry `j` on, at most `n` (R284). -/
def Dev.sharedFrom (d : Dev) (src pre plen : Nat) (toks : List Nat) : Nat → Nat → Nat
  | _, 0 => 0
  | j, n + 1 =>
    let e := d.entry src
    if 64 * (j + 1) ≤ e.pos ∧ 64 * (j + 1) ≤ pre ∧ 64 * (j + 1) < plen ∧
        (List.range 64).all (fun i => d.tokenAt src (64 * j + i) == toks.getD (64 * j + i) 0) = true
    then 1 + Dev.sharedFrom d src pre plen toks (j + 1) n else 0

/-- What a stream command does: status, RESULT0 and the state after. -/
abbrev Effect := Status × Nat × Dev

/-- OPEN_STREAM (R284, R344). -/
def Dev.openStream (d : Dev) (c : Command) : Effect :=
  let plen := subOp c.sub 24 4
  let src := subOp c.sub 28 2
  let share := c.sub.flags.getLsbD 0
  let toks := c.buf.tokens.map (fun t => bits t.toNat 0 24)
  if !subReservedOk c.sub 1 false true [(8, 8), (16, 8), (24, 6), (32, 4)] || 16384 ≤ src then (.reservedField, 0, d)
  else if subOp c.sub 8 8 % 64 != 0 || subOp c.sub 16 8 % 4 != 0 then (.outOfRange, 0, d)
  else match takeParams c false with
    | .error st => (st, 0, d)
    | .ok e =>
      if toks.length != plen then (.dmaError, 0, d)
      else if d.lenLimit' < plen then (.outOfRange, 0, d)
      else
        let st := (d.entry src).state
        if share && (st == .free || st == .spilled || st == .aborted || st == .failed) then (.streamState, 0, d)
        else
          let k := if share then d.sharedFrom src (subOp c.sub 32 4) plen toks 0 (plen / 64) else 0
          match d.freeEntry with
          | none => (.noEntry, 0, d)
          | some s =>
            let n := ceilDiv plen 64 - k
            if d.freeBlocks.length < n then (.noSpace, 0, d)
            else
              let d := (List.range (if share then min (k + 1) (plen / 64) else 0)).foldl (fun d j => d.castMeets (d.tokenAddr src (64 * j)) 256) d
              let d := (List.range k).foldl (fun d j => let b := d.ptEntry src j
                (d.refer b).setPt s j b) d
              let d := (d.growBlocks s k n).setTokens s (64 * k) (toks.drop (64 * k))
              let d := d.setEntry s { e with state := .prefill, len := plen, pos := 64 * k }
              (.success, s, { d with cast := { d.cast with opener := tabIns d.cast.opener s c.sub.q.val } })

/-- FORK_STREAM (R285). -/
def Dev.forkStream (d : Dev) (c : Command) : Effect :=
  let src := c.sub.stream.toNat
  let o := d.entry src
  let ok := o.state == .prefill || o.state == .decode || o.state == .verify || o.state == .paused || o.state == .done
  if !subReservedOk c.sub 0 true true [(8, 8)] then (.reservedField, 0, d)
  else if subOp c.sub 8 8 % 64 != 0 then (.outOfRange, 0, d)
  else if !ok || !d.inHalf src then (.streamState, 0, d)
  else match takeParams c true with
    | .error st => (st, 0, d)
    | .ok e =>
      match d.freeEntry with
      | none => (.noEntry, 0, d)
      | some s =>
        let d := (List.range o.blocks).foldl (fun d j => let b := d.ptEntry src j
          (d.refer b).setPt s j b) d
        let d := if o.stage = noStage then d else d.refer o.stage
        let d := d.setEntry s { e with
          state := if o.state = .verify then .decode else o.state, saved := if o.state = .paused then o.saved else .free
          len := o.len, pos := o.pos, gen := o.gen, rng := o.rng, astate := o.astate, auto := o.auto, recent := o.recent
          rhead := o.rhead, stage := o.stage, pauseSeq := 0 }
        (.success, s, { d with cast := { d.cast with opener := tabIns d.cast.opener s c.sub.q.val } })

/-- The tokens of an APPEND fill the positions after LEN (R344). -/
def Dev.appendTokens (d : Dev) (s : Nat) (toks : List Nat) : Effect :=
  let e := d.entry s
  let cur := e.blocks
  let want := ceilDiv (e.len + toks.length) 64
  let copy := if e.len % 64 = 0 then 0 else (d.copiesOf [] s (e.len / 64)).length
  if d.lenLimit' < e.len + toks.length then (.outOfRange, 0, d)
  else if d.freeBlocks.length < want - cur + copy then (.noSpace, 0, d)
  else
    let d := if e.len % 64 = 0 then d else d.copyShared s (e.len / 64)
    let d := (d.growBlocks s cur (want - cur)).setTokens s e.len toks
    let e := d.entry s
    let e := { e with len := e.len + toks.length }
    let e := match e.state with
      | .decode | .verify | .done => { e with state := .prefill, ndraft := 0, drafts := [], reason := 0 }
      | .paused => { e with saved := .prefill, reason := 0 }
      | _ => e
    (.success, 0, d.setEntry s e)

/-- APPEND (R281, R344, Table 9-2), of a stream that is not SPILLED. -/
def Dev.append (d : Dev) (c : Command) : Effect :=
  let s := c.sub.stream.toNat
  let e := d.entry s
  let count := subOp c.sub 16 4
  let draft := c.sub.flags.getLsbD 0
  let set := c.sub.flags.getLsbD 1
  let toks := c.buf.tokens.map (fun t => bits t.toNat 0 24)
  if !subReservedOk c.sub 2 true false [(8, 8), (16, 8)] then (.reservedField, 0, d)
  else if e.state == .free || e.state == .aborted || e.state == .failed || !d.inHalf s then (.streamState, 0, d)
  else if subOp c.sub 8 8 % 4 != 0 then (.outOfRange, 0, d)
  else if (draft && (count = 0 || 8 < count)) || (!draft && count != 0 && d.lenLimit' < e.len + count) then (.outOfRange, 0, d)
  else if count != 0 && (!c.buf.ok || toks.length != count) then (.dmaError, 0, d)
  else
    let (st, r, d) : Effect :=
      if draft then (.success, 0, d.setEntry s { e with ndraft := count, drafts := toks })
      else if count = 0 then (.success, 0, d)
      else d.appendTokens s toks
    if st = .success && set then (st, r, d.setEntry s { d.entry s with astate := subOp c.sub 20 4 }) else (st, r, d)

/-- CLOSE_STREAM (R274). -/
def Dev.closeStream (d : Dev) (c : Command) : Effect :=
  let s := c.sub.stream.toNat
  if !subReservedOk c.sub 0 true false [] then (.reservedField, 0, d)
  else if (d.entry s).state == .free || !d.inHalf s then (.streamState, 0, d)
  else (.success, 0, d.freeStream s)

/-- PAUSE_STREAM (R268, R296). -/
def Dev.pauseStream (d : Dev) (c : Command) : Effect :=
  let s := c.sub.stream.toNat
  let e := d.entry s
  let ok := e.state == .prefill || e.state == .decode || e.state == .verify || e.state == .done
  if !subReservedOk c.sub 1 true false [] then (.reservedField, 0, d)
  else if !ok || !d.inHalf s then (.streamState, 0, d)
  else
    let d := d.setEntry s { e with state := .paused, saved := if e.state = .verify then .decode else e.state
                                   pauseSeq := (d.reg Reg.stgStepSeq).toNat }
    (.success, 0, if c.sub.flags.getLsbD 0 then { d with cast := { d.cast with spillReq := d.cast.spillReq ++ [s] } } else d)

/-- RESUME_STREAM (R268): a SPILLED stream's return is asked for. -/
def Dev.resumeStream (d : Dev) (c : Command) : Effect :=
  let s := c.sub.stream.toNat
  let e := d.entry s
  if !subReservedOk c.sub 0 true false [] then (.reservedField, 0, d)
  else if !d.inHalf s then (.streamState, 0, d)
  else if e.state = .paused then
    let d := d.setEntry s { e with state := e.saved, saved := .free }
    let k := d.cast
    (.success, 0, { d with cast := { k with spillReq := k.spillReq.filter (· != s)
                                            spill := if k.spill = some s then none else k.spill } })
  else if e.state = .spilled then
    (.success, 0, if d.cast.returns.contains s then d else ({ d with cast := { d.cast with returns := d.cast.returns ++ [s] } }).pulse 86)
  else (.streamState, 0, d)

/-- The command names a stream that ABORT_QUEUE marked in a context (Table 11-10). -/
def Cast.names (k : Cast) (c : Submission) : Bool :=
  decide (0x11 ≤ c.opcode.toNat) && decide (c.opcode.toNat ≤ 0x15) && k.marked.contains c.stream.toNat

/-- The same, in either context of a module in two-context mode. -/
def Dev.beingMarked (d : Dev) (c : Submission) : Bool :=
  d.cast.names c || (match d.usy.twin with | some t => t.cast.names c | none => false)

/-- A stream command takes effect (R28, R268). -/
def Dev.streamEffect (d : Dev) (c : Command) : Effect :=
  match c.sub.opcode.toNat with
    | 0x10 => d.openStream c
    | 0x11 => d.append c
    | 0x12 => d.closeStream c
    | 0x13 => d.pauseStream c
    | 0x14 => d.resumeStream c
    | 0x15 => d.forkStream c
    | _ => (.invalidOpcode, 0, d)

/-- An APPEND to a SPILLED stream is held (9.2). -/
def Dev.appendHeld (d : Dev) (c : Command) : Bool :=
  c.sub.opcode.toNat == 0x11 && (d.entry c.sub.stream.toNat).state == .spilled

/-- A stream command of the opcode table (Table 11-6). -/
def isStreamCmd (c : Submission) : Bool := decide (0x10 ≤ c.opcode.toNat) && decide (c.opcode.toNat ≤ 0x15)

/-! ### Token entries -/

/-- A token entry (Table 9-10). -/
def tokenEntry (s : Nat) (e : Entry) (pos : Nat) (toks : List (Nat × W32)) (ended : Bool) (reason : Nat) : TokenEntry :=
  { q := e.cq, stream := s
    data := leBytes 2 0x20 ++ leBytes 2 s ++ leBytes 2 e.job ++ leBytes 1 (toks.length + 8 * b2n e.lp + 16 * b2n ended) ++
      leBytes 1 (if ended then reason else 0) ++ leBytes 4 pos ++
      padTo 20 (toks.flatMap (fun t => leBytes 4 t.1 ++ if e.lp then leBytes 4 t.2.toNat else [])) }

/-- The entries of tokens delivered from position `pos` on, `per` a time, at most `n` entries (R292). -/
def splitEntries (s : Nat) (e : Entry) (per : Nat) (ended : Bool) (reason : Nat) : Nat → Nat → List (Nat × W32) → List TokenEntry
  | 0, _, _ => []
  | n + 1, pos, ts =>
    if ts.length ≤ per then [tokenEntry s e pos ts ended reason]
    else tokenEntry s e pos (ts.take per) false 0 :: splitEntries s e per ended reason n (pos + per) (ts.drop per)

/-- The entries of a stream's step (R292); none where it delivers nothing and goes on. -/
def tokenEntries (s : Nat) (e : Entry) (pos : Nat) (toks : List (Nat × W32)) (ended : Bool) (reason : Nat) : List TokenEntry :=
  if toks.isEmpty then (if ended then [tokenEntry s e pos [] true reason] else [])
  else splitEntries s e (if e.lp then 2 else 5) ended reason toks.length pos toks

/-- The entry of a stream that ends without a token (R292). -/
def endEntry (s : Nat) (e : Entry) (reason : Nat) : TokenEntry := tokenEntry s e e.len [] true reason

/-- Write or hold token entries (R293, R294). -/
def Dev.postTokens (d : Dev) (es : List TokenEntry) : Dev := es.foldl (fun d e => d.post e.q e.data) d

/-- The token entries of one step: holding any counts once (R294). -/
def Dev.deliver (d : Dev) (es : List TokenEntry) : Dev :=
  let d' := d.postTokens es
  if es.any (fun e => decide ((d.pair e.q).held.length < (d'.pair e.q).held.length)) then
    (d'.count Reg.cstCqStalls).flagRaise Reg.cstStatus 5 114
  else d'

/-! ### Commit -/

/-- The result record of emit row e. -/
def Dev.resultAt (d : Dev) (e : Nat) : ResultRecord := readResult (memBytes d.cast.results (16 * e) 16)

/-- A verify group's records after the first VOID are not read (R260). -/
def liveRecords : List ResultRecord → List ResultRecord
  | [] => []
  | r :: rs => r :: rs.takeWhile (fun r => !r.void)

/-- The records whose tokens are delivered, up to a STOP, and the record that ends the stream (R291). -/
def liveTokens : List ResultRecord → List ResultRecord × Option ResultRecord
  | [] => ([], none)
  | r :: rs =>
    if r.deadEnd || r.grammarErr then ([], some r)
    else if r.stop then ([r], none)
    else
      let (ds, f) := liveTokens rs
      (r :: ds, f)

/-- A delivered token in an entry: RECENT, GEN and ASTATE (R288). -/
def Entry.take (e : Entry) (r : ResultRecord) : Entry :=
  { e with recent := e.recent.set e.rhead r.token, rhead := (e.rhead + 1) % 32, gen := (e.gen + 1) % 2 ^ 32, astate := r.state }

/-- The state and reason that R291 gives. -/
def Dev.endOf (d : Dev) (e : Entry) (good : List ResultRecord) (fail : Option ResultRecord) : StreamState × Nat :=
  match fail with
  | some r => (.failed, if r.deadEnd then 4 else 5)
  | none =>
    match good.getLast? with
    | some r =>
      if r.stop then (.done, if e.endEn && r.token == e.endTok then 2 else 1)
      else if e.maxGen != 0 && decide (e.maxGen ≤ e.gen) then (.done, 3)
      else if 64 * d.geom.maxBlocks ≤ e.len then (.done, 9)
      else (.decode, 0)
    | none => (.decode, 0)

/-- Zeros over the staging rows of positions [lo, hi) (R289); `stg` are the staging blocks from block jw on. -/
def Dev.trimRows (d : Dev) (stg : List Nat) (jw lo hi : Nat) : Dev :=
  let rb := d.geom.pageBytes / 64
  (List.range (hi - lo)).foldl (fun d i =>
    let p := lo + i
    let a := d.blockAddr (stg.getD (p / 64 - jw) 0) + 256 + p % 64 * rb
    (List.range d.geom.pages).foldl (fun d k => d.castWrite (a + k * d.geom.pageBytes) (List.replicate rb 0)) d) d

/-- The staging blocks after the commit: the one of the open block is kept, the others are released (R272, R290). -/
def Dev.keepStaging (d : Dev) (stg : List Nat) (jw pos : Nat) : Nat × Dev :=
  (List.range stg.length).foldl (fun acc i =>
    let b := stg.getD i 0
    if pos % 64 ≠ 0 && jw + i == pos / 64 then (b, acc.2) else (acc.1, acc.2.release b)) (noStage, d)

/-- The commit of one slot (Table 9-9, R288 to R291) whose emit rows begin at `e0`: the entries it delivers, the emit rows it
has, the state after. -/
def Dev.commitSlot (d : Dev) (m : Man) (u : ManSlot) (e0 : Nat) : List TokenEntry × Nat × Dev :=
  let s := u.stream
  let e := d.entry s
  let n := u.lenAfter - e.pos
  let verify := e.state == .verify
  let chunk := e.state == .prefill && decide (u.lenAfter < e.len)
  let emits := if chunk then 0 else if verify then n else 1
  let recs := liveRecords ((List.range emits).map (fun k => d.resultAt (e0 + k)))
  let (good, fail) := liveTokens recs
  let stg := (List.range u.nw).map (fun i => m.staging.getD (u.six + i) 0)
  let pos := if verify then e.pos + good.length else u.lenAfter
  let len := e.len + good.length
  let held := ceilDiv (u.lenAfter + b2n (!chunk)) 64
  let d := d.setTokens s e.len (good.map ResultRecord.token)
  let d := if verify then d.trimRows stg u.jw pos u.lenAfter else d
  let d := (List.range (held - ceilDiv len 64)).foldl (fun d i => d.release (d.ptEntry s (ceilDiv len 64 + i))) d
  let (stage, d) := d.keepStaging stg u.jw pos
  let e' := good.foldl Entry.take { e with rng := (e.rng + 1) % 2 ^ 32, pos := pos, len := len, stage := stage }
  let e' := if verify then { e' with ndraft := 0, drafts := [] } else e'
  if chunk then ([], 0, d.setEntry s e')
  else
    let (st, reason) := d.endOf e' good fail
    let d := d.setEntry s { e' with state := st, reason := reason }
    let out := if d.cast.marked.contains s then []
      else tokenEntries s e' e.len (good.map (fun r => (r.token, r.logprob))) (st != .decode) reason
    (out, emits, d)

/-- The commit of the running step on the Cast Table (R288): the entries it delivers, in emit-row order. -/
def Dev.commitCast (d : Dev) : List TokenEntry × Dev :=
  let m := d.man
  let r := m.slots.foldl (fun acc u =>
    let (out, n, d) := acc.2.2.commitSlot m u acc.2.1
    (acc.1 ++ out, acc.2.1 + n, d)) (([] : List TokenEntry), 0, d)
  (r.1, r.2.2)

end Sys2Proof.Machine
end

