-- ==== Sys2Proof/Machine/Wings.lean ====
section
/-! DEFINITION. The Wings: what a spill writes to host memory and a return reads back (R295 to R298); and the effects that a replay takes
again (R301, R302). -/
namespace Sys2Proof.Machine

/-! ### Frames -/

/-- Where frame f lies in host memory (R295). -/
def Dev.frameAddr (d : Dev) (f : Nat) : Nat := d.reg64 Reg.cstWingsBase / 4096 * 4096 + f * d.geom.blockBytes

/-- The lowest-numbered free frame. -/
def Dev.freeFrame (d : Dev) : Option Nat := (List.range d.frameCount).find? (fun f => !d.cast.frames.contains f)

/-! ### Blocks out and in -/

/-- A block that a spill writes: resident, with one reference. -/
def Dev.spills (d : Dev) (v : Nat) : Bool := v < inWings && d.refCount v == 1

/-- The blocks of a stream that a spill writes, in page-table order; `none` is the staging block, last. -/
def Dev.spillList (d : Dev) (s : Nat) : List (Option Nat) :=
  let e := d.entry s
  ((List.range e.blocks).filter (fun j => d.spills (d.ptEntry s j))).map some ++
    (if e.stage != noStage && d.spills e.stage then [none] else [])

/-- What a page-table entry, or STAGE, of a stream holds. -/
def Dev.placeOf (d : Dev) (s : Nat) : Option Nat → Nat
  | some j => d.ptEntry s j
  | none => (d.entry s).stage

/-- Set it. -/
def Dev.setPlace (d : Dev) (s : Nat) (k : Option Nat) (v : Nat) : Dev :=
  match k with
  | some j => d.setPt s j v
  | none => d.setEntry s { d.entry s with stage := v }

/-- One block goes to the lowest-numbered free frame, and only then is released (R296). -/
def Dev.spillBlock (d : Dev) (s : Nat) (k : Option Nat) : Dev :=
  match d.freeFrame with
  | none => d
  | some f =>
    let b := d.placeOf s k
    let d := d.hostWrite (d.frameAddr f) (memBytes d.mems.hbm (d.blockAddr b) d.geom.blockBytes)
    (((d.setFrame f true).setPlace s k (inWings + f))).release b

/-- A stream is spilled (R296). -/
def Dev.spillStream (d : Dev) (s : Nat) : Dev :=
  let d := (d.spillList s).foldl (fun d k => d.spillBlock s k) d
  d.setEntry s { d.entry s with state := .spilled }

/-- What of a stream lies in the Wings, in page-table order, staging last. -/
def Dev.returnList (d : Dev) (s : Nat) : List (Option Nat) :=
  let e := d.entry s
  ((List.range e.blocks).filter (fun j => inWings ≤ d.ptEntry s j)).map some ++
    (if e.stage != noStage && decide (inWings ≤ e.stage) then [none] else [])

/-- One frame is copied back to a new block, and freed (R297). -/
def Dev.returnBlock (d : Dev) (s : Nat) (k : Option Nat) : Dev :=
  let f := d.placeOf s k - inWings
  match d.alloc with
  | none => d
  | some (b, d) =>
    let d := d.castWrite (d.blockAddr b) (memBytes d.mems.host (d.frameAddr f) d.geom.blockBytes)
    (d.setPlace s k b).setFrame f false

/-- A stream has returned (R297): it takes its saved state. -/
def Dev.returnStream (d : Dev) (s : Nat) : Dev :=
  let d := (d.returnList s).foldl (fun d k => d.returnBlock s k) d
  let e := d.entry s
  d.setEntry s { e with state := e.saved, saved := .free }

/-! ### Effects taken again -/

/-- An effect is kept for the log of the next manifest (R301). -/
def Dev.note (d : Dev) (x : CastEffect) : Dev :=
  match d.cast.ahead with
  | some a => if a.working then { d with cast := { d.cast with ahead := some { a with effects := a.effects ++ [x] } } } else d.addLog x.record
  | none => d.addLog x.record

/-- A command takes effect again; a stream it opens on a pair that ABORT_QUEUE named is marked (R348). -/
def Dev.commandAgain (d : Dev) (c : Command) : Dev :=
  let (st, s, d) := d.streamEffect c
  let opens := c.sub.opcode.toNat == 0x10 || c.sub.opcode.toNat == 0x15
  if st == .success && opens && d.cast.markers.contains c.sub.q.val && !d.cast.marked.contains s then
    { d with cast := { d.cast with marked := d.cast.marked ++ [s] } }
  else d

/-- Take effect again without a completion or a token entry (R302, R275). -/
def Dev.effectAgain (d : Dev) : CastEffect → Dev
  | .command c => d.commandAgain c
  | .ended s st r => d.setEntry s { d.entry s with state := st, reason := r }
  | .spilled s => d.spillStream s
  | .returned s =>
    let d := d.returnStream s
    { d with cast := { d.cast with returns := d.cast.returns.filter (· != s) } }

/-- The submission of a command's effect. -/
def CastEffect.sub? : CastEffect → Option Submission
  | .command c => some c.sub
  | _ => none

end Sys2Proof.Machine
end

