-- ==== Sys2Proof/Machine/Formation.lean ====
section
/-! DEFINITION. Forming a step: admission (R276, R277), rows and slots (R278, R279), RUN_JOB manifests (R346), and the formation
of a logged manifest in a replay (R302).
Manifest slots alternate (R20); rows and their bound: R25 to R27; Table 9-13: R305. -/
namespace Sys2Proof.Machine

/-! ### Admission -/

/-- CHUNK_MAX: 0 or above 4,096 acts as 4,096 (Table 9-14). -/
def Dev.chunkMax (d : Dev) : Nat :=
  let n := d.fld Reg.cstCtrl 12 0
  if n = 0 ∨ 4096 < n then 4096 else n

/-- A state in which a stream has rows to run (9.2). -/
def Entry.active (e : Entry) : Bool :=
  (e.state == .prefill && decide (e.pos < e.len)) || e.state == .decode || e.state == .verify

/-- The commit that this formation runs ahead of would leave an entry of the stream held (R275, R294). -/
def Dev.willHold (d : Dev) (s : Nat) : Bool :=
  match d.cast.ahead with
  | some a => a.deliver.any (fun e => e.stream == s) && (d.postTokens a.deliver).streamHeld s
  | none => false

/-- A stream is runnable (9.2); a marked one is not (R348). -/
def Dev.runnable (d : Dev) (s : Nat) : Bool :=
  (d.entry s).active && !d.streamHeld s && !d.willHold s && !d.cast.marked.contains s && d.inHalf s

/-- The stream is LATE (R276). -/
def Dev.late (d : Dev) (e : Entry) : Bool :=
  let gap := d.fld (Reg.cstClass e.cls) 15 0
  gap != 0 && decide (gap ≤ e.waited)

/-- The admission key, the smallest first (R276). -/
def Dev.admissionKey (d : Dev) (s : Nat) : Nat :=
  let e := d.entry s
  (((if d.late e then 0 else 1) * 4 + e.cls) * 65536 + (65535 - e.waited)) * 16384 + s

/-- Insert by key. -/
def keyIns (k s : Nat) : List (Nat × Nat) → List (Nat × Nat)
  | [] => [(k, s)]
  | e :: t => if k < e.1 then (k, s) :: e :: t else e :: keyIns k s t

/-- The runnable streams in key order. -/
def Dev.runnables (d : Dev) : List Nat :=
  (((tabKeys d.cast.entries).filter (fun s => d.runnable s)).foldl (fun l s => keyIns (d.admissionKey s) s l) []).map Prod.snd

/-- The rows can deliver a token: a decode row, a verify group or a final chunk (R277). -/
def Entry.delivers (e : Entry) (n : Nat) : Bool := e.state != .prefill || e.pos + n == e.len

/-- The blocks that admitting n rows of a stream copies (R286), where the streams admitted before have released the references `gone`. -/
def Dev.copiesFor (d : Dev) (gone : List Nat) (s n : Nat) : List Nat :=
  let e := d.entry s
  let jw := e.pos / 64
  (List.range (min (ceilDiv (e.pos + n) 64) e.blocks - jw)).flatMap (fun i => d.copiesOf gone s (jw + i))

/-- Blocks that admitting n rows of a stream allocates (R277). -/
def Dev.need (d : Dev) (gone : List Nat) (s n : Nat) : Nat :=
  let e := d.entry s
  let jw := e.pos / 64
  let nb := ceilDiv (e.pos + n) 64
  (ceilDiv (e.pos + n + b2n (e.delivers n)) 64 - e.blocks) + (nb - jw - b2n (e.stage != noStage)) + (d.copiesFor gone s n).length

/-- Rows that a stream asks for under a row limit (R277). -/
def Dev.wanted (d : Dev) (e : Entry) (lim : Nat) : Nat :=
  if e.state = .prefill then min (min (e.len - e.pos) d.chunkMax) lim
  else
    let n := min (min e.ndraft (lim - 1)) (64 * d.geom.maxBlocks - e.len - 1)
    (if e.maxGen = 0 then n else min n (e.maxGen - e.gen - 1)) + 1

/-- Where admission stands: rows placed, free blocks, streams admitted with their rows in order, references that their copies
release. -/
structure Admission where
  rows : Nat
  free : Nat
  got : List (Nat × Nat)
  gone : List Nat
deriving DecidableEq, Repr

/-- One stream in one pass (R277). -/
def Dev.admitIn (d : Dev) (pass res : Nat) (a : Admission) (s : Nat) : Admission :=
  let e := d.entry s
  if (a.got.map Prod.fst).contains s || (pass == 2) != (e.state == .prefill) then a
  else
    let lim := 4096 - a.rows
    let lim := if pass = 1 then lim - min res lim else lim
    if lim = 0 then a
    else
      let n := d.wanted e lim
      let c := d.need a.gone s n
      if a.free < c then a
      else { rows := a.rows + n, free := a.free - c, got := a.got ++ [(s, n)], gone := a.gone ++ d.copiesFor a.gone s n }

/-- Admission (R277). -/
def Dev.admission (d : Dev) (l : List Nat) : List (Nat × Nat) :=
  let pre := (l.map d.entry).filter (fun e => e.state == .prefill)
  let res := min (d.fld Reg.cstCtrl 25 13) ((pre.map (fun e => min (e.len - e.pos) d.chunkMax)).sum)
  ([1, 2, 3].foldl (fun a p => l.foldl (d.admitIn p res) a) { rows := 0, free := d.freeBlocks.length, got := [], gone := [] }).got

/-! ### Placing an admitted stream -/

/-- Staging blocks of blocks [j, j + n) of a stream, ascending: the one it has, or a new one (R272). -/
def Dev.stagingFor (d : Dev) (s : Nat) : Nat → Nat → List Nat × Dev
  | _, 0 => ([], d)
  | j, n + 1 =>
    let e := d.entry s
    if j = e.pos / 64 ∧ e.stage ≠ noStage then
      let (bs, d) := Dev.stagingFor d s (j + 1) n
      (e.stage :: bs, d)
    else match d.allocStaging with
      | some (b, d) =>
        let d := if j = e.pos / 64 then d.setEntry s { d.entry s with stage := b } else d
        let (bs, d) := Dev.stagingFor d s (j + 1) n
        (b :: bs, d)
      | none => ([], d)

/-- An admitted stream: its slot (SIX not yet set), the staging blocks of the blocks it writes, its tokens by row. -/
structure Placed where
  slot : ManSlot
  staging : List Nat
  tokens : List Nat
  emits : Nat
  group : Bool
deriving DecidableEq, Repr

/-- The draft proposal that a stream may take (R281): what the formation took the first time where it is done again, else what stands. -/
def Dev.proposal (d : Dev) (s : Nat) : List Nat :=
  match d.cast.given with
  | some g => ((g.drafts.find? (fun p => p.1 == s)).map Prod.snd).getD []
  | none =>
    let prop := memBytes d.cast.proposals (64 * s) 36
    (List.range (min 8 (bits (field prop 32 4) 0 4))).map (fun i => bits (field prop (4 * i) 4) 0 24)

/-- N of the proposals taken becomes 0 (R281). -/
def Dev.clearProposals (d : Dev) (ss : List Nat) : Dev :=
  { d with cast := { d.cast with proposals := ss.foldl (fun m s => memPuts m (64 * s + 32) (leBytes 4 0)) d.cast.proposals } }

/-- Copies, new blocks and staging blocks of an admitted stream (R277, R286), its state (Table 9-2), its draft proposal (R281). -/
def Dev.place (d : Dev) (s n : Nat) : Placed × Dev :=
  let e := d.entry s
  let jw := e.pos / 64
  let nb := ceilDiv (e.pos + n) 64
  let cur := e.blocks
  let want := ceilDiv (e.pos + n + b2n (e.delivers n)) 64
  let chunk := e.state == .prefill
  let d := (List.range (min nb cur - jw)).foldl (fun d i => d.copyShared s (jw + i)) d
  let d := d.growBlocks s cur (want - cur)
  let (stg, d) := d.stagingFor s jw (nb - jw)
  let toks := (List.range n).map (fun i =>
    if chunk || i = 0 then d.tokenAt s (e.pos + i) else bits (e.drafts.getD (i - 1) 0) 0 24)
  let d := (List.range n).foldl (fun d i => if chunk || i = 0 then d.castMeets (d.tokenAddr s (e.pos + i)) 4 else d) d
  let slot : ManSlot := { stream := s, rng := e.rng, lenAfter := e.pos + n, nb := nb, jw := jw, nw := nb - jw, six := 0 }
  let e' := { d.entry s with waited := 0 }
  let e' := if !chunk && 1 < n then { e' with state := .verify } else e'
  let p := d.proposal s
  let (e', d) := if e'.state = .decode ∧ e'.ndraft = 0 ∧ p ≠ [] then
      ({ e' with ndraft := p.length, drafts := p }, { d with cast := { d.cast with drafted := d.cast.drafted ++ [(s, p)] } })
    else (e', d)
  ({ slot := slot, staging := stg, tokens := toks
     emits := if chunk then b2n (e.pos + n == e.len) else n, group := !chunk && decide (1 < n) }, d.setEntry s e')

/-- The manifest of the placed streams (R278, R279). -/
def manifestOf (seq : Nat) (ps : List Placed) : Man :=
  let six := fun u => ((ps.take u).map (fun p => p.slot.nw)).sum
  let slots := (List.range ps.length).zip ps
  let row := fun (u : Nat) (p : Placed) (i : Nat) =>
    ({ token := p.tokens.getD i 0, slot := u, pos := p.slot.lenAfter - p.tokens.length + i } : ManRow)
  let emit := slots.flatMap (fun x =>
    (List.range x.2.emits).map (fun i => row x.1 x.2 (x.2.tokens.length - x.2.emits + i)))
  let rest := slots.flatMap (fun x => (List.range (x.2.tokens.length - x.2.emits)).map (fun i => row x.1 x.2 i))
  { seq := seq, emit := emit.length, groups := (ps.filter (fun p => p.group)).length, rows := emit ++ rest
    slots := slots.map (fun x => { x.2.slot with six := six x.1 }), staging := ps.flatMap (fun p => p.staging) }

/-- Place the admitted streams in order (R278). -/
def Dev.placeAll (d : Dev) (got : List (Nat × Nat)) : List Placed × Dev :=
  got.foldl (fun acc g =>
    let (p, d) := acc.2.place g.1 g.2
    (acc.1 ++ [p], d)) ([], d)

/-- A runnable stream left out: WAITED (R276). -/
def Dev.passOver (d : Dev) (s : Nat) : Dev :=
  let e := d.entry s
  d.setEntry s { e with waited := min 0xFFFF (e.waited + 1) }

/-- A runnable stream left out: WAITED, and a missed class deadline (R276); in a replay a conflict event too (R426). -/
def Dev.leaveOut (d : Dev) (s : Nat) : Dev :=
  let e := d.entry s
  let d' := d.passOver s
  if d.late e then
    let d' := (d'.count (Reg.cstMiss e.cls)).flagRaise Reg.cstStatus 4 113
    if d.cast.replay.isSome then d'.conflict 6 else d'
  else d'

/-- Streams of `l` without rows. -/
def leftOut (l : List Nat) (got : List (Nat × Nat)) : List Nat := l.filter (fun s => !(got.map Prod.fst).contains s)

/-! ### Jobs -/

/-- Seeds that a job's first manifest writes (R346). -/
def Dev.jobSeeds (d : Dev) (c : Submission) : Dev :=
  (setBits 4 (subOp c 14 1)).foldl (fun d n => d.setReg64 (Reg.stgSeed n) (subOp c (16 + 8 * n) 8)) d

/-- What is wrong with a RUN_JOB (R341, Table 11-6). -/
def jobStatus (c : Submission) : Status :=
  if !subReservedOk c 0 false true [(8, 6), (14, 1), (16, 32)] || decide (16 ≤ subOp c 14 1) then .reservedField
  else if subOp c 8 4 = 0 || subOp c 12 2 = 0 || 4096 < subOp c 12 2 then .outOfRange
  else .success

/-- The manifest of a job's step (R346). -/
def jobManifest (seq : Nat) (c : Submission) : Man :=
  { seq := seq, emit := 0, groups := 0, rows := List.replicate (subOp c 12 2) { token := 0, slot := 0, pos := 0 }, slots := []
    staging := [] }

/-! ### Formation -/

/-- One accepted command taken by a formation (R28). -/
def Dev.takeCommand (d : Dev) (c : Command) : Dev :=
  if c.sub.opcode.toNat = 0x30 then
    match jobStatus c.sub with
    | .success => { d with cast := { d.cast with
        jobs := d.cast.jobs ++ [{ cmd := c.sub, toForm := subOp c.sub 8 4, toCommit := subOp c.sub 8 4, first := 0 }] } }
    | st => d.complete c.sub st
  else
    let (st, r, d) := d.streamEffect c
    let d := if st = .success then d.note (.command c) else d
    d.completeWith c.sub st 0 r 0 0

/-- Load or unload commands wait for the step in progress and hold back what follows them (R353). -/
def isLoadCmd (c : Submission) : Bool := c.opcode.toNat == 0x01 || c.opcode.toNat == 0x02

/-- A command of this context (R477): those of the twin's streams are for the twin context. -/
def Dev.ofContext (d : Dev) (c : Submission) : Bool :=
  if !d.bit Reg.usyStatus 8 then true
  else if 0x11 ≤ c.opcode.toNat && c.opcode.toNat ≤ 0x15 then d.inHalf c.stream.toNat
  else !d.inTwin

/-- Commands accepted before the formation take effect in order, up to a load (R28, R353); an APPEND to a SPILLED stream stays. -/
def Dev.takeCommands (d : Dev) : Dev :=
  let ready := d.hif.cmds.takeWhile (fun c => !isLoadCmd c.sub)
  let rest := d.hif.cmds.dropWhile (fun c => !isLoadCmd c.sub)
  let d := { d with hif := { d.hif with cmds := [] } }
  let r := ready.foldl (fun acc c =>
    if !acc.2.ofContext c.sub || acc.2.appendHeld c then (acc.1 ++ [c], acc.2) else (acc.1, acc.2.takeCommand c)) (([] : List Command), d)
  { r.2 with hif := { r.2.hif with cmds := r.1 ++ rest } }

/-- Effects of a discarded manifest are taken again (R275). -/
def Dev.takeAgain (d : Dev) : Dev :=
  d.cast.redo.foldl (fun d c => (d.effectAgain c).note c) { d with cast := { d.cast with redo := [] } }

/-- The log entry number of a SEQ, counted from CST_CKPT_SEQ (R279). -/
def Dev.logIndex (d : Dev) (seq : Nat) : Nat := (seq + 2 ^ 32 - (d.reg Reg.cstCkptSeq).toNat) % 2 ^ 32

/-- The manifest with a SEQ is complete: TC120 is posted (R275). -/
def Dev.manifestReady (d : Dev) (seq : Nat) : Dev :=
  ({ d with cast := { d.cast with formed := d.cast.formed ++ [seq], formedAny := true } }).postToken 120 false false

/-- Write a manifest to its slot and to its log entry, and post TC120 (R275, R279). -/
def Dev.publish (d : Dev) (m : Man) : Dev :=
  ((d.writeMan (d.manAddr (m.seq % 2)) m).writeMan (d.manAddr (2 + d.logIndex m.seq)) m).manifestReady m.seq

/-- A formed manifest joins the log (R301), with the blocks and the proposals that were taken since the last. -/
def Dev.logManifest (d : Dev) (e : LogEntry) : Dev :=
  let d := d.addLog ({ e with blocks := d.cast.allocated, drafts := d.cast.drafted } : LogEntry).record
  { d with cast := { d.cast with allocated := [], drafted := [] } }

/-- Free blocks fell below LOW_WATER in this formation (R277). -/
def Dev.poolCheck (d : Dev) (before : Nat) : Dev :=
  let low := d.fld Reg.cstPool 23 0
  if low ≤ before && d.freeBlocks.length < low then d.flagRaise Reg.cstStatus 1 112 else d

/-- What a formation formed: the manifest and its log entry. -/
structure Formed where
  man : Man
  entry : LogEntry
deriving DecidableEq, Repr

/-- A log entry without effects, blocks and proposals yet. -/
def LogEntry.start (seq : Nat) (job : Option Submission) (first : Bool) (left : List Nat) : LogEntry :=
  { seq := seq, effects := [], job := job, first := first, blocks := [], left := left, drafts := [] }

/-- The seeds of a job's first manifest are written (R346), in the state that the formation works on. -/
def Dev.seedsFor (d : Dev) (e : LogEntry) : Dev :=
  match e.job with
  | some c => if e.first && !d.drafting then d.jobSeeds c else d
  | none => d

/-- The next step of a job is formed (R346). -/
def Dev.formJob (d : Dev) (j : Job) (js : List Job) : Formed × Dev :=
  let seq := d.cast.nextSeq
  let first := j.toForm == subOp j.cmd 8 4
  let j := { j with toForm := j.toForm - 1, first := if first then seq else j.first }
  let d := { d with cast := { d.cast with jobs := (d.cast.jobs.takeWhile (fun (x : Job) => x.toForm == 0)) ++ j :: js } }
  let e := LogEntry.start seq (some j.cmd) first []
  ({ man := jobManifest seq j.cmd, entry := e }, d.seedsFor e)

/-- The formation of a manifest, but for writing it (R277, R346): commands take effect, then a job's step or the admitted streams. -/
def Dev.formBatch (d : Dev) : Option Formed × Dev :=
  let before := d.freeBlocks.length
  let d := d.takeAgain.takeCommands
  match d.cast.jobs.dropWhile (fun j => j.toForm == 0) with
  | j :: js =>
    let (f, d) := d.formJob j js
    (some f, d.poolCheck before)
  | [] =>
    let l := d.runnables
    match d.admission l with
    | [] => (none, d.poolCheck before)
    | got =>
      let seq := d.cast.nextSeq
      let (ps, d) := d.placeAll got
      let left := leftOut l got
      (some { man := manifestOf seq ps, entry := LogEntry.start seq none false left },
       ((left.foldl (fun d s => d.leaveOut s) d).clearProposals (d.cast.drafted.map Prod.fst)).poolCheck before)

/-- A formation works on the state as it stands. -/
def Dev.form (d : Dev) : Dev :=
  match d.formBatch with
  | (none, d) => d
  | (some f, d) =>
    let d := (d.publish f.man).logManifest f.entry
    { d with cast := { d.cast with view := d.cast.entries, nextSeq := (f.entry.seq + 1) % 2 ^ 32 } }

/-! ### A formation done again -/

/-- The rows of each stream in a logged manifest. -/
def Dev.loggedRows (d : Dev) (a : Nat) : List (Nat × Nat) :=
  (readMan d.mems.hbm a).slots.map (fun u => (u.stream, u.lenAfter - (d.entry u.stream).pos))

/-- What a formation did is done again (R275, R302): its effects, its seeds, the blocks of its manifest at `a` as it took them the first
time, and the streams that it left out, by `leave`. -/
def Dev.formAgain (d : Dev) (e : LogEntry) (a : Option Nat) (effect : Dev → CastEffect → Dev) (leave : Dev → Nat → Dev) : Dev :=
  let d := { d with cast := { d.cast with given := some { blocks := e.blocks, drafts := e.drafts } } }
  let d := e.effects.foldl effect d
  let d := match a with
    | some a =>
      let d := d.seedsFor e
      e.left.foldl leave (d.placeAll (d.loggedRows a)).2
    | none => d
  { d with cast := { d.cast with given := none } }

/-- Formation of the next logged manifest in a replay (R302), but for writing it. -/
def Dev.replayBatch (d : Dev) (e : LogEntry) : Dev :=
  let d := d.formAgain e (some (d.manAddr (2 + d.logIndex e.seq))) Dev.effectAgain Dev.leaveOut
  ({ d with cast := { d.cast with allocated := [], drafted := [] } }).clearProposals (e.drafts.map Prod.fst)

/-- A logged manifest's bytes go to its slot (R302). -/
def Dev.republish (d : Dev) (e : LogEntry) : Dev :=
  (d.castWrite (d.manAddr (e.seq % 2)) (memBytes d.mems.hbm (d.manAddr (2 + d.logIndex e.seq)) (2 ^ 18))).manifestReady e.seq

/-- Formation of the next logged manifest in a replay (R302): its command effects again, its blocks, its bytes. -/
def Dev.formLogged (d : Dev) (e : LogEntry) (rest : List LogEntry) (r : Replay) : Dev :=
  let d := (d.replayBatch e).republish e
  { d with cast := { d.cast with replay := some { r with rest := rest }, view := d.cast.entries } }

/-! ### Formation ahead of a commit -/

/-- Formations ahead that have done nothing yet. -/
def Ahead.none : Ahead :=
  { working := false, deliver := [], effects := [], blocks := [], drafts := [], manifest := Option.none, logged := false }

/-- The state that the commit of the running step will leave (R275), with what formations ahead of it have done before. -/
def Dev.draft (d : Dev) : Dev :=
  let a := d.cast.ahead.getD Ahead.none
  let d := { d with cast := { d.cast with ahead := some { a with working := true } } }
  let (out, d) := d.commitCast
  let d := d.formAgain (LogEntry.start 0 Option.none false [] |> fun e => { e with effects := a.effects, blocks := a.blocks })
    Option.none Dev.effectAgain Dev.passOver
  { d with cast := { d.cast with ahead := some { a with working := true, deliver := out }, allocated := [], drafted := [] } }

/-- The formation on the state `w` is over: that state is put aside until the commit, and the state `d` stands; commands taken have
completed, counts and Callboard sources of the formation have been raised, and the proposals it took have N = 0. -/
def Dev.putAside (d w : Dev) (f : Option LogEntry) (logged : Bool) : Dev :=
  let b := w.cast.ahead.getD Ahead.none
  let blocks := (match d.cast.ahead with | some a => a.blocks | none => []) ++ w.cast.allocated
  let b := match f with
    | some e => if logged then { b with effects := e.effects, blocks := e.blocks, drafts := e.drafts }
        else { b with blocks := blocks, drafts := w.cast.drafted }
    | none => { b with blocks := blocks, drafts := w.cast.drafted }
  let c := d.cast
  { w with
    mems := { w.mems with hbm := d.mems.hbm }
    cast := { w.cast with
      entries := c.entries, opener := c.opener, marked := c.marked, deferred := c.deferred, frames := c.frames, spill := c.spill
      spillReq := c.spillReq, returns := c.returns, given := none, allocated := c.allocated, drafted := c.drafted
      view := if f.isSome then w.cast.entries else c.view
      ahead := if f.isNone && b.effects.isEmpty then none
        else some { b with working := false, deliver := [], manifest := f, logged := logged } } }

/-- Formation ahead of the commit of the running step (R275): it works on the state that commit will leave, and the commit brings it in
(`Dev.applyAhead`). -/
def Dev.formAhead (d : Dev) : Dev :=
  match d.cast.replay with
  | some r =>
    match r.rest with
    | e :: rest =>
      let d' := (d.putAside (d.draft.replayBatch e) (some e) true).republish e
      { d' with cast := { d'.cast with replay := some { r with rest := rest } } }
    | [] => d
  | none =>
    match d.draft.formBatch with
    | (some f, w) =>
      let d' := (d.putAside w (some f.entry) false).publish f.man
      { d' with cast := { d'.cast with nextSeq := (f.entry.seq + 1) % 2 ^ 32 } }
    | (none, w) => d.putAside w none false

/-- The step has committed: what formations ahead of it did takes place (R275). -/
def Dev.applyAhead (d : Dev) : Dev :=
  match d.cast.ahead with
  | none => d
  | some a =>
    let e := { a.manifest.getD (LogEntry.start 0 Option.none false []) with effects := a.effects, blocks := a.blocks, drafts := a.drafts }
    let d := { d with cast := { d.cast with ahead := Option.none } }
    let d := d.formAgain e (a.manifest.map (fun m => d.manAddr (m.seq % 2)))
      (fun d x => if a.logged then d.effectAgain x else (d.effectAgain x).note x) Dev.passOver
    if a.logged then { d with cast := { d.cast with allocated := [], drafted := [] } }
    else match a.manifest with
      | some m => d.logManifest m
      | none => d

/-! ### When a formation begins -/

/-- The running step has its manifest. -/
def Dev.stepFormed (d : Dev) : Bool := d.cast.formed.contains (d.reg Reg.stgStepSeq).toNat

/-- Entries of a stream's page table: the stream, the first and the end. -/
abbrev Touch := Nat × Nat × Nat

/-- The page-table entries that a stream command reads or writes (R274, R284, R285, R344). -/
def Dev.commandTouch (d : Dev) (c : Submission) : List Touch :=
  let whole := fun (s : Nat) => (s, 0, (d.entry s).blocks)
  match c.opcode.toNat with
  | 0x10 => if c.flags.getLsbD 0 then [(subOp c 28 2, 0, min (d.entry (subOp c 28 2)).blocks (subOp c 32 4 / 64))] else []
  | 0x11 => [(c.stream.toNat, (d.entry c.stream.toNat).len / 64, (d.entry c.stream.toNat).blocks)]
  | 0x12 => [whole c.stream.toNat]
  | 0x15 => [whole c.stream.toNat]
  | _ => []

/-- The page-table entries that a formation, and the commit it runs ahead of, read or write: from the block of POS on in every active
stream (R277, R278, R286, R288), and those of the commands it takes. -/
def Dev.formTouch (d : Dev) : List Touch :=
  let cs := d.cast.redo.filterMap CastEffect.sub? ++
    (match d.cast.replay with
     | some r => (r.rest.head?.elim [] LogEntry.effects).filterMap CastEffect.sub?
     | none => d.hif.cmds.map Command.sub)
  (d.cast.entries.filter (fun e => e.2.active)).map (fun e => (e.1, e.2.pos / 64, e.2.blocks)) ++ cs.flatMap d.commandTouch

/-- A page-table entry or a STAGE field of a stream in a state names no block of the pool, or no frame of the Wings (R313). -/
def Dev.placeBad (d : Dev) (st : StreamState) (v : Nat) : Bool :=
  if inWings ≤ v && [.paused, .spilled, .aborted, .failed].contains st then decide (d.frameCount ≤ v - inWings) else !d.blockOk v

/-- Such an entry among those touched, or the stream's STAGE. -/
def Dev.touchBad (d : Dev) (t : Touch) : Bool :=
  let e := d.entry t.1
  (e.state != .free && e.stage != noStage && d.placeBad e.state e.stage) ||
    (List.range (t.2.2 - t.2.1)).any (fun k => d.placeBad e.state (d.ptEntry t.1 (t.2.1 + k)))

/-- Bytes of a memory that are read: the memory, the first, how many. -/
abbrev Span := MemCode × Nat × Nat

/-- What the Cast Table reads for an action on its streams: the store, then in HBM the reference counts and those entries (R559). -/
def Dev.castSpans (d : Dev) (ts : List Touch) : List Span :=
  d.cast.entries.map (fun e => ((.cast, 256 * e.1, 256) : Span)) ++
    (.hbm, d.refAddr 0, 2 * d.geom.blocks) :: ts.map (fun t => (.hbm, d.ptAddr t.1 t.2.1, 4 * (t.2.2 - t.2.1)))

/-- What the commit of the running step reads of its manifest: header, slots, staging entries (R288). -/
def Dev.commitSpans (d : Dev) : List Span :=
  let a := d.stepMan
  let m := d.man
  [(.hbm, a, 12), (.hbm, a + 0x11000, 32 * m.slots.length), (.hbm, a + 0x31000, 4 * m.staging.length)]

/-- The page-table entries that the commit of the running step reads: from the block of POS on (R288 to R290). -/
def Dev.commitTouch (d : Dev) : List Touch :=
  d.man.slots.map (fun u => let e := d.entry u.stream
    (u.stream, e.pos / 64, max e.blocks (ceilDiv u.lenAfter 64)))

/-- What a formation reads of the manifests: the logged one in a replay (R302), and the running one ahead of its commit (R275). -/
def Dev.formSpans (d : Dev) : List Span :=
  (if d.stepFormed then d.commitSpans else []) ++
    (match d.cast.replay.bind (fun r => r.rest.head?) with
     | some e => [(.hbm, d.manAddr (2 + d.logIndex e.seq), 2 ^ 18)]
     | none => [])

/-- Act on the streams, or take the Safety Curtain at an uncorrectable error (Table 10-5), the Cast Table store's first (R326), or at an
entry out of range (R313). -/
def Dev.castGuard (d : Dev) (i : Ident) (ts : List Touch) (more : List Span) (act : Dev → Dev) : Dev :=
  let spans := d.castSpans ts ++ more
  if spans.any (fun s => !(d.errorsIn s.1 s.2.1 s.2.2).isEmpty) then spans.foldl (fun d s => d.castReads i s.1 s.2.1 s.2.2) d
  else if ts.any d.touchBad then d.castRange i
  else (act d).stopIfHurt i

/-- A program is loaded. -/
def Dev.loaded (d : Dev) : Bool := d.bit Reg.stgImgLoad 8

/-- The pairing wait of R458 is over. -/
def Dev.pairingOver (d : Dev) : Bool := !d.bit Reg.usyCtrl 0 || d.bit Reg.usyStatus 7 || d.usy.waited || d.inTwin || d.cast.formedAny

/-- The drain has stopped formation (R478). -/
def Dev.drained (d : Dev) : Bool := d.usy.draining.isSome

/-- A formation may begin (R275, R279, R343, R458, R478). -/
def Dev.mayForm (d : Dev) : Bool :=
  d.loaded && d.cast.geom.isSome && !d.halted && !d.halting && (!d.curtainDown || d.cast.replay.isSome || !d.cast.resuming.isEmpty) && d.pairingOver && !d.drained &&
    (!d.stepFormed || (d.cast.tc121 && decide (d.cast.formed.length ≤ 1) && !d.bit Reg.usyStatus 8)) &&
    (match d.cast.replay with
     | some r => !r.rest.isEmpty
     | none => decide ((d.cast.nextSeq + 2 ^ 32 - (d.reg Reg.cstCkptSeq).toNat) % 2 ^ 32 < 1024))

/-- The formation of a manifest: in a replay the next of the log (R302), else from the commands and streams (R277); ahead of the running
step's commit where it runs (R275). -/
def Dev.formNext (d : Dev) : Dev :=
  let d := d.pulse 80
  if d.stepFormed then d.formAhead
  else match d.cast.replay with
    | some r =>
      match r.rest with
      | e :: rest => d.formLogged e rest r
      | [] => d
    | none => d.form

end Sys2Proof.Machine
end

