-- ==== Sys2Proof/Machine/GridNet.lean ====
section
/-! DEFINITION. The Lantern Grid network: tokens and pairing (R226 to R231), edge units (R232 to R235),
the Cast Table's Grid window (R280), changeover (R239 to R242). Grid cycles are counted where a token's path or a slot needs
them; other time is the environment's (notes/assumptions/3.md). -/
namespace Sys2Proof.Machine

/-! ### Injection -/

/-- The Grid's epoch. -/
def Dev.epoch (d : Dev) : Nat := d.fld Reg.lgrStatus 15 8

/-- Inject one token in grid cycle c (R226, R228). One that no selector of its first crosspoint names is discarded and counted; one that
no selector names farther on goes no further (R222). -/
def Dev.injectOne (d : Dev) (u c : Nat) (ctl : Bool) (word : Nat) : Dev :=
  if !d.grid.routed ctl u c then d.count Reg.lgrMisrouteCount
  else
    let w := GridWord.inject u c ctl word d.epoch
    { d with grid := { d.grid with words := d.grid.words.filter (fun v => decide (c ≤ v.since + 64)) ++ [w]
                                   flight := d.grid.flight ++ d.grid.tokens w } }

/-- A control token (Table 7-4) of unit u injected in cycle c: KIND, CHAN and ERR of `w`. -/
def Dev.controlWord (d : Dev) (u c w : Nat) : Nat :=
  d.epoch + bits w 8 4 * 2 ^ 8 + u * 2 ^ 12 + c % 16 * 2 ^ 21 + bits w 25 4 * 2 ^ 25 + bits w 29 1 * 2 ^ 29

/-- Inject a pair (R228). -/
def Dev.injectPair (d : Dev) (u c ctlWord data : Nat) : Dev :=
  (d.injectOne u c true (d.controlWord u c ctlWord)).injectOne u c false data

/-! ### Receive channels and edge units -/

/-- Channel `ch` of a lantern, oldest pair first. -/
def Grid.channel (g : Grid) (l ch : Nat) : List (Nat × Nat) := tabGet (fun _ => []) g.channels (16 * l + ch)
/-- Store a channel. -/
def Grid.setChannel (g : Grid) (l ch : Nat) (x : List (Nat × Nat)) : Grid :=
  { g with channels := tabSet (fun _ => []) g.channels (16 * l + ch) x }

/-- The edge unit of unit number u. -/
def Dev.edge (d : Dev) (u : Nat) : EdgeUnit := tabGet EdgeUnit.idle d.grid.edges u
/-- Store an edge unit. -/
def Dev.setEdge (d : Dev) (u : Nat) (e : EdgeUnit) : Dev :=
  { d with grid := { d.grid with edges := tabSet EdgeUnit.idle d.grid.edges u e } }

/-- Lantern l. -/
def Dev.lantern (d : Dev) (l : Nat) : Lantern := tabGet Lantern.idle d.grid.lanterns l
/-- Store lantern l. -/
def Dev.setLantern (d : Dev) (l : Nat) (x : Lantern) : Dev :=
  { d with grid := { d.grid with lanterns := tabSet Lantern.idle d.grid.lanterns l x } }

/-- KIND of a control token. -/
def tokenKind (w : Nat) : Nat := bits w 8 4

/-- A pair dropped at a full channel or queue (R230, R232). -/
def Dev.gridOverflow (d : Dev) : Dev := (d.count Reg.lgrOvfCount).flagRaise Reg.lgrStatus 19 132
/-- A pair dropped for its kind (R227). -/
def Dev.gridMisroute (d : Dev) : Dev := (d.count Reg.lgrMisrouteCount).raise 131

/-- A pair is delivered at a steering unit (R227, R230, R232). A reserved OP is accepted at once, to be answered with its status. -/
def Dev.deliverPair (d : Dev) (u c w : Nat) : Dev :=
  let k := tokenKind c
  if u < 256 then
    if k = 1 ∨ k = 3 then
      let ch := bits c 25 4
      let q := d.grid.channel u ch
      let d := if k = 3 && bitAt c 29 && bits w 0 8 == 3 then d.setLantern u { d.lantern u with bad := true } else d
      if 32 ≤ q.length then d.gridOverflow else { d with grid := d.grid.setChannel u ch (q ++ [(c, w)]) }
    else d.gridMisroute
  else
    let e := d.edge u
    if k = 2 then
      if 32 ≤ e.reqs.length + (e.inbox.filter (fun p => tokenKind p.1 == 2)).length then d.gridOverflow
      else if 6 ≤ bits w 0 4 && e.inbox.isEmpty then
        d.setEdge u { e with reqs := e.reqs ++ [{ src := bits c 12 9, op := bits w 0 4, words := 1, rto := bits w 8 9, rslot := bits w 17 4
                                                  rchan := bits w 21 4, tile := 0, addr := 0, status := 1, data := [] }] }
      else d.setEdge u { e with inbox := e.inbox ++ [(c, w)] }
    else if k = 4 then d.setEdge u { e with inbox := e.inbox ++ [(c, w)] }
    else d.gridMisroute

/-! ### Arrival and pairing (R229) -/

/-- Tokens held at a steering unit. -/
def Grid.held (g : Grid) (u : Nat) : List GridToken := tabGet (fun _ => []) g.steer u
/-- Store them. -/
def Grid.setHeld (g : Grid) (u : Nat) (ts : List GridToken) : Grid := { g with steer := tabSet (fun _ => []) g.steer u ts }

/-- Two tokens are partners: one of each plane, one source and slot, at most 4 grid cycles apart. -/
def partners (a b : GridToken) : Bool :=
  a.ctl != b.ctl && a.src == b.src && a.sslot == b.sslot && decide (a.due ≤ b.due + 4) && decide (b.due ≤ a.due + 4)

/-- The earliest token in flight. -/
def earliest : List GridToken → Option GridToken
  | [] => none
  | t :: ts => match earliest ts with
    | none => some t
    | some u => if u.due < t.due then some u else some t

/-- Take one token out of a list. -/
def dropToken (t : GridToken) : List GridToken → List GridToken
  | [] => []
  | u :: us => if u = t then us else u :: dropToken t us

/-- Every lantern is idle and no edge unit holds a request (R239): one delivered to it is accepted (R232). -/
def Dev.gridIdle (d : Dev) : Bool :=
  d.grid.lanterns.all (fun e => !e.2.running) &&
    d.grid.edges.all (fun e => e.2.reqs.isEmpty && e.2.inbox.all (fun p => tokenKind p.1 != 2))

/-- The grid cycle of a changeover's barrier (R239), where it is reached as things stand: the Grid is idle, the records are read (from
t + 4), and the last reply of an edge unit has been injected. -/
def Dev.barrierCycle (d : Dev) (c : Changeover) : Nat :=
  c.barrier.getD (max (max d.grid.cycle (c.start + 4)) ((d.grid.edges.map (fun e => e.2.nextInj)).foldl max 0))

/-- The Grid goes on to grid cycle c; a barrier reached on the way stays reached (R239). -/
def Dev.gridTo (d : Dev) (c : Nat) : Dev :=
  let g := { d.grid with cycle := max d.grid.cycle c }
  match d.grid.change with
  | some x =>
    if d.gridIdle && decide (d.barrierCycle x ≤ c) then { d with grid := { g with change := some { x with barrier := some (d.barrierCycle x) } } }
    else { d with grid := g }
  | none => { d with grid := g }

/-- A token reaches its steering unit. -/
def Dev.arrive (d : Dev) (t : GridToken) : Dev :=
  let d := d.gridTo t.due
  let d := { d with grid := { d.grid with flight := dropToken t d.grid.flight } }
  if t.epoch ≠ d.epoch then
    let d := (d.count Reg.lgrStaleCount).pulse 99
    if d.bit Reg.lgrCtrl 0 then d.raise 129 else d
  else
    match (d.grid.held t.unit).find? (fun h => partners h t) with
    | some h =>
      let d := { d with grid := d.grid.setHeld t.unit (dropToken h (d.grid.held t.unit)) }
      if t.ctl then d.deliverPair t.unit t.word h.word else d.deliverPair t.unit h.word t.word
    | none => { d with grid := d.grid.setHeld t.unit (d.grid.held t.unit ++ [t]) }

/-- The oldest token of a plane held at u whose partner is not on its way in time. -/
def Dev.lonely (d : Dev) (u : Nat) (ctl : Bool) : Option GridToken :=
  (d.grid.held u).find? (fun t => t.ctl == ctl && !(d.grid.flight.any (fun f => f.unit == u && f.epoch == d.epoch && partners f t)))

/-- A control token expires (R229). -/
def Dev.expireControl (d : Dev) (u : Nat) (t : GridToken) : Dev :=
  let d := d.gridTo (t.due + 5)
  let d := { d with grid := d.grid.setHeld u (dropToken t (d.grid.held u)) }
  let d := d.count Reg.lgrExpiredCount
  if d.bit Reg.lgrCtrl 1 then d.raise 130 else d

/-- The grid cycle of the swap if the barrier is reached as things stand (R239): the first of slot 0 after it. -/
def Dev.swapCycle (d : Dev) (c : Changeover) : Nat := slotCycle (d.barrierCycle c + 1) 0

/-- The barrier is reached, in time for a swap by grid cycle t + 2,047 (R239, R240). -/
def Dev.swapReady (d : Dev) (c : Changeover) : Bool := (c.barrier.isSome || d.gridIdle) && decide (d.swapCycle c ≤ c.start + 2047)

/-- A changeover fails (R240). -/
def Dev.changeoverFails (d : Dev) (c : Changeover) : Dev :=
  let d := { d with grid := { d.grid with change := none, cycle := max d.grid.cycle (c.start + 2048) } }
  ((d.clrBit Reg.lgrStatus 16).flagRaise Reg.lgrStatus 17 135).asyncFault 0x50

/-- Grid cycles a and b fall in one core cycle, of at most 4 grid cycles (Table 1-4, notes/assumptions/107.md). -/
def sameCoreCycle (a b : Nat) : Bool := decide (a ≤ b + 3) && decide (b ≤ a + 3) && Config.coreCycle a == Config.coreCycle b

/-- A data token is an orphan (R229): fault 0x51. A changeover that fails in the same core cycle is detected with it (Table 7-10). -/
def Dev.orphan (d : Dev) (u : Nat) (t : GridToken) : Dev :=
  let d := match d.grid.change with
    | some c => if !d.swapReady c && sameCoreCycle (c.start + 2048) (t.due + 5) then d.changeoverFails c else d
    | none => d
  let d := d.gridTo (t.due + 5)
  let d := { d with grid := d.grid.setHeld u (dropToken t (d.grid.held u)) }
  let d := if d.bit Reg.lgrStatus 18 then d
    else d.setReg Reg.lgrOrphanInfo (BitVec.ofNat 32 (u + t.src * 2 ^ 9 + t.sslot * 2 ^ 18 + t.epoch * 2 ^ 22 + 2 ^ 31))
  (d.flagRaise Reg.lgrStatus 18 134).asyncFault 0x51

/-! ### The Grid window (R280) -/

/-- Emit row view e (Table 9-7) of a manifest. -/
def emitView (m : Man) (e : Nat) : List Byte :=
  let r := m.rows.getD e { token := 0, slot := 0, pos := 0 }
  let emits := m.rows.take m.emit
  let n := fun u => (emits.filter (fun x => x.slot == u)).length
  let verify := decide (1 < n r.slot)
  let stream := (m.slots.getD r.slot { stream := 0, rng := 0, lenAfter := 0, nb := 0, jw := 0, nw := 0, six := 0 }).stream
  let i := ((emits.take e).filter (fun x => x.slot == r.slot)).length
  leBytes 2 stream ++ leBytes 1 (if verify then i + 16 * (n r.slot - 1) else 0) ++ leBytes 1 0 ++
    leBytes 2 (if verify then ((List.range r.slot).filter (fun u => decide (1 < n u))).length else 0xFFFF) ++ leBytes 2 0 ++
    leBytes 4 r.pos ++ leBytes 4 0

/-- The 16 bytes of the window at an offset, where it can be read. -/
def Dev.windowWord (d : Dev) (off : Nat) : Option (List Byte) :=
  if off < 0x400000 then some (((tabGet Entry.zero d.cast.view (off / 256)).bytes.drop (off % 256)).take 16)
  else if off < 0x410000 then some (memBytes d.cast.results (off - 0x400000) 16)
  else if off < 0x420000 then (if (off - 0x410000) / 16 < d.man.emit then some (emitView d.man ((off - 0x410000) / 16)) else none)
  else if 0x500000 ≤ off ∧ off < 0x600000 then some (memBytes d.cast.proposals (off - 0x500000) 16)
  else none

/-- The window takes a write at this offset. -/
def windowWritable (off : Nat) : Bool :=
  (decide (0x400000 ≤ off) && decide (off < 0x410000)) || (decide (0x500000 ≤ off) && decide (off < 0x600000))

/-- TC121 once every emit row of the step has its record (R275). -/
def Dev.resultsCheck (d : Dev) : Dev :=
  let m := d.man
  if !d.cast.tc121 && d.cast.formed.contains (d.reg Reg.stgStepSeq).toNat && m.emit != 0 &&
      (List.range m.emit).all (fun e => d.cast.received.contains e) then
    { d with cast := { d.cast with tc121 := true } }.postToken 121 false false
  else d

/-- A result record is written (R280, R265). -/
def Dev.putResult (d : Dev) (e : Nat) (b : List Byte) : Dev :=
  let r := readResult b
  let c := d.cast
  let d := { d with cast := { c with results := memPuts c.results (16 * e) (b.take 16)
                                     received := if c.received.contains e then c.received else c.received ++ [e] } }
  let d := if r.deadEnd then d.raise 138 else d
  let d := if r.grammarErr then d.raise 139 else d
  d.resultsCheck

/-- Proposal bytes with their reserved bits 0 (R15). -/
def proposalMask (off : Nat) (b : List Byte) : List Byte :=
  if off % 64 < 32 then (List.range 4).flatMap (fun i => leBytes 4 (bits (field b (4 * i) 4) 0 24))
  else if off % 64 < 48 then leBytes 16 (bits (field b 0 4) 0 4) else leBytes 16 0

/-- Write 16 bytes of the window. -/
def Dev.windowPut (d : Dev) (off : Nat) (b : List Byte) : Dev :=
  if off < 0x410000 then d.putResult ((off - 0x400000) / 16) b
  else { d with cast := { d.cast with proposals := memPuts d.cast.proposals (off - 0x500000) (proposalMask off b) } }

/-! ### Requests -/

/-- A REQ data word (Table 7-7) from a source. -/
def edgeReq (src w : Nat) : EdgeReq :=
  { src := src, op := bits w 0 4, words := bits w 4 4 + 1, rto := bits w 8 9, rslot := bits w 17 4, rchan := bits w 21 4
    tile := bits w 32 9, addr := bits w 64 39
    status := if bits w 25 7 ≠ 0 ∨ bits w 41 23 ≠ 0 ∨ bits w 103 25 ≠ 0 ∨ bits w 64 4 ≠ 0 ∨
        (2 ≤ bits w 0 4 ∧ bits w 32 9 ≠ 0) then 2 else 0
    data := [] }

/-- A unit serves an OP (Table 7-7): north and south TS, west HBM, east CST. -/
def opServed (u op : Nat) : Bool :=
  if u < 272 ∨ (288 ≤ u ∧ u < 304) then decide (op ≤ 1) else if 304 ≤ u then op == 2 || op == 3 else op == 4 || op == 5

/-- Table 7-8 for a request at unit u, reads and writes apart. -/
def Dev.edgeStatus (d : Dev) (i : Ident) (u : Nat) (r : EdgeReq) : Nat :=
  let n := 16 * r.words
  if !opServed u r.op then 1
  else if r.status ≠ 0 then r.status
  else if r.op ≤ 1 then
    let row := r.tile / 32
    let mine := decide (r.tile < i.tiles) && r.tile % 32 / 2 == u % 16 && (if u < 272 then decide (row < 8) else decide (8 ≤ row))
    if mine ∧ r.addr + n ≤ 2 ^ 24 then 0 else 2
  else if r.op ≤ 3 then (if d.inRegions r.addr n then 0 else 2)
  else if r.op = 4 then
    if (List.range r.words).all (fun k => (d.windowWord (r.addr + 16 * k)).isSome) then 0 else 2
  else if (List.range r.words).all (fun k => windowWritable (r.addr + 16 * k)) then 0 else 2

/-- The memory and key of a request of OP 0 to 3. -/
def EdgeReq.place (r : EdgeReq) : MemCode × Nat := if r.op ≤ 1 then (.tile, tileKey r.tile r.addr) else (.hbm, r.addr)

/-- The request at the front of an edge unit is one that the row of `op` accepts. -/
def Dev.edgeTakes (d : Dev) (u op : Nat) : Bool :=
  match (d.edge u).inbox with
  | (c, w) :: _ => tokenKind c == 2 && (bits w 0 4 == op || decide (6 ≤ bits w 0 4))
  | [] => false

/-- An edge unit accepts the request at the front (R232) where its OP is `op`. -/
def Dev.edgeAccept (d : Dev) (u op : Nat) : Dev :=
  let e := d.edge u
  match e.inbox with
  | (c, w) :: rest =>
    if tokenKind c = 2 ∧ (bits w 0 4 = op ∨ 6 ≤ bits w 0 4) then
      d.setEdge u { e with inbox := rest, reqs := e.reqs ++ [edgeReq (bits c 12 9) w] }
    else d
  | [] => d

/-- A write. -/
def EdgeReq.isWrite (r : EdgeReq) : Bool := r.op == 1 || r.op == 3 || r.op == 5

/-- The source's oldest open write request takes 16 bytes (R233). -/
def takeData (src : Nat) (b : List Byte) : List EdgeReq → Option (List EdgeReq)
  | [] => none
  | r :: rs =>
    if r.src = src ∧ r.isWrite ∧ r.data.length < 16 * r.words then some ({ r with data := r.data ++ b } :: rs)
    else (takeData src b rs).map (fun t => r :: t)

/-- An edge unit takes the WDATA pair at the front (R233); without an open write it is counted as a misroute. -/
def Dev.edgeData (d : Dev) (u : Nat) : Dev :=
  let e := d.edge u
  match e.inbox with
  | (c, w) :: rest =>
    if tokenKind c ≠ 4 then d
    else match takeData (bits c 12 9) (leBytes 16 w) e.reqs with
      | some rs => d.setEdge u { e with inbox := rest, reqs := rs }
      | none => (d.setEdge u { e with inbox := rest }).gridMisroute
  | [] => d

/-- The reply pairs of a request: control word and data word. -/
def replyWords (r : EdgeReq) (err : Bool) (ws : List Nat) : List (Nat × Nat) :=
  ws.map (fun w => (3 * 2 ^ 8 + r.rchan * 2 ^ 25 + b2n err * 2 ^ 29, w))

/-- Inject reply pairs, one per occurrence of the slot from cycle c on (R233); the answer is the first cycle free after. -/
def Dev.injectReplies (d : Dev) (u slot c : Nat) : List (Nat × Nat) → Nat × Dev
  | [] => (c, d)
  | p :: ps =>
    let k := slotCycle c slot
    Dev.injectReplies (d.injectPair u k p.1 p.2) u slot (k + 1) ps

/-- A request of unit l has been answered (R236). -/
def Dev.repay (d : Dev) (l : Nat) : Dev :=
  if l < 256 then d.setLantern l { d.lantern l with owed := (d.lantern l).owed - 1 } else d

/-- Answer a request (R233, R234). -/
def Dev.answer (d : Dev) (u : Nat) (r : EdgeReq) (err : Bool) (ws : List Nat) : Dev :=
  let d := if err then (d.count Reg.lgrEdgeErrCount).raise 133 else d
  let (c, d) := d.injectReplies u r.rslot (max (d.grid.cycle + 1) (d.edge u).nextInj) (replyWords r err ws)
  (d.setEdge u { d.edge u with nextInj := c }).repay r.src

/-- A read request's bytes, or the status 0x03 (R234). -/
def Dev.serveRead (d : Dev) (r : EdgeReq) : Option (List Nat) × Dev :=
  let ks := List.range r.words
  if r.op = 4 then
    let (e, d) := if r.addr < 0x400000 then d.readErrors .cast r.addr (16 * r.words)
      else if 0x410000 ≤ r.addr ∧ r.addr < 0x420000 then
        (ks.flatMap (fun k => d.rowSpans ((r.addr - 0x410000) / 16 + k))).foldl (fun acc s =>
          let (e, d) := acc.2.readErrors .hbm s.1 s.2
          (acc.1 || e, d)) (false, d)
      else (false, d)
    (if e then none else some (ks.map (fun k => leNat ((d.windowWord (r.addr + 16 * k)).getD []))), d)
  else
    let (c, a) := r.place
    let (e, d) := d.readErrors c a (16 * r.words)
    (if e then none else some (ks.map (fun k => leNat (d.load c (a + 16 * k) 16))), d)

/-- A write request's bytes land. Where they cover a unit with an uncorrectable error in part, nothing is written (R234); the answer says
so. -/
def Dev.serveWrite (d : Dev) (r : EdgeReq) : Bool × Dev :=
  if r.op = 5 then
    (false, (List.range r.words).foldl (fun d k => d.windowPut (r.addr + 16 * k) ((r.data.drop (16 * k)).take 16)) d)
  else
    let (c, a) := r.place
    let part := d.errorsCut c a (16 * r.words)
    if part.isEmpty then (false, (d.putBytes c a r.data).2) else (true, part.foldl (fun d e => d.uncorrectable c (e * memUnit c)) d)

/-- An edge unit finishes the request at the front and injects its reply pairs (R233, R234). -/
def Dev.edgeFinish (d : Dev) (i : Ident) (u : Nat) : Dev :=
  let e := d.edge u
  match e.reqs with
  | [] => d
  | r :: rs =>
    if r.isWrite && decide (r.data.length < 16 * r.words) then d
    else
      let d := d.setEdge u { e with reqs := rs }
      let st := d.edgeStatus i u r
      if st ≠ 0 then d.answer u r true [st]
      else if r.isWrite then
        let (e, d) := d.serveWrite r
        if e then d.answer u r true [3] else d.answer u r false [0]
      else match d.serveRead r with
        | (some ws, d) => d.answer u r false ws
        | (none, d) => d.answer u r true [3]

/-! ### Regions -/

/-- REGION of a lantern in the configuration in force (R237). -/
def Grid.regionOf (g : Grid) (l : Nat) : Nat := bits (memByte g.records (80 * l + 64)).toNat 0 4

/-- The lanterns of a region, ascending. -/
def Grid.members (g : Grid) (region : Nat) : List Nat := (List.range 256).filter (fun l => g.regionOf l == region)

/-- Pairs held in a lantern's channels are discarded, each one stale (R239, R247). -/
def Dev.flushChannels (d : Dev) (ls : List Nat) : Dev :=
  let mine := fun (k : Nat) => ls.contains (k / 16)
  let n := ((d.grid.channels.filter (fun e => mine e.1)).map (fun e => e.2.length)).sum
  ({ d with grid := { d.grid with channels := d.grid.channels.filter (fun e => !mine e.1) } }).addReg Reg.lgrStaleCount n

/-- Every request of a lantern has been answered (R236), and its replies are in: none is owed, accepted or unread at an edge unit, no reply
is on its way to it or waits for its data word. -/
def Dev.answered (d : Dev) (l : Nat) : Bool :=
  (d.lantern l).owed == 0 && !(d.grid.flight.any (fun t => t.ctl && tokenKind t.word == 3 && t.unit == l)) &&
    !((d.grid.held l).any (fun t => t.ctl && tokenKind t.word == 3)) &&
    !(d.grid.edges.any (fun e => e.2.reqs.any (fun r => r.src == l) ||
      e.2.inbox.any (fun p => tokenKind p.1 == 2 && bits p.1 12 9 == l)))

/-- The lanterns of a region have finished (R236). -/
def Dev.regionDone (d : Dev) (region : Nat) : Bool :=
  (d.grid.members region).all (fun l => !(d.lantern l).running && d.answered l)

/-! ### Changeover -/

/-- Configuration k as read from the lanterns' route areas (R224). -/
def Dev.configRecords (d : Dev) (k : Nat) : Memory :=
  (List.range 256).foldl (fun m l => memPuts m (80 * l) (memBytes d.mems.ldata (l * 65536 + (65536 - 80 * (k + 1))) 80)) []

/-- New routes and regions, the epoch, and the flush (R239), in grid cycle c. -/
def Dev.gridSwap (d : Dev) (c config : Nat) (records : Memory) : Dev :=
  let n := (d.grid.steer.map (fun e => e.2.length)).sum
  let d := (d.flushChannels (List.range 256)).addReg Reg.lgrStaleCount n
  let d := { d with grid := { d.grid.reroute (max d.grid.cycle c) records with steer := [], change := none } }
  (d.setFld Reg.lgrStatus 7 0 config).setFld Reg.lgrStatus 15 8 (d.epoch + 1)

/-- The forced changeover of LOAD_PROGRAM and RESTORE (R242). -/
def Dev.gridForce (d : Dev) : Dev :=
  (({ d with grid := d.grid.stop }).gridSwap d.grid.cycle 0 (d.configRecords 0)).clrBit Reg.lgrStatus 16

end Sys2Proof.Machine
end

