-- ==== Sys2Proof/Machine/Replay.lean ====
section
/-! DEFINITION. Checkpoints (R300, R301), replay (R302, R303, R345), the two contexts (R475), and the end of every stream (R304).
A faulted step is replayed and its tokens are not delivered (R24); digests of a replay carry REPLAY (R423); the saved
state is that of R424. -/
namespace Sys2Proof.Machine

/-! ### Checkpoints -/

/-- Token entries that every queue holds (R294). -/
def Dev.heldTokens (d : Dev) : List TokenEntry :=
  (List.range 64).flatMap (fun q => ((d.pair q).held.filter (fun e => bits (field e 0 1) 4 4 == 2)).map (fun e =>
    { q := q, stream := bits (field e 2 2) 0 14, data := e }))

/-- The checkpoint of the Cast Table as it stands (Table 9-12). -/
def Dev.contents (d : Dev) : Checkpoint :=
  let seq := (d.reg Reg.stgStepSeq).toNat
  { seq := seq, entries := d.cast.entries, held := d.heldTokens, stepSeq := seq, optStep := (d.reg Reg.stgOptStep).toNat
    seeds := (List.range 4).map (fun n => BitVec.ofNat 64 (d.reg64 (Reg.stgSeed n)))
    slots := (d.slots.map (fun e => (e.1, (e.2.h, e.2.run)))), frames := d.cast.frames }

/-- Where the buffer of a checkpoint lies: they alternate by serial number (R300). -/
def Dev.ckptBuffer (d : Dev) (serial : Nat) : Nat := d.ckptAddr (serial % 2 * 2 ^ 24)

/-- The newest complete checkpoint in HBM: its serial number (R300, R559). -/
def Dev.newestCkpt (d : Dev) : Option Nat :=
  match ckptSerial d.mems.hbm (d.ckptBuffer 0), ckptSerial d.mems.hbm (d.ckptBuffer 1) with
  | some a, some b => some (max a b)
  | some a, none => some a
  | none, x => x

/-- The bytes of the buffer of a serial number. -/
def Dev.ckptRead (d : Dev) (serial : Nat) : List Byte :=
  let a := d.ckptBuffer serial
  memBytes d.mems.hbm a (ckptLength (memBytes d.mems.hbm a 336))

/-- The Cast Table begins writing a checkpoint of the state as it stands (R300). -/
def Dev.capture (d : Dev) : Dev :=
  let c := d.cast
  let n := (d.newestCkpt.map (· + 1)).getD 0
  let d := { d with cast := { c with
      ckptDue := some { serial := n, cmds := c.ckptReq, journal := d.undoCount, deferred := c.deferred
                        effects := if c.replay.isSome then 0 else d.taken.length, blocks := if c.replay.isSome then 0 else c.allocated.length }
      ckptReq := [] } }
  d.castWrite (d.ckptBuffer n) (d.contents.bytes n)

/-- The checkpoint interval (Table 15-7). -/
def Dev.interval (d : Dev) : Nat := max 8 (min 1024 (d.fld Reg.usyCtrl 12 2))

/-- Manifests kept by the log take their entries under the new CKPT_SEQ (R279), the lowest first. -/
def Dev.renumber (d : Dev) (old new : Nat) (seqs : List Nat) : Dev :=
  seqs.foldl (fun d q =>
    let from_ := d.manAddr (2 + (q + 2 ^ 32 - old) % 2 ^ 32)
    d.castWrite (d.manAddr (2 + (q + 2 ^ 32 - new) % 2 ^ 32)) (memBytes d.mems.hbm from_ (2 ^ 18))) d

/-- A CHECKPOINT command completes; with HOST the checkpoint of this serial number is copied to its buffer (Table 11-6). -/
def Dev.ckptCommand (d : Dev) (serial : Nat) (c : Submission) : Dev :=
  let b := d.ckptRead serial
  let d := if c.flags.getLsbD 0 then d.hostWrite (subOp c 8 8) b else d
  d.completeWith c .success 0 (field b 16 4) 0 0

/-- What the log keeps at a checkpoint (R300, R279): the manifests from its SEQ on, and of the effects and allocations before the
first of them those that came after the checkpoint was captured. -/
def keptLog (x : CheckpointDue) (seq : Nat) (log : List LogEntry) (taken : List CastEffect) : List LogEntry × List CastEffect :=
  match log.filter (fun e => !seqBefore e.seq seq) with
  | [] => ([], taken.drop x.effects)
  | e :: es => ({ e with effects := e.effects.drop x.effects, blocks := e.blocks.drop x.blocks } :: es, taken)

/-- The checkpoint is complete (R300). -/
def Dev.ckptComplete (d : Dev) (x : CheckpointDue) : Dev :=
  let d := d.castWrite (d.ckptBuffer x.serial + 4) (leBytes 4 1)
  let new := field (d.ckptRead x.serial) 16 4
  let old := (d.reg Reg.cstCkptSeq).toNat
  let (log, taken) := d.logRead
  let (log, taken) := keptLog x new log taken
  let d := (d.setLog log taken).dropUndos x.journal
  let c := d.cast
  let d := { d with
    cast := { c with ckptDue := none, deferred := c.deferred.filter (fun b => !x.deferred.contains b)
                     allocated := if log.isEmpty then c.allocated.drop x.blocks else c.allocated }
    usy := { d.usy with errors := [] } }
  let ahead := (c.ahead.bind Ahead.manifest).toList.filter (fun _ => c.replay.isNone)
  let d := ((d.renumber old new ((log ++ ahead).map LogEntry.seq)).setReg Reg.cstCkptSeq (BitVec.ofNat 32 new)).raise 118
  x.cmds.foldl (fun d c => d.ckptCommand x.serial c) d

/-- LOAD_PROGRAM's first checkpoint (R216), of the state that it leaves: written whole, the journal and the log empty. -/
def Dev.firstCheckpoint (d : Dev) : Dev :=
  let d := { d.setReg Reg.cstCkptSeq 0 with cast := { d.cast with deferred := [], allocated := [], drafted := [], sinceCkpt := 0 } }
  let d := ((d.setUndoCount 0).setLog [] []).castWrite (d.ckptBuffer 1) (List.replicate 16 0)
  let d := d.castWrite (d.ckptBuffer 0) (d.contents.bytes 0)
  (d.castWrite (d.ckptBuffer 0 + 4) (leBytes 4 1)).raise 118

/-! ### The contexts -/

/-- What each context has of its own among the registers (R475). -/
def contextRegs : List Nat :=
  [Reg.stgStepSeq, Reg.stgOptStep, Reg.stgEntryInit, Reg.stgEntryStep, Reg.cstCkptSeq] ++
    (List.range 4).flatMap (fun n => [Reg.stgSeed n, Reg.stgSeed n + 4])

/-- The h and RUN of every slot (R124, R475). -/
def Dev.levels (d : Dev) : Tab (Nat × Nat) := d.slots.map (fun e => (e.1, (e.2.h, e.2.run)))

/-- Every slot takes an h and a RUN; what it counts stays. -/
def Dev.putLevels (d : Dev) (t : Tab (Nat × Nat)) : Dev :=
  (List.range 256).foldl (fun d n =>
    let hr := tabGet (fun _ => (0, 0)) t n
    d.setSlot n { d.slot n with h := hr.1, run := hr.2 }) d

/-- The context that runs, as it is kept while the other runs. -/
def Dev.context (d : Dev) : Context :=
  { cast := d.cast, xferCount := d.prompter.xferCount, collCount := d.prompter.collCount
    curtainCount := d.prompter.curtainCount, slots := d.levels, regs := contextRegs.map d.reg }

/-- Take a context's own values. -/
def Dev.putContext (d : Dev) (c : Context) : Dev :=
  let d := (contextRegs.zip c.regs).foldl (fun d r => d.setReg r.1 r.2) d
  { d.putLevels c.slots with
           cast := c.cast
           prompter := { d.prompter with xferCount := c.xferCount, collCount := c.collCount, curtainCount := c.curtainCount } }

/-- The Prompter and the Cast Table switch to the other context (R475). -/
def Dev.swapContext (d : Dev) : Dev :=
  match d.usy.twin with
  | none => d
  | some c =>
    let me := d.context
    let d := d.putContext c
    { d.setFld Reg.usyStatus 9 9 (1 - d.fld Reg.usyStatus 9 9) with usy := { d.usy with twin := some me } }

/-- The package with the twin's region as that of the context that runs: what stands in the mirror is read through it (R471). -/
def Dev.mirrorView (d : Dev) : Dev :=
  let g := geometryOf (memBytes d.mems.hbm (bits (d.reg64 Reg.memTwinBase) 0 39) 64)
  { d.setBit Reg.usyStatus 9 with cast := { Cast.reset with geom := some g } }

/-- Two-context mode. -/
def Dev.twoContexts (d : Dev) : Bool := d.bit Reg.usyStatus 8

/-! ### The Prompter starts -/

/-- The configured budget of a step that starts now (R38). -/
def Dev.newBudget (d : Dev) : Dev := { d with prompter := { d.prompter with budget := d.fld Reg.dimCap 6 0 } }

/-- The Prompter starts at STG_ENTRY_INIT (R144) with every counter and list clear, its fabric counts from 0. -/
def Dev.startPrompter (d : Dev) : Dev :=
  ({ d with prompter := { Prompter.reset with
      run := .init, pc := BitVec.ofNat 18 (d.reg Reg.stgEntryInit).toNat, peak := d.prompter.peak }
            xfers := [], colls := [] }).newBudget

/-- The cue store and the lantern memories are rewritten from the load copy (R309). -/
def Dev.reload (d : Dev) : Dev :=
  let m := d.mems
  { d with mems := { m with cue := m.copyCue, lins := m.copyLins, ldata := m.copyData
                            errors := m.errors.filter (fun e => e.1 != .cue && e.1 != .lins && e.1 != .ldata) } }

/-- The configuration check enters CAPTURING (R514). -/
def Dev.startCapture (d : Dev) : Dev := d.setFld Reg.cfgStatus 1 0 1

/-- LOAD_PROGRAM and RESTORE restart the Prompter: the recorded faults and the HINT are cleared, configuration 0 is forced
(R72, R242, R264, R448, R514). -/
def Dev.restart (d : Dev) : Dev :=
  let d := ((d.setReg Reg.stgFaultCode (regReset Reg.stgFaultCode)).setReg Reg.stgFaultTile (regReset Reg.stgFaultTile)).setReg Reg.lgrLfault 0
  (d.gridForce.clearHint.startCapture).startPrompter

/-! ### Ends of streams -/

/-- Some streams end with a reason: their state and their entry (R292). -/
def Dev.endStreams (d : Dev) (ss : List Nat) (st : StreamState) (reason : Nat) : Dev :=
  ss.foldl (fun d s =>
    let e := d.entry s
    let d := (d.setEntry s { e with state := st, reason := reason }).note (.ended s st reason)
    d.postTokens [endEntry s e reason]) d

/-- The streams that ABORT_QUEUE marked end: each that is not FREE by then (R348; notes/assumptions/26.md). -/
def Dev.endMarked (d : Dev) : Dev :=
  let ends := d.cast.marked.filter (fun s => (d.entry s).state != .free)
  let d := d.endStreams ends .aborted 6
  { d with cast := { d.cast with marked := [], markers := [], spillReq := d.cast.spillReq.filter (fun s => !ends.contains s)
                                 returns := d.cast.returns.filter (fun s => !ends.contains s)
                                 spill := match d.cast.spill with | some s => (if ends.contains s then none else some s) | none => none } }

/-- Every stream of the context that is not FREE ends with reason PROGRAM (R304). -/
def Dev.endAllOfContext (d : Dev) : Dev :=
  d.cast.entries.foldl (fun d e => d.postTokens [endEntry e.1 e.2 10]) d

/-- The reference counts and page tables of the geometry in force become 0: every block is free. -/
def Dev.emptyTables (d : Dev) : Dev := (d.hbmZero (d.refAddr 0) (2 * d.geom.blocks)).hbmZero (d.ptAddr 0 0) (65536 * d.geom.maxBlocks)

/-- Every stream ends (R304): entries, pool, page tables, journal and log are empty. -/
def Dev.endAll (d : Dev) : Dev :=
  let d := d.endAllOfContext
  let d := match d.usy.twin with
    | some c => c.cast.entries.foldl (fun (d : Dev) (e : Nat × Entry) => d.postTokens [endEntry e.1 e.2 10]) d
    | none => d
  let d := d.emptyTables
  let d := { d with cast := { Cast.reset with geom := d.cast.geom, jobs := d.cast.jobs, ckptReq := d.cast.ckptReq } }
  if d.cast.geom.isSome then (d.setUndoCount 0).setLog [] [] else d

/-! ### Replay -/

/-- REPLAYING clears, and the RESTORE commands complete with the SEQ restored (R302, R345). -/
def Dev.replayOver (d : Dev) (r : Replay) : Dev :=
  let d := r.cmds.foldl (fun d c => d.completeWith c .success 0 r.seq 0 0) (d.clrBit Reg.cstStatus 3)
  if r.cmds.isEmpty then d else d.leaveCurtain

/-- Streams that failed or were marked end as the replay of their context does (R303, R348). -/
def Dev.endAfterReplay (d : Dev) (fail : List Nat) : Dev :=
  let d := { d with cast := { d.cast with replay := none, faultRuns := (0, 0) } }
  let d := if fail.isEmpty && d.cast.markers.isEmpty then d else d.takeAgain
  ((fail.filter (fun s => (d.entry s).state != .free)).foldl (fun d s => (d.endStreams [s] .failed 7).raise 115) d).endMarked

/-- A context's replay ends: REPLAYING clears, and RESTORE completes, once no context replays (R302, R345). -/
def Dev.endReplay (d : Dev) (r : Replay) : Dev :=
  let d := d.endAfterReplay r.fail
  match d.usy.twin with
  | some c =>
    match c.cast.replay with
    | some o =>
      let o := { o with cmds := o.cmds ++ r.cmds, seq := if r.cmds.isEmpty then o.seq else r.seq }
      { d with usy := { d.usy with twin := some { c with cast := { c.cast with replay := some o } } } }
    | none => d.replayOver r
  | none => d.replayOver r

/-- The replay is over once its last manifest has committed. -/
def Dev.replayCheck (d : Dev) : Dev :=
  match d.cast.replay with
  | some r => if r.rest.isEmpty && d.cast.formed.isEmpty then d.endReplay r else d
  | none => d

/-- The same logged step has faulted in REPLAY_LIMIT consecutive replays (R303); not where the module is FAILING (R479). -/
def Dev.gaveUp (d : Dev) : Bool :=
  decide (max 1 (d.fld Reg.cstCtrl 28 26) ≤ d.cast.faultRuns.2) && d.fld Reg.usyStatus 2 0 != 2

/-- The streams of a logged manifest's batch. -/
def Dev.batchOf (d : Dev) (e : LogEntry) : List Nat :=
  let k := (e.seq + 2 ^ 32 - (d.reg Reg.cstCkptSeq).toNat) % 2 ^ 32
  ((readMan d.mems.hbm (d.manAddr (2 + k))).slots).map ManSlot.stream

/-- The failed manifest is dropped from the log, and its batch's streams will end (R303). Manifests after it, which a replay had still to
reach, cannot be run without it: they are dropped too, and formation resumes with its SEQ (DESIGN CHOICE, notes/assumptions/103.md); what
the manifests took is taken again once the replay is over. -/
def Dev.dropFailed (d : Dev) : List Nat × Dev :=
  let q := d.cast.faultRuns.1
  match d.log.find? (fun e => e.seq == q) with
  | some e =>
    if d.gaveUp then
      let d' := d.dropLog q
      (d.batchOf e, { d' with cast := { d'.cast with
        faultRuns := (0, 0), committed := if seqBefore q d'.cast.committed then q else d'.cast.committed } })
    else ([], d)
  | none => ([], d)

/-- A number of `n` bits that the manual leaves open. -/
def Dev.freeNat (d : Dev) (n : Nat) : Nat × Dev :=
  let (w, d) := d.takeFree
  (w.toNat % 2 ^ n, d)

/-- The contents of a checkpoint whose layout is not published (R559): free values. -/
def Dev.openCheckpoint (d : Dev) (seq : Nat) : Checkpoint × Dev :=
  let n := d.free
  let (opt, d) := d.freeNat 32
  let es := (List.range 16384).foldl (fun t s => tabSet Entry.zero t s (entryOf (Config.mirrorEntry n s))) []
  let w := fun k => Config.freeWord (n + k)
  ({ seq := seq, entries := es, held := [], stepSeq := seq, optStep := opt
     seeds := (List.range 4).map (fun k => BitVec.ofNat 64 ((w (2 * k + 1)).toNat + (w (2 * k + 2)).toNat * 2 ^ 32))
     slots := (List.range 256).map (fun k => (k, ((w (9 + 2 * k)).toNat % 4, (w (10 + 2 * k)).toNat % 8)))
     frames := (List.range d.frameCount).filter (fun f => (w (600 + f)).toNat % 2 == 1) },
   { d with free := n + 600 + d.frameCount })

/-- What the newest checkpoint's bytes say. Where no complete one stands in the mirror, the twin's is still that of its LOAD_PROGRAM
(R216), of which its own image gave the seeds and slots: those are free. Where none stands in the module's own area, a host wrote there
(R559), and every value is free. -/
def Dev.restored (d : Dev) : Checkpoint × Dev :=
  match d.newestCkpt with
  | some n => (ckptOf (d.ckptRead n), (d.castMeets (d.ckptBuffer n) (d.ckptRead n).length))
  | none =>
    if d.inTwin then
      let (k, d) := d.openCheckpoint 0
      ({ k with entries := [], optStep := 0, frames := [] }, d)
    else
      let (seq, d) := d.freeNat 32
      d.openCheckpoint seq

/-- A checkpoint stands complete in HBM as the newest. -/
def Dev.storeCkpt (d : Dev) (k : Checkpoint) : Dev :=
  let n := (d.newestCkpt.map (· + 1)).getD 0
  (d.castWrite (d.ckptBuffer n) (k.bytes n)).castWrite (d.ckptBuffer n + 4) (leBytes 4 1)

/-- A checkpoint is restored into the context that runs (R302): entries, counts, seeds, slots and frames. -/
def Dev.putCheckpoint (d : Dev) (k : Checkpoint) : Dev :=
  let d := (d.setReg Reg.stgStepSeq (BitVec.ofNat 32 k.stepSeq)).setReg Reg.stgOptStep (BitVec.ofNat 32 k.optStep)
  let d := (List.range 4).foldl (fun d n => d.setReg64 (Reg.stgSeed n) (k.seeds.getD n 0).toNat) d
  let d := d.dropCounts.putLevels k.slots
  let c := d.cast
  { d with
    cast := { c with
      entries := k.entries, view := k.entries, frames := k.frames, deferred := [], results := [], received := []
      allocated := [], drafted := [], tc121 := false, formed := [], ahead := none, ckptDue := none
      ckptReq := c.ckptReq ++ (match c.ckptDue with | some x => x.cmds | none => []), sinceCkpt := 0, spill := none, spillReq := []
      returns := c.returns.filter (fun s => (tabGet Entry.zero k.entries s).state == .spilled) }
    mems := { d.mems with errors := d.mems.errors.filter (fun e => e.1 != .cast) } }

/-- Streams of the twin that were SPILLED at its checkpoint end with reason WINGS: their frames lie beyond reach (R473). They have ended
in the checkpoint too, so that a second replay does not end them again. -/
def Dev.endTwinSpills (d : Dev) (k : Checkpoint) : Dev :=
  let ss := (d.cast.entries.filter (fun e => e.2.state == .spilled)).map Prod.fst
  if !d.inTwin || ss.isEmpty then d
  else
    let d := ss.foldl (fun d s => (d.endStreams [s] .failed 8).raise 115) d
    ({ d with cast := { d.cast with view := d.cast.entries } }).storeCkpt { k with entries := d.cast.entries }

/-- The context that runs goes back to its newest checkpoint, and its log is to be run (R302, step 2). DESIGN CHOICE
(notes/assumptions/101.md): staging rows of positions at or above the restored POS keep the bytes of the steps rolled back. -/
def Dev.rewind (d : Dev) (cmds : List Submission) : Dev :=
  if d.cast.geom.isNone then d
  else
    let (fail, d) := d.dropFailed
    let d := (d.castMeets (d.undoAddr 0) (16 * (d.undoCount + 1))).castMeets (d.logAddr 0) (8 + d.logLength)
    let (log, taken) := d.logRead
    let d := { d with cast := { d.cast with redo := taken ++ d.cast.redo } }
    let (k, d) := (if taken.isEmpty then d else d.setLog log []).undoJournal.restored
    let old := match d.cast.replay with | some r => r | none => { rest := [], cmds := [], fail := [], seq := 0 }
    let d := (d.putCheckpoint k).endTwinSpills k
    { d with cast := { d.cast with replay := some { rest := log, cmds := old.cmds ++ cmds, fail := old.fail ++ fail, seq := k.seq } } }

/-- A replay begins (R302): both contexts go back, own context first (R475). -/
def Dev.startReplay (d : Dev) (cmds : List Submission) : Dev :=
  let d := if d.inTwin then d.swapContext else d
  let d := d.rewind cmds
  let d := if d.twoContexts then (d.swapContext.rewind []).swapContext else d
  let d := ((d.setBit Reg.cstStatus 3).count Reg.cstReplays).raise 117
  let d := if d.fixedMode then d.conflict 5 else d
  let d := { d.reload.restart with usy := { d.usy with restored := true }, cast := { d.cast with capHold := false } }
  let d := if d.twoContexts then (d.swapContext.replayCheck).swapContext else d
  d.replayCheck

/-- The cap is not below the loaded image's PEAK_DRAW (R208). -/
def Dev.peakFits (d : Dev) : Bool := decide (d.fld Reg.stgImgInfo 22 16 ≤ d.fld Reg.dimCap 6 0)

/-- A replay is withheld (R208): one conflict event until it starts. -/
def Dev.withhold (d : Dev) : Dev :=
  if d.cast.capHold then d else ({ d with cast := { d.cast with capHold := true } }).conflict 3

/-- Firmware may start the replay of R302: the Prompter is halted by a fault or by ABORT_QUEUE (R348), a program is loaded, no
Safety Curtain runs, and none is complete unless a RESTORE is under way (R303, R345). -/
def Dev.mayReplay (d : Dev) : Bool :=
  d.halted && d.loaded && d.cast.geom.isSome && !d.halting &&
    (!d.curtainDown || d.cast.replay.isSome || !d.cast.resuming.isEmpty)

/-! ### A checkpoint from elsewhere -/

/-- RESTORE with FROM_HOST (R345): the checkpoint of the buffer, which CHECKPOINT with HOST wrote on this device or another of the grade
(R424); its held entries are written. A buffer that no CHECKPOINT wrote holds free values (notes/assumptions/18.md). -/
def Dev.restoreHost (d : Dev) (c : Submission) (bytes : List Byte) : Dev :=
  let d := if d.inTwin then d.swapContext else d
  let (k, d) :=
    if field bytes 0 4 = ckptMagic then (ckptOf bytes, d)
    else
      let (seq, d) := d.freeNat 32
      d.openCheckpoint seq
  let d := (((d.putCheckpoint k).setUndoCount 0).setLog [] []).storeCkpt k
  let old := match d.cast.replay with | some r => r.cmds | none => []
  let d := { d with cast := { d.cast with
    redo := [], nextSeq := k.stepSeq, committed := k.stepSeq, replay := none, faultRuns := (0, 0), resuming := d.cast.resuming ++ old ++ [c] } }
  let d := ((d.setReg Reg.cstCkptSeq (BitVec.ofNat 32 k.seq)).clrBit Reg.cstStatus 3).postTokens k.held
  { d.reload.restart with usy := { d.usy with restored := true } }

/-- Formation resumes after RESTORE with FROM_HOST: the command completes (R345). -/
def Dev.resumed (d : Dev) : Dev :=
  if d.cast.resuming.isEmpty then d
  else
    let k := (d.reg Reg.cstCkptSeq).toNat
    let d := d.cast.resuming.foldl (fun d c => d.completeWith c .success 0 k 0 0) d
    ({ d with cast := { d.cast with resuming := [] } }).endMarked.leaveCurtain

end Sys2Proof.Machine
end

