-- ==== Sys2Proof/Machine/Bus.lean ====
section
/-! DEFINITION. The register bus: plain writes by access type (R18), buffered writes (R506), complement pairs (R508 to R511), the
Callboard (R519 to R523), snapshots (R518) and the configuration check (R512 to R515). -/
namespace Sys2Proof.Machine

/-- The number of a master: management cores 0 to 3, 4 the host (Table 17-5). -/
def masterNum : Master → Nat
  | .core0 => 0 | .core1 => 1 | .core2 => 2 | .core3 => 3 | .host => 4

/-! ### Plain writes -/

/-- A write to the RW and W1C bits of a register takes effect at once (R18). -/
def Dev.writeNow (d : Dev) (r : RegRow) (off : Nat) (v : W32) : Dev :=
  let old := d.reg off
  d.setReg off (((old &&& ~~~r.rw) ||| (v &&& r.rw)) &&& ~~~(v &&& r.w1c))

/-- No buffered write. -/
def Buffered.none (_ : Nat) : Buffered := { mask := 0, value := 0 }

/-- A write to the RWB bits of a register waits; the last of several is applied (R18). -/
def Dev.writeLater (d : Dev) (off : Nat) (mask v : W32) : Dev :=
  if mask = 0 then d
  else
    let b := tabGet Buffered.none d.pend off
    let b : Buffered := { mask := b.mask ||| mask, value := (b.value &&& ~~~mask) ||| (v &&& mask) }
    { d with pend := tabSet Buffered.none d.pend off b }

/-- The blocks whose buffered writes find their boundary at once: STG, LGR and CST while no Stage cue is in progress, FAB
(R506, notes/assumptions/12.md). -/
def Dev.boundaryNow (d : Dev) (b : Block) : Bool := (sceneBlocks b && d.stage.running.isNone) || b == .fab

/-- A write to a register without a meaning beyond its access types, by canonical offset; a write where there is no register is
discarded (R505). -/
def Dev.plainWrite (d : Dev) (off : Nat) (v : W32) : Dev :=
  match regRow off with
  | none => d
  | some r => ((d.writeNow r off v).writeLater off r.rwb v).applyPend d.boundaryNow

/-! ### Complement pairs -/

/-- The pair that a master has open: A and the value (R509). -/
def Dev.openPair (d : Dev) (m : Master) : Option (Nat × W32) := (d.pairs.find? (fun p => p.1 == m)).map (fun p => p.2)

/-- A master's slot is emptied. -/
def Dev.closePair (d : Dev) (m : Master) : Dev := { d with pairs := d.pairs.filter (fun p => p.1 != m) }

/-- A pair fails (R510). -/
def Dev.pairFail (d : Dev) (m : Master) (a reason : Nat) : Dev :=
  let d := if d.bit Reg.cfgStatus 3 then d
    else d.setReg Reg.cfgPairInfo (BitVec.ofNat 32 (a + masterNum m * 2 ^ 26 + reason * 2 ^ 29))
  (d.count Reg.cfgPairFails).flagRaise Reg.cfgStatus 3 417

/-- The first write of a pair (R509); an older open pair of the master fails with reason 3. -/
def Dev.pairFirst (d : Dev) (m : Master) (a : Nat) (v : W32) : Dev :=
  let d := match d.openPair m with
    | some (a0, _) => d.pairFail m a0 3
    | none => d
  let d := d.closePair m
  { d with pairs := d.pairs ++ [(m, a, v)] }

/-- The second write of a pair: the value to apply, or none and the failure (Table 17-4). -/
def Dev.pairSecond (d : Dev) (m : Master) (a : Nat) (w : W32) : Option W32 × Dev :=
  match d.openPair m with
  | some (a0, v) =>
    if a0 = a then
      let d := d.closePair m
      if w = ~~~v then (some v, d) else (none, d.pairFail m a 2)
    else (none, d.pairFail m a 4)
  | none => (none, d.pairFail m a 4)

/-! ### The Callboard -/

/-- Message of several sources that fall due in one register-bus cycle: one a vector (R523). -/
def Dev.sendVectors (d : Dev) (srcs : List Nat) : Dev :=
  ((srcs.map (fun s => d.fld (Reg.clbRoute s) 16 8)).eraseDups).foldl (fun d v => d.msix v) d

/-- Several sources arrive in one register-bus cycle (R519, R522, R523). -/
def Dev.raiseTogether (d : Dev) (srcs : List Nat) : Dev :=
  let d := srcs.foldl (fun (d : Dev) s =>
    ({ d with arrivals := tabSet (fun _ => 0) d.arrivals s (min 255 (d.arrivalCount s + 1)) }).wakeFor s) d
  d.sendVectors (srcs.filter (fun s => d.deliverable s 4))

/-- The sources that a write of an enable, route or mask register concerns. -/
def clbSources (off : Nat) : List Nat :=
  if off < 0x10040 then (List.range 32).map (fun i => 8 * (off - 0x10000) + i)
  else if off < 0x10400 then (List.range 32).map (fun i => 8 * ((off - 0x10100) % 64) + i)
  else [(off - 0x10800) / 4]

/-- A write of an enable, route or mask: sources that become deliverable to the host send their message (R523), and pending
sources wake the cores they are routed to (R522). -/
def Dev.clbWrite (d : Dev) (off : Nat) (v : W32) : Dev :=
  let srcs := clbSources off
  let before := srcs.filter (fun s => d.deliverable s 4)
  let d := srcs.foldl Dev.wakeFor (d.plainWrite off v)
  d.sendVectors (srcs.filter (fun s => d.deliverable s 4 && !before.contains s))

/-- A write of CLB_RAISEw: an arrival of each software source named; words below 14 are ignored (R519). -/
def Dev.clbRaised (d : Dev) (w : Nat) (v : W32) : Dev :=
  if w < 14 then d else d.raiseTogether ((setBits 32 v.toNat).map (fun i => 32 * w + i))

/-- A W1C write of CLB_PENDINGw clears the sources' pending bits and counts (R520). -/
def Dev.clbCleared (d : Dev) (w : Nat) (v : W32) : Dev :=
  { d with arrivals := (setBits 32 v.toNat).foldl (fun t i => tabSet (fun _ => 0) t (32 * w + i) 0) d.arrivals }

/-! ### Snapshots -/

/-- The LO offsets of the 64-bit counters (R517). -/
def wideCounters : List Nat :=
  [Reg.stgSatCount, Reg.qstEscOvf, Reg.qstInvalid, Reg.stgNdChoices, Reg.memCeHbm, Reg.memCeSram, Reg.memCeStack,
   Reg.dimEnergy, Reg.dimBubbles, Reg.usyLogBytes] ++ (List.range 17).map Reg.fabTxBytes ++ (List.range 17).map Reg.fabRxBytes

/-- A snapshot (R518): every holding copy takes its counter, SNP_SEQ adds 1, the time is recorded, source 419. -/
def Dev.snapshot (d : Dev) : Dev :=
  let d := { d with hold := wideCounters.foldl (fun t o => tabSet (fun _ => 0) t o (d.wideGet o)) d.hold, snapTicks := 0 }
  let d := (d.setReg Reg.snpSeq (d.reg Reg.snpSeq + 1)).setReg Reg.snpTimeNs d.ns
  (d.clrBit Reg.snpStatus 0).raise 419

/-! ### The configuration check -/

/-- The offsets of one row of the map. -/
def RegRow.offsets (r : RegRow) : List Nat := (List.range r.count).map (fun i => r.base + r.stride * i)

/-- The checked registers, ascending (R512). -/
def checkedOffsets : List Nat :=
  let rows := regRows.filter (fun r => checkMask r.base != 0)
  (rows.flatMap RegRow.offsets).mergeSort (fun a b => decide (a ≤ b))

/-- The CRC of a pass (R512). -/
def Dev.passCrc (d : Dev) : W32 :=
  BitVec.ofNat 32 (crc32c (checkedOffsets.flatMap (fun o => leBytes 4 o ++ leBytes 4 (d.reg o &&& checkMask o).toNat)))

/-- CFG_STATUS.STATE: 0 OFF, 1 CAPTURING, 2 CHECKING. -/
def Dev.checkState (d : Dev) : Nat := d.fld Reg.cfgStatus 1 0

/-- CFG_COMMIT (R514): 1 USE, 2 CAPTURE, 3 OFF. -/
def Dev.cfgCommit (d : Dev) (op : Nat) : Dev :=
  if op = 1 then (d.setReg Reg.cfgRefActive (d.reg Reg.cfgReference)).setFld Reg.cfgStatus 1 0 2
  else if op = 2 then d.startCapture
  else if op = 3 then d.setFld Reg.cfgStatus 1 0 0
  else d

/-- A pass completes (R513 to R515). -/
def Dev.passDone (d : Dev) (i : Ident) (cycles : Nat) : Dev :=
  let crc := d.passCrc
  let d := ((d.setReg Reg.cfgLastCrc crc).setReg Reg.cfgPasses (d.reg Reg.cfgPasses + 1)).setReg Reg.cfgPassTime (BitVec.ofNat 32 (cycles % 2 ^ 24))
  if d.checkState = 1 then (d.setReg Reg.cfgRefActive crc).setFld Reg.cfgStatus 1 0 2
  else if d.checkState = 2 && crc != d.reg Reg.cfgRefActive then
    let d := ((d.setBit Reg.cfgStatus 2).count Reg.cfgMismatches).raise 416
    if d.bit Reg.cfgCtrl 1 then d.curtainHalt i else d
  else d

end Sys2Proof.Machine
end

