-- ==== Sys2Proof/Machine/LineCode.lean ====
section
/-! DEFINITION. The line code of a lane (R358, R360) and the hunt for its blocks (R362): Gray mapping, precoding,
scrambling, headers; and the figure of merit of a lane (R366), which TRAIN_BLOCK runs. The rows of the link layer carry what the
receiver has recovered, so no command runs the others (notes/assumptions/89.md); they say what stands between the symbols of a lane and
its blocks. -/
namespace Sys2Proof.Machine.LineCode

/-- The index of a pair of serial bits, bit `2n` first (R358): 00, 01, 11 and 10 give 0, 1, 2 and 3. -/
def gray (first second : Bool) : BitVec 2 :=
  match first, second with
  | false, false => 0
  | false, true => 1
  | true, true => 2
  | true, false => 3

/-- The pair of serial bits of an index, bit `2n` first (R358). -/
def ungray (x : BitVec 2) : Bool × Bool :=
  (x.getLsbD 1, x.getLsbD 0 != x.getLsbD 1)

/-- The indices of a serial bit stream (R358); an odd last bit waits for its partner. -/
def indices : List Bool → List (BitVec 2)
  | a :: b :: rest => gray a b :: indices rest
  | _ => []

/-- The precoder from state `y` (R358): the state is the level sent last, and 0 when precoding is switched on. -/
def precode (y : BitVec 2) : List (BitVec 2) → List (BitVec 2)
  | [] => []
  | x :: rest => (x - y) :: precode (x - y) rest

/-- What the receiver recovers from its decisions, the decision before the first being `y` (R358). -/
def recover (y : BitVec 2) : List (BitVec 2) → List (BitVec 2)
  | [] => []
  | d :: rest => (d + y) :: recover d rest

/-- The amplitude of a level index in thirds of the peak swing (R358). -/
def amplitude (y : BitVec 2) : Int := -3 + 2 * (y.toNat : Int)

/-- The scrambler's feedback (R360): the bits sent 39 and 58 before, where bit 0 of `h` is the bit sent last. -/
def feedback (h : BitVec 58) : Bool := h.getLsbD 38 != h.getLsbD 57

/-- The history after one more bit on the line. -/
def shifted (h : BitVec 58) (b : Bool) : BitVec 58 := (h <<< 1) ||| (if b then 1 else 0)

/-- The self-synchronising scrambler 1 + x^39 + x^58 over payload bits (R360). -/
def scramble (h : BitVec 58) : List Bool → List Bool
  | [] => []
  | b :: rest => (b != feedback h) :: scramble (shifted h (b != feedback h)) rest

/-- The descrambler (R360): its history is what came off the line. -/
def descramble (h : BitVec 58) : List Bool → List Bool
  | [] => []
  | c :: rest => (c != feedback h) :: descramble (shifted h c) rest

/-- The kind a sync header gives a block (R360), H[0] the low bit: `some true` a data block, `some false` a control
block, none an invalid header. -/
def isData (header : BitVec 2) : Option Bool :=
  if header = 1 then some true else if header = 2 then some false else none

/-- How many samples the slicer assigned to level k, and the sum of a value of them. -/
def levelSum (xs : List Sample) (k : Nat) (f : Sample → Int) : Int :=
  ((xs.filter (fun x => x.level.val == k)).map (fun x => x.count * f x)).sum

/-- The exact value of (μ' − μ) / (d + d') for levels k and k + 1 (R366), as a numerator and a denominator: the means are over the
common denominators n and n', and each d over n². -/
def eyeOpening (xs : List Sample) (k : Nat) : Int × Int :=
  let n := fun j => levelSum xs j (fun _ => 1)
  let sum := fun j => levelSum xs j (fun x => x.code.toInt)
  let dev := fun j => levelSum xs j (fun x => (x.code.toInt * n j - sum j).natAbs)
  ((sum (k + 1) * n k - sum k * n (k + 1)) * (n k * n (k + 1)), dev k * n (k + 1) * n (k + 1) + dev (k + 1) * n k * n k)

/-- The figure of merit of a lane over its samples (R366): 0 where a level has no sample, 0xFFFF where a denominator is 0. Where levels
stand in the wrong order it is 0 (notes/assumptions/89.md). -/
def figureOfMerit (xs : List Sample) : Nat :=
  let eyes := (List.range 3).map (eyeOpening xs)
  if (List.range 4).any (fun k => levelSum xs k (fun _ => 1) == 0) then 0
  else if eyes.any (fun e => e.2 == 0) then 0xFFFF
  else (eyes.map (fun e => (256 * e.1 / e.2).toNat)).foldl min 0xFFFF

/-- A lane's header hunt (R362): locked, good headers in a row, and within a window of 64 the bad ones and those seen. -/
structure Hunt where
  locked : Bool
  good : Nat
  bad : Nat
  seen : Nat
deriving DecidableEq, Repr

/-- The hunt before the first candidate block. -/
def Hunt.zero : Hunt := { locked := false, good := 0, bad := 0, seen := 0 }

/-- One candidate block of the hunt (R362), and whether the next candidate begins one bit later. -/
def hunt (x : Hunt) (header : BitVec 2) : Hunt × Bool :=
  let valid := (isData header).isSome
  if !x.locked then
    if valid then
      if x.good + 1 = 64 then ({ locked := true, good := 64, bad := 0, seen := 0 }, false) else ({ x with good := x.good + 1 }, false)
    else ({ x with good := 0 }, true)
  else
    let seen := x.seen + 1
    let bad := if valid then x.bad else x.bad + 1
    if bad = 16 then ({ locked := false, good := 0, bad := bad, seen := seen }, true)
    else if seen = 64 then ({ x with seen := 0, bad := 0 }, false)
    else ({ x with seen := seen, bad := bad }, false)

/-- The hunt over candidate blocks. -/
def huntAll (x : Hunt) (hs : List (BitVec 2)) : Hunt := hs.foldl (fun x h => (hunt x h).1) x

end Sys2Proof.Machine.LineCode
end

