-- ==== Sys2Proof/Machine/Links.lean ====
section
/-! DEFINITION. The commands of a fabric port's lanes, training and retry (12.3 to 12.8). -/
namespace Sys2Proof.Machine

/-- LOS (R359, Table 12-12): the flag is set; an UP port leaves UP, an attempt past CLOCK fails, both with reason 9. -/
def Dev.losSeen (d : Dev) (p : Nat) (lol : Bool) : Dev :=
  let d := d.setBit (Reg.fabStatus p) (if lol then 8 else 7)
  let st := d.portState p
  if st = 6 then d.leaveUp p 9
  else if 2 ≤ st && st ≤ 5 && !(d.port p).retry then d.trainFail p 9
  else d

/-- LOS (R359). -/
def execLos (p : Fin 17) (lol : Bool) (s : State) : Host.Outcome State Fault Refusal := onDev (fun _ d => d.losSeen p.val lol) s

/-- A control block outside a frame (Table 12-2): one that ends no frame and has no use is counted. -/
def Dev.strayBlock (d : Dev) (p l : Nat) (btype : Nat) : Dev :=
  if !d.bit (Reg.fabStatus p) (9 + l) || [0x1E, 0x4B, 0x55, 0x78].contains btype then d else d.crcError p

/-- LANE_LOCK_LOSS (R362): counted; an UP port leaves UP with reason 10. -/
def execLaneLockLoss (p : Fin 17) (l : Fin 4) (s : State) : Host.Outcome State Fault Refusal :=
  onDev (fun _ d => if d.bit (Reg.fabStatus p.val) (9 + l.val) then
      let d := (d.clrBit (Reg.fabStatus p.val) (9 + l.val)).count (Reg.fabLockLoss p.val)
      if d.portUp p.val then d.leaveUp p.val 10 else d
    else d) s

/-- HEADER_LOCK (R362): the lane gains block lock. -/
def execHeaderLock (p : Fin 17) (l : Fin 4) (s : State) : Host.Outcome State Fault Refusal :=
  onDev (fun _ d => if d.portState p.val = 0 then d else (d.setBit (Reg.fabStatus p.val) (9 + l.val)).lockCheck p.val) s

/-- An ALIGN block (R363): the lane's number and count; deskew may end. A block of another type is stray (R361). -/
def Dev.takeAlign (d : Dev) (p l : Nat) (blk : W64) : Dev :=
  let b := blk.toNat
  if bits b 0 8 ≠ 0x4B then d.strayBlock p l (bits b 0 8)
  else if !d.bit (Reg.fabStatus p) (9 + l) then d
  else (d.onLane p l (fun x => { x with place := some (bits b 8 2), acnt := bits b 16 16 })).deskewCheck p

/-- ALIGN_BLOCK (R363). -/
def execAlignBlock (p : Fin 17) (l : Fin 4) (blk : W64) (s : State) : Host.Outcome State Fault Refusal :=
  onDev (fun _ d => d.takeAlign p.val l.val blk) s

/-- ALIGN_DISAGREEMENT (R363): an UP port whose lanes carry unequal ACNT leaves UP. -/
def execAlignDisagreement (p : Fin 17) (s : State) : Host.Outcome State Fault Refusal :=
  onDev (fun _ d => let x := d.port p.val
    if d.portUp p.val && x.lanes.any (fun y => y.acnt != (x.lane 0).acnt) then d.leaveUp p.val 3 else d) s

/-- What a transmitter does with a TRAIN block (R365): the precoding asked for, and a request that is new. -/
def Dev.trainTransmit (d : Dev) (p l b1 b2 b3 : Nat) : Dev :=
  let d := (d.setFld (Reg.fabStatus p) 14 14 (bits b1 3 1)).setFld (Reg.fabStatus p) 15 15 (bits b1 4 1)
  if bits b3 0 4 = ((d.port p).lane l).sid then d
  else
    let (t, rsp) := tapRequest b2 (tapsOf (d.reg (Reg.fabTap p l)))
    (d.setReg (Reg.fabTap p l) (tapsReg t)).onLane p l (fun x => { x with sid := bits b3 0 4, rsp := rsp })

/-- What a receiver does with a TRAIN block in EQ (R367). -/
def Dev.trainReceive (d : Dev) (p l b1 b3 b4 fom : Nat) : Dev :=
  if d.portState p ≠ 3 then d
  else d.onLane p l (fun x => x.adapt (d.fld (Reg.fabEq p) 15 0) (d.fld (Reg.fabEqmin p) 15 0) (d.fld (Reg.fabEq p) 27 16) fom
    (bits b3 4 4) b4 (bitAt b1 4 == d.bit (Reg.fabCtrl p) 1))

/-- A TRAIN block in LOCK or EQ (R365 to R368); `fom` is what this receiver measures (R366). The lane's next TRAIN block is sent. A
block of another type is stray (R361). -/
def Dev.takeTrain (d : Dev) (p l : Nat) (blk : W64) (fom : Nat) : Dev :=
  let b := fun k => bits blk.toNat (8 * k) 8
  if b 0 ≠ 0x55 then d.strayBlock p l (b 0)
  else if (d.port p).retry || !(d.portState p == 2 || d.portState p == 3) then d
  else
    let d := d.onLane p l (fun x => { x with peerLocked := bitAt (b 1) 2, peerDone := bitAt (b 1) 5 })
    let d := ((d.setReg (Reg.fabFom p l) (BitVec.ofNat 32 fom)).trainTransmit p l (b 1) (b 2) (b 3)).lockCheck p
    let d := d.trainReceive p l (b 1) (b 3) (b 4) fom
    (d.emit (.block p l (d.trainBlock p l fom))).eqCheck p

/-- TRAIN_BLOCK (R365), with the samples of the lane over which the receiver measures (R366). -/
def execTrainBlock (p : Fin 17) (l : Fin 4) (blk : W64) (samples : List Sample) (s : State) : Host.Outcome State Fault Refusal :=
  onDev (fun _ d => d.takeTrain p.val l.val blk (LineCode.figureOfMerit samples)) s

/-- TRAIN_CLOCK_STABLE (R359, R368): the signal is back, so LOS and LOL are clear in whatever step; CLOCK ends. -/
def execTrainClockStable (p : Fin 17) (s : State) : Host.Outcome State Fault Refusal :=
  onDev (fun _ d =>
    let d := d.setFld (Reg.fabStatus p.val) 8 7 0
    if d.portState p.val = 1 && !(d.port p.val).retry then d.enterLock p.val else d) s

/-- TRAINING_LIMIT_EXPIRY (R369): the reason is that of the step (Table 12-14). -/
def execTrainingLimitExpiry (p : Fin 17) (s : State) : Host.Outcome State Fault Refusal :=
  onDev (fun _ d => let st := d.portState p.val
    if 2 ≤ st && st ≤ 5 && !(d.port p.val).retry then d.trainFail p.val (st - 1) else d) s

/-- TRAINING_RETRY (R369). -/
def execTrainingRetry (p : Fin 17) (s : State) : Host.Outcome State Fault Refusal :=
  onDev (fun _ d => if (d.port p.val).retry then d.enterClock p.val else d) s

/-- A write of FAB_CTRLp (R369, R370): ENABLE, PRECODE and V2_ALLOW, then RETRAIN. -/
def Dev.fabCtrlWrite (d : Dev) (p : Nat) (v : W32) : Dev :=
  let d := (d.plainWrite (Reg.fabCtrl p) v).portEnableApplied p
  if v.getLsbD 3 then d.portStart p else d

/-- PORT_ENABLE (R370). -/
def execPortEnable (_m : Master) (p : Fin 17) (v : W32) (s : State) : Host.Outcome State Fault Refusal :=
  onDev (fun _ d => d.fabCtrlWrite p.val v) s
/-- PORT_RETRAIN (R369): a write with RETRAIN = 1. -/
def execPortRetrain (_m : Master) (p : Fin 17) (v : W32) (s : State) : Host.Outcome State Fault Refusal :=
  onDev (fun _ d => if v.getLsbD 3 then d.fabCtrlWrite p.val v else d) s

/-! ### What ports send by time -/

/-- Blocks that a lane has sent by a time in ns × 2^16, at 66 bits of 212.5 Gb/s each (Table 12-1). -/
def laneBlocks (t : Nat) : Nat := t * 2125 / (660 * 65536)

/-- Time has gone from `t` to `u`: lanes that train send TRAIN as every 64th block (R365), lanes past that ALIGN after every 16,383
(R363), and a port in step HELLO a HELLO every 1 µs (R368). DESIGN CHOICE (notes/assumptions/106.md): each falls at a multiple of its
period, and the first is sent on entering the step. -/
def Dev.linkTick (d : Dev) (t u : Nat) : Dev :=
  (List.range 17).foldl (fun d p =>
    let st := d.portState p
    if (d.port p).retry then d
    else
      let d := if (st == 2 || st == 3) && laneBlocks t / 64 != laneBlocks u / 64 then d.sendTrain p else d
      let d := if decide (4 ≤ st) && decide (st ≤ 6) && laneBlocks t / 16384 != laneBlocks u / 16384 then d.sendAlign p else d
      if st == 5 && t / (1000 * 65536) != u / (1000 * 65536) then d.sendHello p else d) d

/-! ### Link control -/

/-- The LINK_CTRL subtype of a frame, where it is one (R379). -/
def linkSub (f : Frame) : Option Nat := if frameType f = 7 then some (field f.payload 0 1) else none

/-- HELLO (R380): taken in step HELLO; a malformed one is counted and answered by a NAK. On an UP port it is a frame like another (R373, R375). -/
def execHello (p : Fin 17) (f : Frame) (s : State) : Host.Outcome State Fault Refusal :=
  onDev (fun _ d => if linkSub f != some 1 then d
    else if d.portState p.val ≠ 5 || (d.port p.val).retry then d.receivePlain p.val f id
    else if frameBad 4096 f then (d.crcError p.val).sendAck p.val true
    else (d.wideAdd (Reg.fabRxBytes p.val) (frameLen f)).takeHello p.val f.payload) s

/-- ACKNAK (R376); a reserved subtype is counted in FAB_DROPp and ignored (Table 12-7). -/
def execAcknak (p : Fin 17) (f : Frame) (s : State) : Host.Outcome State Fault Refusal :=
  onDev (fun _ d => match linkSub f with
    | some 1 => d
    | some 2 => d.receivePlain p.val f id
    | some 3 => d
    | some _ => d.receivePlain p.val f (fun d => d.count (Reg.fabDrop p.val))
    | none => d) s

/-- Credits returned (R378). -/
def Dev.takeCredit (d : Dev) (p n : Nat) : Dev :=
  (d.setPort p { d.port p with credits := min 4096 ((d.port p).credits + n) }).pumpAll p

/-- CREDIT (R378). -/
def execCredit (p : Fin 17) (f : Frame) (s : State) : Host.Outcome State Fault Refusal :=
  onDev (fun _ d => if linkSub f = some 3 then d.receivePlain p.val f (fun d => d.takeCredit p.val (field f.payload 4 4)) else d) s

/-- REPLAY_TIMEOUT (R376). -/
def execReplayTimeout (p : Fin 17) (s : State) : Host.Outcome State Fault Refusal :=
  onDev (fun _ d => if d.portUp p.val then d.replayHeld p.val else d) s

end Sys2Proof.Machine
end

