-- ==== Sys2Proof/Machine/Frames.lean ====
section
/-! DEFINITION. Sequenced frames that reach this device: DATA, COLLECTIVE and CURTAIN (12.9, 12.10, R409), the Curtain's schedule
(R410), and the frames that wait in the port buffers. -/
namespace Sys2Proof.Machine

/-! ### DATA -/

/-- A frame discarded as stale (R387, R390, R409). -/
def Dev.staleFrame (d : Dev) (p : Nat) : Dev := d.count (Reg.fabStale p)

/-- How far count `a` lies ahead of count `b`, modulo 2^w: 0 where it is not ahead. -/
def aheadBy (w a b : Nat) : Nat :=
  let n := (a % 2 ^ w + 2 ^ w - b % 2 ^ w) % 2 ^ w
  if n < 2 ^ (w - 1) then n else 0

/-- The count of cues of a queue or group so far. -/
def cueCount (t : Tab Nat) (k : Nat) : Nat := tabGet (fun _ => 0) t k

/-- Replace the transfer of index `n`. -/
def putTransfer (n : Nat) (x : Transfer) : List Transfer → List Transfer
  | [] => []
  | y :: ys => if y.index = n then x :: ys else y :: putTransfer n x ys

/-- A DATA frame for a receive queue (R387): its RECEIVE writes it, or it waits, or it is stale. -/
def Dev.deliverData (d : Dev) (p : Nat) (f : Frame) : Delivered :=
  let q := 48 + frameB6 f % 8
  let xfer := field f.payload 3 1
  match (d.queue q).find? (fun x => x.index % 256 == xfer) with
  | some x =>
    let (e, d) := d.receiveRow x f.payload
    let x := { x with got := x.got + (f.payload.length - 8), err := x.err || e }
    .taken (d.setQueue q (putTransfer x.index x (d.queue q)))
  | none =>
    let n := cueCount d.prompter.xferCount q
    if xfer = n % 256 || 0 < aheadBy 8 xfer n then .waits else .taken (d.staleFrame p)

/-- A management message (R383): firmware is notified; a reserved code is counted. -/
def Dev.deliverMgmt (d : Dev) (p : Nat) (f : Frame) : Dev :=
  let msg := field f.payload 0 4
  if msg = 0 || (decide (6 ≤ msg) && decide (msg < 0x80)) || (decide (0x85 ≤ msg) && decide (msg < 0x90)) then d.count (Reg.fabDrop p)
  else d.raise 325

/-! ### Collectives -/

/-- Replace the collective of a group and count. -/
def putColl (x : Collective) : List Collective → List Collective
  | [] => []
  | y :: ys => if y.group = x.group ∧ y.cseq = x.cseq then x :: ys else y :: putColl x ys

/-- Store a collective. -/
def Dev.setColl (d : Dev) (x : Collective) : Dev := { d with colls := putColl x d.colls }

/-- A COLLECTIVE frame (R390). -/
def Dev.deliverCollective (d : Dev) (p : Nat) (f : Frame) : Delivered :=
  let g := bits (field f.payload 0 2) 0 12
  let rank := bits (field f.payload 2 2) 0 13
  let cseq := field f.payload 4 4
  if frameEra f ≠ d.fld Reg.fabEra 7 0 then .taken (d.staleFrame p)
  else match d.colls.find? (fun x => x.group == g && x.cseq % 2 ^ 32 == cseq) with
    | some x => .taken (d.setColl { x with pieces := x.pieces ++ [(rank, field f.payload 8 4, f.payload.drop 16)] })
    | none => if 0 < aheadBy 32 cseq (cueCount d.prompter.collCount g) then .waits else .taken (d.staleFrame p)

/-! ### The Curtain -/

/-- A CURTAIN payload (Table 13-2). -/
def curtainPayload (sub group ccnt t rank : Nat) : List Byte :=
  padTo 32 ([BitVec.ofNat 8 sub, 0] ++ leBytes 2 group ++ leBytes 4 ccnt ++ leBytes 8 t ++ leBytes 2 rank)

/-- Send a CURTAIN frame to a member. -/
def Dev.sendCurtain (d : Dev) (dst : Nat) (payload : List Byte) : Dev :=
  d.sendRouted { d.frame 4 dst 0 payload with src := d.ownIndex }

/-- The Curtain is scheduled at T (R410). -/
def Dev.curtainAt (d : Dev) (w : CurtainWait) (t : Nat) : Dev :=
  let d := d.setReg64 Reg.hckCurtainT t
  let late := atOrAfter d.time48 t && d.time48 != t
  { d with hck := { d.hck with curtain := some { w with fall := some t, late := late } } }

/-- Rank 0 that holds ARM from every other member schedules T and sends FALL (R410). -/
def Dev.curtainSchedule (d : Dev) : Dev :=
  match d.hck.curtain with
  | none => d
  | some w =>
    match d.group w.group with
    | none => d
    | some g =>
      if g.rank ≠ 0 || w.fall.isSome || !((List.range g.count).all (fun r => r == 0 || w.arms.contains r)) then d
      else
        let t := (d.time48 + d.fld Reg.hckCurtainLead 15 0 * 1000 * 65536) % 2 ^ 48
        let others := (List.range g.count).filter (fun r => r != 0)
        let d := others.foldl (fun d r => d.sendCurtain (g.members.getD r 0) (curtainPayload 2 w.group w.ccnt t 0)) d
        d.curtainAt w t

/-- A CURTAIN frame whose count is this member's own (R409, R410): ARM at rank 0, FALL elsewhere. -/
def Dev.takeCurtain (d : Dev) (p : Nat) (f : Frame) (w : CurtainWait) : Dev :=
  if field f.payload 0 1 = 1 then
    let r := bits (field f.payload 16 2) 0 13
    ({ d with hck := { d.hck with curtain := some { w with arms := r :: w.arms } } }).curtainSchedule
  else if w.fall.isSome then d.staleFrame p
  else d.curtainAt w (bits (field f.payload 8 8) 0 48)

/-- A CURTAIN frame (R409). -/
def Dev.deliverCurtain (d : Dev) (p : Nat) (f : Frame) : Delivered :=
  let sub := field f.payload 0 1
  let g := bits (field f.payload 2 2) 0 12
  let ccnt := field f.payload 4 4
  let own := cueCount d.prompter.curtainCount g
  if sub ≠ 1 ∧ sub ≠ 2 then .taken (d.dropFrame p)
  else if frameEra f ≠ d.fld Reg.fabEra 7 0 then .taken (d.staleFrame p)
  else if 0 < aheadBy 32 ccnt own then .waits
  else match d.hck.curtain with
    | some w => if w.group = g ∧ w.ccnt % 2 ^ 32 = ccnt then .taken (d.takeCurtain p f w) else .taken (d.staleFrame p)
    | none => .taken (d.staleFrame p)

/-! ### Delivery -/

/-- Deliver a frame of this device (R384, R393, R476): during and after a Safety Curtain DATA and COLLECTIVE frames of either context
are discarded; a frame of the context that does not run waits. -/
def Dev.deliverFrame (d : Dev) (p : Nat) (f : Frame) : Delivered :=
  if frameType f = 1 && bitAt (frameB6 f) 3 then .taken (d.deliverMgmt p f)
  else if frameType f ≠ 4 && (d.halting || d.curtainDown) then .taken (d.countDrop p)
  else if frameDst f ≠ d.ownIndex then .waits
  else if frameType f = 1 then d.deliverData p f
  else if frameType f = 2 then d.deliverCollective p f
  else d.deliverCurtain p f

/-- Offer the frames that wait in a port's buffer again, in order. -/
def Dev.offerPort (d : Dev) (p : Nat) : Dev :=
  (d.port p).buffer.foldl (fun d f => d.deliverOrKeep p f Dev.deliverFrame) (d.setPort p { d.port p with buffer := [] })

/-- Offer every waiting frame again: a cue has issued, or the context has changed. -/
def Dev.offerFrames (d : Dev) : Dev :=
  (List.range 17).foldl (fun d p => if (d.port p).buffer.isEmpty then d else d.offerPort p) d

/-- DATA_FRAME (R384); reserved FTYPEs are discarded with it (R373). -/
def execDataFrame (p : Fin 17) (f : Frame) (s : State) : Host.Outcome State Fault Refusal :=
  onDev (fun _ d => if 2 ≤ frameType f && frameType f ≤ 7 then d else d.receiveSeq p.val f Dev.deliverFrame) s

/-- COLLECTIVE_FRAME (R390). -/
def execCollectiveFrame (p : Fin 17) (f : Frame) (s : State) : Host.Outcome State Fault Refusal :=
  onDev (fun _ d => if frameType f = 2 then d.receiveSeq p.val f Dev.deliverFrame else d) s

/-- CURTAIN_ARM_FRAME (R410). -/
def execCurtainArmFrame (p : Fin 17) (f : Frame) (s : State) : Host.Outcome State Fault Refusal :=
  onDev (fun _ d => if frameType f = 4 && field f.payload 0 1 != 2 then d.receiveSeq p.val f Dev.deliverFrame else d) s

/-- CURTAIN_FALL_FRAME (R410). -/
def execCurtainFallFrame (p : Fin 17) (f : Frame) (s : State) : Host.Outcome State Fault Refusal :=
  onDev (fun _ d => if frameType f = 4 && field f.payload 0 1 == 2 then d.receiveSeq p.val f Dev.deliverFrame else d) s

end Sys2Proof.Machine
end

