-- ==== Sys2Proof/Machine/HouseClock.lean ====
section
/-! DEFINITION. The House Clock: the tick, time transfer, the servo (R399 to R408), and the fall of the Curtain (R410 to R412).
Table 13-8: R428. -/
namespace Sys2Proof.Machine

/-! ### The tick -/

/-- HCK_INCR for the next tick (R399). -/
def Dev.increment (d : Dev) : Nat := ((d.reg Reg.hckIncrNom) + (d.reg Reg.hckAdj)).toNat

/-- A step of time: o in ns × 2^16 is taken from the 56-bit time (R407). -/
def stepTime (t : BitVec 56) (o : Int) : BitVec 56 := t - BitVec.ofInt 56 (o * 256)

/-- A step past a Curtain's T makes it late (Table 13-8). -/
def Dev.stepCurtain (d : Dev) (before : Nat) : Dev :=
  match d.hck.curtain with
  | some w => match w.fall with
    | some t => if !atOrAfter before t && atOrAfter d.time48 t && d.time48 != t then
        { d with hck := { d.hck with curtain := some { w with late := true } } } else d
    | none => d
  | none => d

/-- A step that the servo has ordered takes effect (R407). -/
def Dev.timeStep (d : Dev) : Dev :=
  match d.hck.step with
  | some o => ({ d with hck := { d.hck with time := stepTime d.hck.time o, step := none } }).stepCurtain d.time48
  | none => d

/-- The time advances by `k` increments; a wrap of the nanosecond bits raises source 336 (R399, R401). -/
def Dev.advance (d : Dev) (k : Nat) : Dev :=
  let inc := d.increment
  let t := d.hck.time.toNat + k * inc
  let d := { d with hck := { d.hck with time := BitVec.ofNat 56 t }, snapTicks := d.snapTicks + k
                    dim := { d.dim with prearm := nearer k d.dim.prearm }, lines := d.lines.pass k }
  let d := d.setReg Reg.hckIncr (BitVec.ofNat 32 inc)
  if 2 ^ 56 ≤ t then d.raise 336 else d

/-- Ticks until the time is first at or after `gap` units of 2^−24 ns from now. -/
def ticksFor (gap inc : Nat) : Nat := if inc = 0 then 0 else ceilDiv gap inc

/-- What the next house tick begins with: buffered HCK fields take effect (R506), then a step that the servo ordered (R407). -/
def Dev.tickStart (d : Dev) : Dev := (d.applyPend (fun b => b == .hck)).timeStep

/-- The ticks until HCK_TIME_NS next wraps pass. -/
def Dev.runToWrap (d : Dev) : Dev := d.advance (ticksFor (2 ^ 56 - d.hck.time.toNat) d.increment)

/-- HOUSE_CLOCK_WRAP (R401): the clock advances to the tick in which HCK_TIME_NS wraps. -/
def execHouseClockWrap (s : State) : Host.Outcome State Fault Refusal := onDev (fun _ d => d.tickStart.runToWrap) s

/-- HCK_TIME_NS_READ (R400): the top 16 fraction bits are latched. -/
def execHckTimeNsRead (_m : Master) (s : State) : Host.Outcome State Fault Refusal :=
  onDev (fun _ d => d.setReg Reg.hckTimeFrac ((d.hck.time.extractLsb' 8 16).setWidth 32)) s

/-! ### The Curtain falls -/

/-- This device is the time lead (R402); the lead always reads LOCKED = 1 (R408). -/
def Dev.timeLead (d : Dev) : Bool := d.isLead || d.devices == 1

/-- LOCKED (R408). -/
def Dev.hckLocked (d : Dev) : Bool := d.timeLead || d.bit Reg.hckStatus 0

/-- A ramp-up begins, after a ramp-down in progress where there is one (R66). -/
def Dev.rampUp (d : Dev) : Dev :=
  match d.stage.power with
  | .dark => { d with stage := { d.stage with power := .rampUp } }
  | .rampDown => { d with stage := { d.stage with wake := true } }
  | _ => d

/-- The Curtain falls (R184, R410, R412): the CURTAIN cue retires, the ramp begins at OP1. -/
def Dev.curtainFalls (d : Dev) (w : CurtainWait) : Dev :=
  let unlocked := !d.hckLocked
  let d := (d.count Reg.hckCurtains).raise 341
  let d := if w.late then (d.count Reg.hckCurtainsLate).setBit Reg.hckStatus 5 else d
  let d := if unlocked then d.setBit Reg.hckStatus 6 else d
  let d := if w.late || unlocked then d.raise 342 else d
  let d := { d with hck := { d.hck with curtain := none }, dim := { d.dim with afterCurtain := true }
                    prompter := { d.prompter with run := if w.init then .init else .step } }
  (d.retire.setOp 1).rampUp

/-- The ticks until the time is at or after `t` pass (R410). -/
def Dev.runTo (d : Dev) (t : Nat) : Dev :=
  if atOrAfter d.time48 t then d else d.advance (ticksFor (((t * 256 + 2 ^ 56) - d.hck.time.toNat) % 2 ^ 56) d.increment)

/-- The Curtain falls where one is scheduled. -/
def Dev.dropCurtain (d : Dev) : Dev :=
  match d.hck.curtain with
  | some w => d.curtainFalls w
  | none => d

/-- CURTAIN_FALL (R410): the clock advances to the first tick at or after T where it has not reached it, and the Curtain falls. -/
def Dev.curtainFall (d : Dev) : Dev :=
  match d.hck.curtain with
  | some w => match w.fall with
    | some t => if atOrAfter d.time48 t then d.curtainFalls w else (d.tickStart.runTo t).dropCurtain
    | none => d
  | none => d

/-- CURTAIN_FALL (R410). -/
def execCurtainFall (s : State) : Host.Outcome State Fault Refusal := onDev (fun _ d => d.curtainFall) s

/-- The Curtain falls in a tick that reaches T (R410). -/
def Dev.curtainTick (d : Dev) : Dev :=
  match d.hck.curtain with
  | some w => match w.fall with
    | some t => if atOrAfter d.time48 t then d.curtainFalls w else d
    | none => d
  | none => d

/-! ### Time transfer -/

/-- A TIME_SYNC payload (Table 13-1). -/
def timePayload (sub hops seqid time : Nat) (corr : Int) : List Byte :=
  padTo 32 (leBytes 1 sub ++ leBytes 1 hops ++ leBytes 2 seqid ++ leBytes 4 0 ++ leBytes 8 time ++ leBytes 8 (trunc 64 corr))

/-- Send a TIME_SYNC frame on a port that is UP (R404). -/
def Dev.sendTime (d : Dev) (p : Nat) (payload : List Byte) : Dev := d.sendPlain p (d.frame 3 (d.fld (Reg.fabPeer p) 12 0) 0 payload)

/-- Send a SYNC on every port of HCK_DOWN (R402); TIME and CORR of a port follow its own transmit stamp (R404, R406). -/
def Dev.sendSyncs (d : Dev) (hops : Nat) (time : Nat → Nat) (corr : Nat → Int) : Dev :=
  (setBits 17 (d.reg Reg.hckDown).toNat).foldl (fun d p =>
    if d.portUp p then
      let n := (d.port p).syncSeq
      (d.setPort p { d.port p with syncSeq := (n + 1) % 65536 }).sendTime p (timePayload 1 hops n (time p) (corr p))
    else d) d

/-- Port p's transmit stamp among those of a row. -/
def stampOf (ttx : List (BitVec 48)) (p : Nat) : Nat := (ttx.getD p 0).toNat

/-- SYNC_SEND (R402): the time lead sends SYNC, each port with its transmit stamp. -/
def execSyncSend (ttx : List (BitVec 48)) (s : State) : Host.Outcome State Fault Refusal :=
  onDev (fun _ d => if d.timeLead then d.sendSyncs 0 (stampOf ttx) (fun _ => 0) else d) s

/-- ASYM in ns × 2^16, truncated toward zero (R407). -/
def Dev.asym (d : Dev) (p : Nat) : Int := (sext 32 (d.reg (Reg.fabAsym p)).toNat * 65536).tdiv 1000

/-- |o| within 1.5 ns (R408). -/
def inLock (o : Int) : Bool := decide (o.natAbs ≤ 98304)

/-- LOCKED is cleared (R408). -/
def Dev.unlock (d : Dev) : Dev :=
  let d := { d with hck := { d.hck with good := 0 } }
  if d.bit Reg.hckStatus 0 then (d.clrBit Reg.hckStatus 0).raise 338 else d

/-- What an offset does to LOCKED (R408). -/
def Dev.lockStep (d : Dev) (o : Int) : Dev :=
  if inLock o then
    let n := min 16 (d.hck.good + 1)
    let d := { d with hck := { d.hck with good := n } }
    if n = 16 && !d.bit Reg.hckStatus 0 then (d.setBit Reg.hckStatus 0).raise 337 else d
  else d.unlock

/-- The servo (R407): a step, or a new adjustment. -/
def Dev.servo (d : Dev) (o : Int) : Dev :=
  if d.fld Reg.hckStepLimit 15 0 * 65536 ≤ o.natAbs then
    let d := { d with hck := { d.hck with step := some o, integ := 0 } }
    (((d.setReg Reg.hckAdj 0).count Reg.hckSteps).flagRaise Reg.hckStatus 2 339).unlock
  else
    let integ := clampInt (-16384) 16384 (d.hck.integ - o / 1024)
    let adj := clampInt (-16384) 16384 (integ - o / 64)
    ({ d with hck := { d.hck with integ := integ } }).setReg Reg.hckAdj (BitVec.ofInt 32 adj)

/-- A SYNC accepted on the upstream port (R406 to R408), received at `trx` and sent on by each port at its own stamp. -/
def Dev.takeSync (d : Dev) (p : Nat) (b : List Byte) (trx : Nat) (ttx : Nat → Nat) : Dev :=
  let tm := field b 8 6
  let corr := sext 64 (field b 16 8)
  let delay : Int := (d.reg (Reg.hckPdelay p)).toNat
  let asym := d.asym p
  let lead := (tm : Int) + corr + delay + asym
  let o := sext 48 (trunc 48 ((trx : Int) - lead))
  let d := (((d.pulse 167).count Reg.hckSyncs).setFld Reg.hckStatus 14 7 (field b 1 1)).setReg64 Reg.hckCorr (trunc 64 corr)
  let d := (d.setReg64 Reg.hckOffset (trunc 64 o)).lockStep o
  let d := if d.bit Reg.hckCtrl 0 then d.servo o else d
  d.sendSyncs (min 255 (field b 1 1 + 1)) (fun _ => tm) (fun q => corr + delay + asym + sext 48 (trunc 48 ((ttx q : Int) - trx)))

/-- The upstream port (R402): none where UP_VALID is 0 or the number is no port. -/
def Dev.upstream (d : Dev) : Option Nat :=
  let p := d.fld Reg.hckCtrl 5 1
  if d.bit Reg.hckCtrl 6 && decide (p ≤ 16) && !d.timeLead then some p else none

/-- The TIME_SYNC subtype of a frame. -/
def timeSub (f : Frame) : Option Nat := if frameType f = 3 then some (field f.payload 0 1) else none

/-- SYNC (R407); a reserved subtype is counted in FAB_DROPp (Table 13-1). -/
def execSync (p : Fin 17) (f : Frame) (trx : BitVec 48) (ttx : List (BitVec 48)) (s : State) : Host.Outcome State Fault Refusal :=
  onDev (fun _ d => match timeSub f with
    | none => d
    | some 1 => d.receivePlain p.val f (fun d =>
        if d.upstream = some p.val then d.takeSync p.val f.payload trx.toNat (stampOf ttx) else d)
    | some 2 => d
    | some 3 => d
    | some _ => d.receivePlain p.val f (fun d => d.count (Reg.fabDrop p.val))) s

/-- SYNC_LOSS (R408): a follower has had no SYNC for 8 periods. -/
def execSyncLoss (s : State) : Host.Outcome State Fault Refusal :=
  onDev (fun _ d => if d.timeLead then d else d.unlock.flagRaise Reg.hckStatus 3 340) s

/-- PDELAY_REQ_SEND (R405): an UP port sends a request stamped t1. -/
def execPdelayReqSend (p : Fin 17) (t1 : BitVec 48) (s : State) : Host.Outcome State Fault Refusal :=
  onDev (fun _ d => if d.portUp p.val then
      let n := (d.port p.val).pdSeq
      (d.setPort p.val { d.port p.val with pdSeq := (n + 1) % 65536, pdReq := some (n, t1.toNat) }).sendTime p.val
        (timePayload 2 0 n t1.toNat 0)
    else d) s

/-- PDELAY_REQ (R405): answered with t2 and t3 − t2. -/
def execPdelayReq (p : Fin 17) (f : Frame) (t2 t3 : BitVec 48) (s : State) : Host.Outcome State Fault Refusal :=
  onDev (fun _ d => if timeSub f = some 2 then
      d.receivePlain p.val f (fun d => d.sendTime p.val
        (timePayload 3 0 (field f.payload 2 2) t2.toNat (sext 48 (trunc 48 ((t3.toNat : Int) - t2.toNat)))))
    else d) s

/-- A measurement is added: HCK_PDELAYp is the mean of the last 8 (R405), whose rounding is not stated, and is free. -/
def Dev.addDelay (d : Dev) (p : Nat) (v : Nat) : Dev :=
  let ds := (d.port p).delays ++ [v]
  let ds := ds.drop (ds.length - 8)
  let (m, d) := d.freeQuot ds.sum ds.length
  (d.setPort p { d.port p with delays := ds }).setReg (Reg.hckPdelay p) (BitVec.ofNat 32 m)

/-- PDELAY_RESP (R405): the answer to the request outstanding, received at t4; a negative measurement is discarded. -/
def Dev.takeDelay (d : Dev) (p : Nat) (b : List Byte) (t4 : Nat) : Dev :=
  match (d.port p).pdReq with
  | some (n, t1) =>
    if n ≠ field b 2 2 then d
    else
      let m := (sext 48 (trunc 48 ((t4 : Int) - t1)) - sext 64 (field b 16 8)).tdiv 2
      let d := d.setPort p { d.port p with pdReq := none }
      if m < 0 then d else d.addDelay p m.toNat
  | none => d

/-- PDELAY_RESP (R405). -/
def execPdelayResp (p : Fin 17) (f : Frame) (t4 : BitVec 48) (s : State) : Host.Outcome State Fault Refusal :=
  onDev (fun _ d => if timeSub f = some 3 then d.receivePlain p.val f (fun d => d.takeDelay p.val f.payload t4.toNat) else d) s

/-- PDELAY_TIMEOUT (R405): the measurement is discarded. -/
def execPdelayTimeout (p : Fin 17) (s : State) : Host.Outcome State Fault Refusal :=
  onDev (fun _ d => d.setPort p.val { d.port p.val with pdReq := none }) s

end Sys2Proof.Machine
end

