-- ==== Sys2Proof/Machine/Ensemble.lean ====
section
/-! DEFINITION. The ensemble: joining, losses, aliases and ERA (R382 to R386), and takeover as the lead and every device meet it
(R469 to R471). -/
namespace Sys2Proof.Machine

/-! ### Boot after the join -/

/-- Boot ends (Table 18-5, step 10): its time is not the model's, and is free. -/
def Dev.bootDone (d : Dev) : Dev :=
  let (w, d) := d.takeFree
  let d := (d.setBit Reg.secStatus 5).setReg Reg.secBootTime w
  ({ d with boot := { d.boot with stage := .done } }).raise 424

/-- The device has joined: boot goes on to AUTOLOAD where there is one (Table 18-5, steps 8 to 10). -/
def Dev.bootJoined (d : Dev) : Dev :=
  if d.boot.stage = .join then
    if d.boot.autoload.isEmpty then d.bootDone else { d with boot := { d.boot with stage := .autoload } }
  else d

/-- JOINED is set (R382); an ensemble of more than 16 devices turns adaptation off, from the next step on (R123). -/
def Dev.joinDone (d : Dev) : Dev :=
  let d := if 16 < d.devices then d.setBit Reg.qstStatus 0 else d
  ((d.setBit Reg.fabEns 29).raise 324).bootJoined

/-- Every other device of the ensemble. -/
def Dev.others (d : Dev) : List Nat := (List.range d.devices).filter (fun k => k != d.index)

/-- JOIN at the lead (R382): once every index has joined, JOIN_DONE goes to each device. -/
def Dev.takeJoin (d : Dev) (index : Nat) : Dev :=
  if !d.isLead || d.fab.joins.contains index then d
  else
    let d := { d with fab := { d.fab with joins := d.fab.joins ++ [index] } }
    if (List.range d.devices).all (fun k => d.fab.joins.contains k) then
      (d.others.foldl (fun d k => d.sendMgmt k 2 (leBytes 2 d.devices)) d).joinDone
    else d

/-- The device asks to join, or has joined at once where it is alone (R382). -/
def Dev.startJoin (d : Dev) (grade : Nat) : Dev :=
  if d.devices = 1 then d.joinDone
  else if d.isLead then d.takeJoin d.index
  else d.sendMgmt d.leadIndex 1 (leBytes 2 d.index ++ leBytes 2 8 ++ leBytes 1 grade)

/-- JOIN (R382). -/
def execJoin (index : BitVec 13) (_device : W16) (_grade : Byte) (s : State) : Host.Outcome State Fault Refusal :=
  onDev (fun _ d => d.takeJoin index.toNat) s

/-- JOIN_DONE (R382). -/
def execJoinDone (_count : W16) (s : State) : Host.Outcome State Fault Refusal := onDev (fun _ d => d.joinDone) s

/-! ### Losses -/

/-- A RED, BARRIER or CURTAIN whose group includes a lost device, or a SEND to one, is outstanding (R386, R413). -/
def Dev.lossMet (d : Dev) : Bool :=
  let gone := fun g => match d.group g with | some x => d.groupLost x | none => false
  d.colls.any (fun c => gone c.group) ||
    (match d.hck.curtain with | some w => gone w.group | none => false) ||
    (List.range 16).any (fun k => (d.queue (48 + k)).any (fun x =>
      let (peer, _) := sendPeer (moveOp x.cue.desc)
      decide (8 ≤ k) && d.lostNow peer))

/-- Fault 0x41 where a loss meets an outstanding cue (R386). -/
def Dev.lossCheck (d : Dev) : Dev := if !d.halted && d.lossMet then d.asyncFault 0x41 else d

/-- A device is lost (R386); one whose alias is valid is lost behind it. -/
def Dev.deviceLost (d : Dev) (k : Nat) : Dev :=
  let join := fun (l : List Nat) => if l.contains k then l else l ++ [k]
  let d := { d.setReg Reg.fabLostLast (BitVec.ofNat 32 (k + 2 ^ 31)) with
    fab := { d.fab with lost := join d.fab.lost, cut := if d.aliased k then join d.fab.cut else d.fab.cut } }
  (d.raise 326).lossCheck

/-- The failed modules whose alias leads to device `k`, their survivor. -/
def Dev.servedBy (d : Dev) (k : Nat) : List Nat :=
  ((List.range 16).filter (fun n => d.bit (Reg.fabAlias n) 31 && d.fld (Reg.fabAlias n) 28 16 == k)).map (fun n => d.fld (Reg.fabAlias n) 12 0)

/-- The survivor of a takeover is lost: the lead sends LOST for both its indices to each device (Table 15-6, notes/assumptions/64.md). -/
def Dev.tellLost (d : Dev) (k : Nat) : Dev :=
  let fs := d.servedBy k
  if !d.isLead || fs.isEmpty then d
  else (k :: fs).foldl (fun d x => (d.others.filter (· != k)).foldl (fun d j => d.sendMgmt j 3 (leBytes 2 x)) d) d

/-- DEVICE_LOST (R386): neither port of the device's route, taken after aliasing, is UP. -/
def execDeviceLost (k : BitVec 13) (s : State) : Host.Outcome State Fault Refusal :=
  onDev (fun _ d => if (d.routePort k.toNat).isNone then (d.deviceLost k.toNat).tellLost k.toNat else d) s

/-- LOST (R386): a device without an alias is lost. -/
def execLost (k : BitVec 13) (s : State) : Host.Outcome State Fault Refusal :=
  onDev (fun _ d => if d.aliased k.toNat then d else d.deviceLost k.toNat) s

/-! ### Aliases and ERA -/

/-- A free FAB_ALIASn is written (R383); frames without a port are routed again. -/
def Dev.writeAlias (d : Dev) (src dst : Nat) : Dev :=
  match (List.range 16).find? (fun n => !d.bit (Reg.fabAlias n) 31) with
  | some n => (d.setReg (Reg.fabAlias n) (BitVec.ofNat 32 (src + dst * 65536 + 2 ^ 31))).reroute
  | none => d

/-- ALIAS (R383). -/
def execAliasMsg (src dst : BitVec 13) (s : State) : Host.Outcome State Fault Refusal :=
  onDev (fun _ d => d.writeAlias src.toNat dst.toNat) s

/-- ERA (R383): FAB_ERA is written, and waiting frames are judged by it. -/
def execEra (era : Byte) (s : State) : Host.Outcome State Fault Refusal :=
  onDev (fun _ d => (d.setFld Reg.fabEra 7 0 era.toNat).offerFrames) s

/-! ### Takeover -/

/-- The twin's context as the mirror gives it (R471, R475): its descriptors, the SEQ of its newest checkpoint and the manifests logged
since. Its RESTORE undoes the mirrored journal, restores that checkpoint and runs that log; entries of steps up to the last DELIVERED
received are suppressed. -/
def Dev.mirrorContext (d : Dev) : Context :=
  let v := d.mirrorView
  let tc := memBytes d.mems.hbm (bits (d.reg64 Reg.memProgBase) 0 39 + 64) 64
  let seq := match v.newestCkpt with | some n => field (v.ckptRead n) 16 4 | none => 0
  let next := match v.log.getLast? with | some e => (e.seq + 1) % 2 ^ 32 | none => seq
  let done := if d.usy.suppress = 0 then seq else d.usy.suppress
  let regs := [seq, 0, bits (field tc 4 4) 0 18, bits (field tc 8 4) 0 18, seq] ++ List.replicate 8 0
  { cast := { v.cast with nextSeq := next, committed := done, formedAny := true }
    xferCount := [], collCount := [], curtainCount := [], slots := [], regs := regs.map (BitVec.ofNat 32) }

/-- The survivor of a takeover serves the failed index and holds both contexts (R471, R475); it ships no log any more (R477). -/
def Dev.surviveTwin (d : Dev) (failed : Nat) : Dev :=
  let d := (d.setReg Reg.fabServe (BitVec.ofNat 32 (failed + 2 ^ 31))).setReg Reg.usyLogBacklog 0
  let c := d.mirrorContext
  let d := { d with usy := { d.usy with twin := some c, request := none, commits := [], logq := [] } }
  (((d.setFld Reg.usyStatus 10 8 5).enterUsy 5).count Reg.usyTakeovers).raise 71

/-- What a module held back for its twin's acknowledgement is written: no twin is left to send one (R477). -/
def Dev.releaseCommits (d : Dev) : Dev :=
  let es := d.usy.commits.flatMap (fun c => c.entries)
  ({ d with usy := { d.usy with commits := [] } }).deliver es

/-- TAKEOVER_NOTE (R471): alias, ERA, fault 0x41; the survivor takes the twin's context. Firmware then issues RESTORE
(notes/assumptions/2.md). -/
def Dev.takeoverNote (d : Dev) (failed survivor era : Nat) : Dev :=
  let d := ((d.writeAlias failed survivor).setFld Reg.fabEra 7 0 era).asyncFault 0x41
  let d := if d.usyState = 7 then { d.enterUsy 0 with usy := { d.usy with draining := none } } else d
  let d := if survivor = d.index ∧ !d.bit Reg.usyStatus 8 then d.releaseCommits.surviveTwin failed else d
  d.offerFrames

/-- TAKEOVER_NOTE (R471). -/
def execTakeoverNote (failed survivor : BitVec 13) (era : Byte) (s : State) : Host.Outcome State Fault Refusal :=
  onDev (fun _ d => d.takeoverNote failed.toNat survivor.toNat era.toNat) s

/-- A module is fenced (R470): Safety Curtain, STATE FENCED, source 72. -/
def Dev.fenced (d : Dev) (i : Ident) : Dev :=
  let d := (d.curtainHalt i).enterUsy 4
  ({ d with usy := { d.usy with request := none } }).raise 72

/-- FENCE (R470). -/
def execFence (s : State) : Host.Outcome State Fault Refusal := onDev (fun i d => d.fenced i) s

/-- TAKEOVER_DENY (R470). -/
def execTakeoverDeny (_survivor : BitVec 13) (s : State) : Host.Outcome State Fault Refusal := onDev (fun i d => d.fenced i) s

/-- TAKEOVER_GRANT (R469): the request is answered. -/
def execTakeoverGrant (failed : BitVec 13) (s : State) : Host.Outcome State Fault Refusal :=
  onDev (fun _ d => if d.usy.request = some failed.toNat then { d with usy := { d.usy with request := none } } else d) s

/-- The steps of a grant (R469): FENCE to the failed module, which may be this one, the NOTE to every device, itself included, and the
GRANT. -/
def Dev.grantTakeover (d : Dev) (i : Ident) (requester failed : Nat) : Dev :=
  let d := { d with fab := { d.fab with granted := d.fab.granted ++ [failed] } }
  let era := (d.fld Reg.fabEra 7 0 + 1) % 256
  let d := if failed = d.index then d.fenced i else d.sendMgmt failed 0x83 []
  let note := leBytes 2 failed ++ leBytes 2 requester ++ leBytes 1 era
  let d := d.others.foldl (fun d k => d.sendMgmt k 0x84 note) d
  let d := d.takeoverNote failed requester era
  if requester = d.index then { d with usy := { d.usy with request := none } } else d.sendMgmt requester 0x81 (leBytes 2 failed)

/-- A TAKEOVER_REQ at the lead (R469): the first of a pair is granted, every later one is denied. -/
def Dev.leadRequest (d : Dev) (i : Ident) (requester failed : Nat) : Dev :=
  if d.fab.granted.contains failed then
    if requester = d.index then d else d.sendMgmt requester 0x82 (leBytes 2 requester)
  else if d.fab.granted.contains requester then
    if requester = d.index then d.fenced i else d.sendMgmt requester 0x82 (leBytes 2 failed)
  else d.grantTakeover i requester failed

/-- TAKEOVER_REQ (R469). -/
def execTakeoverReq (requester failed : BitVec 13) (s : State) : Host.Outcome State Fault Refusal :=
  onDev (fun i d => if d.isLead then d.leadRequest i requester.toNat failed.toNat else d) s

end Sys2Proof.Machine
end

