-- ==== Sys2Proof/Machine/Understudy.lean ====
section
/-! DEFINITION. The commands of the Understudy (chapter 15): pairing, heartbeats, the log, takeover requests, drain.
The twin context and region: R460, R461; a delivery made twice: R472. -/
namespace Sys2Proof.Machine

/-! ### Takeover requests -/

/-- The index of the twin: what it said in its HELLO (R468). -/
def Dev.twinIndex (d : Dev) : Nat := d.fld (Reg.fabPeer 16) 12 0

/-- Send TAKEOVER_REQ to the lead, or judge it here where this device leads (R468, R469). -/
def Dev.sendRequest (d : Dev) (i : Ident) (failed : Nat) : Dev :=
  if d.isLead then d.leadRequest i d.index failed
  else d.sendMgmt d.leadIndex 0x80 (leBytes 2 d.index ++ leBytes 2 failed)

/-- A takeover is requested, once (R468, Table 15-6). -/
def Dev.requestTakeover (d : Dev) (i : Ident) : Dev :=
  if !d.armed || !d.bit Reg.usyCtrl 13 || d.usy.request.isSome || d.usyState == 4 || d.bit Reg.usyStatus 8 then d
  else ({ d with usy := { d.usy with request := some d.twinIndex } }).sendRequest i d.twinIndex

/-- TAKEOVER_REQ_RESEND (R468). -/
def execTakeoverReqResend (s : State) : Host.Outcome State Fault Refusal :=
  onDev (fun i d => match d.usy.request with
    | some f => d.sendRequest i f
    | none => d) s

/-- TAKEOVER_SELF_GRANT (R469): the failed module is the lead. -/
def execTakeoverSelfGrant (s : State) : Host.Outcome State Fault Refusal :=
  onDev (fun i d => match d.usy.request with
    | some f => if f = d.leadIndex then d.grantTakeover i d.index f else d
    | none => d) s

/-! ### Pairing -/

/-- A twin context descriptor is valid (Table 15-2): its MAGIC, and its reserved fields are 0 (R14). -/
def twinDescOk (tc : List Byte) : Bool :=
  field tc 0 4 == 0x4E5A5457 && bits (field tc 4 4) 18 14 == 0 && bits (field tc 8 4) 18 14 == 0 && bits (field tc 12 2) 13 3 == 0 &&
    (tc.drop 14).all (· == 0)

/-- The checks of Table 15-1, in order: this side's part, and a free bit for what the twin's side says, which no frame the manual
describes carries (notes/assumptions/35.md). -/
def Dev.pairChecks (d : Dev) (twin : W32) : List Bool :=
  let tc := memBytes d.mems.hbm (bits (d.reg64 Reg.memProgBase) 0 39 + 64) 64
  [ d.bit Reg.usyCtrl 0 && d.portUp 16 && !d.portV2 16 && twin.getLsbD 0,
    twin.getLsbD 1,
    d.bit Reg.stgImgInfo 23 && twin.getLsbD 2,
    twin.getLsbD 3,
    twin.getLsbD 4,
    twinDescOk tc && bits (field tc 12 2) 0 13 == d.twinIndex && twin.getLsbD 5,
    !d.cast.formedAny && !d.usy.waited && twin.getLsbD 6 ]

/-- The pairing is tried at the first HEARTBEAT after the load (R457); a fenced module stays FENCED (R470). -/
def Dev.tryPair (d : Dev) : Dev :=
  if !d.usy.loaded || d.usy.tried || d.usyState == 4 then d
  else
    let (w, d) := d.takeFree
    let e := (d.pairChecks w).takeWhile id
    let d := { d with usy := { d.usy with tried := true } }
    if e.length = 7 then ((d.setFld Reg.usyStatus 7 3 16).enterUsy 0).raise 68
    else ((d.setFld Reg.usyStatus 7 3 (e.length + 1)).enterUsy 6).raise 69

/-- PAIRING_WAIT_EXPIRY (R458): the module runs unpaired until its next load. -/
def execPairingWaitExpiry (s : State) : Host.Outcome State Fault Refusal :=
  onDev (fun _ d => if d.bit Reg.usyCtrl 0 && !d.armed then { d with usy := { d.usy with waited := true } } else d) s

/-! ### Heartbeats -/

/-- A HEARTBEAT accepted from the twin (R457, R466, R468). -/
def Dev.takeHeartbeat (d : Dev) (i : Ident) (b : List Byte) : Dev :=
  let st := bits (field b 0 1) 0 3
  let d := ((d.pulse 170).setReg Reg.usyTwinSeq (BitVec.ofNat 32 (field b 4 4))).setReg Reg.usyTwinCkpt (BitVec.ofNat 32 (field b 8 4))
  let d := { d.setReg Reg.usyHbLast d.ns with usy := { d.usy with peerState := st } }
  let d := d.tryPair
  if st = 2 ∨ st = 3 then d.requestTakeover i else d

/-- HEARTBEAT (R466) on port 16; other ports do not accept one (Table 12-6). -/
def execHeartbeat (p : Fin 17) (f : Frame) (s : State) : Host.Outcome State Fault Refusal :=
  onDev (fun i d => if frameType f ≠ 5 then d
    else if p.val = 16 then d.receivePlain 16 f (fun d => d.takeHeartbeat i f.payload)
    else d.refusePlain p.val f) s

/-- HEARTBEAT_SEND (R466): a heartbeat period begins, and USY writes take effect (R506). -/
def execHeartbeatSend (s : State) : Host.Outcome State Fault Refusal :=
  onDev (fun _ d => (d.applyPend (fun b => b == .usy)).sendHeartbeat) s

/-- HEARTBEAT_TIMEOUT (R468). -/
def execHeartbeatTimeout (s : State) : Host.Outcome State Fault Refusal :=
  onDev (fun i d => if d.armed then ((d.count Reg.usyHbMissed).raise 70).requestTakeover i else d) s

/-! ### The log -/

/-- A log record for this module (R462 to R464): a WRITE goes to the twin region, a DELIVERED is noted, a COMMIT needs only its
acknowledgement; a reserved type is counted. -/
def Dev.takeRecord (d : Dev) (b : List Byte) : Dev :=
  let base := bits (d.reg64 Reg.memTwinBase) 0 39
  let off := bits (field b 8 8) 0 39
  let data := b.drop 16
  match field b 0 1 with
  | 1 => if off + data.length ≤ d.mems.twinSize then (d.store .hbm (base + off) data).2 else d
  | 2 => d
  | 3 => { d.setReg Reg.usyDelivered (BitVec.ofNat 32 (field b 4 4)) with usy := { d.usy with suppress := field b 4 4 + 1 } }
  | _ => d.count (Reg.fabDrop 16)

/-- A log frame accepted in sequence. -/
def Dev.deliverLog (d : Dev) (_p : Nat) (f : Frame) : Delivered := .taken (d.takeRecord f.payload)

/-- LOG_WRITE (R462); reserved record types come with it. -/
def execLogWrite (p : Fin 17) (f : Frame) (s : State) : Host.Outcome State Fault Refusal :=
  onDev (fun _ d => if frameType f = 6 && field f.payload 0 1 != 2 && field f.payload 0 1 != 3 then
      d.receiveSeq p.val f Dev.deliverLog else d) s
/-- LOG_COMMIT (R464): acknowledged on the link. -/
def execLogCommit (p : Fin 17) (f : Frame) (s : State) : Host.Outcome State Fault Refusal :=
  onDev (fun _ d => if frameType f = 6 && field f.payload 0 1 == 2 then d.receiveSeq p.val f Dev.deliverLog else d) s
/-- LOG_DELIVERED (R464). -/
def execLogDelivered (p : Fin 17) (f : Frame) (s : State) : Host.Outcome State Fault Refusal :=
  onDev (fun _ d => if frameType f = 6 && field f.payload 0 1 == 3 then d.receiveSeq p.val f Dev.deliverLog else d) s

/-- Ship the records of the log queue that port 16 has room for (R465). -/
def Dev.shipQueue (d : Dev) : Dev := d.pumpAll 16

/-- LOG_QUEUE_RESUME (R465). -/
def execLogQueueResume (s : State) : Host.Outcome State Fault Refusal := onDev (fun _ d => d.shipQueue) s

/-- The COMMIT of a step has not left the log queue, or not been released by an ACK (R375, R464). -/
def Dev.commitOpen (d : Dev) (seq : Nat) : Bool :=
  d.usy.logq.any (fun r => field r 0 1 == 2 && field r 4 4 == seq % 2 ^ 32) || (d.port 16).txq.any (fun f => f.commitOf seq) ||
    (d.port 16).held.any (fun h => h.2.commitOf seq)

/-- The oldest commit whose COMMIT is acknowledged: its entries are written and DELIVERED is sent (R464). -/
def Dev.commitAcked (d : Dev) : Dev :=
  match d.usy.commits with
  | [] => d
  | c :: cs =>
    if !c.sent || c.lost || d.commitOpen c.seq then d
    else
      let d := ({ d with usy := { d.usy with commits := cs } }).deliver c.entries
      d.shipRecord (logRecord 3 0 c.seq 0 [])

/-- COMMIT_ACKNOWLEDGED (R464). -/
def execCommitAcknowledged (s : State) : Host.Outcome State Fault Refusal := onDev (fun _ d => d.commitAcked) s

/-! ### Drain and failure -/

/-- USY_CMD.DRAIN (R478): ignored unless the pair is armed and the module runs. -/
def Dev.drainAsked (d : Dev) : Dev :=
  if d.armed && decide (d.usyState ≤ 1) then d.enterUsy 7 else d

/-- USY_DRAIN (R478). -/
def execUsyDrain (_m : Master) (s : State) : Host.Outcome State Fault Refusal := onDev (fun _ d => d.drainAsked) s

/-- DRAIN_ACKNOWLEDGED (R478): the drain's COMMIT is acknowledged; STATE DRAINED is sent. -/
def Dev.drainDone (d : Dev) : Dev :=
  match d.usy.draining with
  | none => d
  | some _ =>
    let d := (List.range d.usy.commits.length).foldl (fun d _ => d.commitAcked) d
    if !d.usy.commits.isEmpty || d.usyState != 7 then d
    else (d.enterUsy 3).raise 74

/-- DRAIN_ACKNOWLEDGED (R478). -/
def execDrainAcknowledged (s : State) : Host.Outcome State Fault Refusal := onDev (fun _ d => d.drainDone) s

/-- USY_FAIL (R467). -/
def execUsyFail (_m : Master) (s : State) : Host.Outcome State Fault Refusal := onDev (fun _ d => d.enterFailing) s

end Sys2Proof.Machine
end

