-- ==== Sys2Proof/Machine/Spotlight.lean ====
section
/-! DEFINITION. The commands of the Spotlight (chapter 16): arming, the trigger sequencer, captures.
Samples, source codes, event lines and samplers: R482 to R485; Table 16-5: R499. -/
namespace Sys2Proof.Machine

/-! ### State and trigger -/

/-- SPT_STATUS.STATE (Table 16-6): 0 IDLE, 1 ARMED, 2 POST, 3 DONE, 4 STOPPED. -/
def Dev.sptState (d : Dev) : Nat := d.fld Reg.sptStatus 2 0
/-- Store it. -/
def Dev.setSptState (d : Dev) (n : Nat) : Dev := d.setFld Reg.sptStatus 2 0 n
/-- The Spotlight is armed: it awaits a trigger, or records follow one. -/
def Dev.sptArmed (d : Dev) : Bool := d.sptState == 1 || d.sptState == 2
/-- MODE: 0 WAVE, 1 HIST, 2 PERS. -/
def Dev.sptMode (d : Dev) : Nat := d.fld Reg.sptCtrl 6 5
/-- Source, edge kind, next state, trigger flag of arm a of sequencer state s (Table 16-6). -/
def Dev.armReg (d : Dev) (s a : Nat) : Nat := (d.reg (Reg.sptArm s a)).toNat

/-- The capture is DONE (R492, R501). -/
def Dev.sptDone (d : Dev) : Dev := (d.setSptState 3).raise 385

/-- The trigger is taken in this sample (R487, R488, R491); which sample of the house tick it is, is free. -/
def Dev.sptTrigger (d : Dev) (tfrac : Nat) (forced : Bool) : Dev :=
  let (w, d) := d.takeFree
  let d := d.setReg64 Reg.sptTtime (d.time48 + w.toNat % 4 * 65536 + tfrac * 1024)
  let d := (d.setReg Reg.sptTpos (BitVec.ofNat 32 (d.spt.recs % 2 ^ 18 + tfrac * 2 ^ 18))).count Reg.sptTriggers
  let d := { d with spt := { d.spt with trig := true, forced := forced, post := d.fld Reg.sptPost 17 0 } }
  let d := (d.setSptState 2).raise 384
  let d := if d.fld Reg.sptCtrl 14 11 = 0 then d else d.emit (.syncPins (d.fld Reg.sptCtrl 14 11))
  if d.sptMode = 1 then d.sptDone else d

/-- A forced trigger (R490): taken at once where one is awaited; the FORCE commands that wait for it complete. -/
def Dev.sptForced (d : Dev) : Dev :=
  if d.sptState = 1 then
    let d := (((d.setBit Reg.sptStatus 6).count Reg.sptForced).raise 387).sptTrigger 0 true
    let ws := d.spt.waits.filter (fun c => subOp c 8 1 == 4)
    let d := { d with spt := { d.spt with waits := d.spt.waits.filter (fun c => subOp c 8 1 != 4) } }
    ws.foldl (fun d c => d.sptComplete c .success) d
  else d

/-! ### Event lines (R484) -/

/-- The level of a level line (Table 16-2); none for a pulse line and for one that never changes. -/
def Dev.levelLine (d : Dev) (n : Nat) : Option Bool :=
  if 114 ≤ n ∧ n ≤ 162 ∧ n % 3 = 0 then some (d.portUp ((n - 114) / 3))
  else if 240 ≤ n ∧ n ≤ 247 then
    some (d.bit (Reg.sptPhase (n - 240)) 8 && d.fld (Reg.sptPhase (n - 240)) 7 0 == d.dim.phase)
  else match n with
    | 4 => some (d.halted && d.faultCode != 0)
    | 5 => some d.prompter.wait.isSome
    | 7 => some (d.stage.power == .rampUp || d.stage.power == .rampDown)
    | 8 => some d.dim.burst
    | 10 => some (d.bit Reg.dimStatus 4)
    | 11 => some (d.bit Reg.dimStatus 5)
    | 12 => some d.fixedMode
    | 84 => some (d.bit Reg.cstStatus 3)
    | 87 => some ((List.range 64).any (fun q => !(d.pair q).held.isEmpty))
    | 165 => some (d.fld Reg.memStatus 6 5 != 0)
    | 166 => some (d.bit Reg.memStatus 0)
    | 169 => some d.hckLocked
    | _ => none

/-- A line can present an edge of a kind now (R486): a level line at the level that the edge leads to, a pulse line on which an event came
within its last ticks. Which sample presents the edge is the row's to say. -/
def Dev.lineSees (d : Dev) (n edge : Nat) : Bool :=
  match d.levelLine n with
  | some on => edge == 2 || on == (edge == 0)
  | none => d.lines.recent.any (fun e => e.1 == n)

/-- EV of a WAVE record (Table 16-3): a line that is active, or has been since the last record, is in it; of one that was active shortly
before, `ev` says whether a sample of the record still saw it; the others are 0. -/
def Dev.eventBits (d : Dev) (ev : W64) : W64 :=
  BitVec.ofNat 64 (((List.range 64).map (fun i =>
    let n := 64 * d.fld Reg.sptCapsel 1 0 + i
    let on := match d.levelLine n with
      | some on => on || ev.getLsbD i
      | none => d.lines.seen.contains n || (ev.getLsbD i && d.lines.recent.any (fun e => e.1 == n))
    b2n on * 2 ^ i)).sum)

/-- A record is complete: the next begins. -/
def Dev.recordBegins (d : Dev) : Dev := { d with lines := { d.lines with seen := [] } }

/-! ### Arming -/

/-- ARM is refused (R494): MODE 3, a reserved source in an arm, STREAM outside WAVE mode. -/
def Dev.sptArmBad (d : Dev) : Bool :=
  d.sptMode == 3 || (d.bit Reg.sptCtrl 4 && d.sptMode != 0) ||
    (List.range 16).any (fun k =>
      let src := bits (d.armReg (k / 2) (k % 2)) 0 9
      decide (284 ≤ src) && decide (src ≤ 510))

/-- Bytes of the counts that an accumulating mode keeps at the start of the capture buffer (R493). -/
def accBytes (mode : Nat) : Nat := if mode = 1 then 4096 else if mode = 2 then 131072 else 0

/-- ARM (R494, R497): the buffered SPT fields take effect; the capture starts from S0 with nothing counted. One that those fields make
unfit is refused: it sets CFG_ERR and does nothing else (notes/assumptions/83.md). -/
def Dev.sptArm (d : Dev) : Dev :=
  let old := d
  let d := d.applyPend (fun b => b == .spt)
  if d.sptArmBad then old.setBit Reg.sptStatus 10
  else
    let d := d.recordBegins
    let d := (List.range 4).foldl (fun d n => d.setReg (Reg.sptCnt n) 0) d
    let d := ((d.setReg Reg.sptFill 0).setReg Reg.sptRingWr 0).setReg Reg.sptRingRd 0
    let d := { d with
      spt := { Spt.reset with waits := d.spt.waits }
      mems := { d.mems with capt := tabClear d.mems.capt 0 (accBytes d.sptMode) } }
    (d.setFld Reg.sptStatus 5 3 0).setSptState 1

/-- STOP (R497): the buffer is left as it stands. -/
def Dev.sptStop (d : Dev) : Dev := if d.sptArmed then d.setSptState 4 else d

/-- A write of SPT_CTRL: its RWB fields wait for an ARM, which may be this one (R497); then ARM, STOP and FORCE act, in this order. -/
def Dev.sptCtrlWrite (d : Dev) (v : W32) : Dev :=
  let d := d.plainWrite Reg.sptCtrl v
  let d := if v.getLsbD 0 then d.sptArm else d
  let d := if v.getLsbD 1 then d.sptStop else d
  if v.getLsbD 2 then d.sptForced else d

/-- A SPOTLIGHT command leaves its reserved bits 0 (R341): it has no flags, stream or job, and no operand but those of `used`. -/
def sptFieldsOk (c : Submission) (used : List (Nat × Nat)) : Bool :=
  c.flags == 0 && c.stream == 0 && c.job == 0 && !outside (leNat c.ops) (used.map (fun u => (8 * (u.1 - 8), 8 * u.2)))

/-- SPOTLIGHT ARM (R498); a refused one completes with OUT_OF_RANGE. -/
def Dev.sptArmCmd (d : Dev) (c : Submission) : Dev :=
  if !sptFieldsOk c [(8, 1)] then d.sptComplete c .reservedField
  else
    let bad := (d.applyPend (fun b => b == .spt)).sptArmBad
    d.sptArm.sptComplete c (if bad then .outOfRange else .success)

/-- SPOTLIGHT STOP (R498). -/
def Dev.sptStopCmd (d : Dev) (c : Submission) : Dev :=
  if !sptFieldsOk c [(8, 1)] then d.sptComplete c .reservedField else d.sptStop.sptComplete c .success

/-- SPOTLIGHT FORCE (R498): completes at the forced trigger. -/
def Dev.sptForceCmd (d : Dev) (c : Submission) : Dev :=
  if !sptFieldsOk c [(8, 1)] then d.sptComplete c .reservedField
  else ({ d with spt := { d.spt with waits := d.spt.waits ++ [c] } }).sptForced

/-- SPOTLIGHT READ (R498): during a Safety Curtain it waits for its end. -/
def Dev.sptReadCmd (d : Dev) (c : Submission) : Dev :=
  if !sptFieldsOk c [(8, 2), (16, 16)] then d.sptComplete c .reservedField
  else if d.halting then { d with spt := { d.spt with waits := d.spt.waits ++ [c] } }
  else d.sptRead c

/-- A SPOTLIGHT command by SUB (Table 16-4). -/
def Dev.spotlight (d : Dev) (c : Submission) : Dev :=
  match subOp c 8 1 with
  | 1 => d.sptArmCmd c
  | 2 => d.sptStopCmd c
  | 3 => d.sptReadCmd c
  | 4 => d.sptForceCmd c
  | _ => d.sptComplete c .outOfRange

/-- A command comes while the Strike is not complete (Table 11-8), else `act`. -/
def Dev.afterStrike (d : Dev) (c : Submission) (act : Dev → Dev) : Dev :=
  if d.bit Reg.memStatus 1 then act d else d.complete c .notReady

/-- SPT_ARM (R497). -/
def execSptArm (via : SptVia) (s : State) : Host.Outcome State Fault Refusal :=
  onDev (fun _ d => match via with
    | .reg _ v => d.sptCtrlWrite v
    | .cmd c => d.afterStrike c (fun d => d.sptArmCmd c)) s
/-- SPT_STOP (R497). -/
def execSptStop (via : SptVia) (s : State) : Host.Outcome State Fault Refusal :=
  onDev (fun _ d => match via with
    | .reg _ v => d.sptCtrlWrite v
    | .cmd c => d.afterStrike c (fun d => d.sptStopCmd c)) s
/-- SPT_FORCE (R490). -/
def execSptForce (via : SptVia) (s : State) : Host.Outcome State Fault Refusal :=
  onDev (fun _ d => match via with
    | .reg _ v => d.sptCtrlWrite v
    | .cmd c => d.afterStrike c (fun d => d.sptForceCmd c)) s
/-- SPOTLIGHT_READ (R498). -/
def execSpotlightRead (c : Submission) (s : State) : Host.Outcome State Fault Refusal :=
  onDev (fun _ d => d.afterStrike c (fun d => d.sptReadCmd c)) s
/-- SPT_AUTO_TIMEOUT (R490). -/
def execSptAutoTimeout (s : State) : Host.Outcome State Fault Refusal :=
  onDev (fun _ d => if d.bit Reg.sptCtrl 3 then d.sptForced else d) s

/-! ### The sequencer -/

/-- A counter at a new value presents an edge in the next sample if that equals SPT_CMPn (R488). -/
def Dev.setCnt (d : Dev) (n v : Nat) : Dev :=
  let d' := d.setReg (Reg.sptCnt n) (BitVec.ofNat 32 v)
  if v ≠ (d.reg (Reg.sptCnt n)).toNat ∧ v = (d.reg (Reg.sptCmp n)).toNat then
    { d' with spt := { d'.spt with edges := d'.spt.edges ++ [n] } }
  else d'

/-- The source of an arm presents an edge that the arm watches (Table 16-1, R484, R488): for an event line, one that its state allows;
pins and comparators are the row's to say; a counter or a timer has presented a rising one; EDGE 3 and source 511 never fire. -/
def Dev.armSees (d : Dev) (w : Nat) : Bool :=
  let src := bits w 0 9
  let edge := bits w 9 2
  edge != 3 && (if src < 256 then d.lineSees src edge else decide (src < 276) || (decide (src < 284) && edge != 1 && d.spt.edges.contains (src - 276)))

/-- The actions of an arm (R488); after a trigger the sequencer holds its state (R489). A persistence acquisition that is taken awaits
none. -/
def Dev.armFires (d : Dev) (w tfrac : Nat) : Dev :=
  let held := d.sptState == 2
  let d := { d with spt := { d.spt with edges := [] } }
  let d := (setBits 4 (bits w 20 4)).foldl (fun d n => d.setCnt n 0) d
  let d := (setBits 4 (bits w 16 4)).foldl (fun d n => d.setCnt n (sat32 ((d.reg (Reg.sptCnt n)).toNat + 1))) d
  let d := (setBits 4 (bits w 24 4)).foldl (fun (d : Dev) n =>
    { d with spt := { d.spt with timers := tabSet (fun _ => 0) d.spt.timers n (d.reg (Reg.sptTim n)).toNat } }) d
  let fire := bitAt w 15 && d.sptState == 1
  let d := if fire then d.sptTrigger tfrac false else d
  if held || fire then d else d.setFld Reg.sptStatus 5 3 (bits w 12 3)

/-- SPT_ARM_FIRE (R488): edges of counters and timers have TFRAC 0 (R487). -/
def execSptArmFire (arm : Bool) (tfrac : BitVec 6) (s : State) : Host.Outcome State Fault Refusal :=
  onDev (fun _ d =>
    let w := d.armReg (d.fld Reg.sptStatus 5 3) (b2n arm)
    if d.sptArmed && d.armSees w then d.armFires w (if bits w 0 9 < 276 then tfrac.toNat else 0) else d) s

/-- SPT_TIMER_EXPIRY (R488): a timer that runs reaches 0, presents an edge and stops. -/
def execSptTimerExpiry (n : Fin 4) (s : State) : Host.Outcome State Fault Refusal :=
  onDev (fun _ d => if tabGet (fun _ => 0) d.spt.timers n.val = 0 then d
    else { d with spt := { d.spt with timers := tabSet (fun _ => 0) d.spt.timers n.val 0, edges := d.spt.edges ++ [4 + n.val] } }) s

/-- EDGE_CANCELLED (R486). -/
def execEdgeCancelled (_src : BitVec 9) (s : State) : Host.Outcome State Fault Refusal :=
  onDev (fun _ d =>
    let d := d.count Reg.sptRateExc
    if d.bit Reg.sptStatus 9 then d else d.flagRaise Reg.sptStatus 9 388) s

/-! ### Records and accumulation -/

/-- A WAVE record (Table 16-3). -/
def Dev.waveBytes (d : Dev) (ev : W64) (codes : BitVec 40) (sync : BitVec 4) (ovf : Bool) : List Byte :=
  leBytes 8 ev.toNat ++ leBytes 5 codes.toNat ++ leBytes 1 (sync.toNat + d.fld Reg.sptStatus 5 3 * 16) ++
    leBytes 1 (b2n d.spt.trig + 2 * b2n ovf + 8 * b2n (d.spt.trig && d.spt.forced)) ++ [0]

/-- The latest code of the captured samplers: that of the record where it is of one sample, else not the record's to say, and
free. -/
def Dev.latestCodes (d : Dev) (codes : BitVec 40) : Dev :=
  (List.range 4).foldl (fun d i =>
    let j := d.fld Reg.sptCapsel (11 + 4 * i) (8 + 4 * i)
    let (w, d) := if d.fld Reg.sptCtrl 10 7 = 0 then (BitVec.ofNat 32 (bits codes.toNat (10 * i) 10), d) else d.takeFree
    d.setFld (Reg.sptSamp j) 25 16 (w.toNat % 1024)) d

/-- A record is written to the capture buffer (R492) and counted. -/
def Dev.putRecord (d : Dev) (bs : List Byte) : Dev :=
  let d := (d.store .capt (16 * (d.spt.recs % 2 ^ 18)) bs).2
  let n := d.spt.recs + 1
  ({ d with spt := { d.spt with recs := n } }).setReg Reg.sptFill (BitVec.ofNat 32 (min n (2 ^ 18)))

/-- Where the capture stands after a record: DONE once POST records have followed the trigger record (R492). -/
def Dev.afterRecord (d : Dev) : Dev :=
  if d.spt.trig then
    let d := { d with spt := { d.spt with trig := false } }
    if d.spt.post = 0 then d.sptDone else d
  else if d.sptState = 2 then
    let d := { d with spt := { d.spt with post := d.spt.post - 1 } }
    if d.spt.post = 0 then d.sptDone else d
  else d

/-- A record of a streaming capture (R495): it goes to the ring too, unless the ring would then be full; such a record carries OVF
and stops the capture. -/
def Dev.streamRecord (d : Dev) (ev : W64) (codes : BitVec 40) (sync : BitVec 4) : Dev :=
  let w := d.fld Reg.sptRingWr 23 0
  let next := (w + 1) % d.sptRingSize
  if next = d.fld Reg.sptRingRd 23 0 then
    let d := d.putRecord (d.waveBytes ev codes sync true)
    (({ d with spt := { d.spt with trig := false, overflow := true } }).setSptState 4).flagRaise Reg.sptStatus 7 386
  else
    let bs := d.waveBytes ev codes sync false
    let d := (d.store .hbm (d.sptRingBase + 16 * w) bs).2
    ((d.setReg Reg.sptRingWr (BitVec.ofNat 32 next)).putRecord bs).afterRecord

/-- Sampler codes added to a histogram (R493), each bin saturating. -/
def Dev.histAdd (d : Dev) (code : Nat) : Dev :=
  let v := leNat (memBytes d.mems.capt (4 * code) 4)
  (d.store .capt (4 * code) (leBytes 4 (sat32 (v + 1)))).2

/-- WAVE_RECORD (R492). In HIST mode, for which the table has no row of its own, the row stands for four successive samples of the
sampler (R493, notes/assumptions/40.md). -/
def execWaveRecord (ev : W64) (codes : BitVec 40) (sync : BitVec 4) (s : State) : Host.Outcome State Fault Refusal :=
  onDev (fun _ d =>
    if d.sptMode = 0 && d.sptArmed then
      let ev := d.eventBits ev
      let d := (d.latestCodes codes).recordBegins
      if d.sptStreaming then d.streamRecord ev codes sync else (d.putRecord (d.waveBytes ev codes sync false)).afterRecord
    else if d.sptMode = 1 && d.sptState = 1 then
      let d := d.setFld (Reg.sptSamp (d.fld Reg.sptAcc 3 0)) 25 16 (bits codes.toNat 30 10)
      if bitAt (d.fld Reg.sptAcc 11 4) (d.fld Reg.sptStatus 5 3) then
        (List.range 4).foldl (fun d i => d.histAdd (bits codes.toNat (10 * i) 10)) d
      else d
    else d) s

/-- One cell of a persistence map (R493). -/
def Dev.persAdd (d : Dev) (x code : Nat) : Dev :=
  let a := 2 * (256 * (code / 4) + x)
  let v := leNat (memBytes d.mems.capt a 2)
  (d.store .capt a (leBytes 2 (min 0xFFFF (v + 1)))).2

/-- PERS_ACQUISITION_END (R489, R493): the columns' mean codes are counted. -/
def Dev.persEnd (d : Dev) (codes : List (BitVec 10)) : Dev :=
  let d := ((List.range codes.length).zip codes).foldl (fun d c => d.persAdd c.1 c.2.toNat) d
  let n := d.spt.acqs + 1
  let d := { d with spt := { d.spt with acqs := n, trig := false } }
  if max 1 (d.fld Reg.sptAcc 31 20) ≤ n then d.sptDone else (d.setFld Reg.sptStatus 5 3 0).setSptState 1

/-- PERS_ACQUISITION_END (R493): an acquisition is under way. -/
def execPersAcquisitionEnd (codes : List (BitVec 10)) (s : State) : Host.Outcome State Fault Refusal :=
  onDev (fun _ d => if d.sptMode = 2 && d.sptState = 2 then d.persEnd codes else d) s

end Sys2Proof.Machine
end

