-- ==== Sys2Proof/Machine/Grid.lean ====
section
/-! DEFINITION. The commands of the Lantern Grid network (chapter 7): tokens, edge units, the end of a program, changeover. -/
namespace Sys2Proof.Machine

/-! ### Tokens -/

/-- TOKEN_ARRIVAL (R229): the earliest token in flight reaches its steering unit. -/
def execTokenArrival (s : State) : Host.Outcome State Fault Refusal :=
  onDev (fun _ d => match earliest d.grid.flight with
    | some t => d.arrive t
    | none => d) s

/-- CONTROL_TOKEN_EXPIRY (R229). -/
def execControlTokenExpiry (u : Fin 320) (s : State) : Host.Outcome State Fault Refusal :=
  onDev (fun _ d => match d.lonely u.val true with
    | some t => d.expireControl u.val t
    | none => d) s

/-- ORPHAN_DATA (R229). -/
def execOrphanData (u : Fin 320) (s : State) : Host.Outcome State Fault Refusal :=
  onDev (fun _ d => match d.lonely u.val false with
    | some t => d.orphan u.val t
    | none => d) s

/-! ### Edge units -/

/-- TS_READ (R233). -/
def execTsRead (u : Fin 320) (found : List Found) (s : State) : Host.Outcome State Fault Refusal :=
  onDev (fun i d => if d.edgeTakes u.val 0 then (d.meets i found).edgeAccept u.val 0 else d) s
/-- TS_WRITE (R233). -/
def execTsWrite (u : Fin 320) (s : State) : Host.Outcome State Fault Refusal := onDev (fun _ d => d.edgeAccept u.val 1) s
/-- HBM_READ (R233). -/
def execHbmRead (u : Fin 320) (found : List Found) (s : State) : Host.Outcome State Fault Refusal :=
  onDev (fun i d => if d.edgeTakes u.val 2 then (d.meets i found).edgeAccept u.val 2 else d) s
/-- HBM_WRITE (R233). -/
def execHbmWrite (u : Fin 320) (s : State) : Host.Outcome State Fault Refusal := onDev (fun _ d => d.edgeAccept u.val 3) s
/-- CST_READ (R280). -/
def execCstRead (u : Fin 320) (s : State) : Host.Outcome State Fault Refusal := onDev (fun _ d => d.edgeAccept u.val 4) s
/-- CST_WRITE (R280). -/
def execCstWrite (u : Fin 320) (s : State) : Host.Outcome State Fault Refusal := onDev (fun _ d => d.edgeAccept u.val 5) s
/-- WDATA (R233). -/
def execWdata (u : Fin 320) (s : State) : Host.Outcome State Fault Refusal := onDev (fun _ d => d.edgeData u.val) s
/-- EDGE_REPLY (R233). -/
def execEdgeReply (u : Fin 320) (s : State) : Host.Outcome State Fault Refusal := onDev (fun i d => d.edgeFinish i u.val) s

/-! ### The end of a program -/

/-- The token of a GRID START posts (R236, R248): an error token where a lantern of the region ended badly. -/
def Dev.gridDone (d : Dev) (r : GridRun) : Dev :=
  let bad := r.bad || (!r.std && (d.grid.members r.region).any (fun l => (d.lantern l).bad))
  let d := { d with grid := { d.grid with runs := d.grid.runs.filter (fun x => x.region != r.region) } }
  (d.postToken r.ctr bad false).pulse 97

/-- GRID_PROGRAM_DONE (R236). -/
def execGridProgramDone (region : Fin 16) (s : State) : Host.Outcome State Fault Refusal :=
  onDev (fun _ d => match d.grid.runs.find? (fun r => r.region == region.val) with
    | some r => if r.std || d.regionDone r.region then d.gridDone r else d
    | none => d) s

/-! ### Changeover -/

/-- The swap and the two cycles after it (R239, Table 7-9). -/
def Dev.changeoverSwap (d : Dev) (c : Changeover) : Dev :=
  let k := d.swapCycle c
  let d := d.gridSwap k c.config c.records
  let d := { d with grid := { d.grid with cycle := max d.grid.cycle (k + 2) } }
  let d := (d.setReg Reg.lgrChgCycles (BitVec.ofNat 32 (k + 2 - c.start))).clrBit Reg.lgrStatus 16
  ((d.postToken c.ctr false false).pulse 97).raise 128

/-- No token in flight arrives before the swap (Table 7-10). -/
def Dev.swapNext (d : Dev) (c : Changeover) : Bool := d.grid.flight.all (fun t => decide (d.swapCycle c ≤ t.due))

/-- CHANGEOVER_SWAP (R239), once the tokens that arrive before its cycle have arrived. -/
def execChangeoverSwap (s : State) : Host.Outcome State Fault Refusal :=
  onDev (fun _ d => match d.grid.change with
    | some c => if d.swapReady c && d.swapNext c then d.changeoverSwap c else d
    | none => d) s

/-- CHANGEOVER_TIMEOUT (R240): the barrier has not been reached. -/
def execChangeoverTimeout (s : State) : Host.Outcome State Fault Refusal :=
  onDev (fun _ d => match d.grid.change with
    | some c => if d.swapReady c then d else d.changeoverFails c
    | none => d) s

end Sys2Proof.Machine
end

