-- ==== Sys2Proof/Machine/Lanterns.lean ====
section
/-! DEFINITION. The lantern instructions (8.1, 8.2, R245 to R253). A row acts while its lantern runs an image program and the
instruction at PC is its own; HALT's row also takes what cannot be decoded (R248, notes/assumptions/41.md). -/
namespace Sys2Proof.Machine

/-! ### Words and registers -/

/-- An instruction word taken apart (R249). -/
structure LWord where
  op : Nat
  a : Nat
  b : Nat
  c : Nat
  imm : W32
  imm12 : Nat
  imm20 : Nat
deriving DecidableEq, Repr

/-- The fields of an instruction word (R249). -/
def lword (w : W32) : LWord :=
  { op := bits w.toNat 0 8, a := bits w.toNat 8 4, b := bits w.toNat 12 4, c := bits w.toNat 16 4
    imm := (w.extractLsb' 20 12).signExtend 32, imm12 := bits w.toNat 20 12, imm20 := bits w.toNat 12 20 }

/-- The opcodes of Table 8-3. -/
def lanternOps : List Nat :=
  [0x00, 0x01] ++ (List.range 0x0F).map (· + 0x10) ++ (List.range 0x0D).map (· + 0x20) ++ (List.range 0x0C).map (· + 0x30) ++
    (List.range 6).map (· + 0x40) ++ (List.range 5).map (· + 0x50) ++ (List.range 6).map (· + 0x60)

/-- gN. -/
def Lantern.gr (x : Lantern) (n : Nat) : W32 := tabGet (fun _ => 0) x.g n
/-- Write gN. -/
def Lantern.setG (x : Lantern) (n : Nat) (v : W32) : Lantern := { x with g := tabSet (fun _ => 0) x.g n v }
/-- Lane i of vN. -/
def Lantern.lane (x : Lantern) (n i : Nat) : W32 := tabGet (fun _ => 0) x.v (16 * n + i)
/-- Write lane i of vN. -/
def Lantern.setLane (x : Lantern) (n i : Nat) (v : W32) : Lantern := { x with v := tabSet (fun _ => 0) x.v (16 * n + i) v }
/-- The lanes of vN, from lane 0. -/
def Lantern.vec (x : Lantern) (n : Nat) : List W32 := (List.range 16).map (x.lane n)
/-- Write vN. -/
def Lantern.setV (x : Lantern) (n : Nat) (vs : List W32) : Lantern :=
  (List.range 16).foldl (fun x i => x.setLane n i (vs.getD i 0)) x
/-- The next instruction. -/
def Lantern.next (x : Lantern) : Lantern := { x with pc := x.pc + 1 }

/-! ### The end of a lantern's run -/

/-- A lantern fault (R248): recorded if LGR_LFAULT holds none. -/
def Dev.lanternFault (d : Dev) (l code : Nat) : Dev :=
  let x := d.lantern l
  let d := if d.bit Reg.lgrLfault 31 then d
    else d.setReg Reg.lgrLfault (BitVec.ofNat 32 (l + code * 2 ^ 8 + x.pc.toNat * 2 ^ 12 + 2 ^ 31))
  (d.setLantern l { x with running := false, bad := true }).raise 136

/-- A lantern finishes at an uncorrectable error (Table 10-5): LGR_LFAULT does not record it. -/
def Dev.lanternLost (d : Dev) (l : Nat) : Dev := d.setLantern l { d.lantern l with running := false, bad := true }

/-! ### Fetch -/

/-- The key of a lantern's instruction at its PC. -/
def Dev.fetchKey (d : Dev) (l : Nat) : Nat := l * 2 ^ 13 + 4 * (d.lantern l).pc.toNat
/-- PC lies in the program's section (R253). -/
def Lantern.inSection (x : Lantern) : Bool := decide (x.lo ≤ x.pc.toNat) && decide (x.pc.toNat < x.hi)
/-- The instruction at PC. -/
def Dev.fetched (d : Dev) (l : Nat) : W32 := BitVec.ofNat 32 (leNat (memBytes d.mems.lins (d.fetchKey l) 4))

/-- An instruction as its row runs it: the lantern runs, PC lies in its section, the word is without error and has this opcode. -/
def Dev.runOp (d : Dev) (l op : Nat) (act : Dev → Lantern → LWord → Dev) : Dev :=
  let x := d.lantern l
  let w := lword (d.fetched l)
  if x.running && x.inSection && (d.errorsIn .lins (d.fetchKey l) 4).isEmpty && w.op == op then act d x w else d

/-- The vector registers that a word names are v0 to v7, else fault 0x1 (R248). -/
def Dev.vecOk (d : Dev) (l : Nat) (rs : List Nat) (act : Dev) : Dev := if rs.all (fun r => decide (r < 8)) then act else d.lanternFault l 1

/-- gA receives a function of the lantern and the word. -/
def Dev.scalar (d : Dev) (l op : Nat) (f : Lantern → LWord → W32) : Dev :=
  d.runOp l op (fun d x w => d.setLantern l (x.setG w.a (f x w)).next)

/-- Each lane of vA receives a function of the lanes of vB, vC and vA. -/
def Dev.lanes (d : Dev) (l op : Nat) (f : W32 → W32 → W32 → W32) : Dev :=
  d.runOp l op (fun d x w => d.vecOk l [w.a, w.b, w.c] (d.setLantern l
    (x.setV w.a ((List.range 16).map (fun i => f (x.lane w.b i) (x.lane w.c i) (x.lane w.a i)))).next))

/-! ### Arithmetic -/

/-- 1 or 0. -/
def flag32 (b : Bool) : W32 := if b then 1 else 0

/-- LANTERN_NOP (R250). -/
def execLanternNop (l : Fin 256) (s : State) : Host.Outcome State Fault Refusal :=
  onDev (fun _ d => d.runOp l.val 0x01 (fun d x _ => d.setLantern l.val x.next)) s
/-- ADD (R250). -/
def execAdd (l : Fin 256) (s : State) : Host.Outcome State Fault Refusal :=
  onDev (fun _ d => d.scalar l.val 0x10 (fun x w => x.gr w.b + x.gr w.c)) s
/-- SUB (R250). -/
def execSub (l : Fin 256) (s : State) : Host.Outcome State Fault Refusal :=
  onDev (fun _ d => d.scalar l.val 0x11 (fun x w => x.gr w.b - x.gr w.c)) s
/-- AND (R250). -/
def execAnd (l : Fin 256) (s : State) : Host.Outcome State Fault Refusal :=
  onDev (fun _ d => d.scalar l.val 0x12 (fun x w => x.gr w.b &&& x.gr w.c)) s
/-- OR (R250). -/
def execOr (l : Fin 256) (s : State) : Host.Outcome State Fault Refusal :=
  onDev (fun _ d => d.scalar l.val 0x13 (fun x w => x.gr w.b ||| x.gr w.c)) s
/-- XOR (R250). -/
def execXor (l : Fin 256) (s : State) : Host.Outcome State Fault Refusal :=
  onDev (fun _ d => d.scalar l.val 0x14 (fun x w => x.gr w.b ^^^ x.gr w.c)) s
/-- SHL (R250). -/
def execShl (l : Fin 256) (s : State) : Host.Outcome State Fault Refusal :=
  onDev (fun _ d => d.scalar l.val 0x15 (fun x w => x.gr w.b <<< ((x.gr w.c).toNat % 32))) s
/-- SHR (R250). -/
def execShr (l : Fin 256) (s : State) : Host.Outcome State Fault Refusal :=
  onDev (fun _ d => d.scalar l.val 0x16 (fun x w => x.gr w.b >>> ((x.gr w.c).toNat % 32))) s
/-- SRA (R250). -/
def execSra (l : Fin 256) (s : State) : Host.Outcome State Fault Refusal :=
  onDev (fun _ d => d.scalar l.val 0x17 (fun x w => (x.gr w.b).sshiftRight ((x.gr w.c).toNat % 32))) s
/-- SLT (R250). -/
def execSlt (l : Fin 256) (s : State) : Host.Outcome State Fault Refusal :=
  onDev (fun _ d => d.scalar l.val 0x18 (fun x w => flag32 ((x.gr w.b).slt (x.gr w.c)))) s
/-- SLTU (R250). -/
def execSltu (l : Fin 256) (s : State) : Host.Outcome State Fault Refusal :=
  onDev (fun _ d => d.scalar l.val 0x19 (fun x w => flag32 ((x.gr w.b).ult (x.gr w.c)))) s
/-- MUL (R250). -/
def execMul (l : Fin 256) (s : State) : Host.Outcome State Fault Refusal :=
  onDev (fun _ d => d.scalar l.val 0x1A (fun x w => x.gr w.b * x.gr w.c)) s
/-- ADDI (R250). -/
def execAddi (l : Fin 256) (s : State) : Host.Outcome State Fault Refusal :=
  onDev (fun _ d => d.scalar l.val 0x1B (fun x w => x.gr w.b + w.imm)) s
/-- ANDI (R250). -/
def execAndi (l : Fin 256) (s : State) : Host.Outcome State Fault Refusal :=
  onDev (fun _ d => d.scalar l.val 0x1C (fun x w => x.gr w.b &&& BitVec.ofNat 32 w.imm12)) s
/-- ORI (R250). -/
def execOri (l : Fin 256) (s : State) : Host.Outcome State Fault Refusal :=
  onDev (fun _ d => d.scalar l.val 0x1D (fun x w => x.gr w.b ||| BitVec.ofNat 32 w.imm12)) s
/-- LUI (R250). -/
def execLui (l : Fin 256) (s : State) : Host.Outcome State Fault Refusal :=
  onDev (fun _ d => d.scalar l.val 0x1E (fun _ w => BitVec.ofNat 32 (w.imm20 * 4096))) s
/-- FADD (R250). -/
def execFadd (l : Fin 256) (s : State) : Host.Outcome State Fault Refusal :=
  onDev (fun _ d => d.scalar l.val 0x20 (fun x w => fadd (x.gr w.b) (x.gr w.c))) s
/-- FSUB (R250). -/
def execFsub (l : Fin 256) (s : State) : Host.Outcome State Fault Refusal :=
  onDev (fun _ d => d.scalar l.val 0x21 (fun x w => fsub (x.gr w.b) (x.gr w.c))) s
/-- FMUL (R250). -/
def execFmul (l : Fin 256) (s : State) : Host.Outcome State Fault Refusal :=
  onDev (fun _ d => d.scalar l.val 0x22 (fun x w => fmul (x.gr w.b) (x.gr w.c))) s
/-- FMAX (R250). -/
def execFmax (l : Fin 256) (s : State) : Host.Outcome State Fault Refusal :=
  onDev (fun _ d => d.scalar l.val 0x23 (fun x w => fmax (x.gr w.b) (x.gr w.c))) s
/-- FMIN (R250). -/
def execFmin (l : Fin 256) (s : State) : Host.Outcome State Fault Refusal :=
  onDev (fun _ d => d.scalar l.val 0x24 (fun x w => fmin (x.gr w.b) (x.gr w.c))) s
/-- FLT (R250). -/
def execFlt (l : Fin 256) (s : State) : Host.Outcome State Fault Refusal :=
  onDev (fun _ d => d.scalar l.val 0x25 (fun x w => flag32 (flt (x.gr w.b) (x.gr w.c)))) s
/-- FFMA (R250). -/
def execFfma (l : Fin 256) (s : State) : Host.Outcome State Fault Refusal :=
  onDev (fun _ d => d.scalar l.val 0x26 (fun x w => ffma (x.gr w.b) (x.gr w.c) (x.gr w.a))) s
/-- FEXP (R250). -/
def execFexp (l : Fin 256) (s : State) : Host.Outcome State Fault Refusal :=
  onDev (fun _ d => d.scalar l.val 0x27 (fun x w => fexp (x.gr w.b))) s
/-- FLN (R251). -/
def execFln (l : Fin 256) (s : State) : Host.Outcome State Fault Refusal :=
  onDev (fun _ d => d.scalar l.val 0x28 (fun x w => fln (x.gr w.b))) s
/-- FRECIP (R250). -/
def execFrecip (l : Fin 256) (s : State) : Host.Outcome State Fault Refusal :=
  onDev (fun _ d => d.scalar l.val 0x29 (fun x w => frecip (x.gr w.b))) s
/-- ITOF (R250). -/
def execItof (l : Fin 256) (s : State) : Host.Outcome State Fault Refusal :=
  onDev (fun _ d => d.scalar l.val 0x2A (fun x w => itof (x.gr w.b))) s
/-- FTOI (R250). -/
def execFtoi (l : Fin 256) (s : State) : Host.Outcome State Fault Refusal :=
  onDev (fun _ d => d.scalar l.val 0x2B (fun x w => ftoi (x.gr w.b))) s

/-! ### Vectors -/

/-- VADD (R250). -/
def execVadd (l : Fin 256) (s : State) : Host.Outcome State Fault Refusal := onDev (fun _ d => d.lanes l.val 0x30 (fun b c _ => fadd b c)) s
/-- VSUB (R250). -/
def execVsub (l : Fin 256) (s : State) : Host.Outcome State Fault Refusal := onDev (fun _ d => d.lanes l.val 0x31 (fun b c _ => fsub b c)) s
/-- VMUL (R250). -/
def execVmul (l : Fin 256) (s : State) : Host.Outcome State Fault Refusal := onDev (fun _ d => d.lanes l.val 0x32 (fun b c _ => fmul b c)) s
/-- VMAX (R250). -/
def execVmax (l : Fin 256) (s : State) : Host.Outcome State Fault Refusal := onDev (fun _ d => d.lanes l.val 0x33 (fun b c _ => fmax b c)) s
/-- VMIN (R250). -/
def execVmin (l : Fin 256) (s : State) : Host.Outcome State Fault Refusal := onDev (fun _ d => d.lanes l.val 0x34 (fun b c _ => fmin b c)) s
/-- VFMA (R250). -/
def execVfma (l : Fin 256) (s : State) : Host.Outcome State Fault Refusal := onDev (fun _ d => d.lanes l.val 0x35 (fun b c a => ffma b c a)) s

/-- VEXP (R250). -/
def execVexp (l : Fin 256) (s : State) : Host.Outcome State Fault Refusal :=
  onDev (fun _ d => d.runOp l.val 0x36 (fun d x w =>
    d.vecOk l.val [w.a, w.b] (d.setLantern l.val (x.setV w.a ((x.vec w.b).map fexp)).next))) s
/-- VBCAST (R250). -/
def execVbcast (l : Fin 256) (s : State) : Host.Outcome State Fault Refusal :=
  onDev (fun _ d => d.runOp l.val 0x37 (fun d x w =>
    d.vecOk l.val [w.a] (d.setLantern l.val (x.setV w.a (List.replicate 16 (x.gr w.b))).next))) s
/-- VEXTR (R250). -/
def execVextr (l : Fin 256) (s : State) : Host.Outcome State Fault Refusal :=
  onDev (fun _ d => d.runOp l.val 0x38 (fun d x w =>
    d.vecOk l.val [w.b] (d.setLantern l.val (x.setG w.a (x.lane w.b (w.imm12 % 16))).next))) s
/-- VINS (R250). -/
def execVins (l : Fin 256) (s : State) : Host.Outcome State Fault Refusal :=
  onDev (fun _ d => d.runOp l.val 0x39 (fun d x w =>
    d.vecOk l.val [w.a] (d.setLantern l.val (x.setLane w.a (w.imm12 % 16) (x.gr w.b)).next))) s
/-- VRSUM (R250). -/
def execVrsum (l : Fin 256) (s : State) : Host.Outcome State Fault Refusal :=
  onDev (fun _ d => d.runOp l.val 0x3A (fun d x w =>
    d.vecOk l.val [w.b] (d.setLantern l.val (x.setG w.a ((x.vec w.b).foldl fadd 0)).next))) s

/-- The lowest lane that holds the largest value under fmax (Table 8-3). -/
def maxLane (vs : List W32) : Nat :=
  match vs with
  | [] => 0
  | v :: t =>
    let m := t.foldl fmax (fmax v v)
    ((List.range vs.length).find? (fun i => fcanon (vs.getD i 0) == m)).getD 0

/-- VRMAX (R250). -/
def execVrmax (l : Fin 256) (s : State) : Host.Outcome State Fault Refusal :=
  onDev (fun _ d => d.runOp l.val 0x3B (fun d x w =>
    d.vecOk l.val [w.b] (d.setLantern l.val (x.setG w.a (BitVec.ofNat 32 (maxLane (x.vec w.b)))).next))) s

/-! ### Data memory -/

/-- The first byte of the route area in a lantern's data memory (R224). -/
def Dev.routeArea (d : Dev) : Nat := 0x10000 - 80 * (d.fld Reg.lgrRoutes 7 0 + 1)

/-- An access of `n` bytes at gB + IMM: fault 0x2 where misaligned, then 0x3 where out of data memory (R248). -/
def Dev.dataAccess (d : Dev) (l a n : Nat) (act : Dev) : Dev :=
  if a % n ≠ 0 then d.lanternFault l 2 else if 0x10000 < a + n then d.lanternFault l 3 else act

/-- Load `n` bytes; an uncorrectable error ends the run (Table 10-5). -/
def Dev.loadData (d : Dev) (l a n : Nat) (act : Dev → List Byte → Dev) : Dev :=
  let (e, d) := d.readErrors .ldata (l * 65536 + a) n
  if e then d.lanternLost l else act d (d.load .ldata (l * 65536 + a) n)

/-- Store bytes (R246): a store into the route area writes nothing and raises source 137. -/
def Dev.storeData (d : Dev) (l a : Nat) (bs : List Byte) (x : Lantern) : Dev :=
  if d.routeArea < a + bs.length then (d.raise 137).setLantern l x.next
  else
    let (e, d) := d.store .ldata (l * 65536 + a) bs
    if e then d.lanternLost l else d.setLantern l x.next

/-- The address gB + IMM. -/
def Lantern.addr (x : Lantern) (w : LWord) : Nat := (x.gr w.b + w.imm).toNat

/-- LD (R250). -/
def execLd (l : Fin 256) (s : State) : Host.Outcome State Fault Refusal :=
  onDev (fun _ d => d.runOp l.val 0x40 (fun d x w => d.dataAccess l.val (x.addr w) 4
    (d.loadData l.val (x.addr w) 4 (fun d bs => d.setLantern l.val (x.setG w.a (BitVec.ofNat 32 (leNat bs))).next)))) s
/-- ST (R250). -/
def execSt (l : Fin 256) (s : State) : Host.Outcome State Fault Refusal :=
  onDev (fun _ d => d.runOp l.val 0x41 (fun d x w => d.dataAccess l.val (x.addr w) 4
    (d.storeData l.val (x.addr w) (leBytes 4 (x.gr w.a).toNat) x))) s
/-- LDB (R250). -/
def execLdb (l : Fin 256) (s : State) : Host.Outcome State Fault Refusal :=
  onDev (fun _ d => d.runOp l.val 0x42 (fun d x w => d.dataAccess l.val (x.addr w) 1
    (d.loadData l.val (x.addr w) 1 (fun d bs => d.setLantern l.val (x.setG w.a (BitVec.ofNat 32 (leNat bs))).next)))) s
/-- STB (R250). -/
def execStb (l : Fin 256) (s : State) : Host.Outcome State Fault Refusal :=
  onDev (fun _ d => d.runOp l.val 0x43 (fun d x w => d.dataAccess l.val (x.addr w) 1
    (d.storeData l.val (x.addr w) (leBytes 1 (x.gr w.a).toNat) x))) s
/-- VLD (R250). -/
def execVld (l : Fin 256) (s : State) : Host.Outcome State Fault Refusal :=
  onDev (fun _ d => d.runOp l.val 0x44 (fun d x w => d.vecOk l.val [w.a] (d.dataAccess l.val (x.addr w) 64
    (d.loadData l.val (x.addr w) 64 (fun d bs => d.setLantern l.val
      (x.setV w.a ((List.range 16).map (fun i => BitVec.ofNat 32 (field bs (4 * i) 4)))).next))))) s
/-- VST (R250). -/
def execVst (l : Fin 256) (s : State) : Host.Outcome State Fault Refusal :=
  onDev (fun _ d => d.runOp l.val 0x45 (fun d x w => d.vecOk l.val [w.a] (d.dataAccess l.val (x.addr w) 64
    (d.storeData l.val (x.addr w) ((x.vec w.a).flatMap (fun v => leBytes 4 v.toNat)) x)))) s

/-- RNG (R252): nzr of the 16-byte block at gB. -/
def execRng (l : Fin 256) (s : State) : Host.Outcome State Fault Refusal :=
  onDev (fun _ d => d.runOp l.val 0x2C (fun d x w =>
    let a := (x.gr w.b).toNat
    if 0x10000 < a + 16 then d.lanternFault l.val 3
    else d.loadData l.val a 16 (fun d bs =>
      let r := nzr (BitVec.ofNat 64 (field bs 0 8)) (bits (field bs 8 2) 0 14) (field bs 12 4) (field bs 10 2) (x.gr w.c).toNat
      d.setLantern l.val (x.setG w.a r).next))) s

/-! ### Control -/

/-- The PC that a branch leads to. -/
def Lantern.jump (x : Lantern) (w : LWord) : Lantern := { x with pc := x.pc + w.imm.setWidth 11 }

/-- BEQ (R250). -/
def execBeq (l : Fin 256) (s : State) : Host.Outcome State Fault Refusal :=
  onDev (fun _ d => d.runOp l.val 0x50 (fun d x w =>
    d.setLantern l.val (if x.gr w.a = x.gr w.b then x.jump w else x.next))) s
/-- BNE (R250). -/
def execBne (l : Fin 256) (s : State) : Host.Outcome State Fault Refusal :=
  onDev (fun _ d => d.runOp l.val 0x51 (fun d x w =>
    d.setLantern l.val (if x.gr w.a = x.gr w.b then x.next else x.jump w))) s
/-- BLT (R250). -/
def execBlt (l : Fin 256) (s : State) : Host.Outcome State Fault Refusal :=
  onDev (fun _ d => d.runOp l.val 0x52 (fun d x w =>
    d.setLantern l.val (if (x.gr w.a).slt (x.gr w.b) then x.jump w else x.next))) s
/-- JAL (R250). -/
def execJal (l : Fin 256) (s : State) : Host.Outcome State Fault Refusal :=
  onDev (fun _ d => d.runOp l.val 0x53 (fun d x w =>
    d.setLantern l.val { x.jump w with g := (x.setG w.a (BitVec.ofNat 32 (x.pc.toNat + 1))).g })) s
/-- JR (R250). -/
def execJr (l : Fin 256) (s : State) : Host.Outcome State Fault Refusal :=
  onDev (fun _ d => d.runOp l.val 0x54 (fun d x w => d.setLantern l.val { x with pc := (x.gr w.b).setWidth 11 })) s

/-- HALT (R248): the lantern finishes. What cannot be decoded ends its run too: a fetch that meets an uncorrectable error
(Table 10-5), a PC out of the section, a reserved opcode. -/
def Dev.haltRow (d : Dev) (l : Nat) : Dev :=
  let x := d.lantern l
  if !x.running then d
  else if !x.inSection then d.lanternFault l 1
  else
    let (e, d) := d.readErrors .lins (d.fetchKey l) 4
    let w := lword (d.fetched l)
    if e then d.lanternLost l
    else if w.op = 0 then d.setLantern l { x.next with running := false }
    else if lanternOps.contains w.op then d else d.lanternFault l 1

/-- HALT (R248). -/
def execHalt (l : Fin 256) (s : State) : Host.Outcome State Fault Refusal := onDev (fun _ d => d.haltRow l.val) s

/-! ### Tokens -/

/-- Inject in the first grid cycle after issue whose slot is IMM[3:0] (R252), which the grid has then reached. The lantern is owed `asked`
answers more (R236). -/
def Dev.sendAt (d : Dev) (l : Nat) (x : Lantern) (w : LWord) (asked : Nat → Nat) (inject : Dev → Nat → Dev) : Dev :=
  let k := slotCycle (d.grid.cycle + 1) (w.imm12 % 16)
  let d := inject d k
  ({ d with grid := { d.grid with cycle := k } }).setLantern l { x.next with owed := x.owed + asked k }

/-- The data word of lanes 0 to 3. -/
def Lantern.dataWord (x : Lantern) (n : Nat) : Nat := leNat (((x.vec n).take 4).flatMap (fun v => leBytes 4 v.toNat))

/-- The answers that a pair sent in grid cycle k brings (R236): one from each edge unit that a REQ reaches, and one that never comes for a
REQ that reaches none. -/
def Grid.asked (g : Grid) (l c k : Nat) : Nat :=
  if tokenKind c = 2 then max 1 ((g.reached true l k).filter (fun t => decide (256 ≤ t.1))).length else 0

/-- SEND (R252). -/
def execSend (l : Fin 256) (s : State) : Host.Outcome State Fault Refusal :=
  onDev (fun _ d => d.runOp l.val 0x60 (fun d x w => d.vecOk l.val [w.b]
    (d.sendAt l.val x w (d.grid.asked l.val (x.gr w.a).toNat) (fun d k => d.injectPair l.val k (x.gr w.a).toNat (x.dataWord w.b))))) s
/-- SENDC (R252). -/
def execSendc (l : Fin 256) (s : State) : Host.Outcome State Fault Refusal :=
  onDev (fun _ d => d.runOp l.val 0x61 (fun d x w =>
    d.sendAt l.val x w (fun _ => 0) (fun d k => d.injectOne l.val k true (d.controlWord l.val k (x.gr w.a).toNat)))) s
/-- SENDD (R252). -/
def execSendd (l : Fin 256) (s : State) : Host.Outcome State Fault Refusal :=
  onDev (fun _ d => d.runOp l.val 0x62 (fun d x w => d.vecOk l.val [w.b]
    (d.sendAt l.val x w (fun _ => 0) (fun d k => d.injectOne l.val k false (x.dataWord w.b))))) s

/-- RECV (R252): stalls while the channel is empty. -/
def execRecv (l : Fin 256) (s : State) : Host.Outcome State Fault Refusal :=
  onDev (fun _ d => d.runOp l.val 0x63 (fun d x w => d.vecOk l.val [w.b]
    (match d.grid.channel l.val (w.imm12 % 16) with
     | [] => d
     | (c, data) :: rest =>
       let d := { d with grid := d.grid.setChannel l.val (w.imm12 % 16) rest }
       let vs := (List.range 4).map (fun i => BitVec.ofNat 32 (bits data (32 * i) 32))
       d.setLantern l.val ((x.setG w.a (BitVec.ofNat 32 c)).setV w.b vs).next))) s

/-- CCOUNT (R250). -/
def execCcount (l : Fin 256) (s : State) : Host.Outcome State Fault Refusal :=
  onDev (fun _ d => d.runOp l.val 0x64 (fun d x w =>
    d.setLantern l.val (x.setG w.a (BitVec.ofNat 32 (d.grid.channel l.val (w.imm12 % 16)).length)).next)) s
/-- SIGNAL (R250). -/
def execSignal (l : Fin 256) (s : State) : Host.Outcome State Fault Refusal :=
  onDev (fun _ d => d.runOp l.val 0x65 (fun d x w => (d.setLantern l.val x.next).raise (144 + w.imm12 % 16))) s

end Sys2Proof.Machine
end

