-- ==== Sys2Proof/Machine/Programs.lean ====
section
/-! DEFINITION. The standard programs SAMPLER, MASKER, QSTAT and SPECV (R254 to R263): each runs whole, lantern by lantern of its
region, since its results depend on its inputs alone (R262, notes/assumptions/13.md). -/
namespace Sys2Proof.Machine

/-! ### Requests and faults -/

/-- A request of a standard program answered with an error (R234). -/
def Dev.stdError (d : Dev) : Bool × Dev := (true, (d.count Reg.lgrEdgeErrCount).raise 133)

/-- A fault of a lantern in a standard program (R248, R264): the PC recorded is a free index of the standard program store. -/
def Dev.stdFault (d : Dev) (l code : Nat) : Dev :=
  let (w, d) := d.takeFree
  let d := if d.bit Reg.lgrLfault 31 then d
    else d.setReg Reg.lgrLfault (BitVec.ofNat 32 (l + code * 2 ^ 8 + w.toNat % 1024 * 2 ^ 12 + 2 ^ 23 + 2 ^ 31))
  d.raise 136

/-- A read of bytes that must be in range (`ok`) and without error: whether it failed. -/
def Dev.stdRead (d : Dev) (c : MemCode) (k n : Nat) (ok : Bool) : Bool × Dev :=
  if !ok then d.stdError
  else
    let (e, d) := d.readErrors c k n
    if e then d.stdError else (false, d)

/-- Tasks one after the other, until one fails. -/
def untilFail (ts : List (Dev → Bool × Dev)) (d : Dev) : Bool × Dev :=
  ts.foldl (fun acc t => if acc.1 then acc else t acc.2) (false, d)

/-- A read of tile store. -/
def Dev.stdTile (d : Dev) (i : Ident) (t a n : Nat) : Bool × Dev :=
  d.stdRead .tile (tileKey t a) n (decide (t < i.tiles) && decide (a + n ≤ 2 ^ 24))

/-- A write of 16-byte words to tile store. -/
def Dev.stdPut (d : Dev) (i : Ident) (t a : Nat) (bs : List Byte) : Bool × Dev :=
  if t < i.tiles ∧ a + bs.length ≤ 2 ^ 24 ∧ a % 16 = 0 then
    let (e, d) := d.store .tile (tileKey t a) bs
    if e then d.stdError else (false, d)
  else d.stdError

/-- The end of the region that an HBM address lies in. -/
def Dev.regionEnd (d : Dev) (a : Nat) : Nat :=
  if a < hbmProg + d.mems.progSize then hbmProg + d.mems.progSize else twinStart d.mems.progSize + d.mems.twinSize

/-- A read of HBM. -/
def Dev.stdHbm (d : Dev) (a n : Nat) : Bool × Dev := d.stdRead .hbm a n (d.inRegions a n)

/-- The reads of the view of emit row e (Table 9-7). -/
def Dev.stdView (d : Dev) (e : Nat) : Bool × Dev := untilFail ((d.rowSpans e).map (fun s => fun d => d.stdRead .hbm s.1 s.2 true)) d

/-- The reads of an automaton step or mask from state s: header, state record, transitions or bitmap (R255, R256). -/
def Dev.stdAuto (d : Dev) (h s : Nat) (bitmap : Bool) : Bool × Dev :=
  let m := d.mems.hbm
  if h = 0 then (false, d)
  else untilFail
    [fun d => d.stdHbm h 32,
     fun d => match autoState m h s with
      | none => (false, d)
      | some r => untilFail
        [fun d => d.stdHbm r 16,
         fun d =>
          if !autoOk m h r (d.regionEnd h) then (false, d)
          else if bitmap then
            let row := 16 * ceilDiv (bits (mem32 m (h + 4)) 0 24) 128
            d.stdHbm (h + mem32 m (h + 20) + mem32 m r * row) row
          else d.stdHbm (h + mem32 m (h + 24) + 8 * mem32 m (r + 4)) (8 * mem32 m (r + 8))] d] d

/-- The reads of a stop list: up to the record that ends it (R267). -/
def Dev.stdStops (d : Dev) (a : Nat) : Bool × Dev :=
  if a = 0 then (false, d) else d.stdHbm a (64 * min 8 ((stopList d.mems.hbm a 8).length + 1))

/-! ### A lantern's run -/

/-- The parameter set of a lantern, checked (R254), and its work. The answer says whether the lantern ended badly. -/
def Dev.stdLantern (d : Dev) (l pset len : Nat) (ok : List Byte → Bool) (work : List Byte → Dev → Bool × Dev) : Bool × Dev :=
  let a := 16 * pset
  if 0x10000 < a + len then (true, d.stdFault l 3)
  else
    let (e, d) := d.readErrors .ldata (l * 2 ^ 16 + a) len
    let p := d.load .ldata (l * 2 ^ 16 + a) len
    if e then (true, d)
    else if !ok p then (true, d.stdFault l 1)
    else match work p d with
      | (true, d) => (true, d.stdFault l 4)
      | (false, d) => (false, d)

/-- A standard program on a region: the lanterns in rank order, each with its rank and their number. -/
def Dev.stdRun (d : Dev) (w len : Nat) (ok : List Byte → Bool) (work : Nat → Nat → List Byte → Dev → Bool × Dev) : Dev :=
  let ls := d.grid.members (gridRegion w)
  let d := d.flushChannels ls
  let r := (List.range ls.length).foldl (fun acc k =>
    let (bad, d) := acc.2.stdLantern (ls.getD k 0) (gridPset w) len ok (work k ls.length)
    (acc.1 || bad, d)) (false, d)
  let run : GridRun := { region := gridRegion w, ctr := cueCtr w, std := true, bad := r.1 }
  { r.2 with grid := { r.2.grid with runs := r.2.grid.runs ++ [run] } }

/-- The indices below `n` that lantern rank k of g serves. -/
def served (k g n : Nat) : List Nat := (List.range n).filter (fun e => e % g == k)

/-! ### What a row's stream gives -/

/-- The stream of an emit row, its index in its verify group and the drafts of the group; a group number where it has one
(Table 9-7). -/
structure RowView where
  stream : Nat
  index : Nat
  drafts : Nat
  group : Option Nat
deriving DecidableEq, Repr

/-- Emit row view e. -/
def rowView (m : Man) (e : Nat) : RowView :=
  let b := emitView m e
  { stream := bits (field b 0 2) 0 14, index := bits (field b 2 1) 0 4, drafts := bits (field b 2 1) 4 4
    group := if field b 4 2 = 0xFFFF then none else some (field b 4 2) }

/-- A stream entry as the Grid window shows it. -/
def Dev.viewEntry (d : Dev) (s : Nat) : Entry := tabGet Entry.zero d.cast.view s

/-- Tokens a stream has generated that RECENT still holds, oldest first (R266). -/
def Entry.generated (e : Entry) : List Nat :=
  let n := min e.gen 32
  (List.range n).map (fun k => e.recent.getD ((e.rhead + 32 - n + k) % 32) 0)

/-- The sampling parameters of a row with `gen` generated before it and draw index `index` (R258). -/
def Entry.sampling (e : Entry) (s tag index : Nat) (gen : List Nat) : SampleParams :=
  { temp := e.temp, topp := e.topp, minp := e.minp, rpen := e.rpen, topk := e.topk, window := gen.drop (gen.length - e.pwin)
    seed := e.seed, stream := s, rng := e.rng, tag := tag, index := index }

/-- The end token. -/
def Entry.endToken (e : Entry) : Option Nat := if e.endEn then some e.endTok else none

/-- The tokens that stop sequences of a stream hold. -/
def Dev.stopsOf (d : Dev) (e : Entry) : List (List Nat) := if e.stops = 0 then [] else stopList d.mems.hbm e.stops 8

/-! ### SAMPLER and SPECV -/

/-- A parameter set of SAMPLER or SPECV is legal (Table 8-4, R254). -/
def samplerOk (p : List Byte) : Bool :=
  !outside (leNat p) [(0, 24), (32, 24), (64, 9), (128, 16)]

/-- Where the candidate record of emit row e lies. -/
def recordAt (p : List Byte) (e : Nat) : Nat × Nat :=
  (bits (field p 8 2) 0 9, bits (field p 0 4) 0 24 + e * bits (field p 4 4) 0 24)

/-- The reads of one row: its view, its candidate record and its stream's entry. -/
def Dev.rowReads (d : Dev) (i : Ident) (p : List Byte) (e s : Nat) : Bool × Dev :=
  untilFail [fun d => d.stdView e, fun d => d.stdTile i (recordAt p e).1 (recordAt p e).2 2064, fun d => d.stdRead .cast (256 * s) 256 true] d

/-- The candidate record of emit row e. -/
def Dev.recordOf (d : Dev) (p : List Byte) (e : Nat) : List Byte := tileBytes d.mems.tile (recordAt p e).1 (recordAt p e).2 2064

/-- SAMPLER on one row (R258, R259). -/
def Dev.sampleRow (d : Dev) (i : Ident) (p : List Byte) (e : Nat) : Bool × Dev :=
  let s := (rowView d.man e).stream
  let x := d.viewEntry s
  let rec_ := d.recordOf p e
  let c := sampleChoice (x.sampling s (field p 16 2) 0 x.generated) (readCandidates rec_).1
  let (bad, d) := untilFail [fun d => d.rowReads i p e s, fun d => d.stdStops x.stops,
    fun d => if c.isSome then d.stdAuto x.auto x.astate false else (false, d)] d
  if bad then (true, d)
  else
    let r := resultOf d.mems.hbm (d.regionEnd x.auto) x.auto x.astate rec_ x.generated (d.stopsOf x) x.endToken c
    (false, d.putResult e r.bytes)

/-- SAMPLER's work of rank k among g. -/
def Dev.sampler (i : Ident) (k g : Nat) (p : List Byte) (d : Dev) : Bool × Dev :=
  let m := d.man
  untilFail (((served k g m.emit).filter (fun e => (rowView m e).group.isNone)).map (fun e => fun d => d.sampleRow i p e)) d

/-- The emit rows of verify group u, in order. -/
def groupRows (m : Man) (u : Nat) : List Nat := (List.range m.emit).filter (fun e => (rowView m e).group == some u)

/-- The states from which a group's records step the automaton (R260), the first from state q. -/
def steppedFrom : Nat → List ResultRecord → List Nat
  | _, [] => []
  | q, r :: rs => (if r.void || r.deadEnd then [] else [q]) ++ steppedFrom r.state rs

/-- SPECV on one group (R260): row i's generated tokens take in drafts 0 to i − 1. -/
def Dev.specGroup (d : Dev) (i : Ident) (p : List Byte) (u : Nat) : Bool × Dev :=
  let rows := groupRows d.man u
  let s := (rowView d.man (rows.headD 0)).stream
  let x := d.viewEntry s
  let n := rows.length - 1
  let drafts := (List.range n).map (fun j => x.drafts.getD j 0)
  let choices := (List.range rows.length).map (fun j =>
    let rec_ := d.recordOf p (rows.getD j 0)
    (rec_, sampleChoice (x.sampling s (field p 16 2) j (x.generated ++ drafts.take j)) (readCandidates rec_).1))
  let rs := resolveGroup d.mems.hbm (d.regionEnd x.auto) x.auto (d.stopsOf x) x.endToken choices drafts x.astate x.generated true
  let reads : List (Dev → Bool × Dev) := rows.map (fun e => fun d => d.rowReads i p e s)
  let steps : List (Dev → Bool × Dev) := (steppedFrom x.astate rs).map (fun q => fun d => d.stdAuto x.auto q false)
  let (bad, d) := untilFail (reads ++ (fun (d : Dev) => d.stdStops x.stops) :: steps) d
  if bad then (true, d) else (false, (rows.zip rs).foldl (fun d r => d.putResult r.1 r.2.bytes) d)

/-- SPECV's work of rank k among g. -/
def Dev.specv (i : Ident) (k g : Nat) (p : List Byte) (d : Dev) : Bool × Dev :=
  untilFail ((served k g d.man.groups).map (fun u => fun d => d.specGroup i p u)) d

/-! ### MASKER -/

/-- A parameter set of MASKER is legal (Table 8-4, R254). -/
def maskerOk (p : List Byte) : Bool :=
  !outside (leNat p) [(0, 24), (32, 24), (80, 3), (96, 16), (112, 16)] && decide (bits (field p 10 1) 0 3 ≤ 5)

/-- The automaton state of emit row m (R257): verify row i steps drafts 0 to i − 1. -/
def Dev.maskState (d : Dev) (x : Entry) (v : RowView) : Nat :=
  (List.range v.index).foldl (fun s j => autoStep d.mems.hbm (d.regionEnd x.auto) x.auto s (x.drafts.getD j 0)) x.astate

/-- The 8F bytes of chain i for a row (R58, R257): fold f's word is bits 64f to 64f + 63, column 64(C·f + i) + j at bit j. -/
def maskBytes (chains folds i n : Nat) (allow : Nat → Bool) : List Byte :=
  (List.range (8 * folds)).map (fun b =>
    BitVec.ofNat 8 ((List.range 8).map (fun j =>
      let v := 64 * (chains * (b / 8) + i) + 8 * (b % 8) + j
      b2n (decide (v < n) && allow v) * 2 ^ j)).sum)

/-- The reads that the mask of emit row e takes: its view, its stream's entry, the records of each step over its drafts, and the bitmap of its state. -/
def Dev.maskReads (d : Dev) (e : Nat) (x : Entry) (s : Nat) (v : RowView) : Bool × Dev :=
  let steps : List (Dev → Bool × Dev) :=
    (List.range v.index).map (fun j => fun d => d.stdAuto x.auto (d.maskState x { v with index := j }) false)
  untilFail ((fun (d : Dev) => d.stdView e) :: (fun (d : Dev) => d.stdRead .cast (256 * s) 256 true) :: steps ++ [fun (d : Dev) => d.stdAuto x.auto (d.maskState x v) true]) d

/-- MASKER on chain i (R257): all rows, and 8 zero bytes to fill the last 16-byte word. -/
def Dev.maskChain (d : Dev) (id_ : Ident) (p : List Byte) (i : Nat) : Bool × Dev :=
  let man := d.man
  let s := 2 ^ bits (field p 10 1) 0 3
  let c := field p 12 2
  let f := field p 14 2
  let rows := (List.range man.emit).map (rowView man)
  let tasks : List (Dev → Bool × Dev) := (List.range rows.length).zip rows |>.map (fun v => fun d => d.maskReads v.1 (d.viewEntry v.2.stream) v.2.stream v.2)
  let (bad, d) := untilFail tasks d
  if bad then (true, d)
  else
    let bs := rows.flatMap (fun v =>
      let x := d.viewEntry v.stream
      let q := d.maskState x v
      maskBytes c f i (bits (field p 4 4) 0 24) (autoAllows d.mems.hbm (d.regionEnd x.auto) x.auto q))
    let bs := if bs.length % 16 = 0 then bs else bs ++ List.replicate 8 0
    if bs.isEmpty then (false, d) else d.stdPut id_ (s * i + s - 1) (bits (field p 0 4) 0 24) bs

/-- MASKER's work of rank k among g: its chains. -/
def Dev.masker (i : Ident) (k g : Nat) (p : List Byte) (d : Dev) : Bool × Dev :=
  untilFail ((served k g (field p 12 2)).map (fun c => fun d => d.maskChain i p c)) d

/-! ### QSTAT -/

/-- The parameter set of QSTAT (Table 8-8). -/
structure QstatOp where
  tiles : Nat
  src16 : Bool
  g : Nat
  bud : Nat
  mode : Nat
  k : Nat
  ktot : Nat
  rows : Nat
  src : Nat
  stride : Nat
  stat : Nat
  base : Nat
deriving DecidableEq, Repr

/-- Its fields; `g2` stands for ROWS = 0. -/
def qstatOp (p : List Byte) (g2 : Nat) : QstatOp :=
  let b := field p 64 1
  let rows := bits (field p 76 4) 0 17
  { tiles := field p 0 64, src16 := bitAt b 0, g := groupSize (bits b 1 2), bud := budget (bits b 3 2), mode := bits b 5 2
    k := bits (field p 68 4) 0 21, ktot := bits (field p 72 4) 0 21, rows := if rows = 0 then g2 else rows
    src := bits (field p 80 4) 0 24, stride := field p 84 4, stat := bits (field p 88 4) 0 24, base := bits (field p 92 4) 0 24 }

/-- It is legal (R254, R261): bits of unlit tiles are 0. -/
def qstatOk (tiles : Nat) (p : List Byte) : Bool :=
  let q := qstatOp p 0
  !outside (leNat p) [(0, 512), (512, 7), (544, 21), (576, 21), (608, 17), (640, 24), (672, 32), (704, 24), (736, 24)] &&
    decide (q.tiles < 2 ^ tiles) && bits (field p 64 1) 1 2 != 3 && q.mode != 3 && q.k != 0 && q.ktot != 0 && q.k % q.g == 0 &&
    q.ktot % q.g == 0 && decide (q.k ≤ q.ktot)

/-- The elements of local group j of row r in tile t, widened (R89, R261). -/
def QstatOp.group (q : QstatOp) (tm : Memory) (t r j : Nat) : List W32 :=
  (List.range q.g).map (fun e =>
    let x := q.src + r * q.stride + (j * q.g + e) * (if q.src16 then 2 else 4)
    if q.src16 then f32OfF16 (BitVec.ofNat 16 (tileNat tm t x 2)) else tileF32 tm t x)

/-- A statistics record (Table 4-1). -/
def QstatOp.record (q : QstatOp) (tm : Memory) (t r j gi step : Nat) : List Byte :=
  let (hi, lo) := statHiLo q.bud (q.mode == 2) (q.mode == 1) (q.group tm t r j)
  leBytes 4 hi.toNat ++ leBytes 4 lo.toNat ++ leBytes 1 gi ++ leBytes 1 step ++ leBytes 6 0

/-- QSTAT on row r of tile t (R261). -/
def Dev.qstatRow (d : Dev) (i : Ident) (q : QstatOp) (t r : Nat) : Bool × Dev :=
  let n := q.k * (if q.src16 then 2 else 4)
  let (bad, d) := untilFail [fun d => d.stdTile i t q.base 8, fun d => d.stdTile i t (q.src + r * q.stride) n] d
  if bad then (true, d)
  else
    let tm := d.mems.tile
    let gi := (tileNat tm t q.base 4 + r) * (q.ktot / q.g) + tileNat tm t (q.base + 4) 4
    let step := (d.reg Reg.stgStepSeq).toNat
    untilFail ((List.range (q.k / q.g)).map (fun j => fun d =>
      d.stdPut i t (q.stat + 16 * (gi + j)) (q.record tm t r j (gi + j) step))) d

/-- QSTAT's work of rank k among g: its (tile, row) pairs, tile-major. -/
def Dev.qstat (i : Ident) (g2 k g : Nat) (p : List Byte) (d : Dev) : Bool × Dev :=
  let q := qstatOp p g2
  let ts := setBits 512 q.tiles
  untilFail ((served k g (ts.length * q.rows)).map (fun o => fun d =>
    d.qstatRow i q (ts.getD (o / q.rows) 0) (o % q.rows))) d

/-! ### The start of each program (R247) -/

/-- The row count that a GRID START passes (R179); MSEL 0 names a static count that a GRID cue does not have: a free value. -/
def Dev.gridRows (d : Dev) (w : Nat) : Nat × Dev :=
  if gridMsel w = 0 then
    let (x, d) := d.takeFree
    (x.toNat, d)
  else (d.rowCount (gridMsel w) 0, d)

/-- GRID START of a standard program: its effect whole. -/
def Dev.gridStandard (d : Dev) (i : Ident) (w : Nat) : Dev :=
  let (g2, d) := d.gridRows w
  match gridProg w with
  | 1 => d.stdRun w 64 samplerOk (Dev.sampler i)
  | 2 => d.stdRun w 64 maskerOk (Dev.masker i)
  | 3 => d.stdRun w 128 (qstatOk i.tiles) (Dev.qstat i g2)
  | 4 => d.stdRun w 64 samplerOk (Dev.specv i)
  | _ => d

/-- A lantern as a GRID START of an image program sets it (R247, R253). -/
def startLantern (rank n rows pset l seq : Nat) (g : GridProg) : Lantern :=
  let r := fun (x : Lantern) (k v : Nat) => x.setG k (BitVec.ofNat 32 v)
  let x : Lantern := { g := [], v := [], pc := BitVec.ofNat 11 g.lo, running := true, lo := g.lo, hi := g.hi, bad := false, owed := 0 }
  r (r (r (r (r (r x 0 rank) 1 n) 2 rows) 3 (16 * pset)) 4 l) 5 seq

/-- GRID START of an image program. -/
def Dev.gridImage (d : Dev) (w : Nat) (g : GridProg) : Dev :=
  let (g2, d) := d.gridRows w
  let ls := d.grid.members (gridRegion w)
  let d := d.flushChannels ls
  let seq := (d.reg Reg.stgStepSeq).toNat
  let d := (List.range ls.length).foldl (fun d k =>
    let l := ls.getD k 0
    d.setLantern l (startLantern k ls.length g2 (gridPset w) l seq g)) d
  let run : GridRun := { region := gridRegion w, ctr := cueCtr w, std := false, bad := false }
  { d with grid := { d.grid with runs := d.grid.runs ++ [run] } }

end Sys2Proof.Machine
end

