-- ==== Sys2Proof/Machine/Sha.lean ====
section
/-! DEFINITION. SHA-384 as FIPS 180-4 defines it: the digest of images and boot components (R216, R526). The round constants are
the fractions of the roots of the first primes, as that standard defines them. -/
namespace Sys2Proof.Machine

/-- ⌊n^(1/k)⌋, found bit by bit from bit b − 1 down, starting at r. -/
def rootBits (k n : Nat) : Nat → Nat → Nat
  | 0, r => r
  | b + 1, r => rootBits k n b (if (r + 2 ^ b) ^ k ≤ n then r + 2 ^ b else r)

/-- The first 64 bits of the fraction of p^(1/k). -/
def rootFraction (k p : Nat) : W64 := BitVec.ofNat 64 (rootBits k (p * 2 ^ (64 * k)) 70 0)

/-- `p` has no divisor among `ds`. -/
def indivisible (p : Nat) (ds : List Nat) : Bool := ds.all (fun q => p % q != 0)

/-- The primes found so far followed by those among the next `n` numbers from `p`. -/
def primesFrom : Nat → Nat → List Nat → List Nat
  | 0, _, ps => ps
  | n + 1, p, ps => primesFrom n (p + 1) (if indivisible p ps then ps ++ [p] else ps)

/-- The first 80 primes. -/
def firstPrimes : List Nat := primesFrom 408 2 []

/-- The 80 round constants. -/
def shaK : List W64 := firstPrimes.map (rootFraction 3)

/-- The initial hash value of SHA-384: the square roots of the 9th to 16th primes. -/
def shaInit : List W64 := ((firstPrimes.drop 8).take 8).map (rootFraction 2)

/-- The 8 big-endian bytes of a 64-bit word. -/
def beBytes8 (w : W64) : List Byte := (leBytes 8 w.toNat).reverse

/-- The 64-bit words whose big-endian bytes are given, at most `n`. -/
def beWords : Nat → List Byte → List W64
  | 0, _ => []
  | n + 1, bs => BitVec.ofNat 64 (leNat (bs.take 8).reverse) :: beWords n (bs.drop 8)

/-- The message padded to a multiple of 128 bytes: 0x80, zeros, the length in bits in 16 bytes. -/
def shaPad (m : List Byte) : List Byte :=
  let z := (111 + 128 - m.length % 128) % 128
  m ++ [0x80] ++ List.replicate z 0 ++ (leBytes 16 (8 * m.length)).reverse

/-- σ0 of the message schedule. -/
def shaSmall0 (x : W64) : W64 := x.rotateRight 1 ^^^ x.rotateRight 8 ^^^ (x >>> 7)
/-- σ1 of the message schedule. -/
def shaSmall1 (x : W64) : W64 := x.rotateRight 19 ^^^ x.rotateRight 61 ^^^ (x >>> 6)
/-- Σ0 of a round. -/
def shaBig0 (x : W64) : W64 := x.rotateRight 28 ^^^ x.rotateRight 34 ^^^ x.rotateRight 39
/-- Σ1 of a round. -/
def shaBig1 (x : W64) : W64 := x.rotateRight 14 ^^^ x.rotateRight 18 ^^^ x.rotateRight 41

/-- The rounds, with a window of the next 16 schedule words and the constants still to use. -/
def shaRounds : List W64 → List W64 → List W64 → List W64
  | k :: ks, w :: ws, [a, b, c, d, e, f, g, h] =>
    let t1 := h + shaBig1 e + ((e &&& f) ^^^ (~~~e &&& g)) + k + w
    let t2 := shaBig0 a + ((a &&& b) ^^^ (a &&& c) ^^^ (b &&& c))
    let next := shaSmall1 (ws.getD 13 0) + ws.getD 8 0 + shaSmall0 (ws.getD 0 0) + w
    shaRounds ks (ws ++ [next]) [t1 + t2, a, b, c, d + t1, e, f, g]
  | _, _, h => h

/-- The hash value after `n` blocks. -/
def shaBlocks (ks : List W64) : Nat → List Byte → List W64 → List W64
  | 0, _, h => h
  | n + 1, bs, h =>
    shaBlocks ks n (bs.drop 128) (List.zipWith (· + ·) h (shaRounds ks (beWords 16 (bs.take 128)) h))

/-- The SHA-384 digest, 48 bytes. -/
def sha384 (m : List Byte) : List Byte :=
  let p := shaPad m
  ((shaBlocks shaK (p.length / 128) p shaInit).take 6).flatMap beBytes8

end Sys2Proof.Machine
end

