-- ==== Sys2Proof/Machine/Image.lean ====
section
/-! DEFINITION. Program images: the header, sections and relocations (R212 to R214), the checks of Table 6-9 (R215, R225, R253),
loading (R216, R269, R304, R309) and unloading (R304).
Versions: R8; PEAK_DRAW: R207; configuration items: R211. -/
namespace Sys2Proof.Machine

/-! ### The parts of an image -/

/-- A section (Table 6-6). -/
structure Section where
  type : Nat
  id : Nat
  dest : Nat
  size : Nat
  offset : Nat
  reserved : Bool
deriving DecidableEq, Repr

/-- A relocation entry (Table 6-8). -/
structure Reloc where
  ca : Nat
  type : Nat
  lo : Nat
  width : Nat
  arg : Int
  reserved : Bool
deriving DecidableEq, Repr

/-- An image: its bytes with the header's counts. -/
structure Image where
  bytes : List Byte
  sections : List Section
  relocs : List Reloc
deriving DecidableEq, Repr

/-- Section entry k (R213). -/
def sectionAt (b : List Byte) (k : Nat) : Section :=
  let e := (b.drop (64 + 32 * k)).take 32
  { type := field e 0 1, id := field e 2 2, dest := field e 8 8, size := field e 16 8, offset := field e 24 8
    reserved := field e 1 1 != 0 || field e 4 4 != 0 }

/-- Relocation entry k behind a table of `n` sections (R214). -/
def relocAt (b : List Byte) (n k : Nat) : Reloc :=
  let e := (b.drop (64 + 32 * n + 16 * k)).take 16
  { ca := bits (field e 0 4) 0 22, type := field e 4 1, lo := field e 5 1, width := field e 6 1, arg := sext 64 (field e 8 8)
    reserved := bits (field e 0 4) 22 10 != 0 || field e 7 1 != 0 }

/-- An image read from its bytes: entries that lie past its end are not read. -/
def imageOf (b : List Byte) : Image :=
  let n := min (field b 24 2) (b.length / 32)
  { bytes := b, sections := (List.range n).map (sectionAt b)
    relocs := (List.range (min (field b 28 4) (b.length / 16))).map (relocAt b (field b 24 2)) }

/-- HBM_SIZE. -/
def Image.hbmSize (x : Image) : Nat := field x.bytes 32 8
/-- TWIN_SIZE. -/
def Image.twinSize (x : Image) : Nat := field x.bytes 40 8
/-- FLAGS.TWIN. -/
def Image.twin (x : Image) : Bool := bitAt (field x.bytes 12 1) 0
/-- PEAK_DRAW. -/
def Image.peakDraw (x : Image) : Nat := field x.bytes 9 1
/-- DEVICES. -/
def Image.devices (x : Image) : Nat := field x.bytes 10 2
/-- The bytes of a section. -/
def Image.data (x : Image) (s : Section) : List Byte := (x.bytes.drop s.offset).take s.size
/-- The sections of a type. -/
def Image.ofType (x : Image) (t : Nat) : List Section := x.sections.filter (fun s => s.type == t)
/-- K: the highest configuration loaded (R224). -/
def Image.maxConfig (x : Image) : Nat := ((x.ofType 6).map Section.id).foldl max 0

/-! ### Route configurations (R222 to R225) -/

/-- A route word holds only permitted selectors (Table 7-3). -/
def routeWordOk (w : Nat) : Bool :=
  let sel := fun o => bits w (3 * o) 3
  (List.range 5).all (fun o => decide (sel o ≤ 5) && sel o != o + 1) && !bitAt w 15

/-- A record's selectors and reserved fields (R223). -/
def recordOk (b : List Byte) : Bool :=
  (List.range 32).all (fun k => routeWordOk (field b (2 * k) 2)) && bits (field b 64 1) 4 4 == 0 && field b 65 15 == 0

/-- A word on input `p` of crosspoint x in `slot` would go on past `n` more hops (R225): a cyclic circuit does. -/
def Grid.tooLong (g : Grid) (ctl : Bool) : Nat → Nat → Nat → Nat → Bool
  | 0, x, p, slot => (List.range 5).any (fun o => bits (g.routeWord ctl x slot) (3 * o) 3 == p)
  | n + 1, x, p, slot =>
    (List.range 4).any (fun o =>
      bits (g.routeWord ctl x slot) (3 * o) 3 == p &&
        (match neighbour x o with
         | .inl _ => false
         | .inr (y, q) => Grid.tooLong g ctl n y q (slot + 1)))

/-- The circuits of one injection point and slot: neither is too long, both reach the same units, within 4 cycles (R225). -/
def Grid.circuitOk (g : Grid) (u slot : Nat) : Bool :=
  let (x, p) := injectAt u
  if g.tooLong true 64 x p slot || g.tooLong false 64 x p slot then false
  else
    let c := g.reached true u slot
    let w := g.reached false u slot
    let near := fun (a b : Nat × Nat) => a.1 == b.1 && decide (a.2 ≤ b.2 + 4) && decide (b.2 ≤ a.2 + 4)
    c.all (fun a => (w.any (fun b => a.1 == b.1)) && w.all (fun b => a.1 != b.1 || near a b)) &&
      w.all (fun b => c.any (fun a => a.1 == b.1))

/-- The records of a GRID_ROUTES section, keyed as the Grid holds them. -/
def routeRecords (b : List Byte) : Memory := memPuts [] 0 (padTo 20480 b)

/-- A route configuration is accepted (R225). -/
def routesOk (b : List Byte) : Bool :=
  let g := { Grid.reset with records := routeRecords b }
  (List.range 256).all (fun l => recordOk ((b.drop (80 * l)).take 80)) &&
    (List.range 320).all (fun u => (List.range 16).all (fun s => g.circuitOk u s))

/-! ### The section table -/

/-- The destination space of a section: sections of one space must not overlap. -/
def Section.space (s : Section) : Nat :=
  if s.type = 3 then 2 else if s.type = 6 then 256 + s.id else s.type

/-- Table 6-7 for one section. -/
def Section.ok (x : Image) (s : Section) : Bool :=
  let fits := fun n => decide (s.dest + s.size ≤ n)
  let plain := s.id == 0
  !s.reserved && (s.type == 3 || decide (s.offset + s.size ≤ x.bytes.length)) &&
    (match s.type with
     | 1 => plain && s.dest % 16 == 0 && s.size % 16 == 0 && fits (4 * 2 ^ 20)
     | 2 => plain && fits x.hbmSize
     | 3 => plain && fits x.hbmSize && s.offset == 0
     | 4 => plain && fits x.twinSize && x.twin
     | 5 => decide (0x40 ≤ s.id) && decide (s.id ≤ 0xFF) && fits 8192 && s.dest % 4 == 0 && s.size % 4 == 0
     | 6 => decide (s.id ≤ 255) && s.dest == 0 && s.size == 20480 && routesOk (x.data s)
     | 7 => plain && fits (2 ^ 24)
     | 8 => plain && s.dest == 0 && s.size == 2048
     | 9 => plain && s.dest == 0 && s.size == 2048
     | 10 => plain && s.dest == 0 && s.size == 32
     | _ => false)

/-- Sections of one space that overlap, or a type or Grid program code given twice. -/
def clash (s t : Section) : Bool :=
  s.space == t.space && (overlap (s.dest, s.size) (t.dest, t.size) || decide (8 ≤ s.type) || (s.type == 5 && s.id == t.id))

/-- No two sections clash. -/
def noClash : List Section → Bool
  | [] => true
  | s :: t => t.all (fun u => !clash s u) && noClash t

/-- A GRID_DATA section reaches into a route area (R225). -/
def hitsRoutes (k : Nat) (s : Section) : Bool :=
  s.type == 7 && (List.range 256).any (fun l => overlap (s.dest, s.size) (l * 65536 + (65536 - 80 * (k + 1)), 80 * (k + 1)))

/-- The section table passes (Table 6-9, reason 0x07). -/
def Image.sectionsOk (x : Image) : Bool :=
  let n := field x.bytes 24 2
  decide (1 ≤ n) && decide (n ≤ 1024) && decide (64 + 32 * n ≤ x.bytes.length) && x.sections.all (Section.ok x) &&
    noClash x.sections && x.sections.all (fun s => !hitsRoutes x.maxConfig s)

/-- A span of the cue store lies inside one CUES section. -/
def Image.inCues (x : Image) (a n : Nat) : Bool := (x.ofType 1).any (fun s => decide (s.dest ≤ a) && decide (a + n ≤ s.dest + s.size))

/-- The bytes of the one section of a type, where there is one. -/
def Image.only (x : Image) (t : Nat) : Option (List Byte) := ((x.ofType t).head?).map x.data

/-- A phase-table entry passes (Table 6-3). -/
def phaseEntryOk (e : List Byte) : Bool :=
  decide (field e 0 1 ≤ 1) && decide (field e 1 1 ≤ 7) && field e 1 1 != 6 && decide (field e 2 1 ≤ 100) && field e 3 5 == 0

/-- A slot entry passes (Table 6-7, reason 0x0A). -/
def slotEntryOk (e : List Byte) : Bool :=
  let c := field e 0 4
  !outside c [(0, 4), (8, 16)] && decide (field e 4 1 ≤ 3) && field e 5 3 == 0 && decide (field e 4 1 ≤ bits c 2 2)

/-- Every entry of 8 bytes of an optional section passes. -/
def entriesOk (b : Option (List Byte)) (ok : List Byte → Bool) : Bool :=
  match b with
  | none => true
  | some b => (List.range 256).all (fun k => ok ((b.drop (8 * k)).take 8))

/-! ### Relocations -/

/-- A relocation entry passes (Table 6-8). -/
def Reloc.ok (x : Image) (r : Reloc) : Bool :=
  !r.reserved && r.ca % 8 == 0 && x.inCues r.ca 8 && decide (1 ≤ r.type) && decide (r.type ≤ 4) && decide (r.lo ≤ 63) &&
    decide (1 ≤ r.width) && decide (r.width ≤ 64) && decide (r.lo + r.width ≤ 64)

/-- One relocation (R214): none where the value leaves its field. -/
def Reloc.apply (r : Reloc) (base tbase idx dev : Nat) (m : Memory) : Option Memory :=
  let w := leNat (memBytes m r.ca 8)
  let f : Int := bits w r.lo r.width
  let v : Int :=
    if r.type = 1 then f + base + r.arg
    else if r.type = 2 then f + tbase + r.arg
    else if r.type = 3 then f + idx * r.arg
    else ((idx : Int) + r.arg) % dev
  if v < 0 ∨ (2 ^ r.width : Nat) ≤ v then none
  else some (memPuts m r.ca (leBytes 8 (putBits w r.lo r.width v.toNat)))

/-- The cue store as the CUES sections give it. -/
def Image.cues (x : Image) : Memory := (x.ofType 1).foldl (fun m s => memPuts m s.dest (x.data s)) []

/-- The patched cue store (R214, R216): none where a relocation leaves its range. -/
def Dev.patched (d : Dev) (x : Image) : Option Memory :=
  x.relocs.foldl (fun m r => m.bind (r.apply hbmProg (twinStart x.hbmSize) d.index x.devices)) (some x.cues)

/-! ### The checks of Table 6-9 -/

/-- The reserved header fields are 0 (Table 6-5). -/
def headerReservedOk (b : List Byte) : Bool :=
  bits (field b 12 1) 2 6 == 0 && field b 13 1 == 0 && bits (field b 16 4) 18 14 == 0 && bits (field b 20 4) 18 14 == 0 &&
    field b 26 2 == 0 && field b 56 8 == 0

/-- The checks in order, each with whether it passes; `supplied` is the byte count of the command. -/
def Dev.loadChecks (d : Dev) (i : Ident) (x : Image) (supplied : Nat) : List Bool :=
  let b := x.bytes
  let entry := fun o => x.inCues (16 * bits (field b o 4) 0 18) 16
  let index := field b 14 2
  let n := field b 28 4
  [ field b 0 4 == 0x47505952 && field b 4 2 == 4 && field b 48 8 == supplied && decide (64 ≤ b.length),
    field b 6 1 == 0 && field b 7 1 == 3,
    field b 8 1 == i.grade.toNat,
    x.devices == (if d.joined then d.devices else 1) && (index == 0xFFFF || index == d.index),
    decide (8 ≤ x.peakDraw) && decide (x.peakDraw ≤ 100) && decide (x.peakDraw ≤ d.fld Reg.dimCap 6 0),
    x.hbmSize % 4096 == 0 && x.twinSize % 4096 == 0 && decide (hbmProg + x.hbmSize ≤ hbmEnd) &&
      decide (twinStart x.hbmSize + x.twinSize ≤ hbmEnd) && (x.twin || x.twinSize == 0) &&
      (!x.twin || d.bit Reg.usyCtrl 0) && headerReservedOk b,
    x.sectionsOk,
    entry 16 && entry 20,
    entriesOk (x.only 8) phaseEntryOk,
    entriesOk (x.only 9) slotEntryOk,
    decide (n ≤ 1048576) && decide (64 + 32 * field b 24 2 + 16 * n ≤ b.length) && x.relocs.all (Reloc.ok x),
    (d.patched x).isSome ]

/-- The reason of Table 6-9: the first check that fails, 0 where none does. -/
def Dev.loadReason (d : Dev) (i : Ident) (x : Image) (supplied : Nat) : Nat :=
  let cs := d.loadChecks i x supplied
  let ok := (cs.takeWhile id).length
  if ok = cs.length then 0 else ok + 1

/-! ### Loading (R216) -/

/-- Step 1: the Prompter halts, without a fault; what is formed ahead of the running step is discarded with its streams. -/
def Dev.stopProgram (d : Dev) : Dev :=
  let d := d.haltPrompter.flushTransfers
  if d.inTwin then d.swapContext else d

/-- Every stream ends (R304), and a RESTORE whose replay the load cuts short completes, REPLAYING being clear (R345). -/
def Dev.endProgram (d : Dev) : Dev :=
  let of := fun (c : Cast) => match c.replay with | some r => r.cmds | none => []
  let cmds := of d.cast ++ (match d.usy.twin with | some c => of c.cast | none => [])
  let resuming := d.cast.resuming
  let k := (d.reg Reg.cstCkptSeq).toNat
  let d := d.endAll.clrBit Reg.cstStatus 3
  let d := { d with cast := { d.cast with resuming := resuming } }
  cmds.foldl (fun d c => d.completeWith c .success 0 k 0 0) d

/-- The pair is no longer armed, and there is one context (R457, R477); a load leaves FENCED (R470). -/
def Dev.unpair (d : Dev) (loaded : Bool) : Dev :=
  let fenced := d.fld Reg.usyStatus 2 0 == 4 && !loaded
  let d := ((d.setFld Reg.usyStatus 9 7 0).setFld Reg.usyStatus 2 0 (if fenced then 4 else 6)).setReg Reg.usyLogBacklog 0
  { d with usy := { d.usy with
      loaded := loaded, tried := false, waited := false, twin := none, draining := none, request := none, restored := false
      errors := [], logq := [], suppress := 0 } }

/-- Commits that waited for an acknowledgement are delivered before the pairing ends. -/
def Dev.settleCommits (d : Dev) : Dev :=
  let es := d.usy.commits.flatMap (fun c => c.entries)
  ({ d with usy := { d.usy with commits := [] } }).deliver es

/-- Step 3: sections of HBM. -/
def Dev.loadHbm (d : Dev) (x : Image) : Dev :=
  x.sections.foldl (fun d s =>
    if s.type = 2 then (d.store .hbm (hbmProg + s.dest) (x.data s)).2
    else if s.type = 3 then d.hbmZero (hbmProg + s.dest) s.size
    else if s.type = 4 then (d.store .hbm (twinStart x.hbmSize + s.dest) (x.data s)).2
    else d) d

/-- Step 4: programs into every lantern, route records, data (R224). -/
def Dev.loadGrid (d : Dev) (x : Image) : Dev :=
  let k := x.maxConfig
  let d := (x.ofType 5).foldl (fun d s => (List.range 256).foldl (fun d l => (d.store .lins (l * 8192 + s.dest) (x.data s)).2) d) d
  let d := (x.ofType 7).foldl (fun d s => (d.store .ldata s.dest (x.data s)).2) d
  let d := (List.range (k + 1)).foldl (fun d c =>
    let rs := match (x.ofType 6).find? (fun s => s.id == c) with
      | some s => x.data s
      | none => []
    (List.range 256).foldl (fun d l =>
      (d.store .ldata (l * 65536 + (65536 - 80 * (c + 1))) (padTo 80 (rs.drop (80 * l)))).2) d) d
  let progs := (x.ofType 5).map (fun s => ({ code := s.id, lo := s.dest / 4, hi := (s.dest + s.size) / 4 } : GridProg))
  { d.setFld Reg.lgrRoutes 7 0 k with grid := { d.grid with progs := progs } }

/-- A phase-table entry as the registers show it (R209, R446, R449): SLACK 0, PACED_OP OP0. -/
def Dev.loadPhase (d : Dev) (p valid pref demand : Nat) : Dev :=
  (d.setReg (Reg.dimPhaseA p) (BitVec.ofNat 32 ((if p = 0 then 1 else valid) + pref * 2 + 16 * demand * 256))).setReg (Reg.dimPhaseB p) 0

/-- Step 5: phases and the power floor (R443), slots (R124) and seeds (R201). -/
def Dev.loadTables (d : Dev) (x : Image) : Dev :=
  let d := { d.setFld Reg.dimStatus 8 6 0 with dim := { d.dim with atMax := 0, atZero := 0 } }
  let d := (List.range 256).foldl (fun d p => match x.only 8 with
    | some b => d.loadPhase p (field b (8 * p) 1) (field b (8 * p + 1) 1) (field b (8 * p + 2) 1)
    | none => d.loadPhase p 0 7 0) d
  let d := (List.range 256).foldl (fun d n => match x.only 9 with
    | some b => (d.setReg (Reg.qstCfg n) (BitVec.ofNat 32 (field b (8 * n) 4))).setSlot n { d.slot n with h := field b (8 * n + 4) 1, run := 0 }
    | none => (d.setReg (Reg.qstCfg n) (regReset (Reg.qstCfg n))).setSlot n { d.slot n with h := 0, run := 0 }) d
  (List.range 4).foldl (fun d n => d.setReg64 (Reg.stgSeed n) (match x.only 10 with | some b => field b (8 * n) 8 | none => 0)) d

/-- The registers that report the image (R217, R311). -/
def Dev.loadRegs (d : Dev) (x : Image) : Dev :=
  let t := twinStart x.hbmSize
  let d := (((d.setReg64 Reg.stgImgBase hbmProg).setReg64 Reg.stgImgTwin t).setReg64 Reg.memProgBase hbmProg).setReg64 Reg.memTwinBase t
  (d.setReg Reg.stgImgInfo (BitVec.ofNat 32 (x.devices % 16384 + x.peakDraw * 2 ^ 16 + bits (field x.bytes 12 1) 0 2 * 2 ^ 23))).setReg
    Reg.stgImgLoad 0x100

/-- No checkpoint, journal or log of an earlier pairing stands in the mirror of a combined image (R461, notes/assumptions/17.md). -/
def Dev.emptyMirror (d : Dev) : Dev :=
  let v := d.mirrorView
  if (readGeometry v.descBytes d.mems.twinSize).isNone then d
  else
    [(v.ckptBuffer 0, 16), (v.ckptBuffer 1, 16), (v.undoAddr 0, 8), (v.logAddr 0, 8)].foldl
      (fun d a => (d.store .hbm a.1 (List.replicate a.2 0)).2) d

/-- Step 7: the Cast Table descriptor (R269, R270), empty tables, and the first checkpoint. -/
def Dev.loadCast (d : Dev) (x : Image) : Dev :=
  match readGeometry (memBytes d.mems.hbm hbmProg 64) x.hbmSize with
  | some g =>
    let d := { d.clrBit Reg.cstStatus 0 with cast := { d.cast with geom := some g } }
    let d := if x.twin then d.emptyMirror else d
    d.emptyTables.firstCheckpoint
  | none => ({ d with cast := { d.cast with geom := none } }).flagRaise Reg.cstStatus 0 119

/-- An accepted image is loaded (R216). The pairing ends first: what a load writes is not shipped (R462). -/
def Dev.loadImage (d : Dev) (x : Image) (cue : Memory) : Dev :=
  let d := ((d.settleCommits.stopProgram.clrBit Reg.usyStatus 7).endProgram).unpair true
  let d := { d with mems := { d.mems with
      cue := cue, copyCue := cue, errors := d.mems.errors.filter (fun e => e.1 != MemCode.cue), progSize := x.hbmSize, twinSize := x.twinSize } }
  let d := ((d.loadHbm x).loadGrid x).loadTables x
  let d := { d with mems := { d.mems with copyLins := d.mems.lins, copyData := d.mems.ldata } }
  let d := ((d.setReg Reg.stgStepSeq 0).setReg Reg.stgOptStep 0).loadRegs x
  let d := (d.setReg Reg.stgEntryInit (BitVec.ofNat 32 (field x.bytes 16 4))).setReg Reg.stgEntryStep (BitVec.ofNat 32 (field x.bytes 20 4))
  let d := d.loadCast x
  let d := { d with hif := { d.hif with programHash := sha384 x.bytes } }
  let d := { d with prompter := { d.prompter with peak := 0 }, cast := { d.cast with nextSeq := 0, committed := 0 } }
  d.restart

/-- LOAD_PROGRAM's checks and, where they pass, its loading: the reason and the state after (R215, R217). -/
def Dev.tryLoad (d : Dev) (i : Ident) (bytes : List Byte) (supplied : Nat) : Nat × Dev :=
  let x := imageOf bytes
  let r := d.loadReason i x supplied
  match r, d.patched x with
  | 0, some cue => (0, d.loadImage x cue)
  | _, _ => (r, d.setFld Reg.stgImgLoad 7 0 r)

/-- UNLOAD_PROGRAM (R304, Table 11-6): streams end, the Prompter halts, LOADED clears. -/
def Dev.unloadImage (d : Dev) : Dev :=
  let d := (d.settleCommits.stopProgram.endProgram).unpair false
  let d := { d with cast := { d.cast with geom := none } }
  d.clrBit Reg.stgImgLoad 8

/-! ### When a load takes effect -/

/-- A step is in progress (R353): one whose manifest wait still has no manifest is not, nor is the init section. -/
def Dev.stepRuns (d : Dev) : Bool :=
  (d.prompter.run == .step || d.prompter.run == .curtain || (d.twoContexts && d.prompter.run == .init)) &&
    (d.stepFormed || !(match d.prompter.wait with | some w => w.ctr == 120 | none => false))

/-- No formation will take a stream command (R343). -/
def Dev.noProgram (d : Dev) : Bool := !d.loaded || d.cast.geom.isNone

/-- LOAD_PROGRAM takes effect (R215, R216, Table 11-8). -/
def Dev.doLoad (d : Dev) (i : Ident) (c : Command) : Dev :=
  let n := subOp c.sub 16 8
  if !c.buf.ok || c.buf.bytes.length != n then d.complete c.sub .dmaError
  else
    let (r, d) := d.tryLoad i c.buf.bytes n
    if r = 0 then (d.completeWith c.sub .success 0 hbmProg 0 0).leaveCurtain else d.completeWith c.sub .refused r 0 0 0

/-- UNLOAD_PROGRAM takes effect. -/
def Dev.doUnload (d : Dev) (c : Command) : Dev := ((d.unloadImage).complete c.sub .success).leaveCurtain

/-- Every command that waits for a formation or a commit ends: there is no program (R343). -/
def Dev.dropWaiting (d : Dev) : Dev :=
  let cs := (d.hif.cmds.takeWhile (fun c => !isLoadCmd c.sub)).map Command.sub
  let k := d.cast
  let all := cs ++ k.jobs.map Job.cmd ++ k.ckptReq
  let d := { d with hif := { d.hif with cmds := d.hif.cmds.dropWhile (fun c => !isLoadCmd c.sub) }
                    cast := { k with jobs := [], ckptReq := [] } }
  d.completeAll all .noProgram

/-- The next LOAD_PROGRAM or UNLOAD_PROGRAM that waits takes effect, after the commands accepted before it (Table 11-10); `between`: a
step has just committed, and the next has begun nothing (R343). -/
def Dev.settleOne (d : Dev) (i : Ident) (between : Bool) : Dev :=
  if d.halting || (d.stepRuns && !between) || !(d.hif.cmds.any (fun c => isLoadCmd c.sub)) then d
  else
    let d := if d.noProgram then d.dropWaiting else d.dropAhead.takeCommands
    let held := d.hif.cmds.takeWhile (fun c => !isLoadCmd c.sub)
    match d.hif.cmds.dropWhile (fun c => !isLoadCmd c.sub) with
    | c :: rest =>
      let d := { d with hif := { d.hif with cmds := held ++ rest } }
      if c.sub.opcode.toNat = 0x01 then d.doLoad i c else d.doUnload c
    | [] => d

/-- Loads that wait take effect once no step is in progress (R353); without a program nothing waits for a formation (R343). -/
def Dev.settleAt (d : Dev) (i : Ident) (between : Bool) : Dev :=
  let d := (List.range d.hif.cmds.length).foldl (fun d _ => d.settleOne i between) d
  if !d.halting && !d.curtainDown && d.noProgram && !d.stepRuns then d.dropWaiting else d

/-- The same at any moment of a step. -/
def Dev.settle (d : Dev) (i : Ident) : Dev := d.settleAt i false
/-- The same as a step has committed (R343). -/
def Dev.settleCommit (d : Dev) (i : Ident) : Dev := d.settleAt i true

end Sys2Proof.Machine
end

