-- ==== Sys2Proof/Machine/Collect.lean ====
section
/-! DEFINITION. Collectives (R176, R177, R390, R391): what a RED contributes, sends, combines and writes, and BARRIER. The algorithm
and the contents of a piece are the NZ8's choice (R390): here every member sends its buffer to every other. -/
namespace Sys2Proof.Machine

/-! ### Contributions -/

/-- Bytes that one selected tile gives: 8 for an accumulator element, 16 for a slot. -/
def RedOp.tileBytes (r : RedOp) (rows : Nat) : Nat :=
  rows * r.elems * (if r.op ≤ 1 then 8 else if r.op = 2 ∨ r.op = 3 then 4 else 1)

/-- Bytes of the whole buffer of one rank; none where the selected row count is 0 (R160). -/
def RedOp.bytes (r : RedOp) (rows : Nat) : Nat :=
  if rows = 0 then 0
  else if r.op = 4 then 16 * (r.last + 1 - r.first) else (setBits 512 r.tiles).length * r.tileBytes rows

/-- A malformed side list in a RED: what its elements then contribute is not stated, and is free. -/
def freeElems (free g t k : Nat) : List Int :=
  (List.range g).map (fun e => sext 64 (leNat ((List.range 8).map (fun b => Config.workByte free t (8 * (k * g + e) + b)))))

/-- The accumulator values of one N8 group, and its clamps (R136). -/
def redGroup (free : Nat) (tm : Memory) (r : RedOp) (t k : Nat) : List Int × Nat :=
  let g := groupSize r.gcode
  let b := budget r.bud
  let sides := (List.range b).map (fun e => tileNat tm t (r.side + 4 * (b * k + e)) 4)
  let ee := sext 8 (tileNat tm t (r.scale + 4 * k) 1)
  match readGroup true g (tileBytes tm t (r.src + g * k) g) sides with
  | none => (freeElems free g t k, 0)
  | some es =>
    let vs := es.map (fun e => match e with
      | (_, some v) => toAcc (sigOf v) (xpOf v)
      | (q, none) => toAcc q ee)
    (vs.map Prod.fst, (vs.map Prod.snd).sum)

/-- What one tile gives, and clamps. -/
def redTile (free : Nat) (tm : Memory) (r : RedOp) (rows t : Nat) : List Byte × Nat :=
  let n := rows * r.elems
  if r.op = 1 then
    let gs := (List.range (ceilDiv n (groupSize r.gcode))).map (redGroup free tm r t)
    (((gs.flatMap Prod.fst).take n).flatMap (fun v => leBytes 8 (trunc 64 v)), (gs.map Prod.snd).sum)
  else (tileBytes tm t r.src (r.tileBytes rows), 0)

/-- The counts of a slot as they are reduced (R120). -/
def Slot.counts (s : Slot) : List Byte := leBytes 6 s.curClip ++ leBytes 6 s.curCount ++ leBytes 4 s.curMax.toNat

/-- The spans of tile store that a RED reads, as far as the store goes: R558 bounds Stage cues alone, and a row count of the manifest
may take a RED past it (notes/assumptions/97.md). -/
def RedOp.reads (r : RedOp) (rows : Nat) : List (Nat × Nat) :=
  if r.op = 4 then [] else
    let e := rows * r.elems
    ((r.src, e * (redElemBytes r.op).1) ::
      (if r.op = 1 then [(r.scale, 4 * ceilDiv e (groupSize r.gcode)), (r.side, 4 * budget r.bud * ceilDiv e (groupSize r.gcode))] else [])).map
      (fun s => (s.1, min s.2 (2 ^ 24 - s.1)))

/-- This device's buffer, whether an uncorrectable error was met (Table 10-5: the bytes of its words are then free), and clamps
counted (R136). -/
def Dev.redBuffer (d : Dev) (r : RedOp) (rows : Nat) : List Byte × Bool × Dev :=
  if rows = 0 then ([], false, d)
  else if r.op = 4 then
    ((List.range (r.last + 1 - r.first)).flatMap (fun k => (d.slot (r.first + k)).counts), false, d)
  else
    let ts := setBits 512 r.tiles
    let (bad, d) := ts.foldl (fun acc t => (r.reads rows).foldl (fun acc s =>
      let (e, d) := acc.2.readErrors .tile (tileKey t s.1) s.2
      (acc.1 || e, d)) acc) (false, d)
    let tm := if !bad then d.mems.tile
      else d.mems.errors.foldl (fun m e => if e.1 == .tile then
        memPuts m (8 * e.2) ((List.range 8).map (fun b => Config.workByte d.free 0 (8 * e.2 + b))) else m) d.mems.tile
    let parts := ts.map (redTile d.free tm r rows)
    let n := (parts.map Prod.snd).sum
    let d := { d with free := d.free + 1 }
    let d := if n = 0 then d else (d.wideAdd Reg.stgSatCount n).setBit Reg.stgStatus 8
    (parts.flatMap Prod.fst, bad, d)

/-! ### Frames -/

/-- A COLLECTIVE payload (R390). -/
def collPayload (group op rank cseq off : Nat) (bs : List Byte) : List Byte :=
  leBytes 2 (group + op * 4096) ++ leBytes 2 rank ++ leBytes 4 cseq ++ leBytes 4 off ++ leBytes 4 0 ++ bs

/-- The pieces of a buffer: offsets and bytes; an empty one where it is to be sent at all. -/
def cutPieces (size : Nat) (bs : List Byte) : List (Nat × List Byte) :=
  if bs.isEmpty then [(0, [])]
  else (List.range (ceilDiv bs.length size)).map (fun j => (j * size, (bs.drop (j * size)).take size))

/-- Send this device's buffer to every other member. -/
def Dev.sendBuffer (d : Dev) (g : Group) (group op cseq : Nat) (bs : List Byte) : Dev :=
  ((List.range g.count).filter (fun r => r != g.rank)).foldl (fun d r =>
    let dst := g.members.getD r 0
    (cutPieces (d.limitTo dst - 16) bs).foldl (fun d p =>
      d.sendRouted { d.frame 2 dst 0 (collPayload group op g.rank cseq p.1 p.2) with src := d.ownIndex }) d) d

/-- The next count of RED and BARRIER cues of a group (R390). -/
def Dev.nextColl (d : Dev) (group : Nat) : Nat × Dev :=
  let n := (tabGet (fun _ => 0) d.prompter.collCount group) + 1
  (n, { d with prompter := { d.prompter with collCount := tabSet (fun _ => 0) d.prompter.collCount group n } })

/-- A RED begins (R176). -/
def Dev.startRed (d : Dev) (g : Group) (c : Cue) (rows : Nat) : Dev :=
  let r := redOp c.desc
  let (n, d) := d.nextColl r.group
  let (bs, bad, d) := d.redBuffer r rows
  let relaxed := bitAt c.word 25 && d.prompter.relaxedStep && !d.bit Reg.cstStatus 3
  let x : Collective := { ctr := cueCtr c.word, cue := c, rows := rows, group := r.group, cseq := n, relaxed := relaxed
                          pieces := [(g.rank, 0, bs)], err := bad }
  let d := { d with colls := d.colls ++ [x] }
  if (r.op = 6 ∧ g.rank ≠ 0) ∨ bs.isEmpty then d else d.sendBuffer g r.group r.op n bs

/-- A BARRIER begins (R184). -/
def Dev.startBarrier (d : Dev) (g : Group) (c : Cue) : Dev :=
  let (n, d) := d.nextColl (syncGroup c.word)
  let x : Collective := { ctr := cueCtr c.word, cue := c, rows := 0, group := syncGroup c.word, cseq := n, relaxed := false
                          pieces := [(g.rank, 0, [])], err := false }
  ({ d with colls := d.colls ++ [x] }).sendBuffer g (syncGroup c.word) 15 n []

/-! ### Combination -/

/-- Bytes that have come from rank k. -/
def Collective.got (x : Collective) (k : Nat) : Nat := ((x.pieces.filter (fun p => p.1 == k)).map (fun p => p.2.2.length)).sum

/-- The buffer of rank k. -/
def Collective.buffer (x : Collective) (k n : Nat) : List Byte :=
  memBytes ((x.pieces.filter (fun p => p.1 == k)).foldl (fun m p => memPuts m p.2.1 p.2.2) []) 0 n

/-- The collective is a BARRIER. -/
def Collective.isBarrier (x : Collective) : Bool := cueClass x.cue.word == .sync

/-- Every member's part has come. -/
def Collective.complete (x : Collective) (g : Group) : Bool :=
  if x.isBarrier then (List.range g.count).all (fun k => x.pieces.any (fun p => p.1 == k))
  else
    let r := redOp x.cue.desc
    if r.op = 6 then decide (r.bytes x.rows ≤ x.got 0)
    else (List.range g.count).all (fun k => decide (r.bytes x.rows ≤ x.got k))

/-- Combine elements of `size` bytes, at one place, of the ranks' buffers. -/
def zipElems (size n : Nat) (bufs : List (List Byte)) (f : List Nat → Nat) : List Byte :=
  (List.range (n / size)).flatMap (fun e => leBytes size (f (bufs.map (fun b => leNat ((b.drop (e * size)).take size)))))

/-- An accumulator sum, exact and clamped once (Table 5-17), and 1 if it clamped. -/
def accSum (vs : List Nat) : Int × Nat := accClamp ((vs.map (sext 64)).sum)

/-- Bytes of a segment of R391. -/
def segBytes : Nat := 4080

/-- The ranks whose contribution to segment k has come, in order of arrival (R391). -/
def Collective.arrivals (x : Collective) (k : Nat) : List Nat :=
  ((x.pieces.filter (fun p => decide (p.2.1 ≤ k * segBytes) && decide (k * segBytes < p.2.1 + p.2.2.length))).map Prod.fst)

/-- The order in which element e's contributions are added. -/
def Collective.order (x : Collective) (g : Group) (e : Nat) : List Nat :=
  if x.relaxed then x.arrivals (4 * e / segBytes) else List.range g.count

/-- Segments that were added in an order other than ascending rank (R391). -/
def Collective.choices (x : Collective) (g : Group) (n : Nat) : Nat :=
  if !x.relaxed then 0
  else ((List.range (ceilDiv n segBytes)).filter (fun k => x.arrivals k != List.range g.count)).length

/-- Left fold from the first element. -/
def foldFirst (f : W32 → W32 → W32) : List W32 → W32
  | [] => 0
  | v :: vs => vs.foldl f v

/-- The combined buffer, and clamps (Table 5-17, R391). -/
def Collective.result (x : Collective) (g : Group) : List Byte × Nat :=
  let r := redOp x.cue.desc
  let n := r.bytes x.rows
  let bufs := (List.range g.count).map (fun k => x.buffer k n)
  let w := fun (v : Nat) => BitVec.ofNat 32 v
  if r.op ≤ 1 then
    let at_ := fun e => bufs.map (fun b => leNat ((b.drop (8 * e)).take 8))
    (zipElems 8 n bufs (fun vs => trunc 64 (accSum vs).1), ((List.range (n / 8)).map (fun e => (accSum (at_ e)).2)).sum)
  else if r.op = 2 then
    ((List.range (n / 4)).flatMap (fun e =>
      leBytes 4 (foldFirst fadd ((x.order g e).map (fun k => w (leNat (((bufs.getD k []).drop (4 * e)).take 4))))).toNat), 0)
  else if r.op = 3 then (zipElems 4 n bufs (fun vs => (foldFirst fmax (vs.map w)).toNat), 0)
  else if r.op = 5 then
    let t := r.tileBytes x.rows
    ((List.range (setBits 512 r.tiles).length).flatMap (fun j => bufs.flatMap (fun b => (b.drop (j * t)).take t)), 0)
  else (x.buffer 0 n, 0)

/-- The reduced counts of the slots of a SLOTS reduction (R120). -/
def Dev.putSlots (d : Dev) (x : Collective) (g : Group) : Dev :=
  let r := redOp x.cue.desc
  let n := r.bytes x.rows
  let bufs := (List.range g.count).map (fun k => x.buffer k n)
  (List.range (r.last + 1 - r.first)).foldl (fun d k =>
    let part := fun (b : List Byte) => (b.drop (16 * k)).take 16
    let clip := (bufs.map (fun b => field (part b) 0 6)).sum
    let count := (bufs.map (fun b => field (part b) 6 6)).sum
    let top := foldFirst fmax (bufs.map (fun b => BitVec.ofNat 32 (field (part b) 12 4)))
    d.setSlot (r.first + k) { d.slot (r.first + k) with reduced := some (clip, count, top) }) d

/-- The result lands at DST of every selected tile. DESIGN CHOICE (notes/assumptions/97.md): no fault is raised where a row count of the
manifest takes it past TA 0xFF_FFFF; the bytes past it are written nowhere. -/
def Dev.putRed (d : Dev) (x : Collective) (g : Group) (bs : List Byte) : Bool × Dev :=
  let r := redOp x.cue.desc
  let ts := setBits 512 r.tiles
  let n := bs.length / max 1 ts.length
  (List.range ts.length).foldl (fun acc j =>
    let (e, d) := acc.2.store .tile (tileKey (ts.getD j 0) r.dst) (((bs.drop (j * n)).take n).take (2 ^ 24 - r.dst))
    (acc.1 || e, d)) (decide (g.count = 0), d)

/-- A RED completes: its result is written and its three tokens post (R176); an error met marks CTR and TXQ (Table 10-5). -/
def Dev.finishRed (d : Dev) (x : Collective) (g : Group) : Dev :=
  let r := redOp x.cue.desc
  let (e, d) :=
    if x.rows = 0 then (false, d)
    else if r.op = 4 then (false, d.putSlots x g)
    else
      let (bs, clamps) := x.result g
      let nd := x.choices g (r.bytes x.rows)
      let d := if clamps = 0 then d else (d.wideAdd Reg.stgSatCount clamps).setBit Reg.stgStatus 8
      let d := if r.op ≠ 2 ∨ nd = 0 then d
        else { d.wideAdd Reg.stgNdChoices nd with prompter := { d.prompter with ndStep := true } }
      d.putRed x g bs
  let d := { d with colls := d.colls.filter (fun y => !(y.group == x.group && y.cseq == x.cseq)) }
  ((d.postToken x.ctr (x.err || e) false).postToken r.txq (x.err || e) false).postToken r.rxq false false

/-- A BARRIER completes (R184). -/
def Dev.finishBarrier (d : Dev) (x : Collective) : Dev :=
  ({ d with colls := d.colls.filter (fun y => !(y.group == x.group && y.cseq == x.cseq)) }).postToken x.ctr false false

/-- The oldest collective that names a counter, of one kind, where it is complete. -/
def Dev.readyColl (d : Dev) (ctr : Nat) (barrier : Bool) : Option (Collective × Group) :=
  match d.colls.find? (fun x => x.ctr == ctr && x.isBarrier == barrier) with
  | some x => match d.group x.group with
    | some g => if x.complete g then some (x, g) else none
    | none => none
  | none => none

/-- RED_COMPLETE (R176). -/
def execRedComplete (ctr : Fin 128) (s : State) : Host.Outcome State Fault Refusal :=
  onDev (fun _ d => match d.readyColl ctr.val false with
    | some (x, g) => d.finishRed x g
    | none => d) s

/-- BARRIER_COMPLETE (R184). -/
def execBarrierComplete (ctr : Fin 128) (s : State) : Host.Outcome State Fault Refusal :=
  onDev (fun _ d => match d.readyColl ctr.val true with
    | some (x, _) => d.finishBarrier x
    | none => d) s

/-- COLLECTIVE_TIMEOUT (R392, R413): a limit is set and a RED, BARRIER or CURTAIN is outstanding. -/
def execCollectiveTimeout (s : State) : Host.Outcome State Fault Refusal :=
  onDev (fun _ d =>
    if d.fld Reg.fabCollLimit 31 0 != 0 && (!d.colls.isEmpty || d.hck.curtain.isSome) then d.asyncFault 0x40 else d) s

end Sys2Proof.Machine
end

