-- ==== Sys2Proof/Machine/Commit.lean ====
section
/-! DEFINITION. The commit of a step (R23, R183): slot counts and adaptation (R119 to R123), the Cast Table's commit and delivery
(R288 to R294, R464), jobs (R346), checkpoints (R300, R419), energy readings (R351), and what follows (R144, R475, R478).
A stop sequence ends its stream here (R29); the RNG counter advances here (R105). -/
namespace Sys2Proof.Machine

/-! ### Slots -/

/-- The update of R121 on the counts used: the slot after it, and whether a calibration event arose. -/
def Slot.update (s : Slot) (cfg : Nat) (active : Bool) (clip count : Nat) : Slot × Bool :=
  if count = 0 then (s, false)
  else if bits cfg 16 8 * count < clip * 4096 then
    if active && decide (0 < s.h) then ({ s with run := 0, h := s.h - 1 }, false) else ({ s with run := 0 }, true)
  else if active && decide (clip * 4096 < bits cfg 8 8 * count) && decide (s.h < bits cfg 2 2) then
    (if s.run = 7 then { s with h := s.h + 1, run := 0 } else { s with run := s.run + 1 }, false)
  else ({ s with run := 0 }, false)

/-- Adaptation is active for slot n (R120, R123). -/
def Dev.slotActive (d : Dev) (n : Nat) : Bool :=
  d.bit (Reg.qstCfg n) 0 && !d.bit (Reg.qstCfg n) 1 && !d.prompter.adaptOff && (decide (d.devices ≤ 1) || (d.slot n).reduced.isSome)

/-- The CLIP and COUNT that the update of slot n uses (R121). -/
def Dev.slotCounts (d : Dev) (n : Nat) : Nat × Nat :=
  let s := d.slot n
  match s.reduced with
  | some r => if d.slotActive n && decide (2 ≤ d.devices) then (r.1, r.2.1) else (s.curClip, s.curCount)
  | none => (s.curClip, s.curCount)

/-- Slot n at the commit, and whether a calibration event arose (R119, R121, R122). QST_CLIPn, QST_COUNTn and QST_MAXABSn take the counts of
this device after a reduction too (DESIGN CHOICE, notes/assumptions/100.md). -/
def Dev.commitOne (d : Dev) (n : Nat) : Slot × Bool :=
  let s := d.slot n
  let (clip, count) := d.slotCounts n
  let (t, ev) := s.update (d.reg (Reg.qstCfg n)).toNat (d.slotActive n) clip count
  ({ t with clip := s.curClip, count := s.curCount, maxabs := s.curMax, curClip := 0, curCount := 0, curMax := 0, curInvalid := 0
            curOver := 0, reduced := none, events := if ev then min 0xFFFF (s.events + 1) else s.events }, ev)

/-- Every slot takes the counts of the step (R119 to R122). -/
def Dev.applySlots (d : Dev) : Dev :=
  let ns := List.range 256
  let overs := (ns.map (fun n => (d.slot n).curOver)).sum
  let invalid := (ns.map (fun n => (d.slot n).curInvalid)).sum
  let events := ns.filter (fun n => (d.commitOne n).2)
  let d := ns.foldl (fun d n => d.setSlot n (d.commitOne n).1) d
  let d := (d.wideAdd Reg.qstEscOvf overs).wideAdd Reg.qstInvalid invalid
  let d := if overs = 0 then d else d.flagRaise Reg.qstStatus 2 121
  match events.getLast? with
  | some n => (d.setFld Reg.qstStatus 15 8 n).flagRaise Reg.qstStatus 1 120
  | none => d

/-! ### Energy readings -/

/-- One READ_ENERGY is answered (R351); without a program the job set counts as empty (Table 11-10). -/
def Dev.readEnergy (d : Dev) (idle : Bool) (c : Submission) : Dev :=
  let js := if d.loaded then d.hif.jobSet else []
  let job := match js with
    | [j] => j
    | _ => 0
  let r2 := job + b2n (decide (2 ≤ js.length)) * 2 ^ 16 + b2n js.isEmpty * 2 ^ 17 + b2n idle * 2 ^ 18
  let r1 := (d.reg Reg.stgStepSeq).toNat + d.ns.toNat * 2 ^ 32
  ({ d with hif := { d.hif with jobSet := [] } }).completeWith c .success 0 (d.wideGet Reg.dimEnergy).toNat r1 r2

/-- The readings that wait are taken at a commit (R351). -/
def Dev.commitEnergy (d : Dev) : Dev :=
  d.hif.energy.foldl (fun d c => d.readEnergy false c) { d with hif := { d.hif with energy := [] } }

/-- Job IDs of a committed step enter the set (R351). -/
def Dev.addJobs (d : Dev) (js : List Nat) : Dev :=
  { d with hif := { d.hif with jobSet := js.foldl (fun l j => if l.contains j then l else l ++ [j]) d.hif.jobSet } }

/-! ### The Cast Table -/

/-- The log entry of a step. -/
def Dev.logOf (d : Dev) (seq : Nat) : Option LogEntry := d.log.find? (fun e => e.seq == seq)

/-- The job IDs of the running step (R351). -/
def Dev.stepJobs (d : Dev) (seq : Nat) : List Nat :=
  (d.man.slots.map (fun u => (d.entry u.stream).job)) ++
    (match (d.logOf seq).bind LogEntry.job with
     | some c => [c.job.toNat]
     | none => [])

/-- One more step of a job has committed: the jobs that remain, and the one that is complete. -/
def jobCommit (c : Submission) : List Job → List Job × Option Job
  | [] => ([], none)
  | j :: js =>
    if j.cmd = c then (if j.toCommit ≤ 1 then (js, some j) else ({ j with toCommit := j.toCommit - 1 } :: js, none))
    else
      let r := jobCommit c js
      (j :: r.1, r.2)

/-- RUN_JOB completes at the commit of its last step (R346, Table 11-6). -/
def Dev.commitJob (d : Dev) (seq : Nat) : Dev :=
  match (d.logOf seq).bind LogEntry.job with
  | none => d
  | some c =>
    let r := jobCommit c d.cast.jobs
    let d := { d with cast := { d.cast with jobs := r.1 } }
    match r.2 with
    | some j => d.completeWith c .success 0 j.first seq 0
    | none => d

/-- A token entry ends its stream with reason DEAD_END or GRAMMAR (R291). -/
def TokenEntry.failed (t : TokenEntry) : Bool :=
  bitAt (field t.data 6 1) 4 && (bits (field t.data 7 1) 0 4 == 4 || bits (field t.data 7 1) 0 4 == 5)

/-- COMMIT records that may go now are sent in order (R464). -/
def Dev.shipCommits (d : Dev) : Dev :=
  let cs := d.usy.commits
  let d := { d with usy := { d.usy with commits := cs.map (fun c => { c with sent := true }) } }
  (cs.filter (fun c => !c.sent)).foldl (fun d c => d.shipRecord (logRecord 2 (b2n c.ckpt) c.seq 0 [])) d

/-- The checkpoint being written is complete: the COMMITs that waited for it go (R300, R464). -/
def Dev.finishCkpt (d : Dev) : Dev :=
  match d.cast.ckptDue with
  | some x => (d.ckptComplete x).shipCommits
  | none => d

/-- CHECKPOINT commands are served at once while no manifest is formed (Table 11-6). -/
def Dev.captureIdle (d : Dev) : Dev :=
  let c := d.cast
  if !c.ckptReq.isEmpty && c.formed.isEmpty && c.ckptDue.isNone && c.replay.isNone && c.geom.isSome then d.capture else d

/-- CHECKPOINT_COMPLETE (R300). -/
def execCheckpointComplete (s : State) : Host.Outcome State Fault Refusal :=
  onDev (fun i d => d.finishCkpt.captureIdle.stopIfHurt i) s

/-- The completion entries of a step of a mirrored module wait for the acknowledgement of its COMMIT (R464). -/
def Dev.awaitTwin (d : Dev) (seq : Nat) (es : List TokenEntry) (ckpt : Bool) : Dev :=
  let hold := (ckpt && d.cast.ckptDue.isSome) || d.usy.commits.any (fun c => !c.sent)
  let d := { d with usy := { d.usy with commits := d.usy.commits ++ [{ seq := seq, entries := es, sent := false, ckpt := ckpt, lost := false }] } }
  if hold then d else d.shipCommits

/-- A checkpoint is captured where one is due: whether it was, and whether by the interval (R300, Table 11-6). -/
def Dev.captureDue (d : Dev) : Bool × Bool × Dev :=
  let interval := decide (d.interval ≤ d.cast.sinceCkpt)
  let extra := !d.cast.ckptReq.isEmpty && d.cast.replay.isNone
  if d.cast.ckptDue.isSome || !(interval || extra) then (false, false, d)
  else
    let d := d.capture
    (true, interval, if interval then { d with cast := { d.cast with sinceCkpt := 0 } } else d)

/-- A step with an arrival-order choice (R418, R419): its checkpoint is complete with its commit, so that no such step is replayed. -/
def Dev.ndCheckpoint (d : Dev) : Dev :=
  let d := d.flagRaise Reg.stgDetStatus 0 66
  if d.cast.geom.isNone then d
  else
    let d := d.finishCkpt
    let d := d.capture
    let d := { d with cast := { d.cast with sinceCkpt := 0 } }
    (match d.cast.ckptDue with
     | some x => d.ckptComplete x
     | none => d).conflict 7

/-- A step of the Cast Table has committed: `seq` was STG_STEP_SEQ, which has advanced. -/
def Dev.castCommitted (d : Dev) (seq : Nat) (out : List TokenEntry) : Dev :=
  let fresh := !seqBefore seq d.cast.committed
  let c := d.cast
  let d := { d with cast := { c with
      formed := c.formed.filter (· != seq), results := [], received := [], tc121 := false, sinceCkpt := c.sinceCkpt + 1
      committed := if fresh then (seq + 1) % 2 ^ 32 else c.committed } }
  let d := (out.filter TokenEntry.failed).foldl (fun d _ => d.raise 115) d
  let es := if fresh then out else []
  let d := if fresh then d.commitJob seq else d
  let d := if d.mirrors then d else d.deliver es
  let nd := d.prompter.ndStep
  let (ckpt, interval, d) := if nd then (true, false, d.ndCheckpoint) else d.captureDue
  let d := d.applyAhead
  let d := if d.mirrors && fresh then d.awaitTwin seq es ckpt else d
  let d := if interval && d.usyState == 7 then { d with usy := { d.usy with draining := some seq } } else d
  d.replayCheck

/-! ### The step ends -/

/-- A step starts: its ledger budget (R38), relaxed mode (R417), whether adaptation is off (R123), its manifest not yet read (R158). -/
def Dev.stepStarts (d : Dev) : Dev :=
  ({ d with prompter := { d.prompter with
      relaxedStep := d.bit Reg.stgDetCtrl 0, adaptOff := d.bit Reg.qstStatus 0, ndStep := false, manifestRead := false, loops := [], wait := none } }).newBudget

/-- The section that runs after STEP_END: the step section again, or the init section of the other context (R144, R475). -/
def Dev.nextSection (d : Dev) : Dev :=
  let d := d.stepStarts
  if d.twoContexts then
    let d := d.swapContext
    let d := { d with prompter := { d.prompter with run := .init, pc := BitVec.ofNat 18 (d.reg Reg.stgEntryInit).toNat } }
    d.offerFrames
  else { d with prompter := { d.prompter with run := .step, pc := BitVec.ofNat 18 (d.reg Reg.stgEntryStep).toNat } }

/-- The step may commit: its manifest is formed and its results are received (Table 1-2, event 13), where there is a Cast Table. -/
def Dev.mayCommit (d : Dev) : Bool := d.cast.geom.isNone || (d.stepFormed && d.cast.tc121)

/-- The step commits (R183): slots, tokens, STG_STEP_SEQ, the state that formation ahead has prepared; then what waited for the
commit (R343, R351). -/
def Dev.stepCommits (d : Dev) (i : Ident) (opt : Bool) : Dev :=
  let d := d.applySlots
  let seq := (d.reg Reg.stgStepSeq).toNat
  let cast := d.cast.geom.isSome
  let jobs := if cast then d.stepJobs seq else []
  let (out, d) := if cast then d.commitCast else ([], d)
  let d := d.setReg Reg.stgStepSeq (BitVec.ofNat 32 (seq + 1))
  let d := if opt then d.setReg Reg.stgOptStep (d.reg Reg.stgOptStep + 1) else d
  let d := d.addJobs jobs
  let d := if cast then d.castCommitted seq out else (if d.prompter.ndStep then d.ndCheckpoint else d)
  ((d.pulse 3).commitEnergy.nextSection).settleCommit i

/-- STEP_END commits the step and retires (R183), where the Cast Table meets no error (Table 10-5) and no entry out of range (R313). -/
def Dev.commitStep (d : Dev) (i : Ident) (opt : Bool) : Dev :=
  if d.cast.geom.isSome then d.castGuard i d.commitTouch d.commitSpans (fun d => d.stepCommits i opt) else d.stepCommits i opt

end Sys2Proof.Machine
end

