-- ==== Sys2Proof/Machine/Cues.lean ====
section
/-! DEFINITION. The cues: fetch and checks at issue (R142 to R149, R152, R154 to R158, R173 to R191, R205, R238, R282, R313, R382,
R389), what an issued cue does, and when it retires (R143).
The ledger of declared draw: R36, R37, R206; programs are sequences without data branches (R21); Table 5-25: R198. -/
namespace Sys2Proof.Machine

/-! ### The cue at PC -/

/-- The word of a cue slot (R141, R146). -/
def Dev.cueWord (d : Dev) (c : Nat) : Nat := leNat (memBytes d.mems.cue (16 * (c % 2 ^ 18)) 16)

/-- The Prompter checks and issues cues: it runs, no WAIT stalls it, no Safety Curtain is in progress (R143, R156). -/
def Dev.mayIssue (d : Dev) : Bool :=
  (d.prompter.run == .init || d.prompter.run == .step) && d.prompter.wait.isNone && !d.halting

/-- A Stage cue (R145). -/
def CueClass.stage : CueClass → Bool
  | .scene | .vec | .qnt => true
  | _ => false

/-- The cue with its indexed field at its effective value (R149): none where XSEL names no active level or the value leaves the
field. -/
def Dev.indexedCue (d : Dev) (w : Nat) : Option Nat :=
  match (cueClass w).indexed with
  | none => some w
  | some (lo, n) =>
    if cueXsel w = 0 then some w
    else match d.prompter.loops[cueXsel w - 1]? with
      | none => none
      | some l =>
        let v := bits w lo n + l.index * l.stride
        if v < 2 ^ n then some (putBits w lo n v) else none

/-- The descriptor's units lie in the cue store (R148). -/
def descInStore (w : Nat) : Bool := decide (cueDesc w + (cueClass w).units ≤ 65536)

/-! ### The ledger -/

/-- What a ledger entry of the cue says beside its draw (R238). -/
def gridMark (w : Nat) : Nat := if cueClass w == .grid then (if cueFunc w = 0 then 1 + gridRegion w else 17) else 0

/-- The cue is a RED or a SYNC BARRIER (R449). -/
def collMark (w : Nat) : Bool := cueClass w == .red || (cueClass w == .sync && cueFunc w == 2)

/-- The ledger: the draws of every list (R152). -/
def Dev.ledger (d : Dev) : Nat := (d.prompter.counters.map (fun e => (e.2.ledger.map Owed.draw).sum)).sum

/-- GRID entries in any list: their marks (R238). -/
def Dev.gridOwed (d : Dev) : List Nat := d.prompter.counters.flatMap (fun e => (e.2.ledger.map Owed.grid).filter (fun g => g != 0))

/-- Every ledger list is empty, TC121 holds 0 and TC120 at most 1 (R182). -/
def Dev.sectionEnds (d : Dev) : Bool :=
  d.prompter.counters.all (fun e => e.2.ledger.isEmpty) && (d.counter 121).count == 0 && decide ((d.counter 120).count ≤ 1)

/-! ### Operands in bounds (R148, fault 0x03) -/

/-- A WAIT's operands (R154, R155). -/
def Dev.waitOk (d : Dev) (w : Nat) : Bool :=
  let c := cueCtr w
  let n := bits w 40 7
  decide (c ≤ 121) && decide (1 ≤ n) && decide (n ≤ 64) && (decide (120 ≤ c) || decide (n ≤ (d.counter c).ledger.length))

/-- A LINEAR MOVE of a static row count stays in its regions (R313); KV modes name a page of the geometry (R282). -/
def Dev.movePlaceOk (d : Dev) (w : Nat) (m : MoveOp) : Bool :=
  match moveMode w with
  | 0 => m.msel != 0 || (List.range m.rows).all (fun r => d.inRegions (bits m.addr 0 39 + r * m.sstride) m.len)
  | 2 | 3 => decide (m.layer * d.geom.kvHeads + m.head < d.geom.pages) && decide (bits m.addr 0 24 + m.len ≤ d.geom.pageBytes)
  | 4 | 5 => d.joined
  | _ => true

/-- The group of a RED, BARRIER or CURTAIN is valid here and permits the operation (R382, R389, Table 12-9); `r` is the RED's. -/
def Dev.groupOk (d : Dev) (g : Nat) (r : Option RedOp) : Bool :=
  d.joined &&
    (match d.group g with
     | none => false
     | some x => match r with
       | some r => !x.v2 || (r.op != 2 && r.op != 4 && (r.op != 1 || r.bud == 0))
       | none => true)

/-- A RED's operands. -/
def Dev.redOk (d : Dev) (i : Ident) (w : Nat) (desc : List Byte) : Bool :=
  let r := redOp desc
  d.groupOk r.group (some r) && redStaticOk i.tiles ((d.group r.group).elim 0 Group.count) w desc

/-- A SYNC's operands, and the conditions of R182. -/
def Dev.syncOk (d : Dev) (w : Nat) : Bool :=
  match cueFunc w with
  | 0 | 1 => d.sectionEnds
  | 2 => cueCounterOk (cueCtr w) && d.groupOk (syncGroup w) none
  | 3 => d.groupOk (syncGroup w) none && d.sectionEnds
  | 4 => true
  | _ => false

/-- A GRID's operands (R179, R238). -/
def Dev.gridOk (d : Dev) (w : Nat) : Bool :=
  gridStaticOk w &&
    (if cueFunc w = 0 then
      (decide (gridProg w < 0x40) || d.grid.progs.any (fun g => g.code == gridProg w)) &&
        !d.gridOwed.contains (1 + gridRegion w) && !d.gridOwed.contains 17
    else d.gridOwed.isEmpty && decide (gridConfig w ≤ d.fld Reg.lgrRoutes 7 0))

/-- BODY of a LOOP. -/
def loopBody (w : Nat) : Nat := bits w 48 12

/-- A LOOP's operands and body (R189, R190). -/
def Dev.loopOk (d : Dev) (w : Nat) : Bool :=
  let c := d.prompter.pc.toNat
  let n := loopBody w
  loopStaticOk w && decide (d.prompter.loops.length < 3) &&
    (match d.prompter.loops.getLast? with
     | some l => decide (n ≤ (l.last + 2 ^ 18 - c) % 2 ^ 18)
     | none => true) &&
    (List.range n).all (fun k => !endsSection (d.cueWord (c + 1 + k)))

/-- The operands of a cue are in bounds at issue. -/
def Dev.operandsOk (d : Dev) (i : Ident) (w : Nat) (desc : List Byte) : Bool :=
  (!(cueClass w).hasDraw || decide (cueDraw w ≤ 100)) && (!readsManifest w desc || d.prompter.manifestRead) &&
    (match cueClass w with
     | .nop => true
     | .scene => sceneStaticOk i.rows w desc
     | .vec => vecStaticOk w desc
     | .qnt => qntStaticOk w desc
     | .move => moveStaticOk i.tiles w desc && d.movePlaceOk w (moveOp desc)
     | .wait => d.waitOk w
     | .red => d.redOk i w desc
     | .sync => d.syncOk w
     | .grid => d.gridOk w
     | .hint => hintStaticOk w
     | .digest => digestStaticOk w
     | .loop => d.loopOk w
     | .illegal => true)

/-- The cue places an entry in the digest ring (R187, R188, R422). -/
def Dev.digests (d : Dev) (w : Nat) : Bool :=
  d.digOn && (cueClass w == .digest || (cueClass w == .scene && bitAt w 25))

/-- The checks of R148 that fail, by code, in ascending order. -/
def Dev.checkFails (d : Dev) (i : Ident) (w : Nat) (desc : List Byte) : List Nat :=
  let has := (cueClass w).hasDraw
  ([ (0x01, cueClass w == .illegal),
     (0x02, cueReservedBad w || descReservedBad w desc),
     (0x03, !d.operandsOk i w desc),
     (0x12, (cueLists w desc).any (fun l => decide (64 ≤ (d.counter l.1).ledger.length))),
     (0x30, has && decide (d.prompter.budget < d.ledger + 8 + cueDraw w)),
     (0x31, !d.phaseValid (cuePhase w)),
     (0x60, d.digests w && !d.digRoom (d.prompter.digests.length + 1)) ].filter Prod.snd).map Prod.fst

/-! ### Issue -/

/-- The entries that an issued cue appends (R152), and the largest ledger plus baseline (Table 5-26). -/
def Dev.owe (d : Dev) (w : Nat) (desc : List Byte) : Dev :=
  let d := (cueLists w desc).foldl (fun d l =>
    let c := d.counter l.1
    d.setCounter l.1 { c with ledger := c.ledger ++ [{ draw := l.2, grid := gridMark w, coll := collMark w }] }) d
  { d with prompter := { d.prompter with peak := max d.prompter.peak (d.ledger + 8) } }

/-- What the Prompter reads of the manifest for a cue (R157): its header, and where a QNT binds its rows the rows and the slots. -/
def Dev.bindSpans (d : Dev) (w : Nat) (desc : List Byte) : List (Nat × Nat) :=
  let m := d.man
  if !readsManifest w desc then []
  else (d.stepMan, 12) :: (if cueClass w == .qnt then [(d.stepMan + 0x1000, 16 * m.rows.length), (d.stepMan + 0x11000, 32 * m.slots.length)] else [])

/-- What issues: the checked cue, the state with its ledger entries and its phase at the Dimmer; or the fault, or the Safety
Curtain that an uncorrectable error in the cue store takes (Table 10-5), or one in the manifest (notes/assumptions/108.md). -/
def Dev.check (d : Dev) (i : Ident) : Option Cue × Dev :=
  let pc := d.prompter.pc.toNat
  let (bad, d) := d.readErrors .cue (16 * pc) 16
  if bad then (none, d.curtainHalt i)
  else match d.indexedCue (d.cueWord pc) with
    | none => (none, d.cueFault (if cueReservedBad (d.cueWord pc) then 0x02 else 0x03))
    | some w =>
      if !descInStore w then (none, d.cueFault (if cueReservedBad w then 0x02 else 0x03))
      else
        let n := 64 * (cueClass w).units
        let (bad, d) := d.readErrors .cue (64 * cueDesc w) n
        if bad then (none, d.curtainHalt i)
        else
          let desc := d.load .cue (64 * cueDesc w) n
          match d.checkFails i w desc with
          | code :: _ => (none, d.cueFault code)
          | [] =>
            let spans := d.bindSpans w desc
            if d.viaBad spans then (none, (spans.foldl (fun d s => (d.readErrors .hbm s.1 s.2).2) d).curtainHalt i)
            else (some { word := w, desc := desc, pc := pc, seq := (d.reg Reg.stgStepSeq).toNat }, ((d.owe w desc).phaseCue i (cuePhase w)).pulse 0)

/-- A cue row: the cue at PC is checked and, where it passes, issued, if it is the row's and can be checked now. -/
def Dev.issue (d : Dev) (i : Ident) (mine : Nat → Bool) (act : Cue → Dev → Dev) : Dev :=
  let w := d.cueWord d.prompter.pc.toNat
  if !d.mayIssue || !mine w || ((cueClass w).stage && decide (4 ≤ d.prompter.stageQueue.length)) then d
  else match d.check i with
    | (some c, d) => (act c d).post121
    | (none, d) => d.post121

/-- A cue class without a further condition. -/
def isClass (c : CueClass) (w : Nat) : Bool := cueClass w == c

/-- NOP (R191). -/
def execNop (s : State) : Host.Outcome State Fault Refusal := onDev (fun i d => d.issue i (isClass .nop) (fun _ d => d.retire)) s

/-- A cue with a reserved opcode (R147): the check raises fault 0x01. -/
def execIllegalOpcode (s : State) : Host.Outcome State Fault Refusal :=
  onDev (fun i d => d.issue i (isClass .illegal) (fun _ d => d.retire)) s

/-! ### Stage cues -/

/-- An entry of the digest ring for a cue. -/
def ringEntry (c : Cue) (value : Option W64) (rows kind n : Nat) : DigestEntry :=
  { value := value, seq := c.seq, pc := c.pc, phase := cuePhase c.word, rows := rows, kind := kind, n := n }

/-- A Stage cue enters the queue (R145). A scene flagged DIGEST queues its entry now, in issue order (R188); where the digest unit is off
its flag is dropped (R422). -/
def Dev.enqueueStage (d : Dev) (c : Cue) : Dev :=
  let w := if cueClass c.word == .scene && bitAt c.word 25 && !d.digOn then putBits c.word 25 1 0 else c.word
  let d := if cueClass w == .scene && bitAt w 25 then d.digQueue (ringEntry c none (d.stageRows w c.desc) 0 (sceneOp w c.desc).n) else d
  ({ d with prompter := { d.prompter with stageQueue := d.prompter.stageQueue ++ [{ c with word := w }] } }).retire

/-- SCENE (R163). -/
def execScene (s : State) : Host.Outcome State Fault Refusal :=
  onDev (fun i d => d.issue i (isClass .scene) (fun c d => d.enqueueStage c)) s
/-- VEC (R165). -/
def execVec (s : State) : Host.Outcome State Fault Refusal :=
  onDev (fun i d => d.issue i (isClass .vec) (fun c d => d.enqueueStage c)) s
/-- QNT (R172). -/
def execQnt (s : State) : Host.Outcome State Fault Refusal :=
  onDev (fun i d => d.issue i (isClass .qnt) (fun c d => d.enqueueStage c)) s

/-! ### MOVE -/

/-- A MOVE of one mode. -/
def isMove (mode w : Nat) : Bool := cueClass w == .move && moveMode w == mode

/-- A transfer begins on its queue (R173, R174). -/
def Dev.startMove (d : Dev) (c : Cue) : Dev :=
  let m := moveOp c.desc
  let q := moveQueue c.word
  let x : Transfer := { cue := c, rows := d.rowCount m.msel m.rows, index := 0, got := 0, err := false }
  (d.setQueue q (d.queue q ++ [x])).retire

/-- The next count of SEND cues to a peer's queue, or of RECEIVE cues of a queue (R387): the count of the earlier ones. -/
def Dev.nextXfer (d : Dev) (key : Nat) : Nat × Dev :=
  let n := cueCount d.prompter.xferCount key
  (n, { d with prompter := { d.prompter with xferCount := tabSet (fun _ => 0) d.prompter.xferCount key (n + 1) } })

/-- A SEND begins (R387): its frames are made. -/
def Dev.startSend (d : Dev) (c : Cue) : Dev :=
  let m := moveOp c.desc
  let q := moveQueue c.word
  let (peer, pq) := sendPeer m
  let (n, d) := d.nextXfer (64 * (peer + 1) + pq)
  let x : Transfer := { cue := c, rows := d.rowCount m.msel m.rows, index := n, got := 0, err := false }
  let (e, d) := d.sendRows x
  ((d.setQueue q (d.queue q ++ [{ x with err := e }])).retire).lossCheck

/-- A RECEIVE begins (R387): frames that waited for it are taken. -/
def Dev.startReceive (d : Dev) (c : Cue) : Dev :=
  let m := moveOp c.desc
  let q := moveQueue c.word
  let (n, d) := d.nextXfer q
  let x : Transfer := { cue := c, rows := d.rowCount m.msel m.rows, index := n, got := 0, err := false }
  ((d.setQueue q (d.queue q ++ [x])).retire).offerFrames

/-- MOVE_LINEAR (R174); a reserved MODE is faulted with it (notes/assumptions/42.md). -/
def execMoveLinear (s : State) : Host.Outcome State Fault Refusal :=
  onDev (fun i d => d.issue i (fun w => isMove 0 w || (isClass .move w && decide (6 ≤ moveMode w))) (fun c d => d.startMove c)) s
/-- MOVE_GATHER_ROWS (R174). -/
def execMoveGatherRows (s : State) : Host.Outcome State Fault Refusal :=
  onDev (fun i d => d.issue i (isMove 1) (fun c d => d.startMove c)) s
/-- MOVE_KV_READ (R282). -/
def execMoveKvRead (s : State) : Host.Outcome State Fault Refusal :=
  onDev (fun i d => d.issue i (isMove 2) (fun c d => d.startMove c)) s
/-- MOVE_KV_WRITE (R282). -/
def execMoveKvWrite (s : State) : Host.Outcome State Fault Refusal :=
  onDev (fun i d => d.issue i (isMove 3) (fun c d => d.startMove c)) s
/-- MOVE_SEND (R387). -/
def execMoveSend (s : State) : Host.Outcome State Fault Refusal :=
  onDev (fun i d => d.issue i (isMove 4) (fun c d => d.startSend c)) s
/-- MOVE_RECEIVE (R387). -/
def execMoveReceive (s : State) : Host.Outcome State Fault Refusal :=
  onDev (fun i d => d.issue i (isMove 5) (fun c d => d.startReceive c)) s

/-- A frame of a SEND that has not been acknowledged: it waits for a port, for room, or is held (R375, R385). -/
def TxFrame.ofSend (f : TxFrame) (x : Transfer) : Bool :=
  let (peer, q) := sendPeer (moveOp x.cue.desc)
  f.ftype == 1 && f.dst == peer && f.b6 == q - 48 && field f.payload 3 1 == x.index % 256

/-- Frames of a SEND are still to be accepted. -/
def Dev.sendPending (d : Dev) (x : Transfer) : Bool :=
  d.fab.waiting.any (fun f => f.ofSend x) ||
    (List.range 17).any (fun p => (d.port p).txq.any (fun f => f.ofSend x) || (d.port p).held.any (fun f => f.2.ofSend x))

/-- The oldest transfer of a queue completes and posts its token (R153, R175). -/
def Dev.transferDone (d : Dev) (q : Nat) : Dev :=
  match d.queue q with
  | [] => d
  | x :: xs =>
    if q < 48 then
      let (e, d) := (d.setQueue q xs).runMove x
      d.postToken q e.1 e.2
    else if (q < 56 && x.got != x.total) || (56 ≤ q && d.sendPending x) then d
    else (d.setQueue q xs).postToken q x.err false

/-- TRANSFER_COMPLETE (R175). -/
def execTransferComplete (q : Fin 64) (found : List Found) (s : State) : Host.Outcome State Fault Refusal :=
  onDev (fun i d => (if q.val < 48 && !(d.queue q.val).isEmpty then d.meets i found else d).transferDone q.val) s

/-! ### WAIT -/

/-- A WAIT on counter n counts for the slack of the phase (R449). -/
def Dev.slackWait (d : Dev) (n : Nat) : Bool := (decide (48 ≤ n) && decide (n ≤ 55)) || ((d.counter n).ledger.head?.any Owed.coll)

/-- A WAIT issues and stalls the Prompter (R156). -/
def Dev.startWait (d : Dev) (c : Cue) : Dev :=
  let n := cueCtr c.word
  { d with prompter := { d.prompter with wait := some { ctr := n, count := bits c.word 40 7 } }
           dim := { d.dim with stalled := d.dim.stalled || d.slackWait n } }

/-- WAIT (R156). -/
def execWait (s : State) : Host.Outcome State Fault Refusal :=
  onDev (fun i d => d.issue i (isClass .wait) (fun c d => d.startWait c)) s

/-- The WAIT that consumes the manifest-ready token has retired: the manifest may be read (R158), and a step without emit rows has
its results, whose token falls due (R275). -/
def Dev.manifestTaken (d : Dev) : Dev :=
  let d := { d with prompter := { d.prompter with manifestRead := true } }
  if d.stepFormed && d.man.emit == 0 && !d.cast.tc121 then
    { d with cast := { d.cast with tc121 := true }, prompter := { d.prompter with due121 := true } }
  else d

/-- A stalled WAIT that is satisfied retires, or faults at an error token (R156). -/
def Dev.waitRetire (d : Dev) : Dev :=
  match d.prompter.wait with
  | none => d
  | some w =>
    let c := d.counter w.ctr
    if d.halting || decide (c.count < w.count) then d
    else if c.err then d.cueFault (if c.bounds then 0x03 else 0x11)
    else
      let d := (d.setCounter w.ctr { c with count := c.count - w.count, ledger := if w.ctr < 120 then c.ledger.drop w.count else c.ledger }).retire
      if w.ctr = 120 then d.manifestTaken else d

/-- WAIT_RETIRE (R156). -/
def execWaitRetire (s : State) : Host.Outcome State Fault Refusal := onDev (fun _ d => d.waitRetire) s

/-- WAIT_LIMIT_EXPIRY (R156): TC120 has no limit. -/
def execWaitLimitExpiry (s : State) : Host.Outcome State Fault Refusal :=
  onDev (fun _ d => match d.prompter.wait with
    | none => d
    | some w =>
      if w.ctr == 120 || d.fld Reg.stgWaitLimit 23 0 == 0 || decide (w.count ≤ (d.counter w.ctr).count) then d else d.cueFault 0x10) s

/-! ### RED and SYNC -/

/-- RED (R176). -/
def Dev.red (d : Dev) (c : Cue) : Dev :=
  match d.group (redOp c.desc).group with
  | some g => ((d.startRed g c (d.stageRows c.word c.desc)).retire.lossCheck).offerFrames
  | none => d.retire

/-- RED (R176). -/
def execRed (s : State) : Host.Outcome State Fault Refusal := onDev (fun i d => d.issue i (isClass .red) (fun c d => d.red c)) s

/-- A SYNC of one function. -/
def isSync (f w : Nat) : Bool := cueClass w == .sync && cueFunc w == f

/-- A STEP_END at PC can be decided now: its commit may go on (Table 1-2, event 13), or a check of R148 fails already. -/
def Dev.stepEndDue (d : Dev) (i : Ident) (w : Nat) : Bool :=
  d.mayCommit || !(d.checkFails i w []).isEmpty || !(d.errorsIn .cue (16 * d.prompter.pc.toNat) 16).isEmpty

/-- STEP_END (R183): a cue that passes its checks waits until the step may commit (Table 1-2, event 13). -/
def execStepEnd (s : State) : Host.Outcome State Fault Refusal :=
  onDev (fun i d => d.issue i (fun w => isSync 0 w && d.stepEndDue i w) (fun c d => d.commitStep i (bitAt c.word 25))) s

/-- The init section ends (R144, R183). -/
def Dev.initEnd (d : Dev) : Dev :=
  let d := d.stepStarts
  { d with prompter := { d.prompter with run := .step, pc := BitVec.ofNat 18 (d.reg Reg.stgEntryStep).toNat } }

/-- INIT_END (R183). -/
def execInitEnd (s : State) : Host.Outcome State Fault Refusal := onDev (fun i d => d.issue i (isSync 1) (fun _ d => d.initEnd.settle i)) s

/-- BARRIER (R184). -/
def Dev.barrier (d : Dev) (c : Cue) : Dev :=
  match d.group (syncGroup c.word) with
  | some g => ((d.startBarrier g c).retire.lossCheck).offerFrames
  | none => d.retire

/-- BARRIER (R184). -/
def execBarrier (s : State) : Host.Outcome State Fault Refusal := onDev (fun i d => d.issue i (isSync 2) (fun c d => d.barrier c)) s

/-- CURTAIN issues (R184, R410): the Stage darkens, ARM goes to rank 0 of the group, or rank 0 schedules the fall. -/
def Dev.curtain (d : Dev) (c : Cue) : Dev :=
  let k := syncGroup c.word
  match d.group k with
  | none => d
  | some g =>
    let n := cueCount d.prompter.curtainCount k + 1
    let wait : CurtainWait := { group := k, ccnt := n, init := d.prompter.run == .init, arms := [], fall := none, late := false }
    let d := { d.goDark with
      prompter := { d.prompter with run := .curtain, curtainGroup := k, curtainCount := tabSet (fun _ => 0) d.prompter.curtainCount k n }
      hck := { d.hck with curtain := some wait } }
    let d := if g.rank = 0 then d.curtainSchedule else d.sendCurtain (g.members.getD 0 0) (curtainPayload 1 k n 0 g.rank)
    d.lossCheck.offerFrames

/-- CURTAIN (R184). -/
def execCurtain (s : State) : Host.Outcome State Fault Refusal := onDev (fun i d => d.issue i (isSync 3) (fun c d => d.curtain c)) s

/-- EVENT (R184); a reserved FUNC is faulted with it (notes/assumptions/42.md). -/
def execEvent (s : State) : Host.Outcome State Fault Refusal :=
  onDev (fun i d => d.issue i (fun w => cueClass w == .sync && decide (4 ≤ cueFunc w)) (fun c d => (d.raise (96 + bits c.word 56 4)).retire)) s

/-! ### GRID -/

/-- A GRID START of program `p`. -/
def isStart (p w : Nat) : Bool := cueClass w == .grid && cueFunc w == 0 && gridProg w == p

/-- The selected row count is 0 (R160). -/
def Dev.noGridRows (d : Dev) (w : Nat) : Bool := gridMsel w != 0 && d.rowCount (gridMsel w) 0 == 0

/-- A START of no row (R160): nothing starts, and the token can post. -/
def Dev.gridEmpty (d : Dev) (w : Nat) : Dev :=
  let run : GridRun := { region := gridRegion w, ctr := cueCtr w, std := true, bad := false }
  { d with grid := { d.grid with runs := d.grid.runs ++ [run] } }

/-- A START of a standard program (R180, R247). -/
def Dev.startStandard (d : Dev) (i : Ident) (c : Cue) : Dev :=
  let d := d.pulse 96
  (if d.noGridRows c.word then d.gridEmpty c.word else d.gridStandard i c.word).retire

/-- A START of an image program (R180, R253). -/
def Dev.startImage (d : Dev) (c : Cue) : Dev :=
  let d := d.pulse 96
  (if d.noGridRows c.word then d.gridEmpty c.word
   else match d.grid.progs.find? (fun g => g.code == gridProg c.word) with
    | some g => d.gridImage c.word g
    | none => d).retire

/-- GRID_START (R180): image programs; reserved codes are faulted with it (notes/assumptions/42.md). -/
def execGridStart (s : State) : Host.Outcome State Fault Refusal :=
  onDev (fun i d => d.issue i (fun w => cueClass w == .grid && cueFunc w != 1 && !(isStart 1 w || isStart 2 w || isStart 3 w || isStart 4 w))
    (fun c d => d.startImage c)) s
/-- SAMPLER (R258). -/
def execSampler (s : State) : Host.Outcome State Fault Refusal := onDev (fun i d => d.issue i (isStart 1) (fun c d => d.startStandard i c)) s
/-- MASKER (R257). -/
def execMasker (s : State) : Host.Outcome State Fault Refusal := onDev (fun i d => d.issue i (isStart 2) (fun c d => d.startStandard i c)) s
/-- QSTAT (R261). -/
def execQstat (s : State) : Host.Outcome State Fault Refusal := onDev (fun i d => d.issue i (isStart 3) (fun c d => d.startStandard i c)) s
/-- SPECV (R260). -/
def execSpecv (s : State) : Host.Outcome State Fault Refusal := onDev (fun i d => d.issue i (isStart 4) (fun c d => d.startStandard i c)) s

/-- A changeover begins (R239, Table 7-9). -/
def Dev.startChange (d : Dev) (c : Cue) : Dev :=
  let k := gridConfig c.word
  let x : Changeover := { config := k, ctr := cueCtr c.word, start := d.grid.cycle, records := d.configRecords k, barrier := none }
  (({ d with grid := { d.grid with change := some x } }).setBit Reg.lgrStatus 16).retire

/-- GRID_CHANGEOVER (R239). -/
def execGridChangeover (s : State) : Host.Outcome State Fault Refusal :=
  onDev (fun i d => d.issue i (fun w => cueClass w == .grid && cueFunc w == 1) (fun c d => d.startChange c)) s

/-! ### HINT, DIGEST, LOOP -/

/-- HINT (R448). -/
def execHint (s : State) : Host.Outcome State Fault Refusal :=
  onDev (fun i d => d.issue i (isClass .hint) (fun c d => (d.hintCue (bits c.word 32 3) (bits c.word 36 7) (bits c.word 44 16)).retire)) s

/-- A mark entry (R187). -/
def Dev.mark (d : Dev) (c : Cue) : Dev :=
  (if d.digOn then d.digQueue (ringEntry c (some (BitVec.ofNat 64 (bits c.word 32 32))) 0 (bits c.word 64 4 + 1) 0) else d).retire

/-- DIGEST (R187, R188). -/
def execDigest (s : State) : Host.Outcome State Fault Refusal := onDev (fun i d => d.issue i (isClass .digest) (fun c d => d.mark c)) s

/-- A loop level opens (R190). -/
def Dev.openLoop (d : Dev) (c : Cue) : Dev :=
  let p := d.prompter
  let l : LoopLevel := { index := 0, count := bits c.word 32 16, stride := bits c.word 64 16, first := (c.pc + 1) % 2 ^ 18
                         last := (c.pc + loopBody c.word) % 2 ^ 18 }
  { d with prompter := { p with loops := p.loops ++ [l], pc := BitVec.ofNat 18 (c.pc + 1) } }

/-- LOOP (R190). -/
def execLoop (s : State) : Host.Outcome State Fault Refusal := onDev (fun i d => d.issue i (isClass .loop) (fun c d => d.openLoop c)) s

end Sys2Proof.Machine
end

