-- ==== Sys2Proof/Machine/StageRun.lean ====
section
/-! DEFINITION. The Stage: cues start (R145), ramps (R66, R67), and the scene boundary (R62 to R64, R118, R195, R420, Table 10-5).
One cue at a time holds the whole Stage (R30, R39, R109); a Flicker pauses a ramp-up (R69). Counts of core cycles are
the environment's (R192, R193; notes/assumptions/3.md). -/
namespace Sys2Proof.Machine

/-! ### Starting -/

/-- The head of the Stage queue starts (R145, R558), at the operating point that the Dimmer then chooses (R442). -/
def Dev.startHead (d : Dev) (i : Ident) : Dev :=
  match d.prompter.stageQueue with
  | [] => d
  | c :: cs =>
    let d := d.choosePoint.pulse 1
    { d with prompter := { d.prompter with stageQueue := cs }, stage := { d.stage with running := some (d.running i c) } }

/-- STAGE_CUE_START (R145, R66): a lit, idle Stage takes the next cue; a dark one ramps up first. -/
def execStageCueStart (found : List Found) (s : State) : Host.Outcome State Fault Refusal :=
  onDev (fun i d =>
    if d.stage.running.isSome || d.prompter.stageQueue.isEmpty then d
    else match d.stage.power with
      | .lit => (d.meets i found).startHead i
      | _ => d.rampUp) s

/-- RAMP_UP_DONE (R67): at core cycle 256 the Stage is lit and the first cue begins. -/
def execRampUpDone (s : State) : Host.Outcome State Fault Refusal :=
  onDev (fun i d =>
    if d.stage.power = .rampUp then ({ d with stage := { d.stage with power := .lit } }).startHead i else d) s

/-- RAMP_DOWN_DONE (R66, R67): the Stage is dark; a ramp-up that waited begins. -/
def execRampDownDone (s : State) : Host.Outcome State Fault Refusal :=
  onDev (fun _ d =>
    if d.stage.power = .rampDown then
      let up := d.stage.wake || !d.prompter.stageQueue.isEmpty
      { d with stage := { d.stage with power := if up then .rampUp else .dark, wake := false } }
    else d) s

/-- DARK_IDLE_EXPIRY (R66). -/
def execDarkIdleExpiry (s : State) : Host.Outcome State Fault Refusal :=
  onDev (fun _ d =>
    if d.fld Reg.stgCtrl 15 4 != 0 && d.stage.running.isNone && d.prompter.stageQueue.isEmpty && d.stage.power == .lit then d.goDark
    else d) s

/-! ### The boundary -/

/-- The counts of a QNT enter its slot (R118, R119). DESIGN CHOICE (notes/assumptions/100.md): the internal counts, which the manual gives 40
bits, are unbounded. -/
def Dev.addCounts (d : Dev) (i : Ident) (r : Running) : Dev :=
  if cueClass r.cue.word == .qnt && r.rows != 0 then
    let o := d.qntOut i r
    let n := (qntOp r.cue.word r.cue.desc).slot
    let s := d.slot n
    d.setSlot n { s with curClip := s.curClip + o.clip, curCount := s.curCount + o.count, curMax := fmax s.curMax o.maxabs
                         curInvalid := s.curInvalid + o.invalid, curOver := s.curOver + o.escOver }
  else d

/-- The digest entry of a flagged scene gets its value, or none. -/
def Dev.digestScene (d : Dev) (r : Running) (v : Option W64) : Dev :=
  if cueClass r.cue.word == .scene && bitAt r.cue.word 25 then d.digDone v else d

/-- The digest of the cue in progress (R420). -/
def Dev.digestValue (d : Dev) (i : Ident) (r : Running) : W64 :=
  match cueClass r.cue.word with
  | .scene => (d.sceneOut i r).digest
  | _ => 0

/-- A cue without a fault: its writes land, its counts are taken, its token posts. Bytes that read an uncorrectable error make it an
error token; how far such a cue's writes went is not stated, and is free (Table 10-5). -/
def Dev.boundaryGood (d : Dev) (i : Ident) (r : Running) (es : List Nat) : Dev :=
  let ctr := cueCtr r.cue.word
  if es.isEmpty then
    let v := d.digestValue i r
    let new := d.stageMem i r none
    let d := (d.countFound i r).addCounts i r
    let (e, d) := ({ d with free := d.free + 1 }).landTile new
    (d.digestScene r (if e then none else some v)).postToken ctr e false
  else
    let n := d.stageEnd i r
    let d := ((d.countReads es).countFound i r).addCounts i r
    ((d.landPrefix i r n).digestScene r none).postToken ctr true false

/-- A cue in which a fault was detected (R62): writes before it may have landed; the Prompter halts. -/
def Dev.boundaryFault (d : Dev) (i : Ident) (r : Running) (es : List Nat) (x : Detection) (xs : List Detection) : Dev :=
  let d := ((d.countReads es).countFound i r).landPrefix i r x.time
  (d.digestScene r none).promptFault x.code true x.tile (multiDetected x xs) d.firstUnissued

/-- A cue whose writes another fault suppressed (R195): a detection of its first core cycle came first and is recorded; whether a later
one came first is a matter of time, and is free. 0x70 stays (R196). -/
def Dev.boundaryCut (d : Dev) (i : Ident) (r : Running) (es : List Nat) (xs : List Detection) : Dev :=
  let d := ((d.countReads es).countFound i r).landPrefix i r (d.cutBound i r xs)
  let d := match firstDetection xs with
    | none => d
    | some x =>
      let (w, d) := d.takeFree
      if d.halted && d.faultCode != 0x70 && (x.time == 0 || w.getLsbD 0) then
        d.writeFault x.code true x.tile (multiDetected x xs) (d.reg Reg.stgFaultPc |>.setWidth 18)
      else d
  d.goDark

/-- The scene boundary (R62): the cue ends, buffered writes take effect (R506), the Dimmer may change the operating point (R34). -/
def Dev.sceneBoundary (d : Dev) (i : Ident) (r : Running) : Dev :=
  let es := d.stageErrors i r
  let xs := d.detections i r
  let d := ({ d with stage := { d.stage with running := none } }).pulse 2
  let d := if r.cut then d.boundaryCut i r es xs
    else match firstDetection xs with
      | some x => d.boundaryFault i r es x xs
      | none => d.boundaryGood i r es
  let d := d.applyPend sceneBlocks
  ({ d with dim := { d.dim with afterCurtain := false } }).dimBoundary.post121

/-- SCENE_BOUNDARY (R62). -/
def execSceneBoundary (s : State) : Host.Outcome State Fault Refusal :=
  onDev (fun i d => match d.stage.running with
    | some r => d.sceneBoundary i r
    | none => d) s

end Sys2Proof.Machine
end

