-- ==== Sys2Proof/Machine/CastRows.lean ====
section
/-! DEFINITION. The Cast Table's own acts: the formation of a manifest (R275 to R279), spills to the Wings and returns (R295 to
R298). -/
namespace Sys2Proof.Machine

/-- FORMATION (R277): the formation that is due begins and completes. -/
def execFormation (s : State) : Host.Outcome State Fault Refusal :=
  onDev (fun i d => if d.mayForm then d.castGuard i d.formTouch d.formSpans (fun d => d.resumed.formNext) else d) s

/-! ### The Wings -/

/-- The Cast Table may begin a spill or a return: a program's streams are there, no Safety Curtain runs (Table 11-9), no replay,
which takes the logged ones again (R302), and no formation stands ahead of the state (DESIGN CHOICE, notes/assumptions/102.md). -/
def Dev.wingsOn (d : Dev) : Bool := d.cast.geom.isSome && !d.halting && !d.curtainDown && d.cast.replay.isNone && d.cast.ahead.isNone

/-- The stream's rows are in the running step. -/
def Dev.inStep (d : Dev) (s : Nat) : Bool := d.stepFormed && d.man.slots.any (fun u => u.stream == s)

/-- A PAUSED stream that may be spilled. -/
def Dev.spillable (d : Dev) (s : Nat) : Bool := (d.entry s).state == .paused && !d.inStep s

/-- The stream to spill next (R296): one whose PAUSE_STREAM asked for it; under pool pressure the lowest PAUSE_SEQ, then the lowest ID. -/
def Dev.nextSpill (d : Dev) : Option Nat :=
  match d.cast.spillReq.find? (fun s => d.spillable s) with
  | some s => some s
  | none =>
    if d.freeBlocks.length < d.fld Reg.cstPool 23 0 then
      ((((tabKeys d.cast.entries).filter (fun s => d.spillable s)).foldl (fun l s => keyIns ((d.entry s).pauseSeq * 16384 + s) s l) []).head?).map Prod.snd
    else none

/-- SPILL_START (R296): no spill begins without a free frame (R298). -/
def execSpillStart (s : State) : Host.Outcome State Fault Refusal :=
  onDev (fun i d =>
    if !d.wingsOn || d.cast.spill.isSome || d.freeFrame.isNone then d
    else d.castGuard i [] [] (fun d => match d.nextSpill with
      | some s => ({ d with cast := { d.cast with spill := some s, spillReq := d.cast.spillReq.filter (· != s) } }).pulse 85
      | none => d)) s

/-- A block that the spill reads has an uncorrectable error. -/
def Dev.spillBad (d : Dev) (s : Nat) : Bool :=
  (d.spillList s).any (fun k => !(d.errorsIn .hbm (d.blockAddr (d.placeOf s k)) d.geom.blockBytes).isEmpty)

/-- WINGS_ERR and source 116 (R298). -/
def Dev.wingsError (d : Dev) : Dev := d.flagRaise Reg.cstStatus 2 116

/-- The spill in progress ends (R296, R298). While too few frames are free it cannot. -/
def Dev.spillDone (d : Dev) (i : Ident) (s : Nat) (bad : Bool) : Dev :=
  let end_ := fun (d : Dev) => { d with cast := { d.cast with spill := none } }
  if bad then (end_ d).wingsError
  else if d.spillBad s then
    (d.spillList s).foldl (fun d k => d.castReads i .hbm (d.blockAddr (d.placeOf s k)) d.geom.blockBytes) d
  else
    let ks := d.spillList s
    if d.frameCount - d.cast.frames.length < ks.length then d
    else
      end_ (((d.spillStream s).note (.spilled s)).count Reg.cstSpills)

/-- SPILL_COMPLETE (R296, R298). -/
def execSpillComplete (pcieError : Bool) (s : State) : Host.Outcome State Fault Refusal :=
  onDev (fun i d => match d.cast.spill with
    | some s => if d.wingsOn && (d.entry s).state == .paused then d.castGuard i [(s, 0, (d.entry s).blocks)] [] (fun d => d.spillDone i s pcieError) else d
    | none => d) s

/-- A stream returns from the Wings, or fails (R297, R298). While too few blocks are free it cannot return. -/
def Dev.returnDone (d : Dev) (s : Nat) (bad : Bool) : Dev :=
  let end_ := fun (d : Dev) => { d with cast := { d.cast with returns := d.cast.returns.filter (· != s) } }
  if bad then ((end_ d).endStreams [s] .failed 8).wingsError.raise 115
  else
    let ks := d.returnList s
    if d.freeBlocks.length < ks.length then d
    else
      end_ (((d.returnStream s).note (.returned s)).count Reg.cstReturns)

/-- RETURN_COMPLETE (R297, R298): the return asked for first. -/
def execReturnComplete (pcieError : Bool) (s : State) : Host.Outcome State Fault Refusal :=
  onDev (fun i d => match d.cast.returns with
    | s :: _ => if d.wingsOn && (d.entry s).state == .spilled then d.castGuard i [(s, 0, (d.entry s).blocks)] [] (fun d => d.returnDone s pcieError) else d
    | [] => d) s

end Sys2Proof.Machine
end

