-- ==== Sys2Proof/Machine/HostIf.lean ====
section
/-! DEFINITION. The host interface (chapter 11): queue pairs (R336 to R340), commands as they are accepted (R341 to R351), aborts
(R348), and the PCIe link (R329 to R332).
The windows: R333, R335. What the PCI Express base specification alone defines of the function, the manual does not repeat. -/
namespace Sys2Proof.Machine

/-! ### What acceptance refuses -/

/-- The opcodes of Table 11-6. -/
def opcodes : List Nat :=
  [0x01, 0x02, 0x10, 0x11, 0x12, 0x13, 0x14, 0x15, 0x20, 0x21, 0x30, 0x40, 0x50, 0x51, 0x60, 0x70]

/-- The commands that CURTAIN_DOWN accepts (R350). -/
def curtainAccepts : List Nat := [0x01, 0x02, 0x21, 0x40, 0x50, 0x51, 0x60, 0x70]

/-- The status of a command that is not accepted: a reserved opcode (R343), a Strike not complete (Table 11-8), CURTAIN_DOWN (R350). -/
def Dev.turnedAway (d : Dev) (op : Nat) : Option Status :=
  if !opcodes.contains op then some .invalidOpcode
  else if !d.bit Reg.memStatus 1 && op != 0x50 && op != 0x51 then some .notReady
  else if d.curtainDown && !curtainAccepts.contains op then some .curtain
  else none

/-- An accepted command waits for its effect, in acceptance order (R343). -/
def Dev.await (d : Dev) (c : Command) : Dev := { d with hif := { d.hif with cmds := d.hif.cmds ++ [c] } }

/-! ### The commands accepted -/

/-- LOAD_PROGRAM and UNLOAD_PROGRAM: NOT_READY after a lifecycle change (R535), else they wait for the step in progress (R353). -/
def Dev.acceptLoad (d : Dev) (i : Ident) (c : Command) (used : List (Nat × Nat)) : Dev :=
  if !subReservedOk c.sub 0 false false used then d.complete c.sub .reservedField
  else if d.lc.isSome then d.complete c.sub .notReady
  else (d.await c).settle i

/-- The stream commands and RUN_JOB wait for a formation (R343, R346). -/
def Dev.acceptStream (d : Dev) (c : Command) : Dev :=
  if d.noProgram then d.complete c.sub .noProgram
  else if d.beingMarked c.sub then d.complete c.sub .aborted
  else d.await c

/-- What the module's own context holds, changed: the twin's context runs at times in two-context mode (R475, R477). -/
def Dev.onOwnCast (d : Dev) (f : Cast → Cast) : Dev :=
  if d.inTwin then { d with usy := { d.usy with twin := d.usy.twin.map (fun (c : Context) => { c with cast := f c.cast }) } }
  else { d with cast := f d.cast }

/-- CHECKPOINT waits for the next commit, or is served at once while no manifest is formed (Table 11-6). -/
def Dev.acceptCheckpoint (d : Dev) (i : Ident) (c : Command) : Dev :=
  if d.noProgram then d.complete c.sub .noProgram
  else if !subReservedOk c.sub 1 false false [(8, 8)] then d.complete c.sub .reservedField
  else if c.sub.flags.getLsbD 0 && subOp c.sub 8 8 % 4096 != 0 then d.complete c.sub .outOfRange
  else
    let d := d.onOwnCast (fun k => { k with ckptReq := k.ckptReq ++ [c.sub] })
    if d.halting || d.inTwin then d else d.captureIdle.stopIfHurt i

/-- The lead of an ensemble sends every device a new ERA before its RESTORE (R390, notes/assumptions/104.md). -/
def Dev.newEra (d : Dev) : Dev :=
  if d.isLead && d.joined && decide (1 < d.devices) then
    let era := (d.fld Reg.fabEra 7 0 + 1) % 256
    let d := ((List.range d.devices).filter (fun k => k != d.index)).foldl (fun d k => d.sendMgmt k 5 (leBytes 1 era)) d
    d.setFld Reg.fabEra 7 0 era
  else d

/-- RESTORE begins (R345). -/
def Dev.beginRestore (d : Dev) (i : Ident) (c : Command) : Dev :=
  if c.sub.flags.getLsbD 0 && !c.buf.ok then d.complete c.sub .dmaError
  else
    let d := d.newEra
    (if c.sub.flags.getLsbD 0 then d.restoreHost c.sub c.buf.bytes else d.startReplay [c.sub]).stopIfHurt i

/-- RESTORE is accepted in CURTAIN_DOWN or while a fault has halted the Prompter (R345), and waits where R208 withholds it. -/
def Dev.acceptRestore (d : Dev) (i : Ident) (c : Command) : Dev :=
  if !d.loaded || d.cast.geom.isNone then d.complete c.sub .noProgram
  else if !subReservedOk c.sub 1 false false [(8, 8)] then d.complete c.sub .reservedField
  else if d.lc.isSome || (d.cast.replay.isSome && !d.halted) || !(d.curtainDown || (d.halted && d.faultCode != 0)) then
    d.complete c.sub .notReady
  else if d.halting then d.await c
  else if !d.peakFits then
    let d := d.withhold
    { d with hif := { d.hif with restores := d.hif.restores ++ [c] } }
  else d.beginRestore i c

/-- A reading is taken at acceptance (R351, Table 11-10). -/
def Dev.energyIdle (d : Dev) : Bool :=
  d.halted || d.curtainDown || !d.loaded ||
    (!d.stepFormed && (match d.prompter.wait with | some w => w.ctr == 120 | none => false))

/-- READ_ENERGY (R351). -/
def Dev.acceptEnergy (d : Dev) (c : Command) : Dev :=
  if !subReservedOk c.sub 0 false false [] then d.complete c.sub .reservedField
  else if d.energyIdle then d.readEnergy true c.sub
  else { d with hif := { d.hif with energy := d.hif.energy ++ [c.sub] } }

/-- SAFETY_CURTAIN (R349, R350, Table 11-10). -/
def Dev.acceptCurtain (d : Dev) (i : Ident) (c : Command) : Dev :=
  if !subReservedOk c.sub 0 false false [] then d.complete c.sub .reservedField
  else if d.curtainDown && !d.halting then d.complete c.sub .success
  else
    let d := d.curtainHalt i
    { d with hif := { d.hif with curtainCmds := d.hif.curtainCmds ++ [c.sub] } }

/-- MAILBOX goes to the firmware (R343): source 6. -/
def Dev.acceptMailbox (d : Dev) (c : Command) : Dev :=
  if !subReservedOk c.sub 0 false false [(8, 56)] then d.complete c.sub .reservedField
  else ({ d with hif := { d.hif with mailbox := d.hif.mailbox ++ [c.sub] } }).raise 6

/-! ### ABORT_QUEUE -/

/-- The commands that a context holds and that are not in effect (R343, R346). A RESTORE whose replay has begun, a checkpoint being
written and a job with a step formed are in effect, and go on (notes/assumptions/26.md). -/
def Cast.commands (k : Cast) : List Submission := (k.jobs.filter (fun j => !j.begun)).map Job.cmd ++ k.ckptReq

/-- Those commands of a context that `p` names are taken out. -/
def Cast.dropCommands (k : Cast) (p : Submission → Bool) : Cast :=
  { k with jobs := k.jobs.filter (fun j => j.begun || !p j.cmd), ckptReq := k.ckptReq.filter (fun c => !p c) }

/-- Every command of pair `t` not yet in effect completes with ABORTED (R348). -/
def Dev.abortCommands (d : Dev) (t : Nat) : Dev :=
  let p := fun (c : Submission) => c.q.val == t
  let other := match d.usy.twin with | some c => c.cast.commands | none => []
  let gone := (d.hif.cmds.map Command.sub ++ d.cast.commands ++ other ++ d.hif.energy ++ d.hif.restores.map Command.sub).filter p
  let waits := d.spt.waits.filter p
  let d := { d with
    hif := { d.hif with cmds := d.hif.cmds.filter (fun c => !p c.sub), energy := d.hif.energy.filter (fun c => !p c)
                        restores := d.hif.restores.filter (fun c => !p c.sub) }
    cast := d.cast.dropCommands p
    usy := { d.usy with twin := d.usy.twin.map (fun (c : Context) => { c with cast := c.cast.dropCommands p }) }
    spt := { d.spt with waits := d.spt.waits.filter (fun c => !p c) } }
  let d := d.completeAll gone .aborted
  waits.foldl (fun d c => d.sptComplete c .aborted) d

/-- The streams of a context that pair `t` opened are marked (R348), those that a replay is yet to open included. -/
def Cast.mark (k : Cast) (t : Nat) : Cast :=
  let ss := (k.entries.filter (fun e => e.2.state != .free && tabGet (fun _ => 64) k.opener e.1 == t)).map Prod.fst
  { k with marked := k.marked ++ ss.filter (fun s => !k.marked.contains s)
           markers := if k.markers.contains t then k.markers else k.markers ++ [t] }

/-- The step in progress ends without commit (R32, R348): the Prompter halts, and marked streams end after the replay; where no
step is in progress they end at once. -/
def Dev.abortStep (d : Dev) : Dev :=
  if d.halted then d
  else if d.stepRuns || !d.cast.formed.isEmpty then d.haltPrompter.flushTransfers.dropAhead
  else
    let d := if d.cast.replay.isNone then d.endMarked else d
    if d.twoContexts then
      let d := d.swapContext
      (if d.cast.replay.isNone then d.endMarked else d).swapContext
    else d

/-- Commands that wait for a stream that is being marked complete with ABORTED (Table 11-10). -/
def Dev.abortNamed (d : Dev) : Dev :=
  let gone := (d.hif.cmds.map Command.sub).filter d.beingMarked
  let d' := { d with hif := { d.hif with cmds := d.hif.cmds.filter (fun c => !d.beingMarked c.sub) } }
  d'.completeAll gone .aborted

/-- The action of ABORT_QUEUE on pair `t` (R338, R348). -/
def Dev.abortPair (d : Dev) (i : Ident) (t err : Nat) : Dev :=
  let d := (d.setPair t { d.pair t with active := false, err := err }).abortCommands t
  let d := { d with cast := d.cast.mark t, usy := { d.usy with twin := d.usy.twin.map (fun (c : Context) => { c with cast := c.cast.mark t }) } }
  d.abortNamed.abortStep.settle i

/-- ABORT_QUEUE (R348): TARGET is a pair. -/
def Dev.acceptAbort (d : Dev) (i : Ident) (c : Command) : Dev :=
  if !subReservedOk c.sub 0 false false [(8, 1)] then d.complete c.sub .reservedField
  else
    let t := subOp c.sub 8 1
    if 64 ≤ t then d.complete c.sub .outOfRange else (d.abortPair i t 5).complete c.sub .success

/-! ### Acceptance -/

/-- A command is accepted (R337, R343). -/
def Dev.accept (d : Dev) (i : Ident) (c : Command) : Dev :=
  let op := c.sub.opcode.toNat
  match d.turnedAway op with
  | some st => d.complete c.sub st
  | none =>
    if op = 0x01 then d.acceptLoad i c [(8, 16)]
    else if op = 0x02 then d.acceptLoad i c []
    else if isStreamCmd c.sub || op == 0x30 then d.acceptStream c
    else if op = 0x20 then d.acceptCheckpoint i c
    else if op = 0x21 then d.acceptRestore i c
    else if op = 0x40 then d.acceptEnergy c
    else if op = 0x50 then d.acceptAbort i c
    else if op = 0x51 then d.acceptCurtain i c
    else if op = 0x60 then d.spotlight c.sub
    else d.acceptMailbox c

/-- The row of one opcode: a submission entry of another opcode is not this command. -/
def commandRow (op : Nat) (c : Submission) (buf : HostBuffer) (s : State) : Host.Outcome State Fault Refusal :=
  onDev (fun i d => if c.opcode.toNat = op then d.accept i { sub := c, buf := buf } else d) s

/-- No host buffer is read. -/
def HostBuffer.empty : HostBuffer := { ok := true, bytes := [], tokens := [] }

/-- LOAD_PROGRAM (R215, R216). -/
def execLoadProgram (c : Submission) (buf : HostBuffer) (s : State) : Host.Outcome State Fault Refusal := commandRow 0x01 c buf s
/-- UNLOAD_PROGRAM (R304). -/
def execUnloadProgram (c : Submission) (s : State) : Host.Outcome State Fault Refusal := commandRow 0x02 c HostBuffer.empty s
/-- OPEN_STREAM (R344). -/
def execOpenStream (c : Submission) (buf : HostBuffer) (s : State) : Host.Outcome State Fault Refusal := commandRow 0x10 c buf s
/-- APPEND (R344). -/
def execAppend (c : Submission) (buf : HostBuffer) (s : State) : Host.Outcome State Fault Refusal := commandRow 0x11 c buf s
/-- CLOSE_STREAM (R274). -/
def execCloseStream (c : Submission) (s : State) : Host.Outcome State Fault Refusal := commandRow 0x12 c HostBuffer.empty s
/-- PAUSE_STREAM (R268). -/
def execPauseStream (c : Submission) (s : State) : Host.Outcome State Fault Refusal := commandRow 0x13 c HostBuffer.empty s
/-- RESUME_STREAM (R268). -/
def execResumeStream (c : Submission) (s : State) : Host.Outcome State Fault Refusal := commandRow 0x14 c HostBuffer.empty s
/-- FORK_STREAM (R285). -/
def execForkStream (c : Submission) (buf : HostBuffer) (s : State) : Host.Outcome State Fault Refusal := commandRow 0x15 c buf s
/-- CHECKPOINT (R343). -/
def execCheckpoint (c : Submission) (s : State) : Host.Outcome State Fault Refusal := commandRow 0x20 c HostBuffer.empty s
/-- RESTORE (R345). -/
def execRestore (c : Submission) (buf : HostBuffer) (s : State) : Host.Outcome State Fault Refusal := commandRow 0x21 c buf s
/-- RUN_JOB (R346). -/
def execRunJob (c : Submission) (s : State) : Host.Outcome State Fault Refusal := commandRow 0x30 c HostBuffer.empty s
/-- READ_ENERGY (R351). -/
def execReadEnergy (c : Submission) (s : State) : Host.Outcome State Fault Refusal := commandRow 0x40 c HostBuffer.empty s
/-- ABORT_QUEUE (R348). -/
def execAbortQueue (c : Submission) (s : State) : Host.Outcome State Fault Refusal := commandRow 0x50 c HostBuffer.empty s
/-- SAFETY_CURTAIN (R349). -/
def execSafetyCurtain (c : Submission) (s : State) : Host.Outcome State Fault Refusal := commandRow 0x51 c HostBuffer.empty s
/-- MAILBOX (R343). -/
def execMailbox (c : Submission) (s : State) : Host.Outcome State Fault Refusal := commandRow 0x70 c HostBuffer.empty s
/-- INVALID_OPCODE (R343). -/
def execInvalidOpcode (c : Submission) (s : State) : Host.Outcome State Fault Refusal :=
  onDev (fun i d => if opcodes.contains c.opcode.toNat then d else d.accept i { sub := c, buf := HostBuffer.empty }) s

/-- SAFETY_CURTAIN_COMPLETE (R349). -/
def execSafetyCurtainComplete (s : State) : Host.Outcome State Fault Refusal := onDev (fun _ d => d.curtainComplete) s

/-- The oldest MAILBOX command is answered with what the firmware says (R343); statuses from 0x0D on are not produced (Table 11-8). -/
def Dev.answerMailbox (d : Dev) (status r0 r1 r2 : Nat) : Dev :=
  match d.hif.mailbox with
  | [] => d
  | c :: cs =>
    if 0x0C < status then d
    else ({ d with hif := { d.hif with mailbox := cs } }).post c.q.val
      (completionBytes (d.pair c.q.val).sqHead c.cid.toNat status 0 r0 r1 r2)

/-- MAILBOX_ANSWER (R343). -/
def execMailboxAnswer (status : BitVec 8) (r0 r1 r2 : W64) (s : State) : Host.Outcome State Fault Refusal :=
  onDev (fun _ d => d.answerMailbox status.toNat r0.toNat r1.toNat r2.toNat) s

/-! ### Queue pairs -/

/-- Set QSTATUS.ERR: source 2 (R336, R338). -/
def Dev.queueError (d : Dev) (q err : Nat) : Dev := (d.setPair q { d.pair q with err := err }).raise 2

/-- A doorbell out of range (R338): ERR 3, and the pair is aborted without a completion. -/
def Dev.doorbellRange (d : Dev) (i : Ident) (q : Nat) : Dev := (d.abortPair i q 3).raise 2

/-- A submission tail doorbell (R337, R338). -/
def Dev.sqDoorbell (d : Dev) (i : Ident) (q n : Nat) : Dev :=
  if !(d.pair q).active then d
  else if d.sqSize q ≤ n then d.doorbellRange i q
  else d.setPair q { d.pair q with sqTail := n }

/-- SQ_DOORBELL (R338): the index is bits [15:0]. -/
def execSqDoorbell (q : Fin 64) (v : W32) (s : State) : Host.Outcome State Fault Refusal :=
  onDev (fun i d => d.sqDoorbell i q.val (bits v.toNat 0 16)) s

/-- A completion head doorbell (R338, R339): slots below it are free. -/
def Dev.cqDoorbell (d : Dev) (i : Ident) (q n : Nat) : Dev :=
  if !(d.pair q).active then d
  else if d.cqSize q ≤ n then d.doorbellRange i q
  else d.setPair q { d.pair q with cqHead := n }

/-- CQ_DOORBELL (R339). -/
def execCqDoorbell (q : Fin 64) (v : W32) (s : State) : Host.Outcome State Fault Refusal :=
  onDev (fun i d => d.cqDoorbell i q.val (bits v.toNat 0 16)) s

/-- A submission entry of pair q (Table 11-5). -/
def readSubmission (q : Fin 64) (b : List Byte) : Submission :=
  { q := q, opcode := b.getD 0 0, flags := b.getD 1 0, cid := BitVec.ofNat 16 (field b 2 2), stream := BitVec.ofNat 16 (field b 4 2)
    job := BitVec.ofNat 16 (field b 6 2), ops := padTo 56 (b.drop 8) }

/-- The next entry is fetched (R337): SQ_HEAD advances and the command is accepted; a read that fails sets ERR 4. -/
def Dev.fetch (d : Dev) (i : Ident) (q : Fin 64) (entry : Option (List Byte)) (buf : HostBuffer) : Dev :=
  let p := d.pair q.val
  if !p.active || p.sqHead == p.sqTail || !d.hif.linkUp then d
  else
    match entry with
    | none => d.queueError q.val 4
    | some b =>
      let d := d.setPair q.val { p with sqHead := (p.sqHead + 1) % d.sqSize q.val }
      d.accept i { sub := readSubmission q b, buf := buf }

/-- SQ_FETCH (R337). -/
def execSqFetch (q : Fin 64) (entry : Option (List Byte)) (buf : HostBuffer) (s : State) : Host.Outcome State Fault Refusal :=
  onDev (fun i d => d.fetch i q entry buf) s

/-- CQ_HELD_ENTRY_WRITE (R339): one held entry, once there is a slot and the link is up. -/
def execCqHeldEntryWrite (q : Fin 64) (s : State) : Host.Outcome State Fault Refusal := onDev (fun _ d => Dev.drain 1 d q.val) s

/-- CQ_IRQ_TIMER (R340): entries not signalled, and a time limit. -/
def execCqIrqTimer (q : Fin 64) (s : State) : Host.Outcome State Fault Refusal :=
  onDev (fun _ d => if decide (0 < (d.pair q.val).unsignalled) && d.fld (Reg.hifQirq q.val) 23 8 != 0 then d.cqSignal q.val else d) s

/-- A pair as an accepted enable leaves it (R336). -/
def Pair.enabled (p : Pair) : Pair :=
  { p with active := true, err := 0, sqHead := 0, sqTail := 0, cqHead := 0, cqTail := 0, phase := true, unsignalled := 0 }

/-- An enable is checked (R336): 1 ABI, 2 bases and sizes, 0 where it is accepted. -/
def Dev.enableError (d : Dev) (q : Nat) : Nat :=
  if d.fld (Reg.hifQcfg q) 31 24 != 2 then 1
  else if d.fld (Reg.hifQsqBase q) 11 0 != 0 || d.fld (Reg.hifQcqBase q) 11 0 != 0 || decide (d.sqSize q < 2) || decide (d.cqSize q < 2) then 2
  else 0

/-- A write of QCFG (R336, R338): in RECOVERY enable writes are ignored (R533). -/
def Dev.qcfgWrite (d : Dev) (i : Ident) (q : Nat) (v : W32) : Dev :=
  let d := d.plainWrite (Reg.hifQcfg q) v
  if v.getLsbD 0 then
    if (d.pair q).active || d.bit Reg.secStatus 4 then d
    else
      let e := d.enableError q
      if e = 0 then d.setPair q (d.pair q).enabled else d.queueError q e
  else if (d.pair q).active then (d.abortPair i q 5).raise 2
  else d

/-- QUEUE_ENABLE (R336): a write with ENABLE = 1. -/
def execQueueEnable (_m : Master) (q : Fin 64) (cfg : W32) (s : State) : Host.Outcome State Fault Refusal :=
  onDev (fun i d => if cfg.getLsbD 0 then d.qcfgWrite i q.val cfg else d) s

/-- QUEUE_DISABLE (R338): a write with ENABLE = 0. -/
def execQueueDisable (_m : Master) (q : Fin 64) (cfg : W32) (s : State) : Host.Outcome State Fault Refusal :=
  onDev (fun i d => if cfg.getLsbD 0 then d else d.qcfgWrite i q.val cfg) s

/-! ### The link -/

/-- PCIE_LINK_DOWN (R332). -/
def execPcieLinkDown (s : State) : Host.Outcome State Fault Refusal :=
  onDev (fun i d => { d.curtainHalt i with hif := { (d.curtainHalt i).hif with linkUp := false } }) s

/-- The link is up again (R332): held messages and entries go. -/
def Dev.linkUp (d : Dev) : Dev :=
  let held := d.hif.heldMsix
  let d := { d with hif := { d.hif with linkUp := true, heldMsix := [] } }
  let d := held.foldl (fun d v => d.msix v) d
  (List.range 64).foldl (fun d q => d.drainAll q) d

/-- PCIE_LINK_UP (R332). -/
def execPcieLinkUp (s : State) : Host.Outcome State Fault Refusal := onDev (fun _ d => d.linkUp) s

/-- HIF_LINK reports the rate, width and mode (R329): 64 GT/s is in flit mode; source 3 where rate or width changed. -/
def Dev.linkRate (d : Dev) (rate width : Nat) (flit : Bool) : Dev :=
  if 3 < rate || !([1, 2, 4, 8, 16].contains width) then d
  else
    let same := d.fld Reg.hifLink 2 0 == rate && d.fld Reg.hifLink 7 3 == width
    let d := d.setReg Reg.hifLink (BitVec.ofNat 32 (rate + width * 8 + b2n (flit || rate == 3) * 256))
    if same then d else d.raise 3

/-- LINK_RATE_CHANGE (R329). -/
def execLinkRateChange (rate : BitVec 3) (width : BitVec 5) (flit : Bool) (s : State) : Host.Outcome State Fault Refusal :=
  onDev (fun _ d => d.linkRate rate.toNat width.toNat flit) s

/-- D3HOT_ENTRY (R331). -/
def execD3hotEntry (s : State) : Host.Outcome State Fault Refusal :=
  onDev (fun i d =>
    let d := { d with hif := { d.hif with d3 := true } }
    if d.curtainDown then d else d.curtainHalt i) s

/-- D0_RETURN (R331): the device is in CURTAIN_DOWN. -/
def execD0Return (s : State) : Host.Outcome State Fault Refusal :=
  onDev (fun _ d => if d.hif.d3 then ({ d with hif := { d.hif with d3 := false } }).curtainComplete else d) s

/-- The host unmasks a vector (R340): its pending message goes. -/
def Dev.unmask (d : Dev) (v : Nat) : Dev :=
  let pending := d.hif.msixPending.contains v
  let d := { d with hif := { d.hif with
    msixMasked := tabSet (fun _ => true) d.hif.msixMasked v false, msixPending := d.hif.msixPending.filter (· != v) } }
  if pending then d.msix v else d

/-- MSIX_VECTOR_UNMASK (R340). -/
def execMsixVectorUnmask (v : Fin 512) (s : State) : Host.Outcome State Fault Refusal := onDev (fun _ d => d.unmask v.val) s

/-! ### BAR4 and the configuration space

Of these the table's rows bring doorbells and an unmask; the others come by no row (notes/assumptions/105.md). -/

/-- The device ID (R329). -/
def pcieDevice : W16 := 0x0008
/-- The class code: processing accelerator (R329). -/
def pcieClass : BitVec 24 := 0x120000
/-- The Device Serial Number capability (Table 11-1). -/
def State.deviceSerial (s : State) : List Byte := s.fuses.serial

/-- Resizable BAR: BAR2 takes 2^n bytes, from 1 GiB to 512 GiB (Table 11-1). -/
def Dev.resizeBar2 (d : Dev) (n : Nat) : Dev :=
  if decide (30 ≤ n) && decide (n ≤ 39) then { d with hif := { d.hif with bar2Size := 2 ^ n } } else d

/-- MSI-X Enable and Function Mask (R340): pending messages go as the function's mask clears. -/
def Dev.msixControl (d : Dev) (enable mask : Bool) : Dev :=
  let d := { d with hif := { d.hif with msixEnable := enable, functionMask := mask } }
  let go := if enable && !mask then d.hif.msixPending.filter (fun v => !d.vectorMasked v) else []
  go.foldl (fun d v => d.msix v) { d with hif := { d.hif with msixPending := d.hif.msixPending.filter (fun v => !go.contains v) } }

/-- A 32-bit read of BAR4 (R335): doorbells and offsets not listed read 0. -/
def Dev.readBar4 (d : Dev) (off : Nat) : W32 :=
  if 0x80000 ≤ off ∧ off < 0x82000 then
    let k := (off - 0x80000) / 4
    if k % 4 = 3 then BitVec.ofNat 32 (b2n (tabGet (fun _ => true) d.hif.msixMasked (k / 4))) else tabGet (fun _ => 0) d.hif.msixTable k
  else if 0x90000 ≤ off ∧ off < 0x90040 then
    BitVec.ofNat 32 ((List.range 32).map (fun i => if d.hif.msixPending.contains (8 * (off - 0x90000) + i) then 2 ^ i else 0)).sum
  else 0

/-- A 32-bit write of BAR4 (R335): doorbells, and the MSI-X table; the pending bits are read only. -/
def Dev.writeBar4 (d : Dev) (i : Ident) (off : Nat) (v : W32) : Dev :=
  if off < 0x40000 then
    if off % 4096 = 0 then d.sqDoorbell i (off / 4096) (bits v.toNat 0 16)
    else if off % 4096 = 4 then d.cqDoorbell i (off / 4096) (bits v.toNat 0 16)
    else d
  else if 0x80000 ≤ off ∧ off < 0x82000 then
    let k := (off - 0x80000) / 4
    if k % 4 ≠ 3 then { d with hif := { d.hif with msixTable := tabSet (fun _ => 0) d.hif.msixTable k v } }
    else if v.getLsbD 0 then { d with hif := { d.hif with msixMasked := tabSet (fun _ => true) d.hif.msixMasked (k / 4) true } }
    else d.unmask (k / 4)
  else d

end Sys2Proof.Machine
end

