-- ==== Sys2Proof/Machine/Security.lean ====
section
/-! DEFINITION. The RWC registers' effects (R508): the Safety Curtain, MEM_WIPE and the Strike (R323 to R325), lifecycle, rollback
and keys (R529, R534, R535), the rail overrides (R552); and the flash commands (R539).
Table 18-8: R538. -/
namespace Sys2Proof.Machine

/-- The code of a lifecycle state (Table 18-6). -/
def Lifecycle.code : Lifecycle → Nat
  | .blank => 0 | .provisioned => 1 | .field => 2 | .returned => 3

/-- The lifecycle state of a code. -/
def Lifecycle.ofCode : Nat → Lifecycle
  | 0 => .blank | 1 => .provisioned | 2 => .field | _ => .returned

/-- SEC_LC_REQ may apply the next state, or RETURNED from PROVISIONED or FIELD (R534). -/
def Lifecycle.mayBecome (lc : Lifecycle) (n : Nat) : Bool :=
  n == lc.code + 1 || (n == 3 && (lc == .provisioned || lc == .field))

/-! ### The Strike -/

/-- The Safety Curtain, taken whole, if the Prompter is not halted (R325, R535). -/
def Dev.stopForStrike (d : Dev) (i : Ident) : Dev :=
  if d.halted && !d.halting then d else (d.curtainHalt i).curtainComplete

/-- A Strike starts (R324); it disarms the Spotlight, whose state is then IDLE (R489, Table 16-5). -/
def Dev.strikeStart (d : Dev) (why : StrikeFor) : Dev :=
  let armed := d.fld Reg.sptStatus 2 0 == 1 || d.fld Reg.sptStatus 2 0 == 2
  let d := if armed then d.setFld Reg.sptStatus 2 0 0 else d
  { (d.setBit Reg.memStatus 0).clrBit Reg.memStatus 1 with strike := some why }

/-- A byte of HBM lies in the group table that firmware placed at boot, which is among its boot records (R323, notes/assumptions/109.md). -/
def Dev.bootRecord (d : Dev) (a : Nat) : Bool :=
  let t := bits (d.reg64 Reg.fabGtable) 0 39
  t != 0 && decide (t + 2 ^ 16 ≤ hbmProg) && decide (t ≤ a) && decide (a < t + 2 ^ 16)

/-- What a Strike leaves (R323, R325): every memory zero with valid codes but for the firmware's boot records, the repair candidates (R320)
among them; every stream FREE, no program, no checkpoint, journal or log. -/
def Dev.struck (d : Dev) : Dev :=
  { d.clrBit Reg.stgImgLoad 8 with
    mems := { Mems.reset with
      host := d.mems.host, progSize := d.mems.progSize, twinSize := d.mems.twinSize, repair := d.repairs
      hbm := d.mems.hbm.filter (fun e => d.bootRecord e.1)
      errors := d.mems.errors.filter (fun e => e.1 == .hbm && d.bootRecord (64 * e.2)) }
    cast := Cast.reset
    grid := { d.grid with lanterns := [], progs := [] }
    usy := { d.usy with twin := none }
    hif := { d.hif with programHash := [] } }

/-- A completion entry delivers tokens or a stream's end (KIND 0x2). -/
def isTokenData (e : List Byte) : Bool := (e.headD 0).toNat / 16 == 2

/-- Token entries still held are discarded (R325). -/
def Dev.dropHeldTokens (d : Dev) : Dev :=
  (List.range 64).foldl (fun (d : Dev) q =>
    let p := d.pair q
    if p.held.any isTokenData then d.setPair q { p with held := p.held.filter (fun e => !isTokenData e) } else d) d

/-- An applied MEM_WIPE.GO (R325); it is ignored while a Strike runs (Table 10-7). -/
def Dev.wipe (d : Dev) (i : Ident) : Dev :=
  if d.strike.isSome then d
  else ((d.stopForStrike i).endAll).strikeStart .wipe

/-! ### Lifecycle and fuses -/

/-- `n` free words as bytes. -/
def Dev.freeBytes : Nat → Dev → List Byte × Dev
  | 0, d => ([], d)
  | n + 1, d =>
    let (w, d) := d.takeFree
    let (bs, d) := Dev.freeBytes n d
    (leBytes 4 w.toNat ++ bs, d)

/-- The bytes of `n` registers from `off`. -/
def Dev.regBytes (d : Dev) (off n : Nat) : List Byte := (List.range n).flatMap (fun i => leBytes 4 (d.reg (off + 4 * i)).toNat)

/-- The fuses of a lifecycle change are burned (R535): leaving BLANK burns the staged key hashes and a new identity key pair,
whose public key is a free value; entering RETURNED destroys the private key. -/
def State.burnLifecycle (s : State) (target : Nat) : State :=
  let lc := Lifecycle.ofCode target
  if s.fuses.lc = .blank then
    let (pub, d) := Dev.freeBytes 24 s.dev
    let h := s.dev.regBytes (Reg.secKeyStage 0) 48
    let hs := [h.take 48, (h.drop 48).take 48, (h.drop 96).take 48, h.drop 144]
    { s with fuses := { s.fuses with lc := lc, keyHash := hs, idPub := pub, idAlive := lc != .returned }, dev := d }
  else { s with fuses := { s.fuses with lc := lc, idAlive := s.fuses.idAlive && lc != .returned } }

/-- A lifecycle change that waits goes on once no Strike and no flash command runs (R535, Table 18-8). -/
def State.lifecycleGo (s : State) : State :=
  match s.dev.lc with
  | some c =>
    if c.burned || s.dev.strike.isSome || s.dev.flashOp.isSome then s
    else
      let s := s.burnLifecycle c.target
      { s with dev := ({ s.dev with lc := some { c with burned := true } }).strikeStart .lifecycle }
  | none => s

/-- An applied SEC_LC_REQ (R535). -/
def State.lifecycleRequest (s : State) (target : Nat) : State :=
  let d := (s.dev.stopForStrike s.ident).setBit Reg.secStatus 6
  State.lifecycleGo { s with dev := { d with lc := some { target := target, burned := false } } }

/-- An applied SEC_SVN_BURN (R529): source 428 where bits were burned. -/
def State.svnBurn (s : State) (n : Nat) : State :=
  if s.fuses.rollback < n then { s with fuses := { s.fuses with rollback := n }, dev := s.dev.raise 428 } else s

/-- An applied SEC_KEY_REVOKE (R529): set bits are revoked; source 429 where a slot was newly revoked. -/
def State.keyRevoke (s : State) (mask : BitVec 4) : State :=
  if s.fuses.revoked ||| mask = s.fuses.revoked then s
  else { s with fuses := { s.fuses with revoked := s.fuses.revoked ||| mask }, dev := s.dev.raise 429 }

/-! ### Applying a pair -/

/-- A value is one that the register permits (Table 17-4, R529, R534, R552). -/
def State.rwcPermits (s : State) (a : Nat) (v : W32) : Bool :=
  let n := v.toNat
  if a = Reg.dimCap then decide (8 ≤ bits n 0 7) && decide (bits n 0 7 ≤ 100)
  else if a = Reg.memRefreshOvr then bits n 0 2 != 3
  else if a = Reg.secLcReq then s.fuses.lc.mayBecome (bits n 0 2)
  else if a = Reg.secSvnBurn then
    decide (s.fuses.rollback ≤ bits n 0 7) && decide (bits n 0 7 ≤ s.dev.fld Reg.secSvnImg 7 0)
  else if a = Reg.secKeyRevoke then
    !(decide (s.dev.boot.key < 4) && bitAt n s.dev.boot.key) && (s.fuses.revoked ||| v.setWidth 4) != 15
  else if Reg.secVovr 0 ≤ a then
    let o := sext 8 n
    decide (-48 ≤ o) && (if s.fuses.lc = .blank ∨ s.fuses.lc = .provisioned then decide (o ≤ 24) else decide (o ≤ 0))
  else true

/-- A completed pair takes effect: at once, or at the control period for DIM_CAP (R508). -/
def State.rwcApply (s : State) (a : Nat) (v : W32) : State :=
  let n := v.toNat
  if a = Reg.dimCap then { s with dev := s.dev.writeLater a 0x7F v }
  else if a = Reg.memRefreshOvr then { s with dev := s.dev.setFld a 1 0 (bits n 0 2) }
  else if a = Reg.hifCurtain then (if bitAt n 0 then { s with dev := s.dev.curtainHalt s.ident } else s)
  else if a = Reg.memWipe then (if bitAt n 0 then { s with dev := s.dev.wipe s.ident } else s)
  else if a = Reg.secLcReq then s.lifecycleRequest (bits n 0 2)
  else if a = Reg.secSvnBurn then s.svnBurn (bits n 0 7)
  else if a = Reg.secKeyRevoke then s.keyRevoke (v.setWidth 4)
  else if Reg.secVovr 0 ≤ a then { s with dev := s.dev.setFld a 7 0 (bits n 0 8) }
  else s

/-- The second write of a pair at A + 4 (R509, R510). -/
def State.rwcSecond (s : State) (m : Master) (a : Nat) (w : W32) : State :=
  match s.dev.pairSecond m a w with
  | (none, d) => { s with dev := d }
  | (some v, d) =>
    let s := { s with dev := d }
    if s.rwcPermits a v then s.rwcApply a v else { s with dev := s.dev.pairFail m a 5 }

/-- Both writes of a pair, the second within its 64 cycles. -/
def State.rwcPair (s : State) (m : Master) (a : Nat) (v w : W32) : State :=
  State.rwcSecond { s with dev := s.dev.pairFirst m a v } m a w

/-- What a write does while the package has power. -/
def onPower (f : State → State) (s : State) : Host.Outcome State Fault Refusal :=
  if s.board.power = .on then .next (f s) else .next s

/-! ### Flash -/

/-- A flash byte: an erased byte reads 0xFF. -/
def flashDflt (_ : Nat) : Byte := 0xFF
/-- The flash bytes at `a`. -/
def flashRead (t : Tab Byte) (a : Nat) : Nat → List Byte
  | 0 => []
  | n + 1 => tabGet flashDflt t a :: flashRead t (a + 1) n
/-- Write flash bytes. -/
def flashWrite (t : Tab Byte) (a : Nat) : List Byte → Tab Byte
  | [] => t
  | b :: bs => flashWrite (tabSet flashDflt t a b) (a + 1) bs

/-- The address of slot B (Table 18-1). -/
def slotB : Nat := 0x07F00000
/-- The address of the provisioning area. -/
def provisioning : Nat := 0x0FE00000

/-- The address lies in the slot that booted, outside RECOVERY (Table 18-8). -/
def Dev.inBootedSlot (d : Dev) (a : Nat) : Bool :=
  !d.bit Reg.secStatus 4 && decide (a < provisioning) && (decide (slotB ≤ a) == d.bit Reg.secStatus 2)

/-- A write of SEC_FLASH_CMD (R539): discarded while BUSY, refused where misaligned or on the booted slot. -/
def Dev.flashStart (d : Dev) (op : FlashOp) : Dev :=
  let a := d.fld Reg.secFlashAddr 27 0
  let bad := (if op = .erase then a % 65536 != 0 else a % 256 != 0) || (op != .read && d.inBootedSlot a)
  if d.flashOp.isSome then d
  else if bad then d.setFld Reg.secFlashStat 2 1 1
  else { d.setBit Reg.secFlashStat 0 with
         flashOp := some { op := op, addr := a, data := d.regBytes (Reg.secFlashBuf 0) 64 } }

/-- Store bytes in the registers from `off`. -/
def Dev.putRegBytes (d : Dev) (off : Nat) (bs : List Byte) : Dev :=
  (List.range (bs.length / 4)).foldl (fun d i => d.setReg (off + 4 * i) (BitVec.ofNat 32 (field bs (4 * i) 4))) d

/-- A flash command completes (R539): what one that ended with an error left behind is open, free bytes. -/
def State.flashDone (s : State) (err : Bool) : State :=
  match s.dev.flashOp with
  | none => s
  | some c =>
    let n := if c.op = .erase then 65536 else 256
    let good := match c.op with
      | .read => flashRead s.flash c.addr 256
      | .program => c.data
      | .erase => List.replicate 65536 0xFF
    let (bs, d) := if err then Dev.freeBytes (n / 4) s.dev else (good, s.dev)
    let d := ({ d with flashOp := none }).setReg Reg.secFlashStat (if err then 4 else 0)
    let s := match c.op with
      | .read => { s with dev := d.putRegBytes (Reg.secFlashBuf 0) bs }
      | _ => { s with flash := flashWrite s.flash c.addr bs, dev := d }
    State.lifecycleGo { s with dev := s.dev.raise 427 }

/-- A Strike completes (R324, R325, R535). -/
def State.strikeDone (s : State) (us : W32) : State :=
  match s.dev.strike with
  | none => s
  | some why =>
    let d := if why = .wipe then s.dev.dropHeldTokens else s.dev
    let d := ((d.struck.clrBit Reg.memStatus 0).setBit Reg.memStatus 1).setReg Reg.memStrikeTime us
    let d := ({ d with strike := none }).raise 194
    let d := d.setBit Reg.hifStatus 0
    let d := if why = .lifecycle then (d.clrBit Reg.secStatus 6).raise 426 else d
    State.lifecycleGo { s with dev := d }

/-! ### The commands -/

/-- MEM_REFRESH_OVR (R316): a completed pair forces a least refresh rate. -/
def execMemRefreshOvr (m : Master) (v w : W32) (s : State) : Host.Outcome State Fault Refusal :=
  onPower (fun s => s.rwcPair m Reg.memRefreshOvr v w) s
/-- MEM_WIPE (R325). -/
def execMemWipe (m : Master) (v w : W32) (s : State) : Host.Outcome State Fault Refusal :=
  onPower (fun s => s.rwcPair m Reg.memWipe v w) s
/-- STRIKE_COMPLETE (R324). -/
def execStrikeComplete (us : W32) (s : State) : Host.Outcome State Fault Refusal := onPower (fun s => s.strikeDone us) s
/-- HIF_CURTAIN (R349). -/
def execHifCurtain (m : Master) (v w : W32) (s : State) : Host.Outcome State Fault Refusal :=
  onPower (fun s => s.rwcPair m Reg.hifCurtain v w) s
/-- DIM_CAP (R432). -/
def execDimCap (m : Master) (v w : W32) (s : State) : Host.Outcome State Fault Refusal :=
  onPower (fun s => s.rwcPair m Reg.dimCap v w) s
/-- SEC_LC_REQ (R535). -/
def execSecLcReq (m : Master) (v w : W32) (s : State) : Host.Outcome State Fault Refusal :=
  onPower (fun s => s.rwcPair m Reg.secLcReq v w) s
/-- SEC_SVN_BURN (R529). -/
def execSecSvnBurn (m : Master) (v w : W32) (s : State) : Host.Outcome State Fault Refusal :=
  onPower (fun s => s.rwcPair m Reg.secSvnBurn v w) s
/-- SEC_KEY_REVOKE (R529). -/
def execSecKeyRevoke (m : Master) (v w : W32) (s : State) : Host.Outcome State Fault Refusal :=
  onPower (fun s => s.rwcPair m Reg.secKeyRevoke v w) s
/-- SEC_VOVR (R551). -/
def execSecVovr (m : Master) (r : Fin 4) (v w : W32) (s : State) : Host.Outcome State Fault Refusal :=
  onPower (fun s => s.rwcPair m (Reg.secVovr r.val) v w) s
/-- FLASH_READ (R539). -/
def execFlashRead (_m : Master) (s : State) : Host.Outcome State Fault Refusal := onDev (fun _ d => d.flashStart .read) s
/-- FLASH_PROGRAM (R539). -/
def execFlashProgram (_m : Master) (s : State) : Host.Outcome State Fault Refusal := onDev (fun _ d => d.flashStart .program) s
/-- FLASH_ERASE (R539). -/
def execFlashErase (_m : Master) (s : State) : Host.Outcome State Fault Refusal := onDev (fun _ d => d.flashStart .erase) s
/-- FLASH_COMMAND_DONE (R539). -/
def execFlashCommandDone (flashError : Bool) (s : State) : Host.Outcome State Fault Refusal :=
  onPower (fun s => s.flashDone flashError) s

end Sys2Proof.Machine
end

