-- ==== Sys2Proof/Machine/Management.lean ====
section
/-! DEFINITION. The commands of chapter 17: the configuration check, snapshots, the Callboard, pairs that time out; and the
digest ring's registers.
Table 17-10: R524. -/
namespace Sys2Proof.Machine

/-- CFG_USE (R514). -/
def execCfgUse (_m : Master) (s : State) : Host.Outcome State Fault Refusal := onDev (fun _ d => d.cfgCommit 1) s
/-- CFG_CAPTURE (R514). -/
def execCfgCapture (_m : Master) (s : State) : Host.Outcome State Fault Refusal := onDev (fun _ d => d.cfgCommit 2) s
/-- CFG_OFF (R514). -/
def execCfgOff (_m : Master) (s : State) : Host.Outcome State Fault Refusal := onDev (fun _ d => d.cfgCommit 3) s

/-- CFG_PASS_COMPLETE (R513): no pass runs while CFG_CTRL.EN is 0. -/
def execCfgPassComplete (cycles : BitVec 24) (s : State) : Host.Outcome State Fault Refusal :=
  onDev (fun i d => if d.bit Reg.cfgCtrl 0 then d.passDone i cycles.toNat else d) s

/-- SNP_GO (R518): a snapshot is requested. -/
def execSnpGo (_m : Master) (s : State) : Host.Outcome State Fault Refusal := onDev (fun _ d => d.setBit Reg.snpStatus 0) s

/-- A snapshot is requested, or SNP_PERIOD asks for one (R518). -/
def Dev.snapshotDue (d : Dev) : Bool := d.bit Reg.snpStatus 0 || d.fld Reg.snpPeriod 23 0 != 0

/-- SNAPSHOT (R518). -/
def execSnapshot (s : State) : Host.Outcome State Fault Refusal :=
  onDev (fun _ d => if d.snapshotDue then d.snapshot else d) s

/-- CLB_RAISE (R519). -/
def execClbRaise (_m : Master) (w : Fin 16) (v : W32) (s : State) : Host.Outcome State Fault Refusal :=
  onDev (fun _ d => d.clbRaised w.val v) s

/-- CLB_PENDING_CLEAR (R520). -/
def execClbPendingClear (_m : Master) (w : Fin 16) (v : W32) (s : State) : Host.Outcome State Fault Refusal :=
  onDev (fun _ d => d.clbCleared w.val v) s

/-- RWC_PAIR_TIMEOUT (R510): an open pair of the master fails with reason 1. -/
def execRwcPairTimeout (m : Master) (s : State) : Host.Outcome State Fault Refusal :=
  onDev (fun _ d => match d.openPair m with
    | some (a, _) => (d.closePair m).pairFail m a 1
    | none => d) s

/-- An offset is that of STG_DIG_BASE or STG_DIG_SIZE. -/
def digRegister (off : Nat) : Bool := off == Reg.stgDigBase || off == Reg.stgDigBase + 4 || off == Reg.stgDigSize

/-- DIGEST_RING_CONFIG (R421): a write of STG_DIG_BASE or STG_DIG_SIZE. -/
def execDigestRingConfig (_m : Master) (off : BitVec 26) (v : W32) (s : State) : Host.Outcome State Fault Refusal :=
  onDev (fun _ d => if digRegister (canonOff off.toNat) then d.plainWrite (canonOff off.toNat) v else d) s

end Sys2Proof.Machine
end

