-- ==== Sys2Proof/Machine/Attest.lean ====
section
/-! DEFINITION. DOE and SPDM (R352), identity and measurements (R536, R537). The bytes of the messages are those of SPDM 1.3 and
of PCIe DOE (notes/assumptions/43.md); a request arrives with source 7. -/
namespace Sys2Proof.Machine

/-! ### Messages -/

/-- A DOE data object of type `t` of the PCI-SIG: its two header words, then the payload in whole words. -/
def doeObject (t : Nat) (payload : List Byte) : List Byte :=
  let n := ceilDiv payload.length 4
  leBytes 2 1 ++ leBytes 1 t ++ [0] ++ leBytes 4 (n + 2) ++ padTo (4 * n) payload

/-- An SPDM 1.3 message: code, two parameters, content. -/
def spdm (code p1 p2 : Nat) (content : List Byte) : List Byte := [0x13] ++ leBytes 1 code ++ leBytes 1 p1 ++ leBytes 1 p2 ++ content

/-- A request arrives and is answered. -/
def Dev.doeReply (d : Dev) (m : List Byte) : Dev := (d.raise 7).emit (.doe (doeObject 1 m))

/-- ERROR UnsupportedRequest, naming the request's code. -/
def unsupported (code : Nat) : List Byte := spdm 0x7F 0x07 code []

/-- ERROR InvalidRequest. -/
def invalidRequest : List Byte := spdm 0x7F 0x01 0 []

/-! ### Identity -/

/-- The identity chain of the provisioning area, behind its 4-byte length (Table 18-1); a length past the area gives no chain. -/
def State.chain (s : State) : List Byte :=
  let n := leNat (flashRead s.flash provisioning 4)
  if n ≤ 2 ^ 21 - 4 then flashRead s.flash (provisioning + 4) n else []

/-- A message with the signature of the identity key over the digest of the nonce asked and the message. -/
def State.signed (s : State) (nonce : BitVec 256) (m : List Byte) : List Byte :=
  m ++ padTo 96 (Config.ecdsaSign s.fuses.idPub (sha384 (leBytes 32 nonce.toNat ++ m)))

/-! ### Measurements -/

/-- Firmware runs: no RECOVERY. -/
def State.recovery (s : State) : Bool := s.dev.bit Reg.secStatus 4

/-- A measurement of Table 18-7: digests of 48 bytes, or 8 raw bytes; in RECOVERY 2 to 6 read zero (R533). -/
def State.measurement (s : State) (k : Nat) : List Byte :=
  if k = 5 then
    if s.recovery then List.replicate 8 0
    else leBytes 1 s.fuses.lc.code ++ leBytes 1 (b2n (s.dev.bit Reg.secStatus 2)) ++ leBytes 1 s.fuses.rollback ++
      leBytes 1 s.fuses.revoked.toNat ++ leBytes 1 (b2n (s.dev.bit Reg.secStatus 3)) ++ [0, 0, 0]
  else if k = 1 then padTo 48 (s.dev.boot.measures.getD 0 [])
  else if s.recovery then List.replicate 48 0
  else if k = 6 then padTo 48 s.dev.hif.programHash
  else padTo 48 (s.dev.boot.measures.getD (k - 1) [])

/-- A measurement block: index, the DMTF specification, and the value with its kind. -/
def State.block (s : State) (k : Nat) : List Byte :=
  let v := s.measurement k
  let kind := if k = 1 then 0 else if k = 4 then 3 else if k = 5 then 0x83 else 1
  leBytes 1 k ++ [1] ++ leBytes 2 (v.length + 3) ++ leBytes 1 kind ++ leBytes 2 v.length ++ v

/-- The indices that a request returns (R537). -/
def measured (idx : Nat) : List Nat := if idx = 0xFF then [1, 2, 3, 4, 5, 6] else if decide (1 ≤ idx) && decide (idx ≤ 6) then [idx] else []

/-! ### The commands -/

/-- DOE_DISCOVERY (R352): which entry was asked for is not the row's to say: Discovery itself or CMA-SPDM, the last. -/
def execDoeDiscovery (s : State) : Host.Outcome State Fault Refusal :=
  onDev (fun _ d =>
    let (w, d) := (d.raise 7).takeFree
    d.emit (.doe (doeObject 0 (leBytes 2 1 ++ (if w.toNat % 2 = 0 then [0, 1] else [1, 0]))))) s

/-- DOE_ABORT (R352): the mailbox is reset; it gives back no data object. -/
def execDoeAbort (s : State) : Host.Outcome State Fault Refusal := onDev (fun _ d => (d.raise 7).emit (.doe [])) s

/-- GET_VERSION (R352): version 1.3. -/
def execGetVersion (s : State) : Host.Outcome State Fault Refusal :=
  onDev (fun _ d => d.doeReply ([0x10, 0x04, 0, 0, 0, 1] ++ leBytes 2 0x1300)) s

/-- GET_CAPABILITIES (R352): certificates, challenge, signed measurements; objects of up to 16 KiB. -/
def execGetCapabilities (s : State) : Host.Outcome State Fault Refusal :=
  onDev (fun _ d => d.doeReply (spdm 0x61 0 0 ([0, 17, 0, 0] ++ leBytes 4 0x16 ++ leBytes 4 16384 ++ leBytes 4 16384))) s

/-- NEGOTIATE_ALGORITHMS (R352): ECDSA P-384 and SHA-384. -/
def execNegotiateAlgorithms (s : State) : Host.Outcome State Fault Refusal :=
  onDev (fun _ d => d.doeReply (spdm 0x63 0 0
    (leBytes 2 36 ++ [1, 0] ++ leBytes 4 4 ++ leBytes 4 0x80 ++ leBytes 4 2 ++ List.replicate 16 0))) s

/-- GET_DIGESTS (R352): slot 0 alone. -/
def execGetDigests (s : State) : Host.Outcome State Fault Refusal :=
  onDev (fun _ d => d.doeReply (spdm 0x01 0 1 (sha384 s.chain))) s

/-- GET_CERTIFICATE (R537): a part of slot 0's chain, at most what a data object of 16 KiB holds (R352); slots 1 to 7 are empty. -/
def execGetCertificate (slot : BitVec 4) (off len : BitVec 16) (s : State) : Host.Outcome State Fault Refusal :=
  onDev (fun _ d =>
    let c := s.chain
    if slot.toNat ≠ 0 || c.length < off.toNat then d.doeReply invalidRequest
    else
      let part := (c.drop off.toNat).take (min len.toNat 16368)
      d.doeReply (spdm 0x02 0 0 (leBytes 2 part.length ++ leBytes 2 (c.length - off.toNat - part.length) ++ part))) s

/-- CHALLENGE (R352, R536): refused in RETURNED; the answer's own nonce is a free value. -/
def execChallenge (slot : BitVec 4) (nonce : BitVec 256) (s : State) : Host.Outcome State Fault Refusal :=
  onDev (fun _ d =>
    if s.fuses.lc = .returned then d.doeReply (unsupported 0x83)
    else if slot.toNat ≠ 0 then d.doeReply invalidRequest
    else
      let (own, d) := Dev.freeBytes 8 d
      d.doeReply (s.signed nonce (spdm 0x03 0 1 (sha384 s.chain ++ own ++ leBytes 2 0)))) s

/-- GET_MEASUREMENTS (R536, R537). -/
def execGetMeasurements (idx : Byte) (sign : Bool) (nonce : BitVec 256) (s : State) : Host.Outcome State Fault Refusal :=
  onDev (fun _ d =>
    if sign && s.fuses.lc == .returned then d.doeReply (unsupported 0xE0)
    else
      let ks := measured idx.toNat
      let rec_ := ks.flatMap s.block
      let (own, d) := Dev.freeBytes 8 d
      let m := spdm 0x60 (if idx = 0 then 6 else 0) 0 (leBytes 1 ks.length ++ leBytes 3 rec_.length ++ rec_ ++ own ++ leBytes 2 0)
      d.doeReply (if sign then s.signed nonce m else m)) s

/-- UNSUPPORTED_REQUEST (R352). -/
def execUnsupportedRequest (code : Byte) (s : State) : Host.Outcome State Fault Refusal :=
  onDev (fun _ d => d.doeReply (unsupported code.toNat)) s

end Sys2Proof.Machine
end

