-- ==== Sys2Proof/Machine/Dimmer.lean ====
section
/-! DEFINITION. The commands of the Dimmer (chapter 14).
Bubbles change time only (R31, R68, R440); Table 14-2: R454; sources: R456. -/
namespace Sys2Proof.Machine

/-- A ramp is under way. -/
def Dev.ramping (d : Dev) : Bool := d.stage.power == .rampUp || d.stage.power == .rampDown

/-! ### Bubbles and Flickers -/

/-- What the accumulator holds after the next core cycle in which the sum reaches 64 (R438), from `acc` in steps of b. -/
def nextOverflow (acc b : Nat) : Nat := acc + ceilDiv (64 - acc) b * b - 64

/-- BUBBLE (R438, R439): the cycle is a bubble, counted, unless it is dropped in a ramp, no proportional bubble is inserted (R444), or it
is one of a Flicker's burst, counted with it (R441). Every tile holds its state, so nothing else changes. -/
def Dev.bubble (d : Dev) : Dev :=
  if d.bubbleB = 0 then d
  else
    let d := { d with dim := { d.dim with acc := nextOverflow d.dim.acc d.bubbleB } }
    if d.ramping || d.fixedMode || d.dim.burst then d else (d.wideAdd Reg.dimBubbles 1).pulse 6

/-- BUBBLE (R438). -/
def execBubble (s : State) : Host.Outcome State Fault Refusal := onDev (fun _ d => d.bubble) s

/-- A Flicker's burst (R441): 8 core cycles, or what a burst under way is lengthened by, which is free, at most 8. Each burst in
fixed-frequency mode is one conflict event (R444). -/
def Dev.flickerBurst (d : Dev) : Dev :=
  let d := d.pulse 6
  if d.dim.burst then
    let (w, d) := d.takeFree
    d.wideAdd Reg.dimBubbles (w.toNat % 9)
  else
    let d := { d.wideAdd Reg.dimBubbles 8 with dim := { d.dim with burst := true } }
    if d.fixedMode then d.conflict 2 else d

/-- FLICKER (R441): counted and flagged; a ramp-up pauses, a ramp-down goes on, else a burst is inserted. -/
def Dev.flicker (d : Dev) : Dev :=
  let d := (d.count Reg.dimFlickers).flagRaise Reg.dimStatus 16 352
  match d.stage.power with
  | .rampUp => d.count Reg.stgRampPauses
  | .rampDown => d
  | _ => d.flickerBurst

/-- FLICKER (R441). -/
def execFlicker (s : State) : Host.Outcome State Fault Refusal := onDev (fun _ d => d.flicker) s

/-- FLICKER_BURST_END (R441). -/
def execFlickerBurstEnd (s : State) : Host.Outcome State Fault Refusal :=
  onDev (fun _ d => if d.dim.burst then
      ({ d with dim := { d.dim with burst := false } }).setB (max d.bubbleB (d.fld Reg.dimFlicker 13 8))
    else d) s

/-! ### The control period -/

/-- The bubble law (R437): b after a period of demand D under C, with the Stage's draw S. -/
def bubbleLaw (b bmax dem c draw : Nat) : Nat :=
  if c * 16 < dem then min bmax (b + ceilDiv (64 * (dem - c * 16)) (16 * draw))
  else b - 64 * (c * 16 - dem) / (32 * draw)

/-- A sum that DIM_EST shows in 16 bits; a larger one is not stated. -/
def Dev.estimate (d : Dev) (n : Nat) : Nat × Dev :=
  if n < 65536 then (n, d)
  else let (w, d) := d.takeFree
    (w.toNat % 65536, d)

/-- The demand D of an estimate E (R436). -/
def Dev.demand (d : Dev) (e : Nat) : Nat :=
  if d.bit Reg.dimStatus 4 then ceilDiv (11 * max e (d.fld Reg.dimEst 31 16)) 10 else e

/-- The power floor and its counts after a period whose bubble fraction was b (R443). -/
def Dev.powerFloor (d : Dev) (b : Nat) : Dev :=
  let hi := if b = d.bMax then d.dim.atMax + 1 else 0
  let lo := if b = 0 then d.dim.atZero + 1 else 0
  let f := d.fld Reg.dimStatus 8 6
  if hi = 8 then
    { d.setFld Reg.dimStatus 8 6 (min 5 (f + 1)) with dim := { d.dim with atMax := 0, atZero := lo } }
  else if lo = 1000 then
    { d.setFld Reg.dimStatus 8 6 (f - 1) with dim := { d.dim with atMax := hi, atZero := 0 } }
  else { d with dim := { d.dim with atMax := hi, atZero := lo } }

/-- The mode ends in the first period with e > 0 (R445); a DIM_FIXED applied before, and not yet in force, does not bring it back. -/
def Dev.fixedBroken (d : Dev) : Dev :=
  let d := { d.clrBit Reg.dimStatus 3 with dim := { d.dim with fixedNext := none } }
  (d.conflict 1).flagRaise Reg.dimStatus 15 353

/-- DIMMER_CONTROL_PERIOD (R434, R437, R443 to R445): `stage` is the weighted sum of the tiles' toggle counters before the gain, `other`
that of the other counters, in 1/16 units; the rounding of the gain's product and of U is not stated, and is free. -/
def Dev.controlPeriod (d : Dev) (i : Ident) (stage other : Nat) : Dev :=
  let b := d.bubbleB
  let (st, d) := d.freeQuot (stage * d.fld Reg.dimGain 15 0) 4096
  let (e, d) := d.estimate (128 + st + other)
  let (su, d) := d.freeQuot (st * 64) (64 - b)
  let u := 128 + su + other
  let dem := d.demand e
  let c := d.capC
  let d := d.setFld Reg.dimEst 15 0 e
  let d := { d with dim := { d.dim with
    estSum := d.dim.estSum + e, estCount := d.dim.estCount + 1
    peak := some (match d.dim.peak with | some p => max p u | none => u) } }
  let d := d.setB (bubbleLaw b d.bMax dem c i.stageDraw)
  let d := if d.fixedMode then (if c * 16 < dem then d.fixedBroken else d) else d.powerFloor b
  let d := (d.applyPend (fun x => x == .dim)).takeCap
  if d.stage.running.isNone then d.dimBoundary else d

/-- DIMMER_CONTROL_PERIOD (R437). -/
def execDimmerControlPeriod (stage other : W16) (s : State) : Host.Outcome State Fault Refusal :=
  onDev (fun i d => d.controlPeriod i stage.toNat other.toNat) s

/-! ### The readings of each millisecond -/

/-- The calibration state of R435. -/
structure Calibration where
  dis : Nat
  agree : Nat
  suspect : Bool
  gain : Nat
deriving DecidableEq, Repr

/-- One reading of the calibration (R435): `em` the mean estimate, `m` the measured power. -/
def calibrate (c : Calibration) (em m : Nat) : Calibration :=
  let gap := if em < m then m - em else em - m
  let apart := decide (m < gap * 4)
  let dis := if apart then min (c.dis + 1) 16 else 0
  let agree := if apart then 0 else if gap * 10 ≤ m then min (c.agree + 1) 1000 else 0
  let suspect := if !c.suspect && dis == 16 then true else if c.suspect && agree == 1000 then false else c.suspect
  let gain := if !suspect && em != 0 then
      (clampInt 0x0800 0x2000 ((c.gain : Int) + ((c.gain : Int) * ((m : Int) - em)).tdiv (4 * em))).toNat
    else c.gain
  { dis := dis, agree := agree, suspect := suspect, gain := gain }

/-- The mean of the period estimates of the millisecond; its rounding, and its value where no period ended, are free. -/
def Dev.meanEstimate (d : Dev) : Nat × Dev :=
  if d.dim.estCount = 0 then
    let (w, d) := d.takeFree
    (w.toNat % 65536, d)
  else d.freeQuot d.dim.estSum d.dim.estCount

/-- CALIBRATION_READING (R435, R436, R453): M and the module input energy of the millisecond. -/
def Dev.calibrationReading (d : Dev) (m : Nat) (nj : Nat) : Dev :=
  let (em, d) := d.meanEstimate
  let was := d.bit Reg.dimStatus 4
  let c := calibrate { dis := d.dim.dis, agree := d.dim.agree, suspect := was, gain := d.fld Reg.dimGain 15 0 } em m
  let d := (d.setFld Reg.dimEst 31 16 m).setReg Reg.dimGain (BitVec.ofNat 32 (c.gain + b2n c.suspect * 65536))
  let d := d.setFld Reg.dimStatus 4 4 (b2n c.suspect)
  let d := if c.suspect && !was then (d.conflict 4).raise 354 else if was && !c.suspect then d.raise 355 else d
  let t := d.dim.remainder + nj
  let d := d.wideAdd Reg.dimEnergy (t / 1000)
  { d with dim := { d.dim with dis := c.dis, agree := c.agree, estSum := 0, estCount := 0, remainder := t % 1000 } }

/-- CALIBRATION_READING (R435). -/
def execCalibrationReading (power : W16) (nanojoules : W64) (s : State) : Host.Outcome State Fault Refusal :=
  onDev (fun _ d => d.calibrationReading power.toNat nanojoules.toNat) s

/-- The hottest stack temperature read (R316). -/
def Dev.hottestStack (d : Dev) : Nat := (List.range 8).foldl (fun t n => max t (d.fld (Reg.memTemp n) 7 0)) 0

/-- THERMAL_READING (R450, R451, R467). -/
def Dev.thermalReading (d : Dev) (i : Ident) (die0 die1 : Nat) : Dev :=
  let die := max die0 die1
  let hbm := d.hottestStack
  let d := d.setReg Reg.dimTemp (BitVec.ofNat 32 (die0 + die1 * 256 + hbm * 65536))
  let x := max (die - d.fld Reg.dimTherm 7 0) (hbm - d.fld Reg.dimTherm 15 8)
  let d := d.setFld Reg.dimTcap 6 0 (max 8 (100 - 4 * x))
  let was := d.bit Reg.dimStatus 5
  let d := d.setFld Reg.dimStatus 5 5 (b2n (decide (0 < x)))
  let d := if 0 < x && !was then d.raise 356 else if was && x == 0 then d.raise 357 else d
  let n := if decide (d.fld Reg.dimTherm 23 16 ≤ die) || decide (d.fld Reg.dimTherm 31 24 ≤ hbm) then d.dim.critical + 1 else 0
  let d := { d with dim := { d.dim with critical := min 10 n } }
  if n = 10 then (((d.conflict 8).raise 358).curtainHalt i).enterFailing else d

/-- THERMAL_READING (R450). -/
def execThermalReading (die0 die1 : Byte) (s : State) : Host.Outcome State Fault Refusal :=
  onDev (fun i d => d.thermalReading i die0.toNat die1.toNat) s

/-- THERM_ALERT# is low (Table 19-2): derating, or a thermal halt, which lasts while the readings stay critical. -/
def Dev.thermAlert (d : Dev) : Bool := d.bit Reg.dimStatus 5 || d.dim.critical == 10

/-! ### Hints and fixed frequency -/

/-- HINT_PREARM (R448): the pre-arm that falls due first takes effect. -/
def execHintPrearm (s : State) : Host.Outcome State Fault Refusal :=
  onDev (fun i d => match firstDue d.dim.prearm with
    | none => d
    | some (x, xs) => ({ d with dim := { d.dim with prearm := xs } }).setB (d.prearmed i (16 * x))) s

/-- DIM_FIXED (R444): the write waits for the control period. -/
def execDimFixed (_m : Master) (v : W32) (s : State) : Host.Outcome State Fault Refusal :=
  onDev (fun _ d => d.plainWrite Reg.dimFixed v) s

end Sys2Proof.Machine
end

