-- ==== Sys2Proof/Machine/Board.lean ====
section
/-! DEFINITION. The module's board-management controller (chapter 19): power, the input, SMBus; and the reset of the package.
Ordering codes: R555; Table 19-9: R556. -/
namespace Sys2Proof.Machine

/-- The package after a reset of cause `c` (R504, Table 17-2): what lies outside it stays, which is host memory, what was sent, and
how many free words have been taken. The repair candidates that the SYS region records stay for the next boot unless the rails go off
(R320). A Function Level Reset (cause 2) leaves the link up, and HIF_LINK says how (R329, R330). -/
def Dev.afterReset (d : Dev) (c : Nat) : Dev :=
  let r := Dev.reset.setReg Reg.topReset (BitVec.ofNat 32 c)
  let r := if c = 2 then r.setReg Reg.hifLink (d.reg Reg.hifLink) else r
  { r with mems := { r.mems with host := d.mems.host, repair := if c = 0 then [] else d.repairs }
           outbox := d.outbox, free := d.free }

/-- The rails go off (R547, R548): every memory is lost. -/
def State.railsOff (s : State) (p : Power) : State :=
  { s with board := { s.board with power := p }, dev := if s.board.power = .on then s.dev.afterReset 0 else s.dev }

/-- MOD_EN_FALL (R548): the package powers down, without a Safety Curtain; the FAULT_OFF latch is released (R547). -/
def execModEnFall (s : State) : Host.Outcome State Fault Refusal :=
  if s.board.modEn then
    let s := if s.board.power = .on then s.railsOff .standby else s
    .next { s with board := { s.board with modEn := false, faultOff := false } }
  else .next s

/-- The input leaves its limits or a regulator fails (R547): rails off, FAULT_OFF latched. -/
def State.inputFault (s : State) : State :=
  let s := s.railsOff .off
  { s with board := { s.board with faultOff := true } }

/-- INPUT_FAULT (R547). -/
def execInputFault (s : State) : Host.Outcome State Fault Refusal := .next s.inputFault

/-- INPUT_IN_RANGE (R545): from 44 V to 56 V, in units of 10 mV; the module enters standby and UV_WARN clears. -/
def execInputInRange (vin : W16) (s : State) : Host.Outcome State Fault Refusal :=
  if decide (4400 ≤ vin.toNat) && decide (vin.toNat ≤ 5600) then
    let p := if s.board.power = .off then Power.standby else s.board.power
    .next { s with board := { s.board with power := p, uvWarn := false } }
  else .next s

/-- UV_WARN (R547): set between 38 V and 44 V, clear from 44 V; below 38 V the module turns off. -/
def execUvWarn (vin : W16) (s : State) : Host.Outcome State Fault Refusal :=
  if vin.toNat < 3800 then .next s.inputFault
  else .next { s with board := { s.board with uvWarn := decide (vin.toNat < 4400) } }

/-- An SMBus answer. -/
def smbusAnswer (bs : List Byte) (s : State) : State := { s with dev := s.dev.emit (.smbus bs) }

/-- The SMBus status byte (Table 19-6). -/
def State.statusByte (s : State) : Nat :=
  let on := s.board.power == .on
  b2n (s.board.power == .standby) + 2 * b2n on + 4 * b2n s.board.uvWarn + 8 * b2n s.board.faultOff +
    16 * b2n (on && s.dev.thermAlert) + 32 * b2n (on && s.dev.bit Reg.secStatus 5) + 64 * b2n (on && s.dev.curtainDown)

/-- STATUS (R550). -/
def execStatus (s : State) : Host.Outcome State Fault Refusal := .next (smbusAnswer (leBytes 1 s.statusByte) s)
/-- VIN (R550). -/
def execVin (reading : W16) (s : State) : Host.Outcome State Fault Refusal := .next (smbusAnswer (leBytes 2 reading.toNat) s)
/-- IIN (R550). -/
def execIin (reading : W16) (s : State) : Host.Outcome State Fault Refusal := .next (smbusAnswer (leBytes 2 reading.toNat) s)
/-- PIN (R550). -/
def execPin (reading : W16) (s : State) : Host.Outcome State Fault Refusal := .next (smbusAnswer (leBytes 2 reading.toNat) s)
/-- TEMPS (R550): dies, hottest stack, outlet; the first three read 0 in standby. -/
def execTemps (outlet : Byte) (s : State) : Host.Outcome State Fault Refusal :=
  let t := if s.board.power = .on then leBytes 3 (s.dev.reg Reg.dimTemp).toNat else [0, 0, 0]
  .next (smbusAnswer (t ++ [outlet]) s)
/-- ENERGY (R550): the live count, 0 in standby. -/
def execEnergy (s : State) : Host.Outcome State Fault Refusal :=
  .next (smbusAnswer (leBytes 8 (if s.board.power = .on then (s.dev.wideGet Reg.dimEnergy).toNat else 0)) s)
/-- FRU (R550). -/
def execFru (s : State) : Host.Outcome State Fault Refusal :=
  .next (smbusAnswer (padTo 16 s.fuses.partNumber ++ padTo 8 s.fuses.serial ++ leBytes 1 s.ident.grade.toNat ++
    [s.ident.stepping] ++ List.replicate 6 0) s)
/-- CLEAR_FAULT (R550): 0xA5 clears FAULT_OFF. -/
def execClearFault (b : Byte) (s : State) : Host.Outcome State Fault Refusal :=
  .next (if b = 0xA5 then { s with board := { s.board with faultOff := false } } else s)

end Sys2Proof.Machine
end

