-- ==== Sys2Proof/Machine/Write.lean ====
section
/-! DEFINITION. Writes of BAR0 (R18, R502 to R511): each register's own effect where its chapter gives it one, else its access
types. -/
namespace Sys2Proof.Machine

/-- A host write whose byte enables are not all set is discarded (R503). -/
def Dev.badAccess (d : Dev) (m : Master) (off : Nat) : Dev :=
  let d := if d.bit Reg.cfgStatus 4 then d else d.setReg Reg.cfgBadInfo (BitVec.ofNat 32 (off + masterNum m * 2 ^ 26))
  (d.count Reg.cfgBadCount).flagRaise Reg.cfgStatus 4 418

/-- Frames of the Wings are in use (R295). -/
def Dev.wingsInUse (d : Dev) : Bool :=
  !d.cast.frames.isEmpty || (match d.usy.twin with | some c => !c.cast.frames.isEmpty | none => false)

/-- An offset is that of CST_WINGS_BASE or CST_WINGS_FRAMES. -/
def wingsRegister (a : Nat) : Bool := a == Reg.cstWingsBase || a == Reg.cstWingsBase + 4 || a == Reg.cstWingsFrames

/-- A write of the ensemble registers or the route table: frames without a port are routed again (R384, R385), and frames that
wait are judged by a new ERA (R393). -/
def Dev.ensembleWrite (d : Dev) (a : Nat) (v : W32) : Dev :=
  let d := (d.plainWrite a v).reroute
  if a = Reg.fabEra then d.offerFrames else d

/-- A write of SEC_FLASH_CMD (R539). -/
def Dev.flashCommand (d : Dev) (op : Nat) : Dev :=
  if op = 1 then d.flashStart .read
  else if op = 2 then d.flashStart .program
  else if op = 3 then d.flashStart .erase
  else d

/-- A write of USY_CMD (R467, R478). -/
def Dev.usyCommand (d : Dev) (v : W32) : Dev :=
  let d := if v.getLsbD 0 then d.drainAsked else d
  if v.getLsbD 1 then d.enterFailing else d

/-- A write of a register of the package alone, by canonical offset. -/
def Dev.writeReg (d : Dev) (i : Ident) (lc : Lifecycle) (a : Nat) (v : W32) : Dev :=
  match blockOf a with
  | .clb =>
    if decide (Reg.clbPending 0 ≤ a) && decide (a < Reg.clbPending 16) then d.clbCleared ((a - Reg.clbPending 0) / 4) v
    else if decide (Reg.clbRaise 0 ≤ a) && decide (a < Reg.clbRaise 16) then d.clbRaised ((a - Reg.clbRaise 0) / 4) v
    else if (regRow a).isSome && (a < Reg.clbPending 0 || (decide (Reg.clbMask 0 0 ≤ a) && a < Reg.clbNext 0) ||
        (decide (Reg.clbRoute 0 ≤ a) && a < Reg.clbCount 0)) then d.clbWrite a v
    else d.plainWrite a v
  | .cfg => if a = Reg.cfgCommit then d.cfgCommit (bits v.toNat 0 2) else d.plainWrite a v
  | .snp => if a = Reg.snpCommand then (if v.getLsbD 0 then d.setBit Reg.snpStatus 0 else d) else d.plainWrite a v
  | .hif =>
    if Reg.hifQcfg 0 ≤ a && a % 64 == 0 then d.qcfgWrite i ((a - Reg.hifQcfg 0) / 64 % 64) v else d.plainWrite a v
  | .cst => if wingsRegister a && d.wingsInUse then d.setBit Reg.cstStatus 2 else d.plainWrite a v
  | .fab =>
    if 0x1110000 ≤ a then d.ensembleWrite a v
    else if a % 0x10000 = 0 then d.fabCtrlWrite ((a - 0x1000000) / 0x10000) v
    else d.plainWrite a v
  | .usy => if a = Reg.usyCmd then d.usyCommand v else d.plainWrite a v
  | .spt => if a = Reg.sptCtrl then d.sptCtrlWrite v else d.plainWrite a v
  | .sec =>
    if a = Reg.secFlashCmd then d.flashCommand (bits v.toNat 0 2)
    else if decide (Reg.secKeyStage 0 ≤ a) && decide (a < Reg.secKeyStage 48) && lc != .blank then d
    else d.plainWrite a v
  | _ => d.plainWrite a v

/-- A whole write of one register: the two halves of a complement pair (R509), else its own effect. -/
def State.writeBar0 (s : State) (m : Master) (off : Nat) (v : W32) : State :=
  let a := canonOff off
  if rwcA a then { s with dev := s.dev.pairFirst m a v }
  else if decide (4 ≤ a) && rwcA (a - 4) then s.rwcSecond m (a - 4) v
  else { s with dev := s.dev.writeReg s.ident s.fuses.lc a v }

/-- REGISTER_WRITE (R18, R503). -/
def execRegisterWrite (m : Master) (off : BitVec 26) (v : W32) (be : BitVec 4) (s : State) : Host.Outcome State Fault Refusal :=
  onPower (fun s =>
    if m = .host ∧ be ≠ 0xF then { s with dev := s.dev.badAccess m (off.toNat / 4 * 4) } else s.writeBar0 m off.toNat v) s

end Sys2Proof.Machine
end

