-- ==== Sys2Proof/Machine/Flags.lean ====
section
/-! DEFINITION. The registers as software reads them (R18, R503 to R511): those that show state held elsewhere, the holding copies of the
64-bit counters (R517), and the rest as stored. -/
namespace Sys2Proof.Machine

/-- TOP_IDENT (R5). -/
def Ident.word (i : Ident) : Nat := i.grade.toNat * 16 + i.stepping.toNat * 256 + 8 * 65536

/-- CLB_PENDINGw (R519). -/
def Dev.pendingWord (d : Dev) (w : Nat) : Nat :=
  ((List.range 32).map (fun i => if 0 < d.arrivalCount (32 * w + i) then 2 ^ i else 0)).sum

/-- CLB_NEXTt: the lowest source deliverable to core t (R521). -/
def Dev.nextSource (d : Dev) (t : Nat) : Nat :=
  match (List.range 512).find? (fun s => d.deliverable s t) with
  | some s => s + 2 ^ 31
  | none => 0

/-- CLB_COUNTq: the counts of four sources. -/
def Dev.countWord (d : Dev) (q : Nat) : Nat := ((List.range 4).map (fun j => d.arrivalCount (4 * q + j) * 2 ^ (8 * j))).sum

/-- CFG_PEND: the blocks whose RWB writes wait (R507). -/
def Dev.pendBlocks (d : Dev) : Nat :=
  let has := fun (b : Block) => d.pend.any (fun e => blockOf e.1 == b)
  b2n (has .stg) + 2 * b2n (has .lgr) + 4 * b2n (has .cst) + 8 * b2n (has .dim) + 16 * b2n (has .hck) + 32 * b2n (has .fab) +
    64 * b2n (has .spt) + 128 * b2n (has .usy)

/-- HIF_QqSTATUS (R354). -/
def Dev.pairStatus (d : Dev) (q : Nat) : Nat := b2n (d.pair q).active + (d.pair q).err * 2

/-- HIF_QqPTR (R354). -/
def Dev.pairPtr (d : Dev) (q : Nat) : Nat := (d.pair q).sqHead + (d.pair q).cqTail * 65536

/-- STG_STATUS (R71). BUSY stands for a QNT in progress too, as a QNT occupies the Stage as a VEC does (R109; DESIGN CHOICE, Table 2-9
names SCENE and VEC, notes/assumptions/78.md). -/
def Dev.stageStatus (d : Dev) : Nat :=
  b2n (d.stage.power == .lit) + 2 * b2n (d.stage.power == .rampUp || d.stage.power == .rampDown) + 4 * b2n d.stage.running.isSome +
    8 * b2n (d.faultCode != 0) + 256 * b2n (d.bit Reg.stgStatus 8)

/-- STG_PSTATUS.STATE (R199). -/
def PrompterState.code : PrompterState → Nat
  | .halted => 0 | .init => 1 | .step => 2 | .curtain => 3

/-- STG_PSTATUS (R199). -/
def Dev.prompterStatus (d : Dev) : Nat :=
  let p := d.prompter
  p.run.code + 4 * b2n p.wait.isSome + 8 * (match p.wait with | some w => w.ctr | none => 0) + 1024 * p.stageQueue.length +
    8192 * p.loops.length

/-- STG_LEDGER (R199). -/
def Dev.ledgerWord (d : Dev) : Nat := d.ledger % 256 + d.prompter.budget * 256 + d.prompter.peak * 65536

/-- STG_CTRn (R200). -/
def Dev.counterWord (d : Dev) (n : Nat) : Nat :=
  let c := d.counter n
  if 122 ≤ n then 0
  else c.count + (if n < 120 then c.ledger.length * 65536 else 0) + b2n c.err * 2 ^ 23 + b2n c.bounds * 2 ^ 24

/-- QST_STATEn, CLIPn, COUNTn and MAXABSn (R139). -/
def Dev.slotWord (d : Dev) (n k : Nat) : Nat :=
  let s := d.slot n
  if k = 1 then s.h + s.run * 4 + s.events * 65536
  else if k = 2 then sat32 s.clip
  else if k = 3 then sat32 s.count
  else s.maxabs.toNat

/-- What SEC shows of the fuses (R539). -/
def State.secWord (s : State) (a : Nat) : Nat :=
  let key := fun (bs : List Byte) (i : Nat) => field bs (4 * i) 4
  if a = Reg.secStatus then
    s.fuses.lc.code + (s.dev.reg a).toNat % 65536 / 4 * 4 + s.fuses.rollback * 65536 + s.fuses.revoked.toNat * 2 ^ 23
  else if a = Reg.secLcReq then s.fuses.lc.code
  else if a = Reg.secSvnBurn then s.fuses.rollback
  else if a = Reg.secKeyRevoke then s.fuses.revoked.toNat
  else if decide (Reg.secKeyhash 0 ≤ a) && decide (a < Reg.secKeyhash 48) then key s.fuses.keyHash.flatten ((a - Reg.secKeyhash 0) / 4)
  else if decide (Reg.secIdPub 0 ≤ a) && decide (a < Reg.secIdPub 24) then
    if s.fuses.idAlive then key s.fuses.idPub ((a - Reg.secIdPub 0) / 4) else 0
  else (s.dev.reg a).toNat

/-- A register that shows state held elsewhere, by canonical offset. -/
def State.view (s : State) (a : Nat) : Nat :=
  let d := s.dev
  let idx := fun (base stride : Nat) => (a - base) / stride
  let within := fun (base stop : Nat) => decide (base ≤ a) && decide (a < stop)
  match blockOf a with
  | .top => if a = Reg.topIdent then s.ident.word else (d.reg a).toNat
  | .clb =>
    if within (Reg.clbPending 0) (Reg.clbPending 16) then d.pendingWord (idx (Reg.clbPending 0) 4)
    else if within (Reg.clbNext 0) (Reg.clbNext 4) then d.nextSource (idx (Reg.clbNext 0) 4)
    else if within (Reg.clbCount 0) (Reg.clbCount 128) then d.countWord (idx (Reg.clbCount 0) 4)
    else (d.reg a).toNat
  | .cfg => if a = Reg.cfgPend then d.pendBlocks else (d.reg a).toNat
  | .hif =>
    if within 0x101000 0x102000 && a % 64 == 4 then d.pairStatus (idx 0x101000 64)
    else if within 0x101000 0x102000 && a % 64 == 0x20 then d.pairPtr (idx 0x101000 64)
    else (d.reg a).toNat
  | .cst =>
    if a = Reg.cstFree then d.freeBlocks.length
    else if a = Reg.cstActive then (d.cast.entries.filter (fun e => e.2.state != .free)).length
    else if a = Reg.cstWingsUsed then d.cast.frames.length
    else (d.reg a).toNat
  | .stg =>
    if a = Reg.stgStatus then d.stageStatus
    else if within (Reg.stgLitMap 0) (Reg.stgLitMap 16) then (s.ident.litMap.getD (idx (Reg.stgLitMap 0) 4) 0).toNat
    else if a = Reg.stgPc then d.prompter.pc.toNat
    else if a = Reg.stgPstatus then d.prompterStatus
    else if a = Reg.stgLedger then d.ledgerWord
    else if within (Reg.stgCtr 0) (Reg.stgCtr 128) then d.counterWord (idx (Reg.stgCtr 0) 4)
    else if within (Reg.qstCfg 0) (Reg.qstCfg 256) && decide (4 ≤ a % 32) && decide (a % 32 ≤ 16) then
      d.slotWord (idx (Reg.qstCfg 0) 32) (a % 32 / 4)
    else (d.reg a).toNat
  | .hck => if a = Reg.hckTimeNs then d.ns.toNat
            else if a = Reg.hckStatus then
              putBits (putBits (putBits (d.reg a).toNat 0 1 (b2n d.hckLocked)) 1 1 (b2n d.timeLead)) 4 1 (b2n d.hck.curtain.isSome)
            else (d.reg a).toNat
  | .fab => if a = Reg.fabEns then putBits (d.reg a).toNat 30 1 (b2n d.ensLead) else (d.reg a).toNat
  | .sec => s.secWord a
  | _ => (d.reg a).toNat

/-- A read of BAR0 (R503, R505): where no register is it reads 0; a 64-bit counter reads its holding copy (R517); A + 4 of a pair reads
the complement of the applied value (R511). -/
def State.readBar0 (s : State) (off : Nat) : W32 :=
  let a := canonOff off
  if (regRow a).isNone then (if decide (4 ≤ a) && rwcA (a - 4) then ~~~(BitVec.ofNat 32 (s.view (a - 4))) else 0)
  else
    match wideOf a with
    | some lo => BitVec.ofNat 32 ((tabGet (fun _ => (0 : W64)) s.dev.hold lo).toNat >>> (8 * (a - lo)))
    | none => BitVec.ofNat 32 (s.view a)

end Sys2Proof.Machine
end

