-- ==== Sys2Proof/Machine/Boot.lean ====
section
/-! DEFINITION. Boot (chapter 18): slots and their checks (R525 to R528), CONFIG (R532), the boot sequence (R530, R531, R533), and
the resets of the package (R330, R546, R549). -/
namespace Sys2Proof.Machine

/-! ### Slots -/

/-- Bytes of a slot (Table 18-1). -/
def slotBytes : Nat := 127 * 2 ^ 20

/-- A component (Table 18-3). -/
structure Component where
  type : Nat
  offset : Nat
  size : Nat
  digest : List Byte
  reserved : Bool
deriving DecidableEq, Repr

/-- A slot's manifest (Table 18-2). -/
structure Manifest where
  base : Nat
  bytes : List Byte
  comps : List Component
deriving DecidableEq, Repr

/-- Bytes that are all 0. -/
def allZero (bs : List Byte) : Bool := bs.all (· == 0)

/-- A span of bytes. -/
def span (bs : List Byte) (off n : Nat) : List Byte := (bs.drop off).take n

/-- Component i of a manifest. -/
def componentAt (bs : List Byte) (i : Nat) : Component :=
  let e := span bs (32 + 64 * i) 64
  { type := field e 0 1, offset := field e 4 4, size := field e 8 4, digest := e.drop 16
    reserved := !(allZero (span e 1 3) && allZero (span e 12 4)) }

/-- The manifest at a flash address. -/
def readManifest (f : Tab Byte) (base : Nat) : Manifest :=
  let bs := flashRead f base 4096
  { base := base, bytes := bs, comps := (List.range (min 16 (field bs 6 1))).map (componentAt bs) }

/-- SVN. -/
def Manifest.svn (m : Manifest) : Nat := field m.bytes 7 1
/-- FW_VERSION. -/
def Manifest.version (m : Manifest) : Nat := field m.bytes 8 4
/-- The component of a type. -/
def Manifest.comp (m : Manifest) (t : Nat) : Option Component := m.comps.find? (fun c => c.type == t)
/-- A component's bytes. -/
def Manifest.data (m : Manifest) (f : Tab Byte) (c : Component) : List Byte := flashRead f (m.base + c.offset) c.size
/-- PUBKEY. -/
def Manifest.key (m : Manifest) : List Byte := span m.bytes 1088 96

/-- Check 1: MAGIC, FORMAT, SVN and the reserved fields (notes/assumptions/45.md). -/
def Manifest.formOk (m : Manifest) : Bool :=
  let b := m.bytes
  field b 0 4 == 0x4E5A424D && field b 4 2 == 1 && decide (m.svn ≤ 64) && allZero (span b 12 20) &&
    allZero (span b (32 + 64 * min 16 (field b 6 1)) (64 * (16 - min 16 (field b 6 1)))) && allZero (span b 1056 32) &&
    allZero (span b 1184 2784) && allZero (span b 4064 32) && m.comps.all (fun c => !c.reserved)

/-- The unrevoked key slot that holds the manifest's key (R529); 4 for none. -/
def Fuses.keySlot (x : Fuses) (m : Manifest) : Nat :=
  let h := sha384 m.key
  match (List.range 4).find? (fun k => !x.revoked.getLsbD k && x.keyHash[k]? == some h) with
  | some k => k
  | none => 4

/-- Check 5: the component table (notes/assumptions/45.md). -/
def Manifest.tableOk (m : Manifest) : Bool :=
  let cs := m.comps
  let n := field m.bytes 6 1
  decide (2 ≤ n) && decide (n ≤ 16) && cs.all (fun c => decide (1 ≤ c.type) && decide (c.type ≤ 4) && decide (4096 ≤ c.offset) &&
      c.offset % 4096 == 0 && decide (1 ≤ c.size) && decide (c.offset + c.size ≤ slotBytes) &&
      (c.type != 1 || decide (c.size ≤ 4 * 2 ^ 20)) && (c.type != 4 || decide (c.size ≤ 96 * 2 ^ 20))) &&
    (m.comp 1).isSome && (m.comp 2).isSome && (cs.map Component.type).Nodup &&
    disjoint (cs.map (fun c => (c.offset, c.size)))

/-- The first of checks 1 to 5 that fails (Table 18-4); 0 where the manifest verifies. -/
def Fuses.verify (x : Fuses) (m : Manifest) : Nat :=
  if !m.formOk then 1
  else if x.lc != .blank && x.keySlot m == 4 then 2
  else if !Config.ecdsaVerify m.key (sha384 (m.bytes.take 3968)) (span m.bytes 3968 96) then 3
  else if x.lc != .blank && decide (m.svn < x.rollback) then 4
  else if !m.tableOk then 5
  else 0

/-! ### CONFIG -/

/-- A CONFIG entry: offset word and value (R532). -/
def configEntries (bs : List Byte) : List (Nat × W32) :=
  (List.range (bs.length / 8)).map (fun k => (field bs (8 * k) 4, BitVec.ofNat 32 (field bs (8 * k + 4) 4)))

/-- An entry is valid (R532). -/
def entryOk (e : Nat × W32) : Bool :=
  let off := bits e.1 0 26
  off % 4 == 0 && decide (off ≤ 0x27FFFFC) && blockOf off != .sec && bits e.1 26 5 == 0 && (!bitAt e.1 31 || rwcA (canonOff off))

/-- CONFIG is valid; bytes that make no whole entry are not. -/
def configOk (bs : List Byte) : Bool := bs.length % 8 == 0 && (configEntries bs).all entryOk

/-- One entry is written by management core 0, a PAIR entry as a complement pair (R532). -/
def State.configWrite (s : State) (e : Nat × W32) : State :=
  let off := bits e.1 0 26
  if bitAt e.1 31 then s.rwcPair .core0 (canonOff off) e.2 (~~~e.2) else s.writeBar0 .core0 off e.2

/-! ### The components -/

/-- The component of a type has its digest; an absent one needs none. -/
def Manifest.digestOk (m : Manifest) (f : Tab Byte) (t : Nat) : Bool :=
  match m.comp t with
  | some c => sha384 (m.data f c) == c.digest
  | none => true

/-- The bytes of the component of a type. -/
def Manifest.part (m : Manifest) (f : Tab Byte) (t : Nat) : List Byte :=
  match m.comp t with
  | some c => m.data f c
  | none => []

/-- The first of checks 6 to 9 that fails. -/
def Manifest.contentReason (m : Manifest) (f : Tab Byte) : Nat :=
  if !m.digestOk f 1 then 6
  else if !m.digestOk f 2 || !m.digestOk f 3 then 7
  else if !m.digestOk f 4 then 8
  else if !configOk (m.part f 2) then 9
  else 0

/-! ### The sequence of Table 18-5 -/

/-- Steps 4 and 5 (R320, R323, R324): the repair candidates are repaired, and a Strike runs, whose duration is free. -/
def Dev.bootStrike (d : Dev) : Dev :=
  let (w, d) := d.takeFree
  let d := ({ d with mems := { d.mems with repair := [] } }).struck
  ((d.setBit Reg.memStatus 1).setReg Reg.memStrikeTime w).raise 194

/-- GROUPS is placed in the SYS region where CONFIG has put FAB_GTABLE, else at an address that is free, and FAB_GTABLE is written. -/
def Dev.placeGroups (d : Dev) (bs : List Byte) : Dev :=
  if bs.isEmpty then d
  else
    let a := bits (d.reg64 Reg.fabGtable) 0 39
    let (w, d) := d.takeFree
    let a := if a ≠ 0 ∧ a + bs.length ≤ hbmProg then a else (1 + w.toNat % 2 ^ 24) * 64
    ((d.store .hbm a bs).2).setReg64 Reg.fabGtable a

/-- The ports are released and train (Table 18-5, step 8). -/
def Dev.releasePorts (d : Dev) : Dev :=
  (List.range 17).foldl (fun d p => (d.setPort p { d.port p with released := true }).portEnableApplied p) d

/-- Steps 3 to 8 with a slot whose components have passed. -/
def State.bootWith (s : State) (m : Manifest) : State :=
  let d := ({ s.dev with asleep := 0 }).bootStrike
  let d := ((d.setReg Reg.topFw (BitVec.ofNat 32 m.version)).setReg Reg.secSvnImg (BitVec.ofNat 32 m.svn)).setFld Reg.secStatus 2 2
    (b2n (m.base == slotB))
  let (rom, d) := Dev.freeBytes 12 d
  let dig := fun t => match m.comp t with | some c => c.digest | none => []
  let d := { d with boot := { stage := .join, autoload := m.part s.flash 4
                              measures := [rom, sha384 (m.bytes.take 3968), dig 1, dig 2], key := s.fuses.keySlot m } }
  let s := (configEntries (m.part s.flash 2)).foldl (fun s e => s.configWrite e) { s with dev := d }
  let d := (s.dev.placeGroups (m.part s.flash 3)).releasePorts
  { s with dev := d.startJoin s.ident.grade.toNat }

/-- RECOVERY (R533): firmware does not run. -/
def State.recover (s : State) : State :=
  let (rom, d) := Dev.freeBytes 12 s.dev
  { s with dev := { d.setBit Reg.secStatus 4 with boot := { stage := .recovery, autoload := [], measures := [rom], key := 4 } } }

/-- A slot fails check r: its REASON field (Table 18-9). -/
def State.reason (s : State) (m : Manifest) (r : Nat) : State :=
  { s with dev := if m.base = slotB then s.dev.setFld Reg.secStatus 15 12 r else s.dev.setFld Reg.secStatus 11 8 r }

/-- Boot tries the verified slots in turn (R528): a failure after the FIRMWARE check comes after a Strike. -/
def State.bootTry (s : State) : List Manifest → State
  | [] => s.recover
  | m :: ms =>
    let r := m.contentReason s.flash
    if r = 0 then s.bootWith m
    else
      let s := s.reason m r
      let s := if 7 ≤ r then { s with dev := s.dev.bootStrike } else s
      let s := if ms.isEmpty then s else { s with dev := s.dev.flagRaise Reg.secStatus 3 425 }
      s.bootTry ms

/-- Slot A comes first (R528): the higher SVN, then the higher version, then A. -/
def firstA (a b : Manifest) : Bool :=
  if a.svn = b.svn then decide (b.version ≤ a.version) else decide (b.svn < a.svn)

/-- Boot (R530): both manifests are verified, a slot is chosen, and the sequence runs to the join. -/
def State.boot (s : State) : State :=
  let a := readManifest s.flash 0
  let b := readManifest s.flash slotB
  let ra := s.fuses.verify a
  let rb := s.fuses.verify b
  let s := (s.reason a ra).reason b rb
  let order := if firstA a b then [(a, ra), (b, rb)] else [(b, rb), (a, ra)]
  s.bootTry ((order.filter (fun x => x.2 == 0)).map Prod.fst)

/-! ### The commands -/

/-- PERST_RELEASE (R530, R546). -/
def execPerstRelease (s : State) : Host.Outcome State Fault Refusal :=
  let go := s.board.perst && s.board.power == .on
  let s := { s with board := { s.board with perst := false } }
  .next (if go then s.boot else s)

/-- PERST_ASSERT (R549). -/
def execPerstAssert (s : State) : Host.Outcome State Fault Refusal :=
  let s := if s.board.power = .on then { s with dev := s.dev.afterReset 1 } else s
  .next { s with board := { s.board with perst := true } }

/-- FLR (R330): a reset with the link up, and boot. -/
def execFlr (s : State) : Host.Outcome State Fault Refusal :=
  if s.board.power = .on ∧ !s.board.perst then .next (State.boot { s with dev := s.dev.afterReset 2 }) else .next s

/-- MOD_EN_RISE (R546, R547): from standby, and not while FAULT_OFF is latched; boot waits for PERST#. -/
def execModEnRise (s : State) : Host.Outcome State Fault Refusal :=
  if s.board.modEn then .next s
  else
    let go := s.board.power == .standby && !s.board.faultOff
    let s := { s with board := { s.board with modEn := true } }
    if go then
      let s := { s with board := { s.board with power := .on }, dev := s.dev.afterReset 0 }
      .next (if s.board.perst then s else s.boot)
    else .next s

/-- AUTOLOAD (R530, R531): the image is loaded as LOAD_PROGRAM would load it, and boot ends whether or not it is refused. -/
def execAutoload (s : State) : Host.Outcome State Fault Refusal :=
  onDev (fun i d =>
    if d.boot.stage = .autoload then
      let bs := d.boot.autoload
      let d := (d.tryLoad i bs bs.length).2
      d.bootDone
    else d) s

end Sys2Proof.Machine
end

