-- ==== Sys2Proof/Machine/MemRows.lean ====
section
/-! DEFINITION. The commands of the memories (chapter 10): refresh and temperatures (R316), the patrol scrub (R319, R320), and the host
window (R322, R334).
Refresh changes no result (R31); requests and Table 10-7: R315, R326. -/
namespace Sys2Proof.Machine

/-! ### Refresh -/

/-- HBM_REFRESH (R316, R317): a refresh changes no byte and no register. -/
def execHbmRefresh (_pc : Fin 512) (s : State) : Host.Outcome State Fault Refusal := onDev (fun _ d => d) s

/-- The refresh rate that a temperature selects (Table 10-5a). -/
def rateOf (t : Nat) : Nat := if t ≤ 85 then 0 else if t ≤ 95 then 1 else 2

/-- The rate in force after a reading: that of the hottest stack, or the least rate that MEM_REFRESH_OVR forces. -/
def Dev.refreshRate (d : Dev) : Nat :=
  max (rateOf ((List.range 8).foldl (fun t n => max t (d.fld (Reg.memTemp n) 7 0)) 0)) (min 2 (d.fld Reg.memRefreshOvr 1 0))

/-- HBM_TEMP_READ (R316): stack s's reading is byte s; source 195 where the rate changes. The corrections that the stacks report are
read with it, every 1 ms (Table 10-2, R318). -/
def execHbmTempRead (temps : W64) (corrections : W32) (s : State) : Host.Outcome State Fault Refusal :=
  onDev (fun _ d =>
    let d := (List.range 8).foldl (fun d n => d.setReg (Reg.memTemp n) (BitVec.ofNat 32 (bits temps.toNat (8 * n) 8))) d
    let d := d.wideAdd Reg.memCeStack corrections.toNat
    let r := d.refreshRate
    if d.fld Reg.memStatus 6 5 = r then d else (d.setFld Reg.memStatus 6 5 r).raise 195) s

/-! ### The patrol scrub -/

/-- A new scrub pass of HBM: rows that are no candidates count from 0 (R320). -/
def Dev.newPass (d : Dev) : Dev := { d with mems := { d.mems with repair := d.repairs } }

/-- The scrub reads the word or sector at key `k` (R319, R321): one that holds an error still meets it. -/
def Dev.scrub (d : Dev) (c : MemCode) (k : Nat) (f : Finding) : Dev :=
  let u := k / memUnit c
  let d := if c == .hbm && u == 0 then d.newPass else d
  if d.mems.errors.contains (c, u) then d.uncorrectable c (u * memUnit c)
  else
    match f with
    | .clean => d
    | .corrected => if c = .hbm then (d.countRow k).correctedError Reg.memCeHbm else d.correctedError Reg.memCeSram
    | .uncorrectable => ({ d with mems := { d.mems with errors := d.mems.errors ++ [(c, u)] } }).uncorrectable c (u * memUnit c)

/-- SCRUB_READ (R319). -/
def execScrubRead (mem : MemCode) (unit : Fin 512) (addr : BitVec 39) (finding : Finding) (s : State) : Host.Outcome State Fault Refusal :=
  onDev (fun i d => match memKey i mem unit.val addr.toNat with
    | some k => d.scrub mem k finding
    | none => d) s

/-! ### BAR2 -/

/-- The aperture address of a BAR2 offset (R334): at 512 GiB the window is 0. -/
def Dev.aperture (d : Dev) (off : Nat) : Nat :=
  let w := bits (d.reg64 Reg.hifBar2Win) 0 40
  if d.hif.bar2Size = 2 ^ 39 then off else w - w % d.hif.bar2Size + off

/-- What `n` bytes from an aperture address reach: a memory and a key, or nothing where the access is refused (R322, R334). -/
def Dev.reaches (d : Dev) (i : Ident) (x n : Nat) : Option (MemCode × Nat) :=
  if !d.bit Reg.memStatus 1 || d.bit Reg.memStatus 0 then none
  else if hbmProg ≤ x && x + n ≤ hbmEnd then some (.hbm, x)
  else if hbmEnd ≤ x && x + n ≤ hbmEnd + i.tiles * 2 ^ 24 then some (.tile, x - hbmEnd)
  else none

/-- An access is refused (R322). -/
def Dev.hostRefused (d : Dev) : Dev := (d.count Reg.memHostRefused).flagRaise Reg.memStatus 4 196

/-- AER logs an error: source 4 for a correctable one, source 5 for an uncorrectable one (Table 11-12). -/
def Dev.aerLogged (d : Dev) (correctable : Bool) : Dev :=
  let h := d.hif
  let d := { d with hif := if correctable then { h with aerCorrectable := true } else { h with aerUncorrectable := true } }
  (d.emit (.aer correctable)).raise (if correctable then 4 else 5)

/-- AER logs an uncorrectable internal error (R321). -/
def Dev.aerInternal (d : Dev) : Dev := d.aerLogged false

/-- A host read (R319, R321, R322, R334). -/
def Dev.bar2Read (d : Dev) (i : Ident) (off n : Nat) (found : List Found) : Dev :=
  match d.reaches i (d.aperture off) n with
  | none => d.hostRefused.emit .unsupported
  | some (c, k) =>
    let (e, d) := (d.meets i found).readErrors c k n
    if e then d.aerInternal.emit .completerAbort else d.emit (.completion (d.load c k n))

/-- BAR2_READ (R334): an offset past the BAR does not reach the function. -/
def execBar2Read (off : BitVec 39) (len : BitVec 13) (found : List Found) (s : State) : Host.Outcome State Fault Refusal :=
  onDev (fun i d => if off.toNat + len.toNat ≤ d.hif.bar2Size then d.bar2Read i off.toNat len.toNat found else d) s

/-- A host write (R321, R322, R334, R462). -/
def Dev.bar2Write (d : Dev) (i : Ident) (off : Nat) (bs : List Byte) : Dev :=
  match d.reaches i (d.aperture off) bs.length with
  | none => d.hostRefused
  | some (c, k) =>
    let (e, d) := if c = .hbm then d.hbmWrite k bs else d.store c k bs
    if e then d.aerInternal else d

/-- BAR2_WRITE (R334). -/
def execBar2Write (off : BitVec 39) (data : List Byte) (s : State) : Host.Outcome State Fault Refusal :=
  onDev (fun i d => if off.toNat + data.length ≤ d.hif.bar2Size then d.bar2Write i off.toNat data else d) s

end Sys2Proof.Machine
end

