-- ==== Sys2Proof/Machine/Dispatch.lean ====
section
/-! DEFINITION. One arm per command: its meaning. -/
namespace Sys2Proof.Machine

-- What a command does to everything but the queue of waiting commands.
def exec (i : Instr) (s : State) : Host.Outcome State Fault Refusal :=
  match i with
  | .nop => Sys2Proof.Machine.execNop s
  | .illegalOpcode => Sys2Proof.Machine.execIllegalOpcode s
  | .scene => Sys2Proof.Machine.execScene s
  | .vec => Sys2Proof.Machine.execVec s
  | .qnt => Sys2Proof.Machine.execQnt s
  | .moveLinear => Sys2Proof.Machine.execMoveLinear s
  | .moveGatherRows => Sys2Proof.Machine.execMoveGatherRows s
  | .moveKvRead => Sys2Proof.Machine.execMoveKvRead s
  | .moveKvWrite => Sys2Proof.Machine.execMoveKvWrite s
  | .moveSend => Sys2Proof.Machine.execMoveSend s
  | .moveReceive => Sys2Proof.Machine.execMoveReceive s
  | .wait => Sys2Proof.Machine.execWait s
  | .waitRetire => Sys2Proof.Machine.execWaitRetire s
  | .waitLimitExpiry => Sys2Proof.Machine.execWaitLimitExpiry s
  | .red => Sys2Proof.Machine.execRed s
  | .stepEnd => Sys2Proof.Machine.execStepEnd s
  | .initEnd => Sys2Proof.Machine.execInitEnd s
  | .barrier => Sys2Proof.Machine.execBarrier s
  | .curtain => Sys2Proof.Machine.execCurtain s
  | .event => Sys2Proof.Machine.execEvent s
  | .gridStart => Sys2Proof.Machine.execGridStart s
  | .sampler => Sys2Proof.Machine.execSampler s
  | .masker => Sys2Proof.Machine.execMasker s
  | .qstat => Sys2Proof.Machine.execQstat s
  | .specv => Sys2Proof.Machine.execSpecv s
  | .gridChangeover => Sys2Proof.Machine.execGridChangeover s
  | .hint => Sys2Proof.Machine.execHint s
  | .digest => Sys2Proof.Machine.execDigest s
  | .loop => Sys2Proof.Machine.execLoop s
  | .stageCueStart found => Sys2Proof.Machine.execStageCueStart found s
  | .rampUpDone => Sys2Proof.Machine.execRampUpDone s
  | .sceneBoundary => Sys2Proof.Machine.execSceneBoundary s
  | .rampDownDone => Sys2Proof.Machine.execRampDownDone s
  | .darkIdleExpiry => Sys2Proof.Machine.execDarkIdleExpiry s
  | .bubble => Sys2Proof.Machine.execBubble s
  | .flicker => Sys2Proof.Machine.execFlicker s
  | .flickerBurstEnd => Sys2Proof.Machine.execFlickerBurstEnd s
  | .transferComplete q found => Sys2Proof.Machine.execTransferComplete q found s
  | .redComplete ctr => Sys2Proof.Machine.execRedComplete ctr s
  | .barrierComplete ctr => Sys2Proof.Machine.execBarrierComplete ctr s
  | .gridProgramDone region => Sys2Proof.Machine.execGridProgramDone region s
  | .changeoverSwap => Sys2Proof.Machine.execChangeoverSwap s
  | .changeoverTimeout => Sys2Proof.Machine.execChangeoverTimeout s
  | .collectiveTimeout => Sys2Proof.Machine.execCollectiveTimeout s
  | .deviceLost d => Sys2Proof.Machine.execDeviceLost d s
  | .checkpointComplete => Sys2Proof.Machine.execCheckpointComplete s
  | .formation => Sys2Proof.Machine.execFormation s
  | .spillStart => Sys2Proof.Machine.execSpillStart s
  | .spillComplete pcieError => Sys2Proof.Machine.execSpillComplete pcieError s
  | .returnComplete pcieError => Sys2Proof.Machine.execReturnComplete pcieError s
  | .tokenArrival => Sys2Proof.Machine.execTokenArrival s
  | .controlTokenExpiry u => Sys2Proof.Machine.execControlTokenExpiry u s
  | .orphanData u => Sys2Proof.Machine.execOrphanData u s
  | .tsRead u found => Sys2Proof.Machine.execTsRead u found s
  | .tsWrite u => Sys2Proof.Machine.execTsWrite u s
  | .hbmRead u found => Sys2Proof.Machine.execHbmRead u found s
  | .hbmWrite u => Sys2Proof.Machine.execHbmWrite u s
  | .cstRead u => Sys2Proof.Machine.execCstRead u s
  | .cstWrite u => Sys2Proof.Machine.execCstWrite u s
  | .wdata u => Sys2Proof.Machine.execWdata u s
  | .edgeReply u => Sys2Proof.Machine.execEdgeReply u s
  | .halt l => Sys2Proof.Machine.execHalt l s
  | .lanternNop l => Sys2Proof.Machine.execLanternNop l s
  | .add l => Sys2Proof.Machine.execAdd l s
  | .sub l => Sys2Proof.Machine.execSub l s
  | .and l => Sys2Proof.Machine.execAnd l s
  | .or l => Sys2Proof.Machine.execOr l s
  | .xor l => Sys2Proof.Machine.execXor l s
  | .shl l => Sys2Proof.Machine.execShl l s
  | .shr l => Sys2Proof.Machine.execShr l s
  | .sra l => Sys2Proof.Machine.execSra l s
  | .slt l => Sys2Proof.Machine.execSlt l s
  | .sltu l => Sys2Proof.Machine.execSltu l s
  | .mul l => Sys2Proof.Machine.execMul l s
  | .addi l => Sys2Proof.Machine.execAddi l s
  | .andi l => Sys2Proof.Machine.execAndi l s
  | .ori l => Sys2Proof.Machine.execOri l s
  | .lui l => Sys2Proof.Machine.execLui l s
  | .fadd l => Sys2Proof.Machine.execFadd l s
  | .fsub l => Sys2Proof.Machine.execFsub l s
  | .fmul l => Sys2Proof.Machine.execFmul l s
  | .fmax l => Sys2Proof.Machine.execFmax l s
  | .fmin l => Sys2Proof.Machine.execFmin l s
  | .flt l => Sys2Proof.Machine.execFlt l s
  | .ffma l => Sys2Proof.Machine.execFfma l s
  | .fexp l => Sys2Proof.Machine.execFexp l s
  | .fln l => Sys2Proof.Machine.execFln l s
  | .frecip l => Sys2Proof.Machine.execFrecip l s
  | .itof l => Sys2Proof.Machine.execItof l s
  | .ftoi l => Sys2Proof.Machine.execFtoi l s
  | .rng l => Sys2Proof.Machine.execRng l s
  | .vadd l => Sys2Proof.Machine.execVadd l s
  | .vsub l => Sys2Proof.Machine.execVsub l s
  | .vmul l => Sys2Proof.Machine.execVmul l s
  | .vmax l => Sys2Proof.Machine.execVmax l s
  | .vmin l => Sys2Proof.Machine.execVmin l s
  | .vfma l => Sys2Proof.Machine.execVfma l s
  | .vexp l => Sys2Proof.Machine.execVexp l s
  | .vbcast l => Sys2Proof.Machine.execVbcast l s
  | .vextr l => Sys2Proof.Machine.execVextr l s
  | .vins l => Sys2Proof.Machine.execVins l s
  | .vrsum l => Sys2Proof.Machine.execVrsum l s
  | .vrmax l => Sys2Proof.Machine.execVrmax l s
  | .ld l => Sys2Proof.Machine.execLd l s
  | .st l => Sys2Proof.Machine.execSt l s
  | .ldb l => Sys2Proof.Machine.execLdb l s
  | .stb l => Sys2Proof.Machine.execStb l s
  | .vld l => Sys2Proof.Machine.execVld l s
  | .vst l => Sys2Proof.Machine.execVst l s
  | .beq l => Sys2Proof.Machine.execBeq l s
  | .bne l => Sys2Proof.Machine.execBne l s
  | .blt l => Sys2Proof.Machine.execBlt l s
  | .jal l => Sys2Proof.Machine.execJal l s
  | .jr l => Sys2Proof.Machine.execJr l s
  | .send l => Sys2Proof.Machine.execSend l s
  | .sendc l => Sys2Proof.Machine.execSendc l s
  | .sendd l => Sys2Proof.Machine.execSendd l s
  | .recv l => Sys2Proof.Machine.execRecv l s
  | .ccount l => Sys2Proof.Machine.execCcount l s
  | .signal l => Sys2Proof.Machine.execSignal l s
  | .hbmRefresh pc => Sys2Proof.Machine.execHbmRefresh pc s
  | .hbmTempRead temps corrections => Sys2Proof.Machine.execHbmTempRead temps corrections s
  | .scrubRead mem unit addr finding => Sys2Proof.Machine.execScrubRead mem unit addr finding s
  | .bar2Read off len found => Sys2Proof.Machine.execBar2Read off len found s
  | .bar2Write off data => Sys2Proof.Machine.execBar2Write off data s
  | .memRefreshOvr m v w => Sys2Proof.Machine.execMemRefreshOvr m v w s
  | .memWipe m v w => Sys2Proof.Machine.execMemWipe m v w s
  | .strikeComplete us => Sys2Proof.Machine.execStrikeComplete us s
  | .sqDoorbell q v => Sys2Proof.Machine.execSqDoorbell q v s
  | .sqFetch q entry buf => Sys2Proof.Machine.execSqFetch q entry buf s
  | .cqDoorbell q v => Sys2Proof.Machine.execCqDoorbell q v s
  | .cqHeldEntryWrite q => Sys2Proof.Machine.execCqHeldEntryWrite q s
  | .cqIrqTimer q => Sys2Proof.Machine.execCqIrqTimer q s
  | .queueEnable m q cfg => Sys2Proof.Machine.execQueueEnable m q cfg s
  | .queueDisable m q cfg => Sys2Proof.Machine.execQueueDisable m q cfg s
  | .loadProgram c buf => Sys2Proof.Machine.execLoadProgram c buf s
  | .unloadProgram c => Sys2Proof.Machine.execUnloadProgram c s
  | .openStream c buf => Sys2Proof.Machine.execOpenStream c buf s
  | .append c buf => Sys2Proof.Machine.execAppend c buf s
  | .closeStream c => Sys2Proof.Machine.execCloseStream c s
  | .pauseStream c => Sys2Proof.Machine.execPauseStream c s
  | .resumeStream c => Sys2Proof.Machine.execResumeStream c s
  | .forkStream c buf => Sys2Proof.Machine.execForkStream c buf s
  | .checkpoint c => Sys2Proof.Machine.execCheckpoint c s
  | .restore c buf => Sys2Proof.Machine.execRestore c buf s
  | .runJob c => Sys2Proof.Machine.execRunJob c s
  | .readEnergy c => Sys2Proof.Machine.execReadEnergy c s
  | .abortQueue c => Sys2Proof.Machine.execAbortQueue c s
  | .safetyCurtain c => Sys2Proof.Machine.execSafetyCurtain c s
  | .safetyCurtainComplete => Sys2Proof.Machine.execSafetyCurtainComplete s
  | .hifCurtain m v w => Sys2Proof.Machine.execHifCurtain m v w s
  | .mailbox c => Sys2Proof.Machine.execMailbox c s
  | .mailboxAnswer status r0 r1 r2 => Sys2Proof.Machine.execMailboxAnswer status r0 r1 r2 s
  | .invalidOpcode c => Sys2Proof.Machine.execInvalidOpcode c s
  | .sptArm via => Sys2Proof.Machine.execSptArm via s
  | .sptStop via => Sys2Proof.Machine.execSptStop via s
  | .sptForce via => Sys2Proof.Machine.execSptForce via s
  | .spotlightRead c => Sys2Proof.Machine.execSpotlightRead c s
  | .sptAutoTimeout => Sys2Proof.Machine.execSptAutoTimeout s
  | .sptArmFire arm tfrac => Sys2Proof.Machine.execSptArmFire arm tfrac s
  | .sptTimerExpiry n => Sys2Proof.Machine.execSptTimerExpiry n s
  | .waveRecord ev codes sync => Sys2Proof.Machine.execWaveRecord ev codes sync s
  | .persAcquisitionEnd codes => Sys2Proof.Machine.execPersAcquisitionEnd codes s
  | .pcieLinkDown => Sys2Proof.Machine.execPcieLinkDown s
  | .linkRateChange rate width flit => Sys2Proof.Machine.execLinkRateChange rate width flit s
  | .d3hotEntry => Sys2Proof.Machine.execD3hotEntry s
  | .d0Return => Sys2Proof.Machine.execD0Return s
  | .flr => Sys2Proof.Machine.execFlr s
  | .perstAssert => Sys2Proof.Machine.execPerstAssert s
  | .perstRelease => Sys2Proof.Machine.execPerstRelease s
  | .autoload => Sys2Proof.Machine.execAutoload s
  | .doeDiscovery => Sys2Proof.Machine.execDoeDiscovery s
  | .doeAbort => Sys2Proof.Machine.execDoeAbort s
  | .getVersion => Sys2Proof.Machine.execGetVersion s
  | .getCapabilities => Sys2Proof.Machine.execGetCapabilities s
  | .negotiateAlgorithms => Sys2Proof.Machine.execNegotiateAlgorithms s
  | .getDigests => Sys2Proof.Machine.execGetDigests s
  | .getCertificate slot off len => Sys2Proof.Machine.execGetCertificate slot off len s
  | .challenge slot nonce => Sys2Proof.Machine.execChallenge slot nonce s
  | .getMeasurements idx sign nonce => Sys2Proof.Machine.execGetMeasurements idx sign nonce s
  | .unsupportedRequest code => Sys2Proof.Machine.execUnsupportedRequest code s
  | .los p lol => Sys2Proof.Machine.execLos p lol s
  | .laneLockLoss p l => Sys2Proof.Machine.execLaneLockLoss p l s
  | .alignBlock p l blk => Sys2Proof.Machine.execAlignBlock p l blk s
  | .alignDisagreement p => Sys2Proof.Machine.execAlignDisagreement p s
  | .trainBlock p l blk samples => Sys2Proof.Machine.execTrainBlock p l blk samples s
  | .trainClockStable p => Sys2Proof.Machine.execTrainClockStable p s
  | .trainingLimitExpiry p => Sys2Proof.Machine.execTrainingLimitExpiry p s
  | .trainingRetry p => Sys2Proof.Machine.execTrainingRetry p s
  | .portEnable m p v => Sys2Proof.Machine.execPortEnable m p v s
  | .portRetrain m p v => Sys2Proof.Machine.execPortRetrain m p v s
  | .hello p f => Sys2Proof.Machine.execHello p f s
  | .acknak p f => Sys2Proof.Machine.execAcknak p f s
  | .credit p f => Sys2Proof.Machine.execCredit p f s
  | .replayTimeout p => Sys2Proof.Machine.execReplayTimeout p s
  | .dataFrame p f => Sys2Proof.Machine.execDataFrame p f s
  | .collectiveFrame p f => Sys2Proof.Machine.execCollectiveFrame p f s
  | .join index device grade => Sys2Proof.Machine.execJoin index device grade s
  | .joinDone count => Sys2Proof.Machine.execJoinDone count s
  | .lost d => Sys2Proof.Machine.execLost d s
  | .aliasMsg src dst => Sys2Proof.Machine.execAliasMsg src dst s
  | .era era => Sys2Proof.Machine.execEra era s
  | .takeoverReq requester failed => Sys2Proof.Machine.execTakeoverReq requester failed s
  | .takeoverGrant failed => Sys2Proof.Machine.execTakeoverGrant failed s
  | .takeoverDeny survivor => Sys2Proof.Machine.execTakeoverDeny survivor s
  | .fence => Sys2Proof.Machine.execFence s
  | .takeoverNote failed survivor era => Sys2Proof.Machine.execTakeoverNote failed survivor era s
  | .sync p f trx ttx => Sys2Proof.Machine.execSync p f trx ttx s
  | .syncSend ttx => Sys2Proof.Machine.execSyncSend ttx s
  | .syncLoss => Sys2Proof.Machine.execSyncLoss s
  | .pdelayReqSend p t1 => Sys2Proof.Machine.execPdelayReqSend p t1 s
  | .pdelayReq p f t2 t3 => Sys2Proof.Machine.execPdelayReq p f t2 t3 s
  | .pdelayResp p f t4 => Sys2Proof.Machine.execPdelayResp p f t4 s
  | .pdelayTimeout p => Sys2Proof.Machine.execPdelayTimeout p s
  | .curtainArmFrame p f => Sys2Proof.Machine.execCurtainArmFrame p f s
  | .curtainFallFrame p f => Sys2Proof.Machine.execCurtainFallFrame p f s
  | .curtainFall => Sys2Proof.Machine.execCurtainFall s
  | .houseClockWrap => Sys2Proof.Machine.execHouseClockWrap s
  | .heartbeat p f => Sys2Proof.Machine.execHeartbeat p f s
  | .heartbeatSend => Sys2Proof.Machine.execHeartbeatSend s
  | .heartbeatTimeout => Sys2Proof.Machine.execHeartbeatTimeout s
  | .takeoverReqResend => Sys2Proof.Machine.execTakeoverReqResend s
  | .takeoverSelfGrant => Sys2Proof.Machine.execTakeoverSelfGrant s
  | .pairingWaitExpiry => Sys2Proof.Machine.execPairingWaitExpiry s
  | .logWrite p f => Sys2Proof.Machine.execLogWrite p f s
  | .logCommit p f => Sys2Proof.Machine.execLogCommit p f s
  | .logDelivered p f => Sys2Proof.Machine.execLogDelivered p f s
  | .commitAcknowledged => Sys2Proof.Machine.execCommitAcknowledged s
  | .logQueueResume => Sys2Proof.Machine.execLogQueueResume s
  | .usyDrain m => Sys2Proof.Machine.execUsyDrain m s
  | .drainAcknowledged => Sys2Proof.Machine.execDrainAcknowledged s
  | .usyFail m => Sys2Proof.Machine.execUsyFail m s
  | .dimmerControlPeriod stage other => Sys2Proof.Machine.execDimmerControlPeriod stage other s
  | .calibrationReading power nanojoules => Sys2Proof.Machine.execCalibrationReading power nanojoules s
  | .thermalReading die0 die1 => Sys2Proof.Machine.execThermalReading die0 die1 s
  | .hintPrearm => Sys2Proof.Machine.execHintPrearm s
  | .dimCap m v w => Sys2Proof.Machine.execDimCap m v w s
  | .dimFixed m v => Sys2Proof.Machine.execDimFixed m v s
  | .registerWrite m off v be => Sys2Proof.Machine.execRegisterWrite m off v be s
  | .rwcPairTimeout m => Sys2Proof.Machine.execRwcPairTimeout m s
  | .digestRingConfig m off v => Sys2Proof.Machine.execDigestRingConfig m off v s
  | .cfgUse m => Sys2Proof.Machine.execCfgUse m s
  | .cfgCapture m => Sys2Proof.Machine.execCfgCapture m s
  | .cfgOff m => Sys2Proof.Machine.execCfgOff m s
  | .cfgPassComplete cycles => Sys2Proof.Machine.execCfgPassComplete cycles s
  | .snpGo m => Sys2Proof.Machine.execSnpGo m s
  | .snapshot => Sys2Proof.Machine.execSnapshot s
  | .clbRaise m w v => Sys2Proof.Machine.execClbRaise m w v s
  | .clbPendingClear m w v => Sys2Proof.Machine.execClbPendingClear m w v s
  | .secLcReq m v w => Sys2Proof.Machine.execSecLcReq m v w s
  | .secSvnBurn m v w => Sys2Proof.Machine.execSecSvnBurn m v w s
  | .secKeyRevoke m v w => Sys2Proof.Machine.execSecKeyRevoke m v w s
  | .secVovr m r v w => Sys2Proof.Machine.execSecVovr m r v w s
  | .flashRead m => Sys2Proof.Machine.execFlashRead m s
  | .flashProgram m => Sys2Proof.Machine.execFlashProgram m s
  | .flashErase m => Sys2Proof.Machine.execFlashErase m s
  | .flashCommandDone flashError => Sys2Proof.Machine.execFlashCommandDone flashError s
  | .modEnRise => Sys2Proof.Machine.execModEnRise s
  | .modEnFall => Sys2Proof.Machine.execModEnFall s
  | .inputFault => Sys2Proof.Machine.execInputFault s
  | .status => Sys2Proof.Machine.execStatus s
  | .vin reading => Sys2Proof.Machine.execVin reading s
  | .iin reading => Sys2Proof.Machine.execIin reading s
  | .pin reading => Sys2Proof.Machine.execPin reading s
  | .temps outlet => Sys2Proof.Machine.execTemps outlet s
  | .energy => Sys2Proof.Machine.execEnergy s
  | .fru => Sys2Proof.Machine.execFru s
  | .clearFault b => Sys2Proof.Machine.execClearFault b s
  | .headerLock p l => Sys2Proof.Machine.execHeaderLock p l s
  | .pcieLinkUp => Sys2Proof.Machine.execPcieLinkUp s
  | .inputInRange vin => Sys2Proof.Machine.execInputInRange vin s
  | .uvWarn vin => Sys2Proof.Machine.execUvWarn vin s
  | .hckTimeNsRead m => Sys2Proof.Machine.execHckTimeNsRead m s
  | .edgeCancelled src => Sys2Proof.Machine.execEdgeCancelled src s
  | .msixVectorUnmask v => Sys2Proof.Machine.execMsixVectorUnmask v s

end Sys2Proof.Machine
end

