-- ==== Sys2Proof/Machine/Tick.lean ====
section
/-! DEFINITION. What step does while no command waits: one house tick, and what firmware does of its own (notes/assumptions/2.md). -/
namespace Sys2Proof.Machine

/-- A snapshot falls in this tick: one is requested, or SNP_PERIOD ticks have passed since the last (R518). -/
def Dev.snapshotTick (d : Dev) : Bool :=
  d.bit Reg.snpStatus 0 || (d.fld Reg.snpPeriod 23 0 != 0 && decide (d.fld Reg.snpPeriod 23 0 ≤ d.snapTicks))

/-- One house tick: buffered HCK fields (R506), a step the servo ordered (R407), the time (R399), what training
ports send (R363, R365, R368), a snapshot (R518), the Curtain (R410). -/
def Dev.houseTick (d : Dev) : Dev :=
  let t := d.time48
  let d := d.post121.tickStart.advance 1
  let d := d.linkTick t d.time48
  let d := if d.snapshotTick then d.snapshot else d
  d.curtainTick

/-- Firmware starts the replay of R302 after a fault, or withholds it (R208). -/
def Dev.firmwareReplay (d : Dev) (i : Ident) : Dev :=
  if !d.mayReplay then d else if d.peakFits then (d.startReplay []).stopIfHurt i else d.withhold

/-- RESTORE commands that R208 withheld go on once the cap allows it: the first begins, the others meet its replay (Table 11-10). -/
def Dev.withheldRestores (d : Dev) (i : Ident) : Dev :=
  if !d.peakFits then d
  else
    let cs := d.hif.restores
    cs.foldl (fun d c => d.acceptRestore i c) { d with hif := { d.hif with restores := [] } }

/-- One house tick of the machine; a package held in reset has none. -/
def tick (s : State) : State :=
  if s.board.power = .on ∧ !s.board.perst then
    { s with dev := ((s.dev.houseTick.withheldRestores s.ident).firmwareReplay s.ident).settle s.ident }
  else s

end Sys2Proof.Machine
end

