-- ==== Sys2Proof/Safety.lean ====
section
/-! DEFINITION. The terms in which claims are made: what a command runs to, what it leaves as it was, and which instruction a lantern
has before it. -/
namespace Sys2Proof.Machine

/-! ### Completion and frames -/

/-- The command has its effect in `s`: `exec` answers a next state, and `P` holds of it. -/
def Runs (c : Instr) (s : State) (P : State → Prop) : Prop := ∃ t, exec c s = .next t ∧ P t

/-- The command takes the package to `d`, and changes nothing else of the machine. -/
def Does (c : Instr) (s : State) (d : Dev) : Prop := exec c s = .next { s with dev := d }

/-- The parts of the machine, one for each field of State and of Dev. -/
inductive Part where
  | pending | ident | fuses | flash | board
  | regs | pend | wide | hold | arrivals | pairs | asleep | snapTicks | prompter | stage | slots | xfers | colls | grid | cast | hif
  | mems | fab | hck | dim | usy | spt | boot | lc | strike | flashOp | outbox | free | lines
deriving DecidableEq, Repr

/-- A part is the same in two states. -/
def Part.same : Part → State → State → Prop
  | .pending, s, t => t.pending = s.pending
  | .ident, s, t => t.ident = s.ident
  | .fuses, s, t => t.fuses = s.fuses
  | .flash, s, t => t.flash = s.flash
  | .board, s, t => t.board = s.board
  | .regs, s, t => t.dev.regs = s.dev.regs
  | .pend, s, t => t.dev.pend = s.dev.pend
  | .wide, s, t => t.dev.wide = s.dev.wide
  | .hold, s, t => t.dev.hold = s.dev.hold
  | .arrivals, s, t => t.dev.arrivals = s.dev.arrivals
  | .pairs, s, t => t.dev.pairs = s.dev.pairs
  | .asleep, s, t => t.dev.asleep = s.dev.asleep
  | .snapTicks, s, t => t.dev.snapTicks = s.dev.snapTicks
  | .prompter, s, t => t.dev.prompter = s.dev.prompter
  | .stage, s, t => t.dev.stage = s.dev.stage
  | .slots, s, t => t.dev.slots = s.dev.slots
  | .xfers, s, t => t.dev.xfers = s.dev.xfers
  | .colls, s, t => t.dev.colls = s.dev.colls
  | .grid, s, t => t.dev.grid = s.dev.grid
  | .cast, s, t => t.dev.cast = s.dev.cast
  | .hif, s, t => t.dev.hif = s.dev.hif
  | .mems, s, t => t.dev.mems = s.dev.mems
  | .fab, s, t => t.dev.fab = s.dev.fab
  | .hck, s, t => t.dev.hck = s.dev.hck
  | .dim, s, t => t.dev.dim = s.dev.dim
  | .usy, s, t => t.dev.usy = s.dev.usy
  | .spt, s, t => t.dev.spt = s.dev.spt
  | .boot, s, t => t.dev.boot = s.dev.boot
  | .lc, s, t => t.dev.lc = s.dev.lc
  | .strike, s, t => t.dev.strike = s.dev.strike
  | .flashOp, s, t => t.dev.flashOp = s.dev.flashOp
  | .outbox, s, t => t.dev.outbox = s.dev.outbox
  | .free, s, t => t.dev.free = s.dev.free
  | .lines, s, t => t.dev.lines = s.dev.lines

/-- Every part is the same but those listed, and but the event lines' recent pulses: a pulse goes with the event itself (R484), so each
command whose event has a line adds one beside what is listed. -/
def Keeps (changed : List Part) (s t : State) : Prop := ∀ p, p ∉ .lines :: changed → p.same s t

/-- Every register reads as before but those listed. -/
def KeepsRegs (changed : List Nat) (s t : State) : Prop := ∀ off, off ∉ changed → t.dev.reg off = s.dev.reg off

/-- One arrival of source `src` has been counted, to at most 255 (R519), and none of another. -/
def Raised (src : Nat) (s t : State) : Prop :=
  t.dev.arrivalCount src = min 255 (s.dev.arrivalCount src + 1) ∧ ∀ x, x ≠ src → t.dev.arrivalCount x = s.dev.arrivalCount x

/-- What raising sources may change beside their counts: sleeping cores, the messages due, what has been sent. -/
def raising : List Part := [.arrivals, .asleep, .hif, .outbox]

/-- The package has power (R545). -/
def On (s : State) : Prop := s.board.power = .on

/-- A row of the board-management controller or of the package's reset (chapter 19): it acts whether or not the package has power. -/
def boardRow : Instr → Bool
  | .modEnRise | .modEnFall | .inputFault | .inputInRange _ | .uvWarn _ | .status | .vin _ | .iin _ | .pin _ | .temps _ | .energy | .fru
  | .clearFault _ | .perstAssert | .perstRelease => true
  | _ => false

/-- What holds of every machine: the package has power only while MOD_EN is asserted and no FAULT_OFF is latched (R546, R547), the identity
key is dead in RETURNED (R535), and one key slot at least is not revoked (R529). -/
def State.sound (s : State) : Prop :=
  (s.board.power = .on → s.board.modEn = true ∧ s.board.faultOff = false) ∧
    (s.fuses.lc = .returned → s.fuses.idAlive = false) ∧ s.fuses.revoked ≠ 15 ∧ tabWf flashDflt s.flash = true

/-! ### Memories -/

/-- Every memory is in its canonical form. -/
def Mems.wf (m : Mems) : Bool :=
  m.tile.wf && m.cue.wf && m.lins.wf && m.ldata.wf && m.capt.wf && m.hbm.wf && m.host.wf && m.copyCue.wf && m.copyLins.wf &&
    m.copyData.wf

/-! ### Lanterns -/

/-- The command row of an operation of Table 8-3. -/
def rowOf (l : Fin 256) : LOp → Instr
  | .halt => .halt l | .nop => .lanternNop l | .add => .add l | .sub => .sub l | .and => .and l | .or => .or l | .xor => .xor l
  | .shl => .shl l | .shr => .shr l | .sra => .sra l | .slt => .slt l | .sltu => .sltu l | .mul => .mul l | .addi => .addi l
  | .andi => .andi l | .ori => .ori l | .lui => .lui l | .fadd => .fadd l | .fsub => .fsub l | .fmul => .fmul l | .fmax => .fmax l
  | .fmin => .fmin l | .flt => .flt l | .ffma => .ffma l | .fexp => .fexp l | .fln => .fln l | .frecip => .frecip l
  | .itof => .itof l | .ftoi => .ftoi l | .rng => .rng l | .vadd => .vadd l | .vsub => .vsub l | .vmul => .vmul l
  | .vmax => .vmax l | .vmin => .vmin l | .vfma => .vfma l | .vexp => .vexp l | .vbcast => .vbcast l | .vextr => .vextr l
  | .vins => .vins l | .vrsum => .vrsum l | .vrmax => .vrmax l | .ld => .ld l | .st => .st l | .ldb => .ldb l | .stb => .stb l
  | .vld => .vld l | .vst => .vst l | .beq => .beq l | .bne => .bne l | .blt => .blt l | .jal => .jal l | .jr => .jr l
  | .send => .send l | .sendc => .sendc l | .sendd => .sendd l | .recv => .recv l | .ccount => .ccount l | .signal => .signal l

/-- Lantern `l` of a powered package runs, its PC lies in its program's section (R253), and the word there is without error and
spells the instruction `w`. -/
def LanternAt (s : State) (l : Fin 256) (w : LInst) : Prop :=
  On s ∧ (s.dev.lantern l.val).running = true ∧ (s.dev.lantern l.val).inSection = true ∧
    s.dev.errorsIn .lins (s.dev.fetchKey l.val) 4 = [] ∧ s.dev.fetched l.val = encodeLantern w

/-- The sign-extended immediate (R249). -/
def immOf (w : LInst) : W32 := w.imm.signExtend 32

/-- The lanterns other than `l`, and everything else of the machine, are as they were. -/
def OnlyLantern (l : Fin 256) (s t : State) : Prop :=
  Keeps [.grid] s t ∧ t.dev.grid = { s.dev.grid with lanterns := t.dev.grid.lanterns } ∧
    ∀ k, k ≠ l.val → t.dev.lantern k = s.dev.lantern k

/-- A lantern steps on with gA changed to `v`: the other registers and its run are as they were. -/
def StepsG (x y : Lantern) (a : BitVec 4) (v : W32) : Prop :=
  y.gr a.toNat = v ∧ (∀ r, r ≠ a.toNat → y.gr r = x.gr r) ∧ y.pc = x.pc + 1 ∧ y = { x with g := y.g, pc := y.pc }

/-- A lantern steps on with vA changed to the lanes `f`: the other registers and its run are as they were. -/
def StepsV (x y : Lantern) (a : BitVec 4) (f : Nat → W32) : Prop :=
  (∀ i, i < 16 → y.lane a.toNat i = f i) ∧ (∀ r i, r ≠ a.toNat → i < 16 → y.lane r i = x.lane r i) ∧ y.pc = x.pc + 1 ∧
    y = { x with v := y.v, pc := y.pc }

/-- What gA receives from an operation on registers (Table 8-3); an operation on vector registers asks that they be v0 to v7. -/
def gResult (x : Lantern) (w : LInst) : Option W32 :=
  let a := x.gr w.a.toNat
  let b := x.gr w.b.toNat
  let c := x.gr w.c.toNat
  let vb := (List.range 16).map (x.lane w.b.toNat)
  let one := fun (p : Bool) => if p then some (1 : W32) else some 0
  let vec := fun (v : W32) => if w.b.toNat < 8 then some v else none
  match w.op with
  | .add => some (b + c)
  | .sub => some (b - c)
  | .and => some (b &&& c)
  | .or => some (b ||| c)
  | .xor => some (b ^^^ c)
  | .shl => some (b <<< (c.toNat % 32))
  | .shr => some (b >>> (c.toNat % 32))
  | .sra => some (b.sshiftRight (c.toNat % 32))
  | .slt => one (decide (b.toInt < c.toInt))
  | .sltu => one (decide (b.toNat < c.toNat))
  | .mul => some (b * c)
  | .addi => some (b + immOf w)
  | .andi => some (b &&& w.imm.zeroExtend 32)
  | .ori => some (b ||| w.imm.zeroExtend 32)
  | .lui => some (w.imm20 ++ (0 : BitVec 12))
  | .fadd => some (fadd b c)
  | .fsub => some (fsub b c)
  | .fmul => some (fmul b c)
  | .fmax => some (fmax b c)
  | .fmin => some (fmin b c)
  | .flt => one (flt b c)
  | .ffma => some (ffma b c a)
  | .fexp => some (fexp b)
  | .fln => some (fln b)
  | .frecip => some (frecip b)
  | .itof => some (itof b)
  | .ftoi => some (ftoi b)
  | .vextr => vec (x.lane w.b.toNat (w.imm.toNat % 16))
  | .vrsum => vec (vb.foldl fadd 0)
  | .vrmax => vec (BitVec.ofNat 32 (maxLane vb))
  | _ => none

/-- What lane `i` of vA receives from an operation on registers (Table 8-3), whose vector registers are v0 to v7. -/
def vResult (x : Lantern) (w : LInst) : Option (Nat → W32) :=
  let g := x.gr w.b.toNat
  let a := x.lane w.a.toNat
  let b := x.lane w.b.toNat
  let c := x.lane w.c.toNat
  let three := fun (f : Nat → W32) => if w.a.toNat < 8 ∧ w.b.toNat < 8 ∧ w.c.toNat < 8 then some f else none
  match w.op with
  | .vadd => three (fun i => fadd (b i) (c i))
  | .vsub => three (fun i => fsub (b i) (c i))
  | .vmul => three (fun i => fmul (b i) (c i))
  | .vmax => three (fun i => fmax (b i) (c i))
  | .vmin => three (fun i => fmin (b i) (c i))
  | .vfma => three (fun i => ffma (b i) (c i) (a i))
  | .vexp => if w.a.toNat < 8 ∧ w.b.toNat < 8 then some (fun i => fexp (b i)) else none
  | .vbcast => if w.a.toNat < 8 then some (fun _ => g) else none
  | .vins => if w.a.toNat < 8 then some (fun i => if i = w.imm.toNat % 16 then g else a i) else none
  | _ => none

/-- The PC to which an operation leads that only moves it (Table 8-3), and what JAL leaves in gA. -/
def branchTo (x : Lantern) (w : LInst) : Option (BitVec 11) :=
  let a := x.gr w.a.toNat
  let b := x.gr w.b.toNat
  let far := x.pc + w.imm.truncate 11
  match w.op with
  | .nop => some (x.pc + 1)
  | .beq => some (if a = b then far else x.pc + 1)
  | .bne => some (if a = b then x.pc + 1 else far)
  | .blt => some (if a.toInt < b.toInt then far else x.pc + 1)
  | .jr => some (b.truncate 11)
  | _ => none

/-- The bytes that a store writes and those that a load reads (Table 8-3). -/
def accessOf : LOp → Option Nat
  | .ld | .st => some 4
  | .ldb | .stb => some 1
  | .vld | .vst => some 64
  | _ => none

/-- The address of a load or a store: gB + IMM (Table 8-3). -/
def addressOf (x : Lantern) (w : LInst) : Nat := (x.gr w.b.toNat + immOf w).toNat

/-- The access is aligned to its size and lies in data memory (R248); a vector register it names is one of v0 to v7. -/
def accessOk (x : Lantern) (w : LInst) (n : Nat) : Prop :=
  addressOf x w % n = 0 ∧ addressOf x w + n ≤ 0x10000 ∧ (n = 64 → w.a.toNat < 8)

/-! ### Frames -/

/-- A well-formed frame reaches a port that is UP (R373). -/
def Arrives (s : State) (p : Fin 17) (f : Frame) : Prop :=
  On s ∧ s.dev.portUp p.val = true ∧ frameBad (s.dev.lenLimit p.val) f = false

/-- The package once an unsequenced frame is received: what its ACK fields say has been done (R375, R376), and its bytes are counted. -/
def received (s : State) (p : Fin 17) (f : Frame) : Dev :=
  (s.dev.takeAck p.val f).wideAdd (Reg.fabRxBytes p.val) (frameLen f)

/-- How far the frame's SEQ lies behind the SEQ expected (R375): 0 for the frame that is next. -/
def behind (s : State) (p : Fin 17) (f : Frame) : Nat := (((s.dev.takeAck p.val f).port p.val).expect + 256 - frameSeq f) % 256

/-- The package once the next sequenced frame is accepted: the SEQ expected moves on, the frame is counted and acknowledged (R375). -/
def accepted (s : State) (p : Fin 17) (f : Frame) : Dev :=
  let a := s.dev.takeAck p.val f
  ((a.setPort p.val { a.port p.val with expect := ((a.port p.val).expect + 1) % 256 }).wideAdd (Reg.fabRxBytes p.val)
    (frameLen f)).sendAck p.val false

/-- Blocks of a type are all that has been sent, on lanes of one port (Tables 12-2, 12-3). -/
def SendsBlocks (p : Nat) (btype : Byte) (s t : State) : Prop :=
  ∃ bs, t.dev.outbox = s.dev.outbox ++ bs ∧ ∀ o ∈ bs, ∃ l w, o = Out.block p l w ∧ w.setWidth 8 = btype

/-- A control block outside a frame (R361, Table 12-2): a type without a use counts an error where the lane is locked. -/
def Strays (p l : Nat) (btype : Byte) (s t : State) : Prop :=
  let used := btype ∈ [(0x1E : Byte), 0x4B, 0x55, 0x78] ∨ s.dev.bit (Reg.fabStatus p) (9 + l) = false
  (used → t = s) ∧
    (¬used → t.dev.reg (Reg.fabCrcErr p) = BitVec.ofNat 32 (min ((s.dev.reg (Reg.fabCrcErr p)).toNat + 1) 0xFFFFFFFF) ∧
      KeepsRegs [Reg.fabCrcErr p] s t ∧ Keeps (.regs :: raising) s t)

/-- The port has left UP for CLOCK with a reason (R371). -/
def LeftUp (p reason : Nat) (s t : State) : Prop :=
  t.dev.portState p = 1 ∧ t.dev.fld (Reg.fabStatus p) 6 3 = reason ∧ t.dev.bit (Reg.fabStatus p) 16 = true ∧
    Raised (256 + 4 * p + 1) s t ∧ (t.dev.port p).retry = false

/-- A training attempt has failed with a reason (R369): the attempts in a row are counted; after the sixteenth the port is DEAD. -/
def Failed (p reason : Nat) (s t : State) : Prop :=
  let n := (s.dev.port p).fails + 1
  t.dev.fld (Reg.fabStatus p) 6 3 = reason ∧ (t.dev.port p).fails = n ∧
    t.dev.reg (Reg.fabTrains p) = BitVec.ofNat 32 (min ((s.dev.reg (Reg.fabTrains p)).toNat + 1) 0xFFFFFFFF) ∧
    (n < 16 → (t.dev.port p).retry = true ∧ t.dev.portState p = s.dev.portState p ∧ Keeps [.regs, .fab] s t) ∧
    (16 ≤ n → (t.dev.port p).retry = false ∧ t.dev.portState p = 7 ∧ (t.dev.port p).held = [] ∧ Raised (256 + 4 * p + 1) s t)

/-! ### Cues -/

/-- The word of the cue at PC. -/
def cueHere (s : State) : Nat := s.dev.cueWord s.dev.prompter.pc.toNat

/-- The cue at PC passes its check and issues: `w` is its word with the indexed field at its effective value (R149), `desc` its
descriptor. The package has power, the Prompter runs with no WAIT and no Safety Curtain, the Stage queue has room for a Stage cue
(R145), the words read, those of the manifest that a bound cue reads among them, hold no uncorrectable error, and no check of R148
fails. -/
def CueAt (s : State) (w : Nat) (desc : List Byte) : Prop :=
  let d := s.dev
  let n := 64 * (cueClass w).units
  On s ∧ d.mayIssue = true ∧ ((cueClass (cueHere s)).stage = true → d.prompter.stageQueue.length < 4) ∧
    d.errorsIn .cue (16 * d.prompter.pc.toNat) 16 = [] ∧ d.indexedCue (cueHere s) = some w ∧ descInStore w = true ∧
    d.errorsIn .cue (64 * cueDesc w) n = [] ∧ memBytes d.mems.cue (64 * cueDesc w) n = desc ∧ d.checkFails s.ident w desc = [] ∧
    d.viaBad (d.bindSpans w desc) = false

/-- The checked cue (R142). -/
def cueChecked (s : State) (w : Nat) (desc : List Byte) : Cue :=
  { word := w, desc := desc, pc := s.dev.prompter.pc.toNat, seq := (s.dev.reg Reg.stgStepSeq).toNat }

/-- The package as a cue issues: its ledger entries are appended (R152), its phase is at the Dimmer (R191, R446), and event line 0 has its
pulse (Table 16-2). -/
def issuing (s : State) (w : Nat) (desc : List Byte) : Dev := ((s.dev.owe w desc).phaseCue s.ident (cuePhase w)).pulse 0

/-- What a cue's issue may change whatever the cue: the Prompter, and the Dimmer's learning for the cue's phase. -/
def issueParts : List Part := [.prompter, .dim, .regs, .free]

/-- The Prompter has moved on as after a cue that retires (R143, R190), and no WAIT stalls it. -/
def MovedOn (s t : State) : Prop := (t.dev.prompter.pc, t.dev.prompter.loops) = s.dev.prompter.after ∧ t.dev.prompter.wait = none

/-- The ledger lists of R152 after a cue has issued: the cue's entries stand at their ends. -/
def Owes (s : State) (w : Nat) (desc : List Byte) (t : State) : Prop :=
  ∀ n, (t.dev.counter n).ledger = (s.dev.counter n).ledger ++
    ((cueLists w desc).filter (fun l => l.1 == n)).map (fun l => { draw := l.2, grid := gridMark w, coll := collMark w })

/-- The rows of GRID START, by the codes of their programs (Table 5-20). -/
def startRow : Nat → Instr
  | 1 => .sampler
  | 2 => .masker
  | 3 => .qstat
  | 4 => .specv
  | _ => .gridStart

end Sys2Proof.Machine
end

