-- ==== Sys2Proof/Certificates/Slice0/Obligations.lean ====
section
/-! DEFINITION. The statements for the provers. -/

open Sys2Proof Sys2Proof.Machine

/-! ### Lanterns -/

/-- Decoding and encoding of lantern instructions agree, with every operand at every value (R249, R250): a word that is an
encoding decodes to its instruction, a word that decodes is the encoding of what it decodes to, and the fields that the rows read
are the instruction's. -/
def Obligations.LanternDecodeEncode : Prop :=
  (∀ w : LInst, decodeLantern (encodeLantern w) = some w) ∧
  (∀ (v : W32) (w : LInst), decodeLantern v = some w → encodeLantern w = v) ∧
  (∀ w : LInst, lword (encodeLantern w) =
    { op := w.op.code.toNat, a := w.a.toNat, b := w.b.toNat, c := w.c.toNat, imm := w.imm.signExtend 32, imm12 := w.imm.toNat
      imm20 := w.imm20.toNat }) ∧
  (∀ v : W32, decodeLantern v = none ↔ (v.setWidth 8).toNat ∉ lanternOps)

/-- Operations that write gA from registers (R250, Table 8-3). -/
def Obligations.LanternScalarResult : Prop :=
  ∀ (s : State) (l : Fin 256) (w : LInst) (v : W32), LanternAt s l w → gResult (s.dev.lantern l.val) w = some v →
    Runs (rowOf l w.op) s (fun t => StepsG (s.dev.lantern l.val) (t.dev.lantern l.val) w.a v ∧ OnlyLantern l s t)

/-- Operations that write vA from registers (R250, Table 8-3). -/
def Obligations.LanternVectorResult : Prop :=
  ∀ (s : State) (l : Fin 256) (w : LInst) (f : Nat → W32), LanternAt s l w → vResult (s.dev.lantern l.val) w = some f →
    Runs (rowOf l w.op) s (fun t => StepsV (s.dev.lantern l.val) (t.dev.lantern l.val) w.a f ∧ OnlyLantern l s t)

/-- Operations that only move PC, JAL, CCOUNT and SIGNAL (R250, Table 8-3). -/
def Obligations.LanternControl : Prop :=
  ∀ (s : State) (l : Fin 256) (w : LInst), LanternAt s l w →
    let x := s.dev.lantern l.val
    (∀ p, branchTo x w = some p →
      Runs (rowOf l w.op) s (fun t => t.dev.lantern l.val = { x with pc := p } ∧ OnlyLantern l s t)) ∧
    (w.op = .jal →
      Runs (.jal l) s (fun t =>
        let y := t.dev.lantern l.val
        y.gr w.a.toNat = BitVec.ofNat 32 (x.pc.toNat + 1) ∧ (∀ r, r ≠ w.a.toNat → y.gr r = x.gr r) ∧
          y = { x with g := y.g, pc := x.pc + w.imm.truncate 11 } ∧ OnlyLantern l s t)) ∧
    (w.op = .ccount →
      Runs (.ccount l) s (fun t =>
        StepsG x (t.dev.lantern l.val) w.a (BitVec.ofNat 32 (s.dev.grid.channel l.val (w.imm.toNat % 16)).length) ∧ OnlyLantern l s t)) ∧
    (w.op = .signal →
      Runs (.signal l) s (fun t =>
        t.dev.lantern l.val = { x with pc := x.pc + 1 } ∧ Raised (144 + w.imm.toNat % 16) s t ∧ Keeps (.grid :: raising) s t ∧
          t.dev.grid = { s.dev.grid with lanterns := t.dev.grid.lanterns } ∧ ∀ k, k ≠ l.val → t.dev.lantern k = s.dev.lantern k)) ∧
    (w.op = .halt →
      Runs (.halt l) s (fun t => t.dev.lantern l.val = { x with pc := x.pc + 1, running := false } ∧ OnlyLantern l s t))

/-- Loads (R246, R250, Table 8-3): an aligned access of data memory that meets no error leaves its bytes in gA or vA. -/
def Obligations.LanternLoad : Prop :=
  ∀ (s : State) (l : Fin 256) (w : LInst) (n : Nat), LanternAt s l w → accessOf w.op = some n →
    let x := s.dev.lantern l.val
    let a := addressOf x w
    accessOk x w n → s.dev.errorsIn .ldata (65536 * l.val + a) n = [] →
    let byte := fun k => (memByte s.dev.mems.ldata (65536 * l.val + a + k)).toNat
    let word := fun k => BitVec.ofNat 32 (byte k + 2 ^ 8 * byte (k + 1) + 2 ^ 16 * byte (k + 2) + 2 ^ 24 * byte (k + 3))
    (w.op = .ld → Runs (.ld l) s (fun t => StepsG x (t.dev.lantern l.val) w.a (word 0) ∧ OnlyLantern l s t)) ∧
    (w.op = .ldb → Runs (.ldb l) s (fun t => StepsG x (t.dev.lantern l.val) w.a (BitVec.ofNat 32 (byte 0)) ∧ OnlyLantern l s t)) ∧
    (w.op = .vld → Runs (.vld l) s (fun t => StepsV x (t.dev.lantern l.val) w.a (fun i => word (4 * i)) ∧ OnlyLantern l s t))

/-- Stores (R246, R250, Table 8-3): an aligned access below the route area that meets no error writes the register's bytes, lowest
first, at gB + IMM of the lantern's data memory, and no other byte of any memory. -/
def Obligations.LanternStore : Prop :=
  ∀ (s : State) (l : Fin 256) (w : LInst) (n : Nat), LanternAt s l w → accessOf w.op = some n →
    let x := s.dev.lantern l.val
    let a := addressOf x w
    accessOk x w n → a + n ≤ s.dev.routeArea → s.dev.mems.errors = [] → w.op = .st ∨ w.op = .stb ∨ w.op = .vst →
    let value := fun k => if n = 64 then x.lane w.a.toNat (k / 4) else x.gr w.a.toNat
    Runs (rowOf l w.op) s (fun t =>
      t.dev.lantern l.val = { x with pc := x.pc + 1 } ∧ (∀ k, k ≠ l.val → t.dev.lantern k = s.dev.lantern k) ∧
      (∀ k, k < n → memByte t.dev.mems.ldata (65536 * l.val + a + k) = (value k).extractLsb' (8 * (k % 4)) 8) ∧
      (∀ b, b < 65536 * l.val + a ∨ 65536 * l.val + a + n ≤ b → memByte t.dev.mems.ldata b = memByte s.dev.mems.ldata b) ∧
      t.dev.mems = { s.dev.mems with ldata := t.dev.mems.ldata } ∧
      t.dev.grid = { s.dev.grid with lanterns := t.dev.grid.lanterns } ∧ Keeps [.grid, .mems] s t)

/-- Lantern faults (R248): a vector register above v7, a misaligned access and an access outside data memory end the lantern's run;
LGR_LFAULT records the first fault, with the lantern, the code and the PC; source 136 is raised. -/
def Obligations.LanternFault : Prop :=
  ∀ (s : State) (l : Fin 256) (w : LInst) (n code : Nat), LanternAt s l w → accessOf w.op = some n →
    let x := s.dev.lantern l.val
    let a := addressOf x w
    (n = 64 ∧ 8 ≤ w.a.toNat ∧ code = 1) ∨ ((n = 64 → w.a.toNat < 8) ∧ a % n ≠ 0 ∧ code = 2) ∨
      ((n = 64 → w.a.toNat < 8) ∧ a % n = 0 ∧ 0x10000 < a + n ∧ code = 3) →
    Runs (rowOf l w.op) s (fun t =>
      t.dev.lantern l.val = { x with running := false, bad := true } ∧ (∀ k, k ≠ l.val → t.dev.lantern k = s.dev.lantern k) ∧
      (s.dev.bit Reg.lgrLfault 31 = true → t.dev.regs = s.dev.regs) ∧
      (s.dev.bit Reg.lgrLfault 31 = false →
        t.dev.fld Reg.lgrLfault 7 0 = l.val ∧ t.dev.fld Reg.lgrLfault 11 8 = code ∧ t.dev.fld Reg.lgrLfault 22 12 = x.pc.toNat ∧
        t.dev.bit Reg.lgrLfault 31 = true ∧ KeepsRegs [Reg.lgrLfault] s t) ∧
      Raised 136 s t ∧ Keeps (.grid :: .regs :: raising) s t)

/-- Token and generator instructions (R252): SEND, SENDC and SENDD inject in the first grid cycle after issue whose slot is IMM[3:0]; the
control token has KIND, CHAN and ERR of gA and the EPOCH, SRC and SSLOT of its injection; a SEND of KIND REQ is owed one answer more from
each edge unit that it reaches, and one that never comes where it reaches none (R236); RECV takes the oldest pair of channel IMM[3:0],
its control token to gA and its data to lanes 0 to 3 of vB, and stalls while there is none; RNG leaves in gA nzr of the 16-byte block at
gB, which holds seed, stream, tag and step, at index gC. -/
def Obligations.LanternTokens : Prop :=
  (∀ (d : Dev) (u c g : Nat), u < 512 → let t := d.controlWord u c g
    bits t 0 8 = d.epoch ∧ bits t 8 4 = bits g 8 4 ∧ bits t 12 9 = u ∧ bits t 21 4 = c % 16 ∧ bits t 25 4 = bits g 25 4 ∧
      bits t 29 1 = bits g 29 1) ∧
  ∀ (s : State) (l : Fin 256) (w : LInst), LanternAt s l w →
    let x := s.dev.lantern l.val
    let d := s.dev
    let k := slotCycle (d.grid.cycle + 1) (w.imm.toNat % 16)
    let word := (List.range 4).foldr (fun i acc => (x.lane w.b.toNat i).toNat + 2 ^ 32 * acc) 0
    let sends := fun (c : Instr) (inject : Dev) (asked : Nat) => Runs c s (fun t =>
      t.dev.grid = { inject.grid with cycle := k, lanterns := t.dev.grid.lanterns } ∧ k % 16 = w.imm.toNat % 16 ∧
      d.grid.cycle < k ∧ k ≤ d.grid.cycle + 16 ∧
      t.dev.lantern l.val = { x with pc := x.pc + 1, owed := x.owed + asked } ∧ (∀ j, j ≠ l.val → t.dev.lantern j = d.lantern j) ∧
      t.dev.regs = inject.regs ∧ Keeps [.grid, .regs] s t)
    (w.op = .send → w.b.toNat < 8 → sends (.send l) (d.injectPair l.val k (x.gr w.a.toNat).toNat word)
      (if bits (x.gr w.a.toNat).toNat 8 4 = 2 then max 1 ((d.grid.reached true l.val k).filter (fun t => decide (256 ≤ t.1))).length else 0)) ∧
    (w.op = .sendc → sends (.sendc l) (d.injectOne l.val k true (d.controlWord l.val k (x.gr w.a.toNat).toNat)) 0) ∧
    (w.op = .sendd → w.b.toNat < 8 → sends (.sendd l) (d.injectOne l.val k false word) 0) ∧
    (w.op = .recv → w.b.toNat < 8 → ∀ c data rest, d.grid.channel l.val (w.imm.toNat % 16) = (c, data) :: rest →
      Runs (.recv l) s (fun t =>
        let y := t.dev.lantern l.val
        y.gr w.a.toNat = BitVec.ofNat 32 c ∧ (∀ r, r ≠ w.a.toNat → y.gr r = x.gr r) ∧
        (∀ i, i < 16 → y.lane w.b.toNat i = if i < 4 then BitVec.ofNat 32 (bits data (32 * i) 32) else 0) ∧
        (∀ r i, r ≠ w.b.toNat → i < 16 → y.lane r i = x.lane r i) ∧ y = { x with g := y.g, v := y.v, pc := x.pc + 1 } ∧
        t.dev.grid.channel l.val (w.imm.toNat % 16) = rest ∧
        (∀ j c, 16 * j + c ≠ 16 * l.val + w.imm.toNat % 16 → t.dev.grid.channel j c = d.grid.channel j c) ∧
        (∀ j, j ≠ l.val → t.dev.lantern j = d.lantern j) ∧ Keeps [.grid] s t)) ∧
    (w.op = .recv → w.b.toNat < 8 → d.grid.channel l.val (w.imm.toNat % 16) = [] → Runs (.recv l) s (fun t => t = s)) ∧
    (w.op = .rng → let a := (x.gr w.b.toNat).toNat
      a + 16 ≤ 0x10000 → d.errorsIn .ldata (65536 * l.val + a) 16 = [] →
      let bs := memBytes d.mems.ldata (65536 * l.val + a) 16
      Runs (.rng l) s (fun t =>
        StepsG x (t.dev.lantern l.val) w.a
          (nzr (BitVec.ofNat 64 (field bs 0 8)) (field bs 8 2 % 2 ^ 14) (field bs 12 4) (field bs 10 2) (x.gr w.c.toNat).toNat) ∧
        OnlyLantern l s t))

/-! ### Cues -/

/-- SCENE, VEC and QNT issue (R145, R163, R165, R172, R188, R422): the checked cue enters the Stage queue, a scene whose digest unit is
off without its DIGEST flag; the cue's draw is appended to its counter's ledger list; the Prompter moves on. A flagged scene with
the digest unit on queues its digest entry, after entries that wait. -/
def Obligations.StageCuesIssue : Prop :=
  ∀ (s : State) (w : Nat) (desc : List Byte), CueAt s w desc → cueClass w = cueClass (cueHere s) →
    let d := s.dev
    let queued := fun (w' : Nat) (t : State) =>
      t.dev.prompter.stageQueue = d.prompter.stageQueue ++ [{ cueChecked s w desc with word := w' }] ∧ MovedOn s t ∧ Owes s w desc t
    (cueClass w = .vec → Runs .vec s (fun t => queued w t ∧ t.dev.prompter.digests = d.prompter.digests ∧ Keeps issueParts s t)) ∧
    (cueClass w = .qnt → Runs .qnt s (fun t => queued w t ∧ t.dev.prompter.digests = d.prompter.digests ∧ Keeps issueParts s t)) ∧
    (cueClass w = .scene → bitAt w 25 = false →
      Runs .scene s (fun t => queued w t ∧ t.dev.prompter.digests = d.prompter.digests ∧ Keeps issueParts s t)) ∧
    (cueClass w = .scene → bitAt w 25 = true → d.digOn = false →
      Runs .scene s (fun t => queued (putBits w 25 1 0) t ∧ t.dev.prompter.digests = d.prompter.digests ∧ Keeps issueParts s t)) ∧
    (cueClass w = .scene → bitAt w 25 = true → d.digOn = true → (∀ e ∈ d.prompter.digests.head?, e.value = none) →
      Runs .scene s (fun t => queued w t ∧ Keeps issueParts s t ∧
        ∃ e, t.dev.prompter.digests = d.prompter.digests ++ [e] ∧ e.value = none ∧ e.kind = 0 ∧ e.pc = d.prompter.pc.toNat ∧
          e.seq = (d.reg Reg.stgStepSeq).toNat))

/-- NOP, EVENT, HINT and LOOP issue (R191, R184, R448, R190). -/
def Obligations.SimpleCuesIssue : Prop :=
  ∀ (s : State) (w : Nat) (desc : List Byte), CueAt s w desc → cueClass w = cueClass (cueHere s) → cueFunc w = cueFunc (cueHere s) →
    let d := s.dev
    (cueClass w = .nop → Runs .nop s (fun t => MovedOn s t ∧ Keeps issueParts s t)) ∧
    (cueClass w = .sync → cueFunc w = 4 →
      Runs .event s (fun t => MovedOn s t ∧ Raised (96 + bits w 56 4) s t ∧ Keeps (issueParts ++ raising) s t)) ∧
    (cueClass w = .hint →
      Runs .hint s (fun t => MovedOn s t ∧ Keeps issueParts s t ∧
        (d.fld Reg.dimCtrl 1 0 < 2 → t.dev.dim.hint = d.dim.hint ∧ t.dev.dim.prearm = d.dim.prearm) ∧
        (2 ≤ d.fld Reg.dimCtrl 1 0 →
          t.dev.dim.hint = (if bits w 32 3 = 7 then none else some (bits w 32 3)) ∧
          t.dev.dim.prearm = if bits w 36 7 = 0 then d.dim.prearm else d.dim.prearm ++ [(bits w 44 16, bits w 36 7)]))) ∧
    (cueClass w = .loop →
      Runs .loop s (fun t => Keeps issueParts s t ∧ t.dev.prompter.pc = d.prompter.pc + 1 ∧
        t.dev.prompter.loops = d.prompter.loops ++
          [{ index := 0, count := bits w 32 16, stride := bits w 64 16, first := (d.prompter.pc.toNat + 1) % 2 ^ 18
             last := (d.prompter.pc.toNat + bits w 48 12) % 2 ^ 18 }]))

/-- DIGEST issues (R187, R188, R422): with the digest unit on and no entry waiting before it, its mark entry, which is ready at once, is
written to the ring; behind a waiting entry it waits too; with the unit off nothing is queued. -/
def Obligations.DigestMark : Prop :=
  ∀ (s : State) (w : Nat) (desc : List Byte), CueAt s w desc → cueClass w = .digest → cueClass (cueHere s) = .digest →
    let d := s.dev
    let e : DigestEntry :=
      { value := some (BitVec.ofNat 64 (bits w 32 32)), seq := (d.reg Reg.stgStepSeq).toNat, pc := d.prompter.pc.toNat
        phase := cuePhase w, rows := 0, kind := bits w 64 4 + 1, n := 0 }
    (d.digOn = false → Runs .digest s (fun t => MovedOn s t ∧ t.dev.prompter.digests = d.prompter.digests ∧ Keeps issueParts s t)) ∧
    (d.digOn = true → (∃ x xs, d.prompter.digests = x :: xs ∧ x.value = none) →
      Runs .digest s (fun t => MovedOn s t ∧ t.dev.prompter.digests = d.prompter.digests ++ [e] ∧ Keeps issueParts s t)) ∧
    (d.digOn = true → d.prompter.digests = [] →
      Runs .digest s (fun t => MovedOn s t ∧ t.dev = (((issuing s w desc).digWrite e (BitVec.ofNat 64 (bits w 32 32))).retire).post121))

/-- The check of a cue (R147, R148, R194): the lowest failing code is recorded as the fault of the cue at PC, nothing issues. An
ILLEGAL_OPCODE cue faults with 0x01. -/
def Obligations.CheckFaults : Prop :=
  ∀ (s : State) (w : Nat) (code : Nat) (codes : List Nat),
    let d := s.dev
    let n := 64 * (cueClass w).units
    On s → d.mayIssue = true → d.errorsIn .cue (16 * d.prompter.pc.toNat) 16 = [] → d.indexedCue (cueHere s) = some w →
    descInStore w = true → d.errorsIn .cue (64 * cueDesc w) n = [] →
    d.checkFails s.ident w (memBytes d.mems.cue (64 * cueDesc w) n) = code :: codes →
    (∀ c ∈ codes, code < c) ∧ (cueClass w = .illegal → code = 1) ∧
    (isClass .illegal (cueHere s) = true → Runs .illegalOpcode s (fun t => t = { s with dev := (d.cueFault code).post121 })) ∧
    (isClass .nop (cueHere s) = true → Runs .nop s (fun t => t = { s with dev := (d.cueFault code).post121 })) ∧
    (isClass .wait (cueHere s) = true → Runs .wait s (fun t => t = { s with dev := (d.cueFault code).post121 })) ∧
    (isClass .scene (cueHere s) = true → d.prompter.stageQueue.length < 4 →
      Runs .scene s (fun t => t = { s with dev := (d.cueFault code).post121 }))

/-- A Prompter fault (R194, R197): the Prompter halts; counters, ledger, queued cues and loop levels are cleared; the code, IN_SCENE 0, the
cue index and source 64 are recorded, where no transfer is in flight and no manifest is formed ahead. -/
def Obligations.PromptFaultRecords : Prop :=
  ∀ (d : Dev) (code : Nat), d.halted = false → code < 256 → d.xfers = [] → d.cast.ahead = none →
    let e := d.cueFault code
    e.halted = true ∧ e.prompter.counters = [] ∧ e.prompter.stageQueue = [] ∧ e.prompter.loops = [] ∧ e.prompter.wait = none ∧
    e.reg Reg.stgFaultCode = BitVec.ofNat 32 code ∧ e.reg Reg.stgFaultPc = d.prompter.pc.setWidth 32 ∧
    e.arrivalCount 64 = min 255 (d.arrivalCount 64 + 1) ∧ e.mems = d.mems ∧ e.prompter.pc = d.prompter.pc

/-- MOVE cues begin a transfer at the end of their queue (R173, R174, R282): LINEAR, GATHER_ROWS, KV_READ and KV_WRITE. -/
def Obligations.MovesBegin : Prop :=
  ∀ (s : State) (w : Nat) (desc : List Byte), CueAt s w desc →
    let d := s.dev
    let m := moveOp desc
    let q := moveQueue w
    ∀ c ∈ [(Instr.moveLinear, 0), (.moveGatherRows, 1), (.moveKvRead, 2), (.moveKvWrite, 3)], isMove c.2 (cueHere s) = true →
      Runs c.1 s (fun t =>
        t.dev.queue q = d.queue q ++
          [{ cue := cueChecked s w desc, rows := (issuing s w desc).rowCount m.msel m.rows, index := 0, got := 0, err := false }] ∧
        (∀ k, k ≠ q → t.dev.queue k = d.queue k) ∧ MovedOn s t ∧ Keeps (.xfers :: issueParts) s t)

/-- SEND and RECEIVE begin (R387): each is the next of its peer's queue, or of its receive queue, and a SEND's frames are made as it
issues. -/
def Obligations.FabricMovesBegin : Prop :=
  ∀ (s : State) (w : Nat) (desc : List Byte), CueAt s w desc →
    let d := issuing s w desc
    let m := moveOp desc
    let q := moveQueue w
    let next := fun (key : Nat) => cueCount d.prompter.xferCount key
    let counted := fun (key : Nat) => { d with prompter := { d.prompter with
      xferCount := tabSet (fun _ => 0) d.prompter.xferCount key (next key + 1) } }
    let x := fun (key : Nat) (e : Bool) =>
      ({ cue := cueChecked s w desc, rows := d.rowCount m.msel m.rows, index := next key, got := 0, err := e } : Transfer)
    let sk := 64 * ((sendPeer m).1 + 1) + (sendPeer m).2
    (isMove 4 (cueHere s) = true →
      Runs .moveSend s (fun t =>
        let r := (counted sk).sendRows (x sk false)
        t = { s with dev := (((r.2.setQueue q (r.2.queue q ++ [x sk r.1])).retire).lossCheck).post121 })) ∧
    (isMove 5 (cueHere s) = true →
      Runs .moveReceive s (fun t =>
        t = { s with dev := ((((counted q).setQueue q ((counted q).queue q ++ [x q false])).retire).offerFrames).post121 }))

/-- WAIT, its retirement and its limit (R156): a WAIT issues and stalls; it retires once its counter holds COUNT tokens, taking them
and as many ledger entries of a counter below 120; at an error token it faults with 0x11, or 0x03 where the error is one of bounds;
an unsatisfied one faults with 0x10 at its limit, unless the limit is 0 or the counter is TC120. -/
def Obligations.WaitStallsAndRetires : Prop :=
  (∀ (s : State) (w : Nat) (desc : List Byte), CueAt s w desc → isClass .wait (cueHere s) = true →
    Runs .wait s (fun t => t.dev.prompter.wait = some { ctr := cueCtr w, count := bits w 40 7 } ∧
      t.dev.prompter.pc = s.dev.prompter.pc ∧ t.dev.prompter.loops = s.dev.prompter.loops ∧ Keeps issueParts s t)) ∧
  (∀ (s : State) (x : WaitCue), On s → s.dev.prompter.wait = some x → s.dev.halting = false →
    let c := s.dev.counter x.ctr
    x.count ≤ c.count →
    (c.err = false → Runs .waitRetire s (fun t =>
      (t.dev.counter x.ctr).count = c.count - x.count ∧
      (t.dev.counter x.ctr).ledger = (if x.ctr < 120 then c.ledger.drop x.count else c.ledger) ∧
      (∀ n, n ≠ x.ctr → t.dev.counter n = s.dev.counter n) ∧ MovedOn s t ∧
      (x.ctr = 120 → t.dev.prompter.manifestRead = true) ∧ Keeps [.prompter, .cast] s t)) ∧
    (c.err = true → Runs .waitRetire s (fun t => t = { s with dev := s.dev.cueFault (if c.bounds then 0x03 else 0x11) }))) ∧
  (∀ (s : State) (x : WaitCue), On s → s.dev.prompter.wait = some x → x.ctr ≠ 120 → s.dev.fld Reg.stgWaitLimit 23 0 ≠ 0 →
    (s.dev.counter x.ctr).count < x.count →
    Runs .waitLimitExpiry s (fun t => t = { s with dev := s.dev.cueFault 0x10 }))

/-- RED, BARRIER and CURTAIN issue in a group this device is in (R176, R184, R390, R410): the collective opens with this device's own
contribution and the next count of its group, and the Prompter moves on; a CURTAIN darkens the Stage and stalls the Prompter. -/
def Obligations.CollectivesIssue : Prop :=
  ∀ (s : State) (w : Nat) (desc : List Byte), CueAt s w desc →
    let d := issuing s w desc
    let c := cueChecked s w desc
    (∀ g, d.group (redOp desc).group = some g → isClass .red (cueHere s) = true →
      Runs .red s (fun t => t = { s with dev := ((((d.startRed g c (d.stageRows w desc)).retire).lossCheck).offerFrames).post121 })) ∧
    (∀ g, d.group (syncGroup w) = some g → isSync 2 (cueHere s) = true →
      Runs .barrier s (fun t => t = { s with dev := ((((d.startBarrier g c).retire).lossCheck).offerFrames).post121 })) ∧
    (∀ g, d.group (syncGroup w) = some g → g.rank ≠ 0 → isSync 3 (cueHere s) = true →
      Runs .curtain s (fun t =>
        let n := cueCount d.prompter.curtainCount (syncGroup w) + 1
        let wait : CurtainWait := { group := syncGroup w, ccnt := n, init := d.prompter.run == .init, arms := [], fall := none, late := false }
        let e := { d.goDark with
          prompter := { d.prompter with
            run := .curtain, curtainGroup := syncGroup w, curtainCount := tabSet (fun _ => 0) d.prompter.curtainCount (syncGroup w) n }
          hck := { d.hck with curtain := some wait } }
        t = { s with dev :=
          (((e.sendCurtain (g.members.getD 0 0) (curtainPayload 1 (syncGroup w) n 0 g.rank)).lossCheck).offerFrames).post121 }))

/-- A collective opens (R176, R184, R390): behind those outstanding, under its counter and group, with its group's next count and this
device's own piece alone. -/
def Obligations.CollectiveOpens : Prop :=
  ∀ (d : Dev) (g : Group) (c : Cue) (rows : Nat),
    let opened := fun (group : Nat) (e : Dev) =>
      (∃ x : Collective, e.colls = d.colls ++ [x] ∧ x.ctr = cueCtr c.word ∧ x.group = group ∧
        x.cseq = tabGet (fun _ => 0) d.prompter.collCount group + 1 ∧ ∃ bs, x.pieces = [(g.rank, 0, bs)]) ∧
      tabGet (fun _ => 0) e.prompter.collCount group = tabGet (fun _ => 0) d.prompter.collCount group + 1
    opened (redOp c.desc).group (d.startRed g c rows) ∧ opened (syncGroup c.word) (d.startBarrier g c)

/-- RED_COMPLETE, BARRIER_COMPLETE and COLLECTIVE_TIMEOUT (R176, R184, R392): a collective with every piece is closed and posts its
tokens; with a limit set, one outstanding faults with 0x40. -/
def Obligations.CollectivesComplete : Prop :=
  ∀ (s : State) (ctr : Fin 128), On s →
    let d := s.dev
    (∀ x g, d.readyColl ctr.val false = some (x, g) → Runs (.redComplete ctr) s (fun t => t = { s with dev := d.finishRed x g })) ∧
    (∀ x g, d.readyColl ctr.val true = some (x, g) → d.halted = false →
      Runs (.barrierComplete ctr) s (fun t =>
        t.dev.colls = d.colls.filter (fun y => !(y.group == x.group && y.cseq == x.cseq)) ∧
        (t.dev.counter x.ctr).count = ((d.counter x.ctr).count + 1) % 65536 ∧ (t.dev.counter x.ctr).err = (d.counter x.ctr).err ∧
        (∀ n, n ≠ x.ctr → t.dev.counter n = d.counter n) ∧ Keeps [.colls, .prompter] s t)) ∧
    (d.fld Reg.fabCollLimit 31 0 ≠ 0 → d.colls ≠ [] → Runs .collectiveTimeout s (fun t => t = { s with dev := d.asyncFault 0x40 }))

/-- GRID cues issue (R180, R247, R253, R239): a START of a standard program runs it whole, a START of an image program starts the lanterns
of its region, each as a run that awaits its token; with no selected row nothing runs. A CHANGEOVER records the routes it changes to. -/
def Obligations.GridCuesIssue : Prop :=
  ∀ (s : State) (w : Nat) (desc : List Byte), CueAt s w desc → gridProg w = gridProg (cueHere s) →
    let d := issuing s w desc
    (∀ p, isStart p (cueHere s) = true → d.noGridRows w = true → (1 ≤ p ∧ p ≤ 4) ∨ 0x40 ≤ p →
      Runs (startRow p) s (fun t => MovedOn s t ∧ Keeps (.grid :: issueParts) s t ∧
        t.dev.grid = { s.dev.grid with
          runs := s.dev.grid.runs ++ [{ region := gridRegion w, ctr := cueCtr w, std := true, bad := false }] })) ∧
    (∀ p, isStart p (cueHere s) = true → d.noGridRows w = false → p ∈ [1, 2, 3, 4] →
      Runs (startRow p) s (fun t => t = { s with dev := (((d.pulse 96).gridStandard s.ident w).retire).post121 })) ∧
    (∀ g, 5 ≤ gridProg w → cueClass (cueHere s) = .grid → cueFunc (cueHere s) = 0 → d.noGridRows w = false →
      d.grid.progs.find? (fun g => g.code == gridProg w) = some g →
      Runs .gridStart s (fun t =>
        t.dev.grid.runs = s.dev.grid.runs ++ [{ region := gridRegion w, ctr := cueCtr w, std := false, bad := false }] ∧
        t = { s with dev := (((d.pulse 96).gridImage w g).retire).post121 })) ∧
    (cueClass (cueHere s) = .grid → cueFunc (cueHere s) = 1 →
      Runs .gridChangeover s (fun t => MovedOn s t ∧
        let x : Changeover :=
          { config := gridConfig w, ctr := cueCtr w, start := s.dev.grid.cycle, records := s.dev.configRecords (gridConfig w)
            barrier := none }
        t.dev.grid = { s.dev.grid with change := some x } ∧
        t.dev.bit Reg.lgrStatus 16 = true ∧ Keeps (.grid :: issueParts) s t))

/-- The Grid's completions (R236, R239, R240): GRID_PROGRAM_DONE posts the run's token, an error token where a lantern ended badly;
CHANGEOVER_SWAP applies the new routes; CHANGEOVER_TIMEOUT gives up and faults with 0x50. -/
def Obligations.GridCompletes : Prop :=
  ∀ (s : State), On s →
    let d := s.dev
    (∀ (region : Fin 16) (r : GridRun), d.grid.runs.find? (fun r => r.region == region.val) = some r →
      r.std = true ∨ d.regionDone r.region = true → d.halted = false →
      Runs (.gridProgramDone region) s (fun t =>
        t.dev.grid = { d.grid with runs := d.grid.runs.filter (fun x => x.region != r.region) } ∧
        (t.dev.counter r.ctr).count = ((d.counter r.ctr).count + 1) % 65536 ∧
        (t.dev.counter r.ctr).err =
          ((d.counter r.ctr).err || (r.bad || (!r.std && (d.grid.members r.region).any (fun l => (d.lantern l).bad)))) ∧
        (∀ n, n ≠ r.ctr → t.dev.counter n = d.counter n) ∧ Keeps [.grid, .prompter] s t)) ∧
    (∀ c, d.grid.change = some c → d.swapReady c = true → d.swapNext c = true → Runs .changeoverSwap s (fun t => t = { s with dev := d.changeoverSwap c })) ∧
    (∀ c, d.grid.change = some c → d.swapReady c = false →
      Runs .changeoverTimeout s (fun t =>
        t = { s with dev := ((({ d with grid := { d.grid with change := none, cycle := max d.grid.cycle (c.start + 2048) } }).clrBit
          Reg.lgrStatus 16).flagRaise Reg.lgrStatus 17 135).asyncFault 0x50 }))

/-- STEP_END and INIT_END (R183, R144, R199): a step commits, STG_STEP_SEQ counts it, STG_OPT_STEP too where the cue says so, and the step
section begins again at STG_ENTRY_STEP; a cue that passes its check waits until the step may commit; the init section ends at
STG_ENTRY_STEP without a commit. Stated of a module without Cast Table, waiting
command, energy reading or second context; in general the commit is that of the model's `commitStep`. -/
def Obligations.SectionsEnd : Prop :=
  ∀ (s : State) (w : Nat) (desc : List Byte), CueAt s w desc →
    let d := s.dev
    let plain := d.cast.geom = none ∧ d.hif.cmds = [] ∧ d.hif.energy = [] ∧ d.twoContexts = false ∧ d.prompter.ndStep = false ∧
      d.prompter.due121 = false
    let begins := fun (t : State) => t.dev.prompter.run = .step ∧ t.dev.prompter.loops = [] ∧ t.dev.prompter.wait = none ∧
      t.dev.prompter.manifestRead = false ∧ t.dev.prompter.pc = BitVec.ofNat 18 (d.reg Reg.stgEntryStep).toNat
    (isSync 0 (cueHere s) = true → d.mayCommit = true →
      Runs .stepEnd s (fun t => t = { s with dev := ((issuing s w desc).commitStep s.ident (bitAt w 25)).post121 })) ∧
    (isSync 0 (cueHere s) = true → d.mayCommit = false → d.checkFails s.ident (cueHere s) [] = [] → Runs .stepEnd s (fun t => t = s)) ∧
    (isSync 0 (cueHere s) = true → plain →
      Runs .stepEnd s (fun t => begins t ∧ t.dev.reg Reg.stgStepSeq = d.reg Reg.stgStepSeq + 1 ∧
        t.dev.reg Reg.stgOptStep = if bitAt w 25 then d.reg Reg.stgOptStep + 1 else d.reg Reg.stgOptStep)) ∧
    (isSync 1 (cueHere s) = true → plain →
      Runs .initEnd s (fun t => begins t ∧ t.dev.reg Reg.stgStepSeq = d.reg Reg.stgStepSeq ∧ Keeps issueParts s t)) ∧
    (isSync 1 (cueHere s) = true →
      Runs .initEnd s (fun t => t = { s with dev := (((issuing s w desc).initEnd).settle s.ident).post121 }))

/-! ### The Stage, transfers -/

/-- The Stage lights and starts cues (R66, R67, R145): an idle lit Stage takes the oldest cue of its queue,
meeting what its first reads find (R319), at the operating point that the Dimmer chooses (R442); a dark one ramps up first, one
that is ramping down notes that it must rise; at the end of a ramp-up it is lit and takes the first cue; at the end of a ramp-down
it is dark or rises again; an idle Stage with DARK_IDLE set goes dark. -/
def Obligations.StageLightsAndStarts : Prop :=
  ∀ (s : State), On s →
    let d := s.dev
    (∀ c cs, d.prompter.stageQueue = c :: cs →
      (d.stage.running = none → d.stage.power = .lit →
        ∀ fs, let m := (d.meets s.ident fs).choosePoint.pulse 1
          Does (.stageCueStart fs) s ({ m with
            prompter := { d.prompter with stageQueue := cs }, stage := { d.stage with running := some (m.running s.ident c) } })) ∧
      (d.stage.running = none → d.stage.power = .dark →
        ∀ fs, Runs (.stageCueStart fs) s (fun t => t.dev.stage = { d.stage with power := .rampUp } ∧ Keeps [.stage] s t)) ∧
      (d.stage.running = none → d.stage.power = .rampDown →
        ∀ fs, Runs (.stageCueStart fs) s (fun t => t.dev.stage = { d.stage with wake := true } ∧ Keeps [.stage] s t)) ∧
      (d.stage.power = .rampUp →
        Runs .rampUpDone s (fun t => t.dev.stage.power = .lit ∧ t.dev.stage.wake = d.stage.wake ∧
          (∃ r, t.dev.stage.running = some r ∧ r.cue = c ∧ r.cut = false) ∧ t.dev.prompter = { d.prompter with stageQueue := cs } ∧
          KeepsRegs [Reg.dimStatus, Reg.dimOpChanges] s t ∧ Keeps [.stage, .prompter, .regs] s t))) ∧
    (d.stage.power = .rampDown →
      Runs .rampDownDone s (fun t =>
        t.dev.stage.power = (if d.stage.wake = true ∨ d.prompter.stageQueue ≠ [] then .rampUp else .dark) ∧
        t.dev.stage.running = d.stage.running ∧ Keeps [.stage] s t)) ∧
    (d.fld Reg.stgCtrl 15 4 ≠ 0 → d.stage.running = none → d.prompter.stageQueue = [] → d.stage.power = .lit →
      Runs .darkIdleExpiry s (fun t => t.dev.stage = { d.stage with power := .rampDown, wake := false } ∧ Keeps [.stage] s t))

/-- SCENE_BOUNDARY (R62, R195): a cue without a detection whose reads and writes meet no error lands its writes and posts one good token
on its counter; one with a detection ends with the fault of the earliest; one that a fault has cut posts nothing. -/
def Obligations.SceneBoundaryEndsCue : Prop :=
  ∀ (s : State) (r : Running), On s → s.dev.stage.running = some r → s.dev.prompter.due121 = false →
    let d := s.dev
    let idle := ({ d with stage := { d.stage with running := none } }).pulse 2
    let ends := fun (e : Dev) => ({ s with dev :=
      (({ e.applyPend sceneBlocks with dim := { (e.applyPend sceneBlocks).dim with afterCurtain := false } }).dimBoundary).post121 } : State)
    (r.cut = false → d.mems.errors = [] → d.detections s.ident r = [] → d.halted = false → d.stageErrors s.ident r = [] →
      Runs .sceneBoundary s (fun t => t.dev.stage.running = none ∧ t.dev.mems.tile = (d.stageMem s.ident r none).1 ∧
        (t.dev.counter (cueCtr r.cue.word)).count = ((d.counter (cueCtr r.cue.word)).count + 1) % 65536 ∧
        (t.dev.counter (cueCtr r.cue.word)).err = (d.counter (cueCtr r.cue.word)).err ∧
        (∀ n, n ≠ cueCtr r.cue.word → t.dev.counter n = d.counter n))) ∧
    (∀ x, r.cut = false → firstDetection (d.detections s.ident r) = some x →
      Runs .sceneBoundary s (fun t =>
        t = ends (idle.boundaryFault s.ident r (d.stageErrors s.ident r) x (d.detections s.ident r)))) ∧
    (r.cut = true →
      Runs .sceneBoundary s (fun t => t = ends (idle.boundaryCut s.ident r (d.stageErrors s.ident r) (d.detections s.ident r))))

/-- TRANSFER_COMPLETE (R153, R175, R387): the oldest transfer of the queue ends. One between HBM and tile store has met what its
reads found (R319) and moved its bytes; a
RECEIVE ends when every byte has come and a SEND when every frame has been accepted; its token posts on the queue's counter. -/
def Obligations.TransfersComplete : Prop :=
  ∀ (s : State) (q : Fin 64) (fs : List Found) (x : Transfer) (xs : List Transfer), On s → s.dev.queue q.val = x :: xs →
    let d := s.dev
    let rest := (d.meets s.ident fs).setQueue q.val xs
    (q.val < 48 →
      Runs (.transferComplete q fs) s (fun t =>
        t = { s with dev := (rest.runMove x).2.postToken q.val (rest.runMove x).1.1 (rest.runMove x).1.2 })) ∧
    ((48 ≤ q.val ∧ q.val < 56 ∧ x.got = x.total) ∨ (56 ≤ q.val ∧ d.sendPending x = false) → d.halted = false →
      Runs (.transferComplete q fs) s (fun t => t.dev.queue q.val = xs ∧ (∀ k, k ≠ q.val → t.dev.queue k = d.queue k) ∧
        (t.dev.counter q.val).count = ((d.counter q.val).count + 1) % 65536 ∧
        (t.dev.counter q.val).err = ((d.counter q.val).err || x.err) ∧ (∀ n, n ≠ q.val → t.dev.counter n = d.counter n) ∧
        Keeps [.xfers, .prompter] s t))

/-! ### The Dimmer -/

/-- BUBBLE, FLICKER, FLICKER_BURST_END and HINT_PREARM (R438, R441, R444, R448): a bubble leaves in the accumulator what its overflow past
64 leaves, is counted outside ramps, bursts and fixed-frequency mode, and no tile changes; a Flicker is counted, flagged and raises 352, and pauses a ramp-up; the burst's end holds b
at least at DIM_FLICKER.FB; the pre-arm that falls due first sets b. -/
def Obligations.BubblesAndFlickers : Prop :=
  ∀ (s : State), On s →
    let d := s.dev
    (d.bubbleB ≠ 0 → d.ramping = false → d.fixedMode = false → d.dim.burst = false →
      Runs .bubble s (fun t => t.dev.wideGet Reg.dimBubbles = d.wideGet Reg.dimBubbles + 1 ∧
        t.dev.dim = { d.dim with acc := nextOverflow d.dim.acc d.bubbleB } ∧ Keeps [.dim, .wide] s t)) ∧
    (d.bubbleB ≠ 0 → d.ramping = true ∨ d.fixedMode = true ∨ d.dim.burst = true →
      Runs .bubble s (fun t => t.dev.dim = { d.dim with acc := nextOverflow d.dim.acc d.bubbleB } ∧ Keeps [.dim] s t)) ∧
    (d.stage.power = .rampUp →
      Runs .flicker s (fun t => Raised 352 s t ∧ t.dev.bit Reg.dimStatus 16 = true ∧
        t.dev.reg Reg.dimFlickers = BitVec.ofNat 32 (min ((d.reg Reg.dimFlickers).toNat + 1) 0xFFFFFFFF) ∧
        t.dev.reg Reg.stgRampPauses = BitVec.ofNat 32 (min ((d.reg Reg.stgRampPauses).toNat + 1) 0xFFFFFFFF) ∧
        KeepsRegs [Reg.dimStatus, Reg.dimFlickers, Reg.stgRampPauses] s t ∧ Keeps (.regs :: raising) s t)) ∧
    (d.stage.power = .lit ∨ d.stage.power = .dark → d.dim.burst = false → d.fixedMode = false →
      Runs .flicker s (fun t => Raised 352 s t ∧ t.dev.bit Reg.dimStatus 16 = true ∧ t.dev.dim = { d.dim with burst := true } ∧
        t.dev.wideGet Reg.dimBubbles = d.wideGet Reg.dimBubbles + 8 ∧
        KeepsRegs [Reg.dimStatus, Reg.dimFlickers] s t ∧ Keeps (.regs :: .dim :: .wide :: raising) s t)) ∧
    (d.dim.burst = true →
      Runs .flickerBurstEnd s (fun t => t.dev.dim = { d.dim with burst := false, acc := t.dev.dim.acc } ∧
        t.dev.bubbleB = max d.bubbleB (d.fld Reg.dimFlicker 13 8) ∧ KeepsRegs [Reg.dimStatus] s t ∧ Keeps [.regs, .dim, .free] s t)) ∧
    (∀ ps, d.dim.prearm = ps → ps ≠ [] →
      ∃ k x, (k, x) ∈ ps ∧ (∀ p ∈ ps, k ≤ p.1) ∧
        Runs .hintPrearm s (fun t => t.dev.dim = { d.dim with prearm := nearer k (ps.erase (k, x)), acc := t.dev.dim.acc } ∧
          t.dev.bubbleB = min (min 56 (d.fld Reg.dimLimits 5 0)) (ceilDiv (64 * (16 * x - 16 * d.capC)) (16 * s.ident.stageDraw)) ∧
          KeepsRegs [Reg.dimStatus] s t ∧ Keeps [.regs, .dim, .free] s t))

/-- DIMMER_CONTROL_PERIOD (R433, R434, R437): with no buffered write waiting, the estimate is recorded and b moves by the bubble law of its
demand under the cap of the period, and the next period's cap is the lower of DIM_CAP and DIM_TCAP. The estimate's weighted part, whose rounding the spec leaves open, is the product rounded down or up. -/
def Obligations.ControlPeriodLaw : Prop :=
  ∀ (s : State) (stage other : W16), On s → s.dev.pend = [] →
    let d := s.dev
    let n := stage.toNat * d.fld Reg.dimGain 15 0
    Runs (.dimmerControlPeriod stage other) s (fun t =>
      t.dev.capC = min (d.fld Reg.dimCap 6 0) (d.fld Reg.dimTcap 6 0) ∧ ∃ st, (st = n / 4096 ∨ (st = n / 4096 + 1 ∧ n % 4096 ≠ 0)) ∧
        (128 + st + other.toNat < 65536 →
          let e := 128 + st + other.toNat
          t.dev.fld Reg.dimEst 15 0 = e ∧ t.dev.dim.estSum = d.dim.estSum + e ∧ t.dev.dim.estCount = d.dim.estCount + 1 ∧
          t.dev.bubbleB = bubbleLaw d.bubbleB d.bMax (d.demand e) d.capC s.ident.stageDraw))

/-- CALIBRATION_READING and THERMAL_READING (R435, R450, R453): the measured power is recorded and the input energy enters DIM_ENERGY whole,
the part below a microjoule being kept; the temperatures are recorded and the thermal cap follows the larger excess. -/
def Obligations.DimmerReadings : Prop :=
  (∀ (s : State) (power : W16) (nj : W64), On s →
    Runs (.calibrationReading power nj) s (fun t =>
      t.dev.fld Reg.dimEst 31 16 = power.toNat ∧
      t.dev.wideGet Reg.dimEnergy = s.dev.wideGet Reg.dimEnergy + BitVec.ofNat 64 ((s.dev.dim.remainder + nj.toNat) / 1000) ∧
      t.dev.dim.remainder = (s.dev.dim.remainder + nj.toNat) % 1000 ∧ t.dev.dim.estSum = 0 ∧ t.dev.dim.estCount = 0)) ∧
  (∀ (s : State) (die0 die1 : Byte), On s → s.dev.dim.critical < 9 →
    let d := s.dev
    let die := max die0.toNat die1.toNat
    let x := max (die - d.fld Reg.dimTherm 7 0) (d.hottestStack - d.fld Reg.dimTherm 15 8)
    Runs (.thermalReading die0 die1) s (fun t =>
      t.dev.reg Reg.dimTemp = BitVec.ofNat 32 (die0.toNat + die1.toNat * 256 + d.hottestStack * 65536) ∧
      t.dev.fld Reg.dimTcap 6 0 = max 8 (100 - 4 * x) ∧ (t.dev.bit Reg.dimStatus 5 = true ↔ 0 < x) ∧
      (0 < x → d.bit Reg.dimStatus 5 = false → t.dev.arrivalCount 356 = min 255 (d.arrivalCount 356 + 1)) ∧
      (x = 0 → d.bit Reg.dimStatus 5 = true → t.dev.arrivalCount 357 = min 255 (d.arrivalCount 357 + 1)) ∧
      KeepsRegs [Reg.dimTemp, Reg.dimTcap, Reg.dimStatus] s t ∧ Keeps (.regs :: .dim :: raising) s t))

/-! ### Registers -/

/-- Complement pairs that fail (R510, Table 17-4): the second write does not come (reason 1) or is no complement (2), a new pair is opened
over an open one (3), A + 4 is written with no pair open at A (4), the value is not permitted (5). The failure is recorded and counted
and raises source 417; nothing is applied. A reset discards an open pair without a flag. -/
def Obligations.ComplementPairRefused : Prop :=
  (∀ (s : State) (m : Master) (v w : W32), On s →
    let failed := fun (a reason : Nat) (t : State) =>
      (s.dev.bit Reg.cfgStatus 3 = false → t.dev.reg Reg.cfgPairInfo = BitVec.ofNat 32 (a + masterNum m * 2 ^ 26 + reason * 2 ^ 29)) ∧
      (s.dev.bit Reg.cfgStatus 3 = true → t.dev.reg Reg.cfgPairInfo = s.dev.reg Reg.cfgPairInfo) ∧
      t.dev.reg Reg.cfgPairFails = BitVec.ofNat 32 (min ((s.dev.reg Reg.cfgPairFails).toNat + 1) 0xFFFFFFFF) ∧
      t.dev.bit Reg.cfgStatus 3 = true ∧ Raised 417 s t ∧
      KeepsRegs [Reg.cfgPairInfo, Reg.cfgPairFails, Reg.cfgStatus] s t ∧ Keeps (.regs :: .pairs :: raising) s t
    let rows : List (Instr × Nat) :=
      [(.dimCap m v w, Reg.dimCap), (.memRefreshOvr m v w, Reg.memRefreshOvr), (.memWipe m v w, Reg.memWipe),
       (.hifCurtain m v w, Reg.hifCurtain), (.secLcReq m v w, Reg.secLcReq), (.secSvnBurn m v w, Reg.secSvnBurn),
       (.secKeyRevoke m v w, Reg.secKeyRevoke), (.secVovr m 0 v w, Reg.secVovr 0), (.secVovr m 1 v w, Reg.secVovr 1),
       (.secVovr m 2 v w, Reg.secVovr 2), (.secVovr m 3 v w, Reg.secVovr 3)]
    (∀ a x, s.dev.openPair m = some (a, x) → Runs (.rwcPairTimeout m) s (fun t => failed a 1 t ∧ t.dev.openPair m = none)) ∧
    (s.dev.openPair m = none → ∀ c ∈ rows, w ≠ ~~~v ∨ s.rwcPermits c.2 v = false →
      Runs c.1 s (fun t => failed c.2 (if w ≠ ~~~v then 2 else 5) t ∧ t.dev.openPair m = none)) ∧
    (∀ (off : BitVec 26) (a : Nat) (x : W32), s.dev.openPair m = some (a, x) → rwcA (canonOff off.toNat) = true →
      Runs (.registerWrite m off v 0xF) s (fun t => failed a 3 t ∧ t.dev.openPair m = some (canonOff off.toNat, v))) ∧
    (∀ (off : BitVec 26), rwcA (canonOff off.toNat) = false → 4 ≤ canonOff off.toNat → rwcA (canonOff off.toNat - 4) = true →
      (∀ x, s.dev.openPair m ≠ some (canonOff off.toNat - 4, x)) →
      Runs (.registerWrite m off v 0xF) s (fun t =>
        failed (canonOff off.toNat - 4) 4 t ∧ t.dev.openPair m = s.dev.openPair m))) ∧
  (∀ (s : State) (v : W32), (s.rwcPermits Reg.dimCap v = true ↔ 8 ≤ v.toNat % 128 ∧ v.toNat % 128 ≤ 100) ∧
    (s.rwcPermits Reg.memRefreshOvr v = true ↔ v.toNat % 4 ≠ 3)) ∧
  (∀ (d : Dev) (c : Nat) (m : Master), (d.afterReset c).openPair m = none ∧ (d.afterReset c).bit Reg.cfgStatus 3 = false)

/-- A complement pair that completes with a permitted value takes effect (R316, R325, R349, R432, R508, R529, R535, R551). -/
def Obligations.ComplementPairApplied : Prop :=
  ∀ (s : State) (m : Master) (v : W32), On s → s.dev.openPair m = none →
    let ok := fun (a : Nat) => s.rwcPermits a v = true
    let base : Dev := { s.dev with pairs := s.dev.pairs.filter (fun p => p.1 != m) }
    (ok Reg.dimCap → Runs (.dimCap m v (~~~v)) s (fun t => (∀ off, t.dev.reg off = s.dev.reg off) ∧ Keeps [.pend, .pairs] s t ∧
      (tabGet Buffered.none t.dev.pend Reg.dimCap).value &&& 0x7F = v &&& 0x7F ∧
      (tabGet Buffered.none t.dev.pend Reg.dimCap).mask &&& 0x7F = 0x7F)) ∧
    (ok Reg.memRefreshOvr → Runs (.memRefreshOvr m v (~~~v)) s (fun t =>
      t.dev.fld Reg.memRefreshOvr 1 0 = v.toNat % 4 ∧ KeepsRegs [Reg.memRefreshOvr] s t ∧ Keeps [.regs, .pairs] s t)) ∧
    (∀ r : Fin 4, ok (Reg.secVovr r.val) → Runs (.secVovr m r v (~~~v)) s (fun t =>
      t.dev.fld (Reg.secVovr r.val) 7 0 = v.toNat % 256 ∧ KeepsRegs [Reg.secVovr r.val] s t ∧ Keeps [.regs, .pairs] s t)) ∧
    (ok Reg.secSvnBurn → s.fuses.rollback < v.toNat % 128 → Runs (.secSvnBurn m v (~~~v)) s (fun t =>
      t.fuses = { s.fuses with rollback := v.toNat % 128 } ∧ Raised 428 s t ∧ Keeps (.fuses :: .pairs :: raising) s t)) ∧
    (ok Reg.secKeyRevoke → s.fuses.revoked ||| v.setWidth 4 ≠ s.fuses.revoked → Runs (.secKeyRevoke m v (~~~v)) s (fun t =>
      t.fuses = { s.fuses with revoked := s.fuses.revoked ||| v.setWidth 4 } ∧ Raised 429 s t ∧ Keeps (.fuses :: .pairs :: raising) s t)) ∧
    (v.getLsbD 0 = true → Runs (.hifCurtain m v (~~~v)) s (fun t => t = { s with dev := base.curtainHalt s.ident })) ∧
    (v.getLsbD 0 = true → s.dev.strike = none → Runs (.memWipe m v (~~~v)) s (fun t =>
      t = { s with dev := ((base.stopForStrike s.ident).endAll).strikeStart .wipe })) ∧
    (ok Reg.secLcReq → Runs (.secLcReq m v (~~~v)) s (fun t => t = State.lifecycleRequest { s with dev := base } (v.toNat % 4)))

/-- Register writes (R18, R503, R506, R509): a write of a register without a meaning of its own replaces its RW bits, clears the W1C bits that
are written 1, leaves its other bits, and holds its RWB bits for the block's boundary; a host write whose byte enables are not all set
is discarded and recorded. DIM_FIXED and the digest ring's registers are written so. -/
def Obligations.RegisterWrites : Prop :=
  ∀ (s : State) (m : Master) (v : W32), On s → (∀ e ∈ s.dev.pend, s.dev.boundaryNow (blockOf e.1) = false) →
    let d := s.dev
    let written := fun (a : Nat) (r : RegRow) (t : State) =>
      t.dev.reg a = (((d.reg a &&& ~~~r.rw) ||| (v &&& r.rw)) &&& ~~~(v &&& r.w1c)) ∧ KeepsRegs [a] s t ∧
      (r.rwb ≠ 0 → (tabGet Buffered.none t.dev.pend a).value &&& r.rwb = v &&& r.rwb ∧
        (tabGet Buffered.none t.dev.pend a).mask &&& r.rwb = r.rwb) ∧ Keeps [.regs, .pend] s t
    (∀ (off : BitVec 26) (be : BitVec 4) (r : RegRow), m ≠ .host ∨ be = 0xF → regRow (canonOff off.toNat) = some r →
      d.boundaryNow (blockOf (canonOff off.toNat)) = false ∨ r.rwb = 0 →
      rwcA (canonOff off.toNat) = false → rwcA (canonOff off.toNat - 4) = false →
      blockOf (canonOff off.toNat) ∈ [Block.top, .stg, .lgr, .mem, .hck, .dim] →
      Runs (.registerWrite m off v be) s (written (canonOff off.toNat) r)) ∧
    (∀ r, regRow Reg.dimFixed = some r →
      Runs (.dimFixed m v) s (written Reg.dimFixed r)) ∧
    (∀ (off : BitVec 26) (r : RegRow), digRegister (canonOff off.toNat) = true → regRow (canonOff off.toNat) = some r →
      d.stage.running ≠ none →
      Runs (.digestRingConfig m off v) s (written (canonOff off.toNat) r)) ∧
    (∀ (off : BitVec 26) (be : BitVec 4), m = .host → be ≠ 0xF →
      Runs (.registerWrite m off v be) s (fun t =>
        t.dev.reg Reg.cfgBadCount = BitVec.ofNat 32 (min ((d.reg Reg.cfgBadCount).toNat + 1) 0xFFFFFFFF) ∧ Raised 418 s t ∧
        (d.bit Reg.cfgStatus 4 = false → t.dev.reg Reg.cfgBadInfo = BitVec.ofNat 32 (off.toNat / 4 * 4 + masterNum m * 2 ^ 26)) ∧
        KeepsRegs [Reg.cfgBadCount, Reg.cfgBadInfo, Reg.cfgStatus] s t ∧ Keeps (.regs :: raising) s t)) ∧
    (∀ (off : BitVec 26), d.openPair m = none → rwcA (canonOff off.toNat) = true → Runs (.registerWrite m off v 0xF) s (fun t =>
      t.dev.openPair m = some (canonOff off.toNat, v) ∧ (∀ k, k ≠ m → t.dev.openPair k = d.openPair k) ∧ Keeps [.pairs] s t)) ∧
    Runs (.hckTimeNsRead m) s (fun t => t.dev.reg Reg.hckTimeFrac = (d.hck.time.extractLsb' 8 16).setWidth 32 ∧
      KeepsRegs [Reg.hckTimeFrac] s t ∧ Keeps [.regs] s t)

/-- What software reads (R5, R505, R511, R517): 0 where no register is, the applied value at A of a complement pair and its complement at
A + 4, the fused grade and stepping, the holding copy of a 64-bit counter, the Prompter's PC. -/
def Obligations.RegisterReads : Prop :=
  (∀ (s : State) (off : Nat), regRow (canonOff off) = none →
    ((canonOff off < 4 ∨ rwcA (canonOff off - 4) = false) → s.readBar0 off = 0) ∧
    (4 ≤ canonOff off → rwcA (canonOff off - 4) = true → s.readBar0 off = ~~~(BitVec.ofNat 32 (s.view (canonOff off - 4))))) ∧
  (∀ (s : State) (off lo : Nat), regRow (canonOff off) ≠ none → wideOf (canonOff off) = some lo →
    s.readBar0 off = BitVec.ofNat 32 ((tabGet (fun _ => (0 : W64)) s.dev.hold lo).toNat >>> (8 * (canonOff off - lo)))) ∧
  (∀ (s : State) (off : Nat), rwcA (canonOff off) = true →
    (∀ off2, canonOff off2 = canonOff off + 4 → s.readBar0 off2 = ~~~(s.readBar0 off)) ∧
    (canonOff off ∉ [Reg.secLcReq, Reg.secSvnBurn, Reg.secKeyRevoke] → s.readBar0 off = s.dev.reg (canonOff off))) ∧
  (∀ (s : State), s.readBar0 Reg.secLcReq = BitVec.ofNat 32 s.fuses.lc.code ∧
    s.readBar0 Reg.secSvnBurn = BitVec.ofNat 32 s.fuses.rollback ∧ s.readBar0 Reg.secKeyRevoke = s.fuses.revoked.setWidth 32 ∧
    s.readBar0 Reg.topIdent = BitVec.ofNat 32 (0x80000 + s.ident.stepping.toNat * 256 + s.ident.grade.toNat * 16)) ∧
  (∀ (s : State), s.readBar0 Reg.stgPc = s.dev.prompter.pc.setWidth 32)

/-! ### The machine -/

/-- A step takes the command at the front of the queue and runs it on the machine with the queue's rest; on an empty queue it is one
house tick (the model's choice, notes/assumptions/2.md). -/
def Obligations.StepRunsFront : Prop :=
  (∀ (s : State) (c : Instr), step { s with pending := c :: s.pending } = exec c s) ∧
  (∀ (s : State), s.pending = [] → step s = .next (tick s))

/-- Every command of the table has its effect in every state: it neither faults nor is refused, takes no other command off the queue and
changes no fused identity (R5); a command of a package without power changes nothing (R545). -/
def Obligations.EveryCommandRuns : Prop :=
  ∀ (c : Instr) (s : State),
    Runs c s (fun t => t.pending = s.pending ∧ t.ident = s.ident ∧ (s.board.power ≠ .on → boardRow c = false → t = s))

/-- Every step keeps the machine sound (R529, R535, R546, R547), and fuses only burn (R529, R535): the rollback floor never falls, a revoked
key stays revoked, and once BLANK is left the key hashes and the identity key stay as burned. -/
def Obligations.MachineStaysSound : Prop :=
  ∀ (s t : State), s.sound → step s = .next t →
    t.sound ∧ s.fuses.rollback ≤ t.fuses.rollback ∧ s.fuses.revoked &&& ~~~t.fuses.revoked = 0 ∧
    (s.fuses.lc ≠ .blank → t.fuses.keyHash = s.fuses.keyHash ∧ t.fuses.idPub = s.fuses.idPub ∧
      (s.fuses.idAlive = false → t.fuses.idAlive = false)) ∧
    t.fuses.partNumber = s.fuses.partNumber ∧ t.fuses.serial = s.fuses.serial ∧ t.ident = s.ident

/-- The machine after reset: sound, every memory in its canonical form, every register at its reset value (R504), the Prompter halted with
every counter at 0, the Stage dark (R66), every stream FREE (R268), every lantern idle (R242), the House Clock at 0 (R399), no source
pending, no pair active, no command waiting. -/
def Obligations.ResetState : Prop :=
  let s := State.reset
  s.sound ∧ s.dev.mems.wf = true ∧ s.pending = [] ∧ (∀ off, s.dev.reg off = regReset off) ∧ s.dev.pend = [] ∧
    s.dev.prompter.run = .halted ∧ (∀ n, (s.dev.counter n).count = 0 ∧ (s.dev.counter n).err = false) ∧ s.dev.stage.power = .dark ∧
    s.dev.stage.running = none ∧ (∀ x, (s.dev.entry x).state = .free) ∧ (∀ l, (s.dev.lantern l).running = false) ∧
    s.dev.hck.time = 0 ∧ (∀ x, s.dev.arrivalCount x = 0) ∧ (∀ q, (s.dev.pair q).active = false) ∧
    s.readBar0 Reg.topIdent = 0x0008B000 ∧ s.readBar0 Reg.stgPstatus = 0 ∧ s.readBar0 Reg.dimCap = 100

/-- Stores and writes keep every memory in its canonical form (the model's form, notes/assumptions/4.md): the lanterns' stores, host
writes, scrub reads, captures and the Strike. -/
def Obligations.MemoriesStayCanonical : Prop :=
  ∀ (s : State) (l : Fin 256) (off : BitVec 39) (data : List Byte) (mem : MemCode) (unit : Fin 512) (addr : BitVec 39) (f : Finding)
    (us : W32) (ev : W64) (codes : BitVec 40) (sync : BitVec 4) (means : List (BitVec 10)),
    s.dev.mems.wf = true →
    ∀ c ∈ [Instr.st l, .stb l, .vst l, .bar2Write off data, .scrubRead mem unit addr f, .strikeComplete us, .waveRecord ev codes sync,
        .persAcquisitionEnd means],
      Runs c s (fun t => t.dev.mems.wf = true)

/-! ### The board, boot and the fuses -/

/-- The module's power (R545 to R548): MOD_EN, the input's faults, limits and warning, and CLEAR_FAULT (R550). -/
def Obligations.BoardPower : Prop :=
  ∀ (s : State),
    let b := s.board
    let lost := fun (t : State) =>
      (b.power = .on → t.dev = s.dev.afterReset 0) ∧ (b.power ≠ .on → t.dev = s.dev) ∧
        t.pending = s.pending ∧ t.ident = s.ident ∧ t.fuses = s.fuses ∧ t.flash = s.flash
    let board := fun (x : Board) => ({ s with board := x } : State)
    let up := { s with board := { b with power := .on, modEn := true }, dev := s.dev.afterReset 0 }
    (b.modEn = true → Runs .modEnFall s (fun t => lost t ∧
      t.board = { b with power := if b.power = .on then .standby else b.power, modEn := false, faultOff := false })) ∧
    (b.modEn = false → b.power = .standby → b.faultOff = false → b.perst = true → Runs .modEnRise s (fun t => t = up)) ∧
    (b.modEn = false → b.power = .standby → b.faultOff = false → b.perst = false → Runs .modEnRise s (fun t => t = up.boot)) ∧
    (b.modEn = false → b.power ≠ .standby ∨ b.faultOff = true → Runs .modEnRise s (fun t => t = board { b with modEn := true })) ∧
    Runs .inputFault s (fun t => lost t ∧ t.board = { b with power := .off, faultOff := true }) ∧
    (∀ vin : W16, 4400 ≤ vin.toNat → vin.toNat ≤ 5600 → Runs (.inputInRange vin) s (fun t =>
      t = board { b with power := if b.power = .off then .standby else b.power, uvWarn := false })) ∧
    (∀ vin : W16, 3800 ≤ vin.toNat → Runs (.uvWarn vin) s (fun t => t = board { b with uvWarn := decide (vin.toNat < 4400) })) ∧
    (∀ vin : W16, vin.toNat < 3800 → Runs (.uvWarn vin) s (fun t => lost t ∧ t.board = { b with power := .off, faultOff := true })) ∧
    Runs (.clearFault 0xA5) s (fun t => t = board { b with faultOff := false }) ∧
    (∀ x : Byte, x ≠ 0xA5 → Runs (.clearFault x) s (fun t => t = s))

/-- Resets of the package and boot (R330, R504, R530, R531, R533, R549): PERST# resets the package, its release and a function-level reset
boot it; without a slot that verifies boot ends in RECOVERY with both slots' reasons recorded; AUTOLOAD ends boot. A reset leaves every
register but TOP_RESET at its reset value, a function-level reset HIF_LINK too as the link is (R329), and every memory empty but for the
repair candidates that boot repairs (R320). -/
def Obligations.ResetsAndBoot : Prop :=
  (∀ (d : Dev) (c : Nat), let r := d.afterReset c
    (∀ off, off ≠ Reg.topReset → ¬(c = 2 ∧ off = Reg.hifLink) → r.reg off = regReset off) ∧
      (c = 2 → r.reg Reg.hifLink = d.reg Reg.hifLink) ∧ r.reg Reg.topReset = BitVec.ofNat 32 c ∧
      r.prompter = Prompter.reset ∧ r.stage = Stage.reset ∧ r.cast.entries = [] ∧ r.hif = Hif.reset ∧ r.arrivals = [] ∧
      r.mems = { Mems.reset with host := d.mems.host, repair := if c = 0 then [] else d.repairs }) ∧
  (∀ (s : State), On s → Runs .perstAssert s (fun t =>
    t.board = { s.board with perst := true } ∧ t.dev = s.dev.afterReset 1 ∧ t.fuses = s.fuses ∧ t.flash = s.flash)) ∧
  (∀ (s : State), On s → s.board.perst = true →
    Runs .perstRelease s (fun t => t = State.boot { s with board := { s.board with perst := false } })) ∧
  (∀ (s : State), On s → s.board.perst = false → Runs .flr s (fun t => t = State.boot { s with dev := s.dev.afterReset 2 })) ∧
  (∀ (s : State), let a := s.fuses.verify (readManifest s.flash 0)
    let b := s.fuses.verify (readManifest s.flash slotB)
    On s → s.board.perst = true → a ≠ 0 → b ≠ 0 → Runs .perstRelease s (fun t =>
      t.dev.boot.stage = .recovery ∧ t.dev.bit Reg.secStatus 4 = true ∧ t.dev.fld Reg.secStatus 11 8 = a ∧
        t.dev.fld Reg.secStatus 15 12 = b ∧ t.fuses = s.fuses ∧ t.flash = s.flash)) ∧
  (∀ (s : State), On s → s.dev.boot.stage = .autoload → Runs .autoload s (fun t =>
    t.dev = (s.dev.tryLoad s.ident s.dev.boot.autoload s.dev.boot.autoload.length).2.bootDone ∧
      t.dev.boot.stage = .done ∧ t.dev.bit Reg.secStatus 5 = true))

/-- SMBus (R550): each command is answered with its bytes; STATUS shows standby, on, UV_WARN, FAULT_OFF, the thermal alert, BOOT_DONE and
CURTAIN_DOWN; temperatures and energy read 0 in standby. -/
def Obligations.SmbusAnswers : Prop :=
  ∀ (s : State),
    let replies := fun (c : Instr) (bs : List Byte) => Does c s (s.dev.emit (.smbus bs))
    let on := s.board.power == .on
    (∃ x : Byte, replies .status [x] ∧ x.getLsbD 0 = (s.board.power == .standby) ∧ x.getLsbD 1 = on ∧ x.getLsbD 2 = s.board.uvWarn ∧
      x.getLsbD 3 = s.board.faultOff ∧ x.getLsbD 4 = (on && s.dev.thermAlert) ∧ x.getLsbD 5 = (on && s.dev.bit Reg.secStatus 5) ∧
      x.getLsbD 6 = (on && s.dev.curtainDown) ∧ x.getLsbD 7 = false) ∧
    (∀ r : W16, replies (.vin r) (leBytes 2 r.toNat) ∧ replies (.iin r) (leBytes 2 r.toNat) ∧ replies (.pin r) (leBytes 2 r.toNat)) ∧
    (∀ outlet : Byte, (On s → replies (.temps outlet)
        [(s.dev.reg Reg.dimTemp).setWidth 8, (s.dev.reg Reg.dimTemp).extractLsb' 8 8, (s.dev.reg Reg.dimTemp).extractLsb' 16 8, outlet]) ∧
      (s.board.power ≠ .on → replies (.temps outlet) [0, 0, 0, outlet])) ∧
    (On s → replies .energy (leBytes 8 (s.dev.wideGet Reg.dimEnergy).toNat)) ∧
    (s.board.power ≠ .on → replies .energy (List.replicate 8 0)) ∧
    (∃ bs, replies .fru bs ∧ bs.take 16 = padTo 16 s.fuses.partNumber ∧ (bs.drop 16).take 8 = padTo 8 s.fuses.serial ∧
      bs.getD 24 0 = s.ident.grade.zeroExtend 8 ∧ bs.drop 25 = s.ident.stepping :: List.replicate 6 0)

/-- The flash commands (R539, Table 18-8): a write of SEC_FLASH_CMD is discarded while BUSY, refused at once where the address is misaligned
or lies in the slot that booted, else under way; its end, with source 427, leaves the page in SEC_FLASH_BUF, in flash, or the block
erased, and nothing else changed; one that ends with an error changes no other byte of flash. -/
def Obligations.FlashCommands : Prop :=
  (∀ (s : State) (m : Master), On s →
    let d := s.dev
    let a := d.fld Reg.secFlashAddr 27 0
    ∀ c ∈ [(Instr.flashRead m, FlashOp.read), (.flashProgram m, .program), (.flashErase m, .erase)],
      let bad := a % (if c.2 = .erase then 65536 else 256) ≠ 0 ∨ (c.2 ≠ .read ∧ d.inBootedSlot a = true)
      (d.flashOp ≠ none → Runs c.1 s (fun t => t = s)) ∧
      (d.flashOp = none → bad → Runs c.1 s (fun t => t.dev.fld Reg.secFlashStat 2 1 = 1 ∧ KeepsRegs [Reg.secFlashStat] s t ∧
        Keeps [.regs] s t)) ∧
      (d.flashOp = none → ¬bad → Runs c.1 s (fun t => t.dev.bit Reg.secFlashStat 0 = true ∧
        t.dev.flashOp = some { op := c.2, addr := a, data := d.regBytes (Reg.secFlashBuf 0) 64 } ∧ KeepsRegs [Reg.secFlashStat] s t ∧
        Keeps [.regs, .flashOp] s t))) ∧
  (∀ (s : State) (c : FlashCommand), On s → s.dev.flashOp = some c → s.dev.lc = none →
    let byte := fun (t : State) (k : Nat) => tabGet flashDflt t.flash k
    let ends := fun (n : Nat) (t : State) => t.dev.flashOp = none ∧ t.dev.reg Reg.secFlashStat = BitVec.ofNat 32 n ∧ Raised 427 s t
    (c.op = .read → Runs (.flashCommandDone false) s (fun t => ends 0 t ∧ t.flash = s.flash ∧
      ∀ i, i < 64 → t.dev.reg (Reg.secFlashBuf i) = BitVec.ofNat 32 (field (flashRead s.flash c.addr 256) (4 * i) 4))) ∧
    (c.op = .program → c.data.length = 256 → Runs (.flashCommandDone false) s (fun t => ends 0 t ∧
      (∀ k, k < 256 → byte t (c.addr + k) = c.data.getD k 0) ∧
      (∀ k, k < c.addr ∨ c.addr + 256 ≤ k → byte t k = byte s k) ∧ Keeps (.flash :: .flashOp :: .regs :: raising) s t)) ∧
    (c.op = .erase → Runs (.flashCommandDone false) s (fun t => ends 0 t ∧
      (∀ k, c.addr ≤ k → k < c.addr + 65536 → byte t k = 0xFF) ∧
      (∀ k, k < c.addr ∨ c.addr + 65536 ≤ k → byte t k = byte s k) ∧ Keeps (.flash :: .flashOp :: .regs :: raising) s t)) ∧
    Runs (.flashCommandDone true) s (fun t => ends 4 t ∧
      ∀ k, k < c.addr ∨ c.addr + (if c.op = .erase then 65536 else 256) ≤ k → byte t k = byte s k))

/-- STRIKE_COMPLETE (R320, R323 to R325, R535): every memory of the package is zero but for the boot records of the firmware (which they
are is the model's reading, notes/assumptions/109.md) and the repair candidates, no stream, checkpoint or program is left; the Strike's time
and its end are recorded and source 194 is raised; after a lifecycle change source 426 too. Host memory stays. -/
def Obligations.StrikeZeroes : Prop :=
  ∀ (s : State) (us : W32) (why : StrikeFor), On s → s.dev.strike = some why → (∀ c, s.dev.lc = some c → c.burned = true) →
    Runs (.strikeComplete us) s (fun t =>
      t.dev.mems = { Mems.reset with
        host := s.dev.mems.host, progSize := s.dev.mems.progSize, twinSize := s.dev.mems.twinSize, repair := s.dev.repairs
        hbm := t.dev.mems.hbm, errors := t.dev.mems.errors } ∧
      (∀ a, memByte t.dev.mems.hbm a = if s.dev.bootRecord a then memByte s.dev.mems.hbm a else 0) ∧
      (∀ e ∈ t.dev.mems.errors, e ∈ s.dev.mems.errors ∧ e.1 = .hbm ∧ s.dev.bootRecord (64 * e.2) = true) ∧
      t.dev.cast = Cast.reset ∧ t.dev.grid.lanterns = [] ∧ t.dev.grid.progs = [] ∧
      t.dev.strike = none ∧ t.dev.reg Reg.memStrikeTime = us ∧ t.dev.bit Reg.memStatus 0 = false ∧ t.dev.bit Reg.memStatus 1 = true ∧
      t.dev.bit Reg.hifStatus 0 = true ∧ t.dev.bit Reg.stgImgLoad 8 = false ∧
      t.dev.arrivalCount 194 = min 255 (s.dev.arrivalCount 194 + 1) ∧
      (why = .lifecycle → t.dev.bit Reg.secStatus 6 = false ∧ t.dev.arrivalCount 426 = min 255 (s.dev.arrivalCount 426 + 1)) ∧
      t.flash = s.flash ∧ t.fuses = s.fuses)

/-- The configuration check and snapshots (R512 to R515, R517, R518). A mismatch in CHECKING sets MISMATCH, is counted and raises 416; with
ACTION = 1 it also takes the Safety Curtain; the check stays in CHECKING. -/
def Obligations.ManagementCommands : Prop :=
  ∀ (s : State) (m : Master), On s →
    let d := s.dev
    let regs := fun (rs : List Nat) (t : State) => KeepsRegs rs s t ∧ Keeps [.regs] s t
    Runs (.cfgUse m) s (fun t => t.dev.reg Reg.cfgRefActive = d.reg Reg.cfgReference ∧ t.dev.fld Reg.cfgStatus 1 0 = 2 ∧
      regs [Reg.cfgRefActive, Reg.cfgStatus] t) ∧
    Runs (.cfgCapture m) s (fun t => t.dev.fld Reg.cfgStatus 1 0 = 1 ∧ regs [Reg.cfgStatus] t) ∧
    Runs (.cfgOff m) s (fun t => t.dev.fld Reg.cfgStatus 1 0 = 0 ∧ regs [Reg.cfgStatus] t) ∧
    (∀ cycles : BitVec 24,
      let passed := fun (t : State) => t.dev.reg Reg.cfgLastCrc = d.passCrc ∧ t.dev.reg Reg.cfgPasses = d.reg Reg.cfgPasses + 1 ∧
        t.dev.reg Reg.cfgPassTime = cycles.setWidth 32
      let changed := [Reg.cfgLastCrc, Reg.cfgPasses, Reg.cfgPassTime]
      (d.bit Reg.cfgCtrl 0 = false → Runs (.cfgPassComplete cycles) s (fun t => t = s)) ∧
      (d.bit Reg.cfgCtrl 0 = true → d.fld Reg.cfgStatus 1 0 = 1 → Runs (.cfgPassComplete cycles) s (fun t => passed t ∧
        t.dev.reg Reg.cfgRefActive = d.passCrc ∧ t.dev.fld Reg.cfgStatus 1 0 = 2 ∧ regs (Reg.cfgRefActive :: Reg.cfgStatus :: changed) t)) ∧
      (d.bit Reg.cfgCtrl 0 = true → d.fld Reg.cfgStatus 1 0 = 2 → d.passCrc = d.reg Reg.cfgRefActive →
        Runs (.cfgPassComplete cycles) s (fun t => passed t ∧ regs changed t)) ∧
      (d.bit Reg.cfgCtrl 0 = true → d.fld Reg.cfgStatus 1 0 = 2 → d.passCrc ≠ d.reg Reg.cfgRefActive → d.bit Reg.cfgCtrl 1 = false →
        Runs (.cfgPassComplete cycles) s (fun t => passed t ∧ t.dev.bit Reg.cfgStatus 2 = true ∧ Raised 416 s t ∧
          t.dev.reg Reg.cfgMismatches = BitVec.ofNat 32 (min ((d.reg Reg.cfgMismatches).toNat + 1) 0xFFFFFFFF) ∧
          t.dev.fld Reg.cfgStatus 1 0 = 2 ∧ KeepsRegs (Reg.cfgStatus :: Reg.cfgMismatches :: changed) s t ∧
          Keeps (.regs :: raising) s t)) ∧
      (d.bit Reg.cfgCtrl 0 = true → d.fld Reg.cfgStatus 1 0 = 2 → d.passCrc ≠ d.reg Reg.cfgRefActive → d.bit Reg.cfgCtrl 1 = true →
        let e := ((d.setReg Reg.cfgLastCrc d.passCrc).setReg Reg.cfgPasses (d.reg Reg.cfgPasses + 1)).setReg Reg.cfgPassTime
          (BitVec.ofNat 32 cycles.toNat)
        Does (.cfgPassComplete cycles) s ((((e.setBit Reg.cfgStatus 2).count Reg.cfgMismatches).raise 416).curtainHalt s.ident)) ∧
      (d.bit Reg.cfgCtrl 0 = true → Does (.cfgPassComplete cycles) s (d.passDone s.ident cycles.toNat))) ∧
    Runs (.snpGo m) s (fun t => t.dev.bit Reg.snpStatus 0 = true ∧ regs [Reg.snpStatus] t) ∧
    (d.bit Reg.snpStatus 0 = true ∨ d.fld Reg.snpPeriod 23 0 ≠ 0 → Runs .snapshot s (fun t =>
      (∀ o ∈ wideCounters, tabGet (fun _ => (0 : W64)) t.dev.hold o = d.wideGet o) ∧ t.dev.reg Reg.snpSeq = d.reg Reg.snpSeq + 1 ∧
      t.dev.reg Reg.snpTimeNs = d.ns ∧ t.dev.bit Reg.snpStatus 0 = false ∧ Raised 419 s t ∧
      KeepsRegs [Reg.snpSeq, Reg.snpTimeNs, Reg.snpStatus] s t ∧ Keeps (.regs :: .hold :: .snapTicks :: raising) s t))

/-- The Callboard (R519 to R521): an arrival adds 1 to its source's count, to at most 255, and sets its pending bit, enabled or not; a
write of CLB_RAISE 14 or 15 is an arrival of each source named; a W1C of CLB_PENDING clears pending bits and counts; a source is
deliverable when it is pending, enabled, routed and not masked; CLB_NEXT names the lowest one. -/
def Obligations.CallboardSources : Prop :=
  (∀ (d : Dev) (x : Nat), (d.raise x).arrivalCount x = min 255 (d.arrivalCount x + 1) ∧
    ∀ y, y ≠ x → (d.raise x).arrivalCount y = d.arrivalCount y) ∧
  (∀ (s : State) (w i : Nat), w < 16 → i < 32 →
    (s.readBar0 (Reg.clbPending w)).getLsbD i = decide (0 < s.dev.arrivalCount (32 * w + i))) ∧
  (∀ (s : State) (q j : Nat), q < 128 → j < 4 → (∀ k, k < 4 → s.dev.arrivalCount (4 * q + k) ≤ 255) →
    (s.readBar0 (Reg.clbCount q)).toNat / 2 ^ (8 * j) % 256 = s.dev.arrivalCount (4 * q + j)) ∧
  (∀ (s : State) (m : Master) (w : Fin 16) (v : W32), On s →
    let d := s.dev
    (14 ≤ w.val → Runs (.clbRaise m w v) s (fun t =>
      (∀ i, i < 32 → t.dev.arrivalCount (32 * w.val + i) =
        if v.getLsbD i = true then min 255 (d.arrivalCount (32 * w.val + i) + 1) else d.arrivalCount (32 * w.val + i)) ∧
      (∀ x, x < 32 * w.val ∨ 32 * w.val + 32 ≤ x → t.dev.arrivalCount x = d.arrivalCount x) ∧ Keeps raising s t)) ∧
    (w.val < 14 → Runs (.clbRaise m w v) s (fun t => t = s)) ∧
    Runs (.clbPendingClear m w v) s (fun t =>
      (∀ i, i < 32 → t.dev.arrivalCount (32 * w.val + i) = if v.getLsbD i = true then 0 else d.arrivalCount (32 * w.val + i)) ∧
      (∀ x, x < 32 * w.val ∨ 32 * w.val + 32 ≤ x → t.dev.arrivalCount x = d.arrivalCount x) ∧ Keeps [.arrivals] s t)) ∧
  (∀ (d : Dev) (w i : Nat) (v : W32), i < 32 → v.getLsbD i = true →
    ((d.clbCleared w v).raise (32 * w + i)).arrivalCount (32 * w + i) = 1) ∧
  (∀ (d : Dev) (x t : Nat), d.deliverable x t = true ↔ 0 < d.arrivalCount x ∧ d.bit (Reg.clbEnable (x / 32)) (x % 32) = true ∧
    d.bit (Reg.clbRoute x) t = true ∧ d.bit (Reg.clbMask t (x / 32)) (x % 32) = false) ∧
  (∀ (s : State) (t : Fin 4),
    (((s.readBar0 (Reg.clbNext t.val)).getLsbD 31 = true ↔ ∃ x < 512, s.dev.deliverable x t.val = true)) ∧
    (∀ x < 512, s.dev.deliverable x t.val = true → (∀ y < x, s.dev.deliverable y t.val = false) →
      s.readBar0 (Reg.clbNext t.val) = BitVec.ofNat 32 (x + 2 ^ 31)))

/-! ### Memories as the host and the scrub meet them -/

/-- HBM refresh and temperatures (R316), the patrol scrub and what reads find (R319 to R321), and the host window (R321, R322, R334). -/
def Obligations.MemoryRows : Prop :=
  ∀ (s : State), On s →
    let d := s.dev
    (∀ pc : Fin 512, Runs (.hbmRefresh pc) s (fun t => t = s)) ∧
    (∀ (temps : W64) (n : W32), Runs (.hbmTempRead temps n) s (fun t =>
      let hot := (List.range 8).foldl (fun x n => max x (bits temps.toNat (8 * n) 8)) 0
      let rate := max (rateOf hot) (min 2 (d.fld Reg.memRefreshOvr 1 0))
      (∀ n, n < 8 → t.dev.reg (Reg.memTemp n) = BitVec.ofNat 32 (bits temps.toNat (8 * n) 8)) ∧ t.dev.fld Reg.memStatus 6 5 = rate ∧
      t.dev.wideGet Reg.memCeStack = d.wideGet Reg.memCeStack + n.setWidth 64 ∧
      (∀ o, o ≠ Reg.memCeStack → t.dev.wideGet o = d.wideGet o) ∧
      (d.fld Reg.memStatus 6 5 ≠ rate → Raised 195 s t) ∧ (d.fld Reg.memStatus 6 5 = rate → Keeps [.regs, .wide] s t) ∧
      KeepsRegs (Reg.memStatus :: (List.range 8).map Reg.memTemp) s t ∧ Keeps (.regs :: .wide :: raising) s t)) ∧
    (∀ (c : MemCode) (unit : Fin 512) (addr : BitVec 39) (k : Nat), memKey s.ident c unit.val addr.toNat = some k →
      let u := k / memUnit c
      (c, u) ∉ d.mems.errors → c ≠ .hbm ∨ u ≠ 0 →
      Runs (.scrubRead c unit addr .clean) s (fun t => t = s) ∧
      Does (.scrubRead c unit addr .corrected) s (d.meets s.ident [⟨c, unit, addr, .corrected⟩]) ∧
      d.meets s.ident [⟨c, unit, addr, .clean⟩] = d ∧
      d.meets s.ident [⟨c, unit, addr, .uncorrectable⟩] = { d with mems := { d.mems with errors := d.mems.errors ++ [(c, u)] } } ∧
      (d.reg Reg.memCeThresh = 0 → Runs (.scrubRead c unit addr .corrected) s (fun t =>
        let count := if c = .hbm then Reg.memCeHbm else Reg.memCeSram
        t.dev.wideGet count = d.wideGet count + 1 ∧ (∀ o, o ≠ count → t.dev.wideGet o = d.wideGet o) ∧
        t.dev.mems = { d.mems with repair := t.dev.mems.repair } ∧ Keeps [.wide, .mems] s t)) ∧
      (d.errorsFailing c (memNum c * 2 ^ 64 + u * memUnit c) = false → Runs (.scrubRead c unit addr .uncorrectable) s (fun t =>
        t.dev.mems = { d.mems with errors := d.mems.errors ++ [(c, u)] } ∧ t.dev.bit Reg.memStatus 2 = true ∧ Raised 192 s t ∧
        t.dev.reg Reg.memUeCount = BitVec.ofNat 32 (min ((d.reg Reg.memUeCount).toNat + 1) 0xFFFFFFFF) ∧
        (d.bit Reg.memStatus 2 = false →
          t.dev.reg Reg.memUeInfo = BitVec.ofNat 32 (memNum c + (memPlace c (u * memUnit c)).1 * 16) ∧
          t.dev.reg Reg.memUeAddr = BitVec.ofNat 32 (memPlace c (u * memUnit c)).2) ∧
        Keeps (.mems :: .regs :: .usy :: raising) s t))) ∧
    (∀ (off : BitVec 39) (len : BitVec 13) (fs : List Found), off.toNat + len.toNat ≤ d.hif.bar2Size →
      (d.reaches s.ident (d.aperture off.toNat) len.toNat = none → Runs (.bar2Read off len fs) s (fun t =>
        (∃ l, t.dev.outbox = l ++ [.unsupported]) ∧ t.dev.bit Reg.memStatus 4 = true ∧ Raised 196 s t ∧
        KeepsRegs [Reg.memHostRefused, Reg.memStatus] s t ∧ Keeps (.regs :: raising) s t)) ∧
      (∀ c k, d.reaches s.ident (d.aperture off.toNat) len.toNat = some (c, k) →
        let m := d.meets s.ident fs
        (m.errorsIn c k len.toNat = [] →
          Does (.bar2Read off len fs) s (m.emit (.completion (memBytes (d.mems.get c) k len.toNat)))) ∧
        (m.errorsIn c k len.toNat ≠ [] → Runs (.bar2Read off len fs) s (fun t => ∃ l, t.dev.outbox = l ++ [.completerAbort])))) ∧
    (∀ (off : BitVec 39) (data : List Byte), off.toNat + data.length ≤ d.hif.bar2Size →
      (d.reaches s.ident (d.aperture off.toNat) data.length = none → Runs (.bar2Write off data) s (fun t =>
        t.dev.mems = d.mems ∧ t.dev.bit Reg.memStatus 4 = true ∧ Raised 196 s t ∧
        KeepsRegs [Reg.memHostRefused, Reg.memStatus] s t ∧ Keeps (.regs :: raising) s t)) ∧
      (∀ c k, d.reaches s.ident (d.aperture off.toNat) data.length = some (c, k) → d.mems.errors = [] →
        Runs (.bar2Write off data) s (fun t =>
          (∀ x, memByte (t.dev.mems.get c) x =
            if k ≤ x ∧ x < k + data.length then data.getD (x - k) 0 else memByte (d.mems.get c) x) ∧
          t.dev.mems = d.mems.put c (t.dev.mems.get c))))

/-! ### The Spotlight -/

/-- ARM, STOP, FORCE, READ and the automatic trigger (R490, R494, R497, R498), through SPT_CTRL or a SPOTLIGHT command. ARM starts from S0
with nothing counted, or is refused and sets CFG_ERR alone (the model's reading, notes/assumptions/83.md); STOP stops an armed capture; a forced trigger is taken only where one is awaited. -/
def Obligations.SpotlightControl : Prop :=
  (∀ d : Dev, let d0 := d.applyPend (fun b => b == .spt)
    (d0.sptArmBad = false → d.sptArm.sptState = 1 ∧ d.sptArm.fld Reg.sptStatus 5 3 = 0 ∧ (∀ n, n < 4 → d.sptArm.reg (Reg.sptCnt n) = 0) ∧
      d.sptArm.reg Reg.sptFill = 0 ∧ d.sptArm.reg Reg.sptRingWr = 0 ∧ d.sptArm.reg Reg.sptRingRd = 0 ∧
      d.sptArm.spt = { Spt.reset with waits := d0.spt.waits }) ∧
    (d0.sptArmBad = true → d.sptArm = d.setBit Reg.sptStatus 10)) ∧
  (∀ d : Dev, (d.sptArmed = true → d.sptStop.sptState = 4) ∧ (d.sptArmed = false → d.sptStop = d)) ∧
  (∀ d : Dev, (d.sptState ≠ 1 → d.sptForced = d) ∧
    (d.sptState = 1 → d.sptForced.sptState = (if d.sptMode = 1 then 3 else 2) ∧ d.sptForced.bit Reg.sptStatus 6 = true ∧
      d.sptForced.reg Reg.sptForced = BitVec.ofNat 32 (min ((d.reg Reg.sptForced).toNat + 1) 0xFFFFFFFF) ∧
      d.sptForced.reg Reg.sptTriggers = BitVec.ofNat 32 (min ((d.reg Reg.sptTriggers).toNat + 1) 0xFFFFFFFF) ∧
      d.sptForced.arrivalCount 384 = min 255 (d.arrivalCount 384 + 1) ∧ d.sptForced.arrivalCount 387 = min 255 (d.arrivalCount 387 + 1))) ∧
  (∀ (s : State) (m : Master) (v : W32), On s →
    let written := s.dev.plainWrite Reg.sptCtrl v
    (v.getLsbD 0 = true → v.getLsbD 1 = false → v.getLsbD 2 = false → Does (.sptArm (.reg m v)) s written.sptArm) ∧
    (v.getLsbD 0 = false → v.getLsbD 1 = true → v.getLsbD 2 = false → Does (.sptStop (.reg m v)) s written.sptStop) ∧
    (v.getLsbD 0 = false → v.getLsbD 1 = false → v.getLsbD 2 = true → Does (.sptForce (.reg m v)) s written.sptForced)) ∧
  (∀ (s : State) (c : Submission), On s → s.dev.bit Reg.memStatus 1 = true →
    let d := s.dev
    (sptFieldsOk c [(8, 1)] = true →
      Does (.sptArm (.cmd c)) s (d.sptArm.sptComplete c (if (d.applyPend (fun b => b == .spt)).sptArmBad then .outOfRange else .success)) ∧
      Does (.sptStop (.cmd c)) s (d.sptStop.sptComplete c .success) ∧
      Does (.sptForce (.cmd c)) s (Dev.sptForced { d with spt := { d.spt with waits := d.spt.waits ++ [c] } })) ∧
    (sptFieldsOk c [(8, 1)] = false → ∀ r ∈ [Instr.sptArm (.cmd c), .sptStop (.cmd c), .sptForce (.cmd c)],
      Does r s (d.sptComplete c .reservedField)) ∧
    (sptFieldsOk c [(8, 2), (16, 16)] = true → d.halting = false →
      subOp c 9 1 = 0 → subOp c 16 8 % 64 = 0 → subOp c 24 4 % 64 = 0 → d.sptArmed = false → subOp c 28 4 + subOp c 24 4 ≤ captureBytes →
      d.errorsIn .capt (subOp c 28 4) (subOp c 24 4) = [] →
      Does (.spotlightRead c) s
        ((d.hostWrite (subOp c 16 8) (memBytes d.mems.capt (subOp c 28 4) (subOp c 24 4))).sptComplete c .success)) ∧
    (sptFieldsOk c [(8, 2), (16, 16)] = true → d.halting = false → Does (.spotlightRead c) s (d.sptRead c))) ∧
  (∀ s : State, On s → (s.dev.bit Reg.sptCtrl 3 = true → Does .sptAutoTimeout s s.dev.sptForced) ∧
    (s.dev.bit Reg.sptCtrl 3 = false → Does .sptAutoTimeout s s.dev))

/-- The sequencer and captures (R486, R488, R489, R492, R493): an arm that fires without a trigger moves to its next state; one whose
trigger flag is set takes the trigger; timers present their edge; records are written in turn, EV after the event lines (R484, R492), and
the capture is done once POST of them have followed the trigger. -/
def Obligations.SpotlightCaptures : Prop :=
  ∀ (s : State), On s →
    let d := s.dev
    (∀ n : Fin 4, (tabGet (fun _ => 0) d.spt.timers n.val ≠ 0 → Runs (.sptTimerExpiry n) s (fun t =>
        tabGet (fun _ => 0) t.dev.spt.timers n.val = 0 ∧ t.dev.spt.edges = d.spt.edges ++ [4 + n.val] ∧ Keeps [.spt] s t)) ∧
      (tabGet (fun _ => 0) d.spt.timers n.val = 0 → Runs (.sptTimerExpiry n) s (fun t => t = s))) ∧
    (∀ src : BitVec 9, Runs (.edgeCancelled src) s (fun t =>
      t.dev.reg Reg.sptRateExc = BitVec.ofNat 32 (min ((d.reg Reg.sptRateExc).toNat + 1) 0xFFFFFFFF) ∧ t.dev.bit Reg.sptStatus 9 = true ∧
      (d.bit Reg.sptStatus 9 = false → Raised 388 s t) ∧ (d.bit Reg.sptStatus 9 = true → Keeps [.regs] s t) ∧
      KeepsRegs [Reg.sptRateExc, Reg.sptStatus] s t ∧ Keeps (.regs :: raising) s t)) ∧
    (∀ (arm : Bool) (tfrac : BitVec 6),
      let w := d.armReg (d.fld Reg.sptStatus 5 3) (b2n arm)
      (d.sptArmed = false ∨ d.armSees w = false → Runs (.sptArmFire arm tfrac) s (fun t => t = s)) ∧
      (d.sptState = 1 → d.armSees w = true → bits w 16 12 = 0 → bitAt w 15 = false → Runs (.sptArmFire arm tfrac) s (fun t =>
        t.dev.fld Reg.sptStatus 5 3 = bits w 12 3 ∧ t.dev.sptState = 1 ∧ t.dev.spt = { d.spt with edges := [] } ∧
        KeepsRegs [Reg.sptStatus] s t ∧ Keeps [.regs, .spt] s t)) ∧
      (d.sptState = 1 → d.armSees w = true → bits w 16 12 = 0 → bitAt w 15 = true → d.sptMode ≠ 1 →
        Runs (.sptArmFire arm tfrac) s (fun t => t.dev.sptState = 2 ∧ t.dev.fld Reg.sptStatus 5 3 = d.fld Reg.sptStatus 5 3 ∧
          t.dev.spt.trig = true ∧ t.dev.spt.forced = false ∧ t.dev.spt.post = d.fld Reg.sptPost 17 0 ∧ Raised 384 s t ∧
          t.dev.reg Reg.sptTriggers = BitVec.ofNat 32 (min ((d.reg Reg.sptTriggers).toNat + 1) 0xFFFFFFFF)))) ∧
    (∀ (ev : W64) (codes : BitVec 40) (sync : BitVec 4), d.sptMode = 0 → d.sptStreaming = false → d.mems.errors = [] →
      let a := 16 * (d.spt.recs % 2 ^ 18)
      let recorded := fun (t : State) =>
        (∀ x, memByte t.dev.mems.capt x =
          if a ≤ x ∧ x < a + 16 then (d.waveBytes (d.eventBits ev) codes sync false).getD (x - a) 0 else memByte d.mems.capt x) ∧
        t.dev.mems = { d.mems with capt := t.dev.mems.capt } ∧ t.dev.spt.recs = d.spt.recs + 1 ∧
        t.dev.reg Reg.sptFill = BitVec.ofNat 32 (min (d.spt.recs + 1) (2 ^ 18))
      (d.sptState = 1 → d.spt.trig = false → Runs (.waveRecord ev codes sync) s (fun t => recorded t ∧ t.dev.sptState = 1)) ∧
      (d.sptState = 2 → d.spt.trig = true → 0 < d.spt.post → Runs (.waveRecord ev codes sync) s (fun t =>
        recorded t ∧ t.dev.sptState = 2 ∧ t.dev.spt.trig = false ∧ t.dev.spt.post = d.spt.post)) ∧
      (d.sptState = 2 → d.spt.trig = false → 1 < d.spt.post → Runs (.waveRecord ev codes sync) s (fun t =>
        recorded t ∧ t.dev.sptState = 2 ∧ t.dev.spt.post = d.spt.post - 1)) ∧
      (d.sptState = 2 → d.spt.trig = false → d.spt.post = 1 → Runs (.waveRecord ev codes sync) s (fun t =>
        recorded t ∧ t.dev.sptState = 3 ∧ Raised 385 s t))) ∧
    (∀ means : List (BitVec 10), d.sptMode = 2 → d.sptState = 2 → Runs (.persAcquisitionEnd means) s (fun t =>
      t.dev.spt.acqs = d.spt.acqs + 1 ∧ t.dev.spt.trig = false ∧
      t.dev.sptState = if max 1 (d.fld Reg.sptAcc 31 20) ≤ d.spt.acqs + 1 then 3 else 1))

/-! ### The host interface -/

/-- Queue pairs (R336 to R340): doorbells move the pointers, an out-of-range one aborts the pair; an entry is fetched and accepted; an
entry is written into the next slot with the phase of its pass, or held; a pair is enabled, refused, or disabled. -/
def Obligations.QueuePairs : Prop :=
  (∀ (d : Dev) (q : Nat) (e : List Byte), e.length = 32 →
    let p := d.pair q
    let a := d.reg64 (Reg.hifQcqBase q) + 32 * p.cqTail
    let r := d.post q e
    (p.held = [] → d.cqRoom q = true → d.hif.linkUp = true →
      memByte r.mems.host a = (e.getD 0 0 ||| (if p.phase then 1 else 0)) ∧
      (∀ k, 0 < k → k < 32 → memByte r.mems.host (a + k) = e.getD k 0) ∧
      (∀ x, x < a ∨ a + 32 ≤ x → memByte r.mems.host x = memByte d.mems.host x) ∧
      (r.pair q).cqTail = (if d.cqSize q ≤ p.cqTail + 1 then 0 else p.cqTail + 1) ∧
      (r.pair q).phase = (if d.cqSize q ≤ p.cqTail + 1 then !p.phase else p.phase) ∧ ∀ k, k ≠ q → r.pair k = d.pair k) ∧
    (p.held ≠ [] ∨ d.cqRoom q = false ∨ d.hif.linkUp = false →
      (r.pair q) = { p with held := p.held ++ [e] } ∧ (∀ k, k ≠ q → r.pair k = d.pair k) ∧ r.mems = d.mems)) ∧
  (∀ (s : State) (q : Fin 64) (v : W32), On s →
    let d := s.dev
    let p := d.pair q.val
    let n := v.toNat % 65536
    let only := fun (t : State) (x : Pair) => t.dev.pair q.val = x ∧ (∀ k, k ≠ q.val → t.dev.pair k = d.pair k) ∧ Keeps [.hif] s t
    (p.active = false → Does (.sqDoorbell q v) s d ∧ Does (.cqDoorbell q v) s d) ∧
    (p.active = true → n < d.sqSize q.val → Runs (.sqDoorbell q v) s (fun t => only t { p with sqTail := n })) ∧
    (p.active = true → n < d.cqSize q.val → Runs (.cqDoorbell q v) s (fun t => only t { p with cqHead := n })) ∧
    (p.active = true → d.sqSize q.val ≤ n → Does (.sqDoorbell q v) s ((d.abortPair s.ident q.val 3).raise 2)) ∧
    (p.active = true → d.cqSize q.val ≤ n → Does (.cqDoorbell q v) s ((d.abortPair s.ident q.val 3).raise 2)) ∧
    (p.active = true → p.sqHead ≠ p.sqTail → d.hif.linkUp = true →
      (∀ buf, Runs (.sqFetch q none buf) s (fun t => t.dev.pair q.val = { p with err := 4 } ∧ (∀ k, k ≠ q.val → t.dev.pair k = d.pair k) ∧
        Raised 2 s t ∧ Keeps raising s t)) ∧
      (∀ b buf, Does (.sqFetch q (some b) buf) s
        ((d.setPair q.val { p with sqHead := (p.sqHead + 1) % d.sqSize q.val }).accept s.ident { sub := readSubmission q b, buf := buf }))) ∧
    (∀ e es, p.held = e :: es → d.cqRoom q.val = true → d.hif.linkUp = true → Runs (.cqHeldEntryWrite q) s (fun t =>
      t.dev.mems.host = (Dev.post (d.setPair q.val { p with held := [] }) q.val e).mems.host ∧ (t.dev.pair q.val).held = es ∧
      (t.dev.pair q.val).cqTail = (if d.cqSize q.val ≤ p.cqTail + 1 then 0 else p.cqTail + 1) ∧
      (∀ k, k ≠ q.val → t.dev.pair k = d.pair k) ∧ Keeps [.hif, .mems, .outbox] s t)) ∧
    (0 < p.unsignalled → d.fld (Reg.hifQirq q.val) 23 8 ≠ 0 → Runs (.cqIrqTimer q) s (fun t =>
      t.dev.pair q.val = { p with unsignalled := 0 } ∧ (∀ k, k ≠ q.val → t.dev.pair k = d.pair k) ∧
      (d.hif.msixEnable = true → d.hif.linkUp = true → d.vectorMasked (d.fld (Reg.hifQcfg q.val) 12 4) = false →
        t.dev.outbox = d.outbox ++ [.msix (d.fld (Reg.hifQcfg q.val) 12 4)]) ∧ Keeps [.hif, .outbox] s t))) ∧
  (∀ (s : State) (m : Master) (q : Fin 64) (cfg : W32), On s →
    let d := s.dev.plainWrite (Reg.hifQcfg q.val) cfg
    let p := d.pair q.val
    (cfg.getLsbD 0 = true → p.active = false → d.bit Reg.secStatus 4 = false →
      (d.enableError q.val = 0 → Runs (.queueEnable m q cfg) s (fun t =>
        t.dev = d.setPair q.val { p with active := true, err := 0, sqHead := 0, sqTail := 0, cqHead := 0, cqTail := 0, phase := true
                                         unsignalled := 0 })) ∧
      (d.enableError q.val ≠ 0 → Runs (.queueEnable m q cfg) s (fun t => t.dev.pair q.val = { p with err := d.enableError q.val } ∧
        t.dev.arrivalCount 2 = min 255 (d.arrivalCount 2 + 1)))) ∧
    (cfg.getLsbD 0 = true → p.active = true ∨ d.bit Reg.secStatus 4 = true → Does (.queueEnable m q cfg) s d) ∧
    (cfg.getLsbD 0 = false → p.active = true → Does (.queueDisable m q cfg) s ((d.abortPair s.ident q.val 5).raise 2)) ∧
    (cfg.getLsbD 0 = false → p.active = false → Does (.queueDisable m q cfg) s d))

/-- The host's commands (R341 to R351, R353, R498): a reserved opcode, a Strike not complete and CURTAIN_DOWN turn a command away with their
status; an accepted stream command or RUN_JOB waits for a formation, behind those accepted before it; a load waits for the step in
progress; the others act as their rules say. -/
def Obligations.HostCommands : Prop :=
  ∀ (s : State) (c : Submission) (buf : HostBuffer), On s →
    let d := s.dev
    let op := c.opcode.toNat
    let plain : Command := { sub := c, buf := HostBuffer.empty }
    let full : Command := { sub := c, buf := buf }
    let streams : List (Instr × Nat × Command) :=
      [(.openStream c buf, 0x10, full), (.append c buf, 0x11, full), (.closeStream c, 0x12, plain), (.pauseStream c, 0x13, plain),
       (.resumeStream c, 0x14, plain), (.forkStream c buf, 0x15, full), (.runJob c, 0x30, plain)]
    let loads : List (Instr × Nat × Command) := [(.loadProgram c buf, 0x01, full), (.unloadProgram c, 0x02, plain)]
    let others : List (Instr × Nat × Command) :=
      [(.checkpoint c, 0x20, plain), (.restore c buf, 0x21, full), (.readEnergy c, 0x40, plain), (.abortQueue c, 0x50, plain),
       (.safetyCurtain c, 0x51, plain), (.mailbox c, 0x70, plain)]
    (op ∉ opcodes → Does (.invalidOpcode c) s (d.complete c .invalidOpcode)) ∧
    (∀ r ∈ streams ++ loads ++ others, op = r.2.1 →
      (∀ st, d.turnedAway op = some st → Does r.1 s (d.complete c st)) ∧
      (d.bit Reg.memStatus 1 = false → r.2.1 ≠ 0x50 → r.2.1 ≠ 0x51 → d.turnedAway op = some .notReady) ∧
      (d.bit Reg.memStatus 1 = true → d.curtainDown = true → op ∉ curtainAccepts → d.turnedAway op = some .curtain)) ∧
    (∀ r ∈ streams, op = r.2.1 → d.turnedAway op = none →
      (d.noProgram = true → Does r.1 s (d.complete c .noProgram)) ∧
      (d.noProgram = false → d.beingMarked c = true → Does r.1 s (d.complete c .aborted)) ∧
      (d.noProgram = false → d.beingMarked c = false → Runs r.1 s (fun t =>
        t.dev.hif = { d.hif with cmds := d.hif.cmds ++ [r.2.2] } ∧ Keeps [.hif] s t))) ∧
    (∀ r ∈ loads, op = r.2.1 → d.turnedAway op = none → subReservedOk c 0 false false (if op = 1 then [(8, 16)] else []) = true →
      (d.lc = none → Does r.1 s (Dev.settle { d with hif := { d.hif with cmds := d.hif.cmds ++ [r.2.2] } } s.ident)) ∧
      (d.lc ≠ none → Does r.1 s (d.complete c .notReady))) ∧
    (op = 0x20 → d.turnedAway op = none → d.noProgram = false → subReservedOk c 1 false false [(8, 8)] = true →
      c.flags.getLsbD 0 = false ∨ subOp c 8 8 % 4096 = 0 → d.inTwin = false →
      (d.halting = true → Runs (.checkpoint c) s (fun t => t.dev.cast = { d.cast with ckptReq := d.cast.ckptReq ++ [c] } ∧ Keeps [.cast] s t)) ∧
      (d.halting = false →
        Does (.checkpoint c) s ((Dev.captureIdle { d with cast := { d.cast with ckptReq := d.cast.ckptReq ++ [c] } }).stopIfHurt s.ident))) ∧
    (op = 0x21 → d.turnedAway op = none → d.loaded = true → d.cast.geom ≠ none → subReservedOk c 1 false false [(8, 8)] = true →
      d.lc = none → d.cast.replay = none → d.curtainDown = true ∨ (d.halted = true ∧ d.faultCode ≠ 0) → d.halting = false →
      (d.peakFits = false → Does (.restore c buf) s
        { d.withhold with hif := { d.withhold.hif with restores := d.withhold.hif.restores ++ [full] } }) ∧
      (d.peakFits = true → c.flags.getLsbD 0 = false → Does (.restore c buf) s ((d.newEra.startReplay [c]).stopIfHurt s.ident)) ∧
      (d.peakFits = true → c.flags.getLsbD 0 = true → buf.ok = false → Does (.restore c buf) s (d.complete c .dmaError)) ∧
      (d.peakFits = true → c.flags.getLsbD 0 = true → buf.ok = true →
        Does (.restore c buf) s ((d.newEra.restoreHost c buf.bytes).stopIfHurt s.ident))) ∧
    (op = 0x40 → d.turnedAway op = none → subReservedOk c 0 false false [] = true →
      (d.energyIdle = false → Runs (.readEnergy c) s (fun t => t.dev.hif = { d.hif with energy := d.hif.energy ++ [c] } ∧ Keeps [.hif] s t)) ∧
      (d.energyIdle = true → ∀ jobs, (d.hif.jobSet = [] ∨ d.loaded = false) ∧ jobs = 2 ^ 17 ∨
          d.loaded = true ∧ ((∃ j, d.hif.jobSet = [j] ∧ jobs = j) ∨ (2 ≤ d.hif.jobSet.length ∧ jobs = 2 ^ 16)) →
        Does (.readEnergy c) s (Dev.completeWith { d with hif := { d.hif with jobSet := [] } } c .success 0
          (d.wideGet Reg.dimEnergy).toNat ((d.reg Reg.stgStepSeq).toNat + d.ns.toNat * 2 ^ 32) (jobs + 2 ^ 18)))) ∧
    (op = 0x50 → d.turnedAway op = none → subReservedOk c 0 false false [(8, 1)] = true →
      (subOp c 8 1 < 64 → Does (.abortQueue c) s ((d.abortPair s.ident (subOp c 8 1) 5).complete c .success)) ∧
      (64 ≤ subOp c 8 1 → Does (.abortQueue c) s (d.complete c .outOfRange))) ∧
    (op = 0x51 → d.turnedAway op = none → subReservedOk c 0 false false [] = true →
      (d.curtainDown = true → d.halting = false → Does (.safetyCurtain c) s (d.complete c .success)) ∧
      (d.curtainDown = false → Does (.safetyCurtain c) s
        { d.curtainHalt s.ident with
          hif := { (d.curtainHalt s.ident).hif with curtainCmds := (d.curtainHalt s.ident).hif.curtainCmds ++ [c] } })) ∧
    (op = 0x70 → d.turnedAway op = none → subReservedOk c 0 false false [(8, 56)] = true → Runs (.mailbox c) s (fun t =>
      t.dev.hif.mailbox = d.hif.mailbox ++ [c] ∧ Raised 6 s t ∧ Keeps raising s t))

/-- The PCIe link and the end of a Safety Curtain (R329, R331, R332, R340, R349): a lost link and D3hot take the Safety Curtain; a link
that is up again sends what was held; rate changes are reported; a vector's pending message goes as it is unmasked; the Curtain's end
sets CURTAIN_DOWN and leaves no command waiting; firmware answers the oldest MAILBOX with a status of Table 11-8. -/
def Obligations.HostLink : Prop :=
  ∀ (s : State), On s →
    let d := s.dev
    Runs .pcieLinkDown s (fun t => t.dev = { d.curtainHalt s.ident with hif := { (d.curtainHalt s.ident).hif with linkUp := false } }) ∧
    Runs .pcieLinkUp s (fun t => t.dev.hif.linkUp = true ∧ t.dev.hif.heldMsix = [] ∧ t.dev.regs = d.regs ∧ t.dev.cast = d.cast) ∧
    (∀ (rate : BitVec 3) (width : BitVec 5) (flit : Bool), rate.toNat ≤ 3 → width.toNat ∈ [1, 2, 4, 8, 16] →
      Runs (.linkRateChange rate width flit) s (fun t => t.dev.fld Reg.hifLink 2 0 = rate.toNat ∧ t.dev.fld Reg.hifLink 7 3 = width.toNat ∧
        t.dev.bit Reg.hifLink 8 = (flit || rate == 3) ∧ KeepsRegs [Reg.hifLink] s t ∧
        (d.fld Reg.hifLink 2 0 = rate.toNat ∧ d.fld Reg.hifLink 7 3 = width.toNat → Keeps [.regs] s t) ∧
        (d.fld Reg.hifLink 2 0 ≠ rate.toNat ∨ d.fld Reg.hifLink 7 3 ≠ width.toNat → Raised 3 s t) ∧ Keeps (.regs :: raising) s t)) ∧
    (d.curtainDown = false → Runs .d3hotEntry s (fun t => t.dev = Dev.curtainHalt { d with hif := { d.hif with d3 := true } } s.ident)) ∧
    (d.curtainDown = true → Runs .d3hotEntry s (fun t => t.dev.hif = { d.hif with d3 := true } ∧ Keeps [.hif] s t)) ∧
    (d.hif.d3 = true → Runs .d0Return s (fun t => t.dev = Dev.curtainComplete { d with hif := { d.hif with d3 := false } })) ∧
    (d.hif.d3 = false → Runs .d0Return s (fun t => t = s)) ∧
    (∀ v : Fin 512, Runs (.msixVectorUnmask v) s (fun t =>
      tabGet (fun _ => true) t.dev.hif.msixMasked v.val = false ∧
      (∀ k, k ≠ v.val → tabGet (fun _ => true) t.dev.hif.msixMasked k = tabGet (fun _ => true) d.hif.msixMasked k) ∧
      (d.hif.functionMask = false → t.dev.hif.msixPending = d.hif.msixPending.filter (· != v.val)) ∧
      (d.hif.msixPending.contains v.val = false → t.dev.outbox = d.outbox) ∧
      (d.hif.msixPending.contains v.val = true → d.hif.msixEnable = true → d.hif.functionMask = false → d.hif.linkUp = true →
        t.dev.outbox = d.outbox ++ [.msix v.val]) ∧
      Keeps [.hif, .outbox] s t)) ∧
    (d.halting = true → Runs .safetyCurtainComplete s (fun t => t.dev.stage.power = .dark ∧ t.dev.bit Reg.hifStatus 0 = true ∧
      t.dev.bit Reg.hifStatus 1 = false ∧ t.dev.hif.cmds = [] ∧ t.dev.hif.energy = [] ∧ t.dev.hif.curtainCmds = [] ∧
      t.dev.cast.replay = none ∧ t.dev.cast.ckptDue = none)) ∧
    (d.halting = false → Runs .safetyCurtainComplete s (fun t => t = s)) ∧
    (∀ (status : BitVec 8) (r0 r1 r2 : W64),
      (d.hif.mailbox = [] → Runs (.mailboxAnswer status r0 r1 r2) s (fun t => t = s)) ∧
      (12 < status.toNat → Runs (.mailboxAnswer status r0 r1 r2) s (fun t => t = s)) ∧
      (∀ c cs, d.hif.mailbox = c :: cs → status.toNat ≤ 12 → Runs (.mailboxAnswer status r0 r1 r2) s (fun t => t.dev =
        Dev.post { d with hif := { d.hif with mailbox := cs } } c.q.val
          (completionBytes (d.pair c.q.val).sqHead c.cid.toNat status.toNat 0 r0.toNat r1.toNat r2.toNat))))

/-- DOE and SPDM (R352, R536, R537): every request raises source 7 and is answered by one data object (its bytes as notes/assumptions/43.md has
them); in RETURNED, CHALLENGE and signed measurements are refused. -/
def Obligations.SpdmAnswers : Prop :=
  ∀ (s : State), On s →
    let gives := fun (c : Instr) (o : List Byte → Prop) => Runs c s (fun t =>
      Raised 7 s t ∧ (∃ l bs, t.dev.outbox = l ++ [.doe bs] ∧ o bs) ∧ Keeps (.free :: raising) s t)
    let answers := fun (c : Instr) (m : List Byte) => gives c (fun bs => bs = doeObject 1 m)
    let chain := s.chain
    gives .doeDiscovery (fun bs => bs = doeObject 0 (leBytes 2 1 ++ [0, 1]) ∨ bs = doeObject 0 (leBytes 2 1 ++ [1, 0])) ∧
    gives .doeAbort (fun bs => bs = []) ∧
    answers .getVersion [0x10, 0x04, 0, 0, 0, 1, 0x00, 0x13] ∧
    gives .getCapabilities (fun bs => ∃ m, bs = doeObject 1 ([0x13, 0x61] ++ m)) ∧
    gives .negotiateAlgorithms (fun bs => ∃ m, bs = doeObject 1 ([0x13, 0x63] ++ m)) ∧
    answers .getDigests (spdm 0x01 0 1 (sha384 chain)) ∧
    (∀ off len : BitVec 16, off.toNat ≤ chain.length → answers (.getCertificate 0 off len)
      (let n := min (min len.toNat 16368) (chain.length - off.toNat)
       spdm 0x02 0 0 (leBytes 2 n ++ leBytes 2 (chain.length - off.toNat - n) ++ (chain.drop off.toNat).take n))) ∧
    (∀ (slot : BitVec 4) (off len : BitVec 16), slot ≠ 0 → answers (.getCertificate slot off len) invalidRequest) ∧
    (∀ (slot : BitVec 4) (nonce : BitVec 256), s.fuses.lc = .returned → answers (.challenge slot nonce) (unsupported 0x83)) ∧
    (∀ (nonce : BitVec 256), s.fuses.lc ≠ .returned → gives (.challenge 0 nonce) (fun bs => ∃ own : List Byte, own.length = 32 ∧
      bs = doeObject 1 (s.signed nonce (spdm 0x03 0 1 (sha384 chain ++ own ++ [0, 0]))))) ∧
    (∀ (idx : Byte) (nonce : BitVec 256), s.fuses.lc = .returned → answers (.getMeasurements idx true nonce) (unsupported 0xE0)) ∧
    (∀ (idx : Byte) (sign : Bool) (nonce : BitVec 256), sign = false ∨ s.fuses.lc ≠ .returned →
      gives (.getMeasurements idx sign nonce) (fun bs => ∃ own : List Byte, own.length = 32 ∧
        let blocks := (measured idx.toNat).flatMap s.block
        let m := spdm 0x60 (if idx = 0 then 6 else 0) 0
          (leBytes 1 (measured idx.toNat).length ++ leBytes 3 blocks.length ++ blocks ++ own ++ [0, 0])
        bs = doeObject 1 (if sign then s.signed nonce m else m))) ∧
    (∀ code : Byte, answers (.unsupportedRequest code) [0x13, 0x7F, 0x07, code])

/-! ### The fabric -/

/-- Training (R359, R361 to R370): a lane's block lock, ALIGN and TRAIN blocks, the end of CLOCK with LOS and LOL cleared, and writes of
ENABLE and RETRAIN. A block of a type without a use counts an error. A TRAIN block leaves the figure of merit of the lane's samples in
FAB_FOM; a request on a tap is applied where R364 permits it, and only when it is new. -/
def Obligations.PortTraining : Prop :=
  (∀ (b2 : Nat) (t : Nat × Nat × Nat), tapsOk t = true → tapsOk (tapRequest b2 t).1 = true) ∧
  (∀ (s : State) (p : Fin 17) (l : Fin 4), On s →
    let d := s.dev
    let st := Reg.fabStatus p.val
    (d.portState p.val = 0 → Runs (.headerLock p l) s (fun t => t = s)) ∧
    (d.portState p.val ≠ 0 → Runs (.headerLock p l) s (fun t => t.dev.bit st (9 + l.val) = true ∧
      t.dev.portState p.val = (if d.portState p.val = 2 ∧ (d.setBit st (9 + l.val)).fld st 12 9 = 15 ∧
        (d.port p.val).lanes.all (fun x => x.peerLocked) = true ∧ (d.port p.val).retry = false then 3 else d.portState p.val) ∧
      SendsBlocks p.val 0x55 s t ∧ (t.dev.portState p.val = d.portState p.val → t.dev.outbox = d.outbox) ∧
      KeepsRegs [st] s t ∧ Keeps [.regs, .outbox] s t)) ∧
    (d.portState p.val = 1 → (d.port p.val).retry = false → Runs (.trainClockStable p) s (fun t =>
      t.dev.bit st 7 = false ∧ t.dev.bit st 8 = false ∧
      t.dev.portState p.val = (if d.fld st 12 9 = 15 ∧ (d.port p.val).lanes.all (fun x => x.peerLocked) = true then 3 else 2) ∧
      SendsBlocks p.val 0x55 s t ∧ KeepsRegs [st] s t ∧ Keeps [.regs, .outbox] s t)) ∧
    (d.portState p.val ≠ 1 ∨ (d.port p.val).retry = true → Runs (.trainClockStable p) s (fun t =>
      t.dev.bit st 7 = false ∧ t.dev.bit st 8 = false ∧ (∀ i, i ≠ 7 → i ≠ 8 → t.dev.bit st i = d.bit st i) ∧
      KeepsRegs [st] s t ∧ Keeps [.regs] s t)) ∧
    (∀ blk : W64,
      (blk.setWidth 8 ≠ (0x4B : Byte) ∨ d.bit st (9 + l.val) = false →
        Runs (.alignBlock p l blk) s (Strays p.val l.val (blk.setWidth 8) s)) ∧
      (blk.setWidth 8 = (0x4B : Byte) → d.bit st (9 + l.val) = true → d.portState p.val ≠ 4 → (d.port p.val).lanes.length = 4 →
        Runs (.alignBlock p l blk) s (fun t =>
          (t.dev.port p.val).lane l.val = { (d.port p.val).lane l.val with
            place := some (blk.extractLsb' 8 2).toNat, acnt := (blk.extractLsb' 16 16).toNat } ∧
          (∀ k, k ≠ p.val → t.dev.port k = d.port k) ∧ Keeps [.fab] s t)) ∧
      (blk.setWidth 8 = (0x4B : Byte) → d.bit st (9 + l.val) = true → Does (.alignBlock p l blk) s
        (Dev.deskewCheck (d.onLane p.val l.val (fun x =>
          { x with place := some (bits blk.toNat 8 2), acnt := bits blk.toNat 16 16 })) p.val))) ∧
    (∀ (blk : W64) (samples : List Sample), let b := fun k => bits blk.toNat (8 * k) 8
      (b 0 ≠ 0x55 → Runs (.trainBlock p l blk samples) s (Strays p.val l.val (blk.setWidth 8) s)) ∧
      (b 0 = 0x55 → (d.port p.val).retry = true ∨ d.portState p.val ∉ [2, 3] → Runs (.trainBlock p l blk samples) s (fun t => t = s)) ∧
      (b 0 = 0x55 → (d.port p.val).retry = false → d.portState p.val ∈ [2, 3] → Runs (.trainBlock p l blk samples) s (fun t =>
        t.dev.reg (Reg.fabFom p.val l.val) = BitVec.ofNat 32 (LineCode.figureOfMerit samples) ∧
        t.dev.reg (Reg.fabTap p.val l.val) = (if bits (b 3) 0 4 = ((d.port p.val).lane l.val).sid then d.reg (Reg.fabTap p.val l.val)
          else tapsReg (tapRequest (b 2) (tapsOf (d.reg (Reg.fabTap p.val l.val)))).1) ∧
        t.dev.bit st 14 = bitAt (b 1) 3 ∧ t.dev.bit st 15 = bitAt (b 1) 4)))) ∧
  (∀ (s : State) (m : Master) (p : Fin 17) (v : W32), On s →
    let written := (s.dev.plainWrite (Reg.fabCtrl p.val) v).portEnableApplied p.val
    (v.getLsbD 3 = false → Does (.portEnable m p v) s written ∧ Does (.portRetrain m p v) s s.dev) ∧
    (v.getLsbD 3 = true → Does (.portEnable m p v) s (written.portStart p.val) ∧ Does (.portRetrain m p v) s (written.portStart p.val)) ∧
    (v.getLsbD 0 = false → s.dev.pend = [] → Runs (.portEnable m p v) s (fun t => t.dev.portState p.val = 0)) ∧
    (v.getLsbD 0 = true → s.dev.pend = [] → (s.dev.port p.val).released = true → s.dev.portState p.val = 0 ∨ v.getLsbD 3 = true →
      Runs (.portEnable m p v) s (fun t => t.dev.portState p.val = 1 ∧ (t.dev.port p.val).fails = 0 ∧ (t.dev.port p.val).retry = false)))

/-- What takes a port out of UP or ends a training attempt (R359, R362, R363, R369, R371, R376, R377). -/
def Obligations.PortLosses : Prop :=
  ∀ (s : State) (p : Fin 17), On s →
    let d := s.dev
    let st := Reg.fabStatus p.val
    let n := d.portState p.val
    let x := d.port p.val
    let training := 2 ≤ n ∧ n ≤ 5 ∧ x.retry = false
    (∀ lol : Bool, let i := if lol then 8 else 7
      (n = 6 → Runs (.los p lol) s (fun t => LeftUp p.val 9 s t ∧ t.dev.bit st i = true)) ∧
      (training → Runs (.los p lol) s (fun t => Failed p.val 9 s t ∧ t.dev.bit st i = true)) ∧
      (n ≠ 6 → ¬training → Runs (.los p lol) s (fun t => t.dev.bit st i = true ∧ KeepsRegs [st] s t ∧ Keeps [.regs] s t))) ∧
    (∀ l : Fin 4,
      (d.bit st (9 + l.val) = false → Runs (.laneLockLoss p l) s (fun t => t = s)) ∧
      (d.bit st (9 + l.val) = true → Runs (.laneLockLoss p l) s (fun t => t.dev.bit st (9 + l.val) = false ∧
        t.dev.reg (Reg.fabLockLoss p.val) = BitVec.ofNat 32 (min ((d.reg (Reg.fabLockLoss p.val)).toNat + 1) 0xFFFFFFFF) ∧
        (n = 6 → LeftUp p.val 10 s t) ∧ (n ≠ 6 → KeepsRegs [st, Reg.fabLockLoss p.val] s t ∧ Keeps [.regs] s t)))) ∧
    ((∃ y ∈ x.lanes, y.acnt ≠ (x.lane 0).acnt) → n = 6 → Runs (.alignDisagreement p) s (fun t => LeftUp p.val 3 s t)) ∧
    ((∀ y ∈ x.lanes, y.acnt = (x.lane 0).acnt) ∨ n ≠ 6 → Runs (.alignDisagreement p) s (fun t => t = s)) ∧
    (training → Runs (.trainingLimitExpiry p) s (fun t => Failed p.val (n - 1) s t)) ∧
    (¬training → Runs (.trainingLimitExpiry p) s (fun t => t = s)) ∧
    (x.retry = true → Runs (.trainingRetry p) s (fun t => t.dev.portState p.val = 1 ∧ (t.dev.port p.val).retry = false ∧
      (t.dev.port p.val).lanes = List.replicate 4 Lane.reset ∧
      (∀ l, l < 4 → t.dev.reg (Reg.fabTap p.val l) = regReset (Reg.fabTap p.val l)) ∧ Keeps [.regs, .fab] s t)) ∧
    (x.retry = false → Runs (.trainingRetry p) s (fun t => t = s)) ∧
    (n ≠ 6 ∨ x.held = [] → Runs (.replayTimeout p) s (fun t => t = s)) ∧
    (n = 6 → x.held ≠ [] →
      (x.replays + 1 < 16 → Runs (.replayTimeout p) s (fun t => (t.dev.port p.val).held = x.held ∧ (t.dev.port p.val).replays = x.replays + 1 ∧
        t.dev.outbox = d.outbox ++ x.held.map (fun h => h.2.out p.val h.1 x.expect false) ∧
        t.dev.reg (Reg.fabRetries p.val) = BitVec.ofNat 32 (min ((d.reg (Reg.fabRetries p.val)).toNat + 1) 0xFFFFFFFF) ∧
        KeepsRegs [Reg.fabRetries p.val] s t ∧ Keeps [.regs, .fab, .outbox, .wide] s t)) ∧
      (16 ≤ x.replays + 1 → Runs (.replayTimeout p) s (fun t => LeftUp p.val 8 s t)))

/-- Frames (R373, R375 to R380, R384, R387, R390, R409): a sequenced frame that is next is accepted, acknowledged and delivered; one
already accepted is acknowledged again, one ahead is answered by a NAK; a malformed one is counted and answered by a NAK; a port that is
not UP takes none. HELLO brings the port UP; CREDIT returns credits; ACKNAK only acknowledges. -/
def Obligations.PortFrames : Prop :=
  ∀ (s : State) (p : Fin 17) (f : Frame),
    let d := s.dev
    let rows : List (Instr × Prop) :=
      [(.dataFrame p f, frameType f = 1), (.collectiveFrame p f, frameType f = 2),
       (.curtainArmFrame p f, frameType f = 4 ∧ field f.payload 0 1 ≠ 2), (.curtainFallFrame p f, frameType f = 4 ∧ field f.payload 0 1 = 2)]
    let plain := fun (c : Instr) (act : Dev → Dev) => Arrives s p f → Does c s (act (received s p f))
    (∀ r ∈ rows, r.2 → Arrives s p f → p.val ≠ 16 →
      (behind s p f = 0 → frameEns f = d.fld Reg.fabEns 15 0 → (accepted s p f).forMe (frameDst f) = true →
        (accepted s p f).fld Reg.fabEns 15 0 = d.fld Reg.fabEns 15 0 →
        Does r.1 s ((accepted s p f).deliverOrKeep p.val f Dev.deliverFrame)) ∧
      (0 < behind s p f → behind s p f ≤ 64 → Does r.1 s ((d.takeAck p.val f).sendAck p.val false)) ∧
      (64 < behind s p f → Does r.1 s ((d.takeAck p.val f).sendAck p.val true))) ∧
    (∀ r ∈ rows, r.2 → On s → d.portUp p.val = true → frameBad (d.lenLimit p.val) f = true →
      Runs r.1 s (fun t => t.dev.reg (Reg.fabCrcErr p.val) = BitVec.ofNat 32 (min ((d.reg (Reg.fabCrcErr p.val)).toNat + 1) 0xFFFFFFFF) ∧
        (∃ l st h c, t.dev.outbox = l ++ [.frame p.val st h (padTo 8 [2]) c] ∧ st.getLsbD 33 = true ∧
          c.toNat = frameCrc st h (padTo 8 [2])) ∧ KeepsRegs [Reg.fabCrcErr p.val] s t)) ∧
    (∀ r ∈ rows, On s → d.portUp p.val = false → Does r.1 s d) ∧
    (linkSub f = some 2 → plain (.acknak p f) id) ∧
    (linkSub f = some 3 → plain (.credit p f) (fun e => e.takeCredit p.val (field f.payload 4 4))) ∧
    (linkSub f = some 3 → Arrives s p f → frameAckV f = false → (d.port p.val).txq = [] → (p.val = 16 → d.usy.logq = []) → Runs (.credit p f) s (fun t =>
      t.dev.port p.val = { d.port p.val with credits := min 4096 ((d.port p.val).credits + field f.payload 4 4) } ∧
      (∀ k, k ≠ p.val → t.dev.port k = d.port k) ∧ Keeps [.fab, .wide] s t)) ∧
    (linkSub f = some 2 → Arrives s p f → frameAckV f = true → frameNak f = false → (d.port p.val).txq = [] →
      (p.val = 16 → d.usy.logq = []) →
      ∀ n g hs, (d.port p.val).held = (n, g) :: hs → (frameAck f + 256 - n) % 256 ≤ hs.length + 1 → Runs (.acknak p f) s (fun t =>
        (t.dev.port p.val).held = (d.port p.val).held.drop ((frameAck f + 256 - n) % 256) ∧
        (∀ k, k ≠ p.val → t.dev.port k = d.port k) ∧ Keeps [.fab, .wide] s t)) ∧
    (On s → linkSub f = some 1 → d.portState p.val = 5 → (d.port p.val).retry = false → frameBad 4096 f = false →
      let peer := (d.setReg (Reg.fabPeer p.val) (BitVec.ofNat 32 (bits (field f.payload 8 2) 0 13 + bits (field f.payload 3 1) 0 5 * 65536))).setReg
        (Reg.fabPeerId p.val) (BitVec.ofNat 32 (field f.payload 4 2 + field f.payload 6 2 * 65536))
      (∀ r v, peer.helloVerdict p.val f.payload = (some r, v) → Runs (.hello p f) s
        (fun t => Failed p.val r { s with dev := d.wideAdd (Reg.fabRxBytes p.val) (frameLen f) } t)) ∧
      (∀ v, peer.helloVerdict p.val f.payload = (none, v) → Runs (.hello p f) s (fun t => t.dev.portState p.val = 6 ∧
        t.dev.portV2 p.val = (v == 2) ∧ (t.dev.port p.val).fails = 0 ∧ (t.dev.port p.val).fresh = false ∧
        (t.dev.port p.val).expect = (if bitAt (field f.payload 11 1) 0 then 0 else (d.port p.val).expect) ∧ Raised (256 + 4 * p.val) s t))) ∧
    (On s → linkSub f = some 1 → d.portState p.val = 5 → (d.port p.val).retry = false → frameBad 4096 f = true →
      Does (.hello p f) s ((d.crcError p.val).sendAck p.val true)) ∧
    (linkSub f = some 1 → Arrives s p f → Does (.hello p f) s (received s p f)) ∧
    (On s → d.portState p.val ∉ [5, 6] ∨ (d.portState p.val = 5 ∧ (d.port p.val).retry = true) ∨ linkSub f ≠ some 1 →
      Does (.hello p f) s d)

/-- The ensemble (R123, R382 to R386, R469 to R471): joining, losses, aliases, ERA, and takeover as the lead, the failed module and every
other device meet it. -/
def Obligations.EnsembleMessages : Prop :=
  ∀ (s : State), On s →
    let d := s.dev
    (∀ count : W16, d.boot.stage ≠ .join → Runs (.joinDone count) s (fun t => t.dev.joined = true ∧ Raised 324 s t ∧
      (16 < d.devices → t.dev.bit Reg.qstStatus 0 = true) ∧ KeepsRegs [Reg.fabEns, Reg.qstStatus] s t ∧ Keeps (.regs :: raising) s t)) ∧
    (∀ (k : BitVec 13) (dev : W16) (g : Byte),
      (d.isLead = false ∨ d.fab.joins.contains k.toNat = true → Runs (.join k dev g) s (fun t => t = s)) ∧
      (d.isLead = true → d.fab.joins.contains k.toNat = false →
        (∃ j < d.devices, j ∉ d.fab.joins ++ [k.toNat]) → Runs (.join k dev g) s (fun t =>
          t.dev.fab = { d.fab with joins := d.fab.joins ++ [k.toNat] } ∧ Keeps [.fab] s t)) ∧
      (d.isLead = true → d.fab.joins.contains k.toNat = false → (∀ j < d.devices, j ∈ d.fab.joins ++ [k.toNat]) →
        Does (.join k dev g) s (((({ d with fab := { d.fab with joins := d.fab.joins ++ [k.toNat] } } : Dev).others).foldl
          (fun (e : Dev) j => e.sendMgmt j 2 (leBytes 2 e.devices)) { d with fab := { d.fab with joins := d.fab.joins ++ [k.toNat] } }).joinDone))) ∧
    (∀ k : BitVec 13,
      (d.aliased k.toNat = true → Runs (.lost k) s (fun t => t = s)) ∧ ((d.routePort k.toNat).isSome → Runs (.deviceLost k) s (fun t => t = s)) ∧
      (d.aliased k.toNat = false → Does (.lost k) s (d.deviceLost k.toNat)) ∧
      (d.routePort k.toNat = none → Does (.deviceLost k) s ((d.deviceLost k.toNat).tellLost k.toNat)) ∧
      (d.isLead = false ∨ d.servedBy k.toNat = [] → d.tellLost k.toNat = d)) ∧
    (∀ k : Nat, k < 8192 → d.halted = true ∨ d.colls = [] ∧ d.hck.curtain = none ∧ d.xfers = [] →
      (d.deviceLost k).reg Reg.fabLostLast = BitVec.ofNat 32 (k + 2 ^ 31) ∧ k ∈ (d.deviceLost k).fab.lost ∧
      (d.deviceLost k).lostNow k = true ∧
      (d.deviceLost k).arrivalCount 326 = min 255 (d.arrivalCount 326 + 1) ∧ (d.deviceLost k).prompter = d.prompter) ∧
    (∀ src dst : BitVec 13,
      ((∀ n, n < 16 → d.bit (Reg.fabAlias n) 31 = true) → Runs (.aliasMsg src dst) s (fun t => t = s)) ∧
      (∀ n, n < 16 → d.bit (Reg.fabAlias n) 31 = false → (∀ k, k < n → d.bit (Reg.fabAlias k) 31 = true) → d.fab.waiting = [] →
        Runs (.aliasMsg src dst) s (fun t => t.dev.reg (Reg.fabAlias n) = BitVec.ofNat 32 (src.toNat + dst.toNat * 65536 + 2 ^ 31) ∧
          KeepsRegs [Reg.fabAlias n] s t ∧ Keeps [.regs] s t))) ∧
    (∀ e : Byte, Does (.era e) s (d.setFld Reg.fabEra 7 0 e.toNat).offerFrames ∧
      ((∀ k, k < 17 → (d.port k).buffer = []) → Runs (.era e) s (fun t => t.dev.fld Reg.fabEra 7 0 = e.toNat ∧
        KeepsRegs [Reg.fabEra] s t ∧ Keeps [.regs] s t))) ∧
    (∀ k : BitVec 13, ∀ c ∈ [Instr.fence, .takeoverDeny k], Runs c s (fun t =>
      t.dev.fld Reg.usyStatus 2 0 = 4 ∧ t.dev.usy.request = none ∧
      t.dev.arrivalCount 72 = min 255 ((d.curtainHalt s.ident).arrivalCount 72 + 1))) ∧
    (∀ k : BitVec 13,
      (d.usy.request = some k.toNat → Runs (.takeoverGrant k) s (fun t => t.dev.usy = { d.usy with request := none } ∧ Keeps [.usy] s t)) ∧
      (d.usy.request ≠ some k.toNat → Runs (.takeoverGrant k) s (fun t => t = s))) ∧
    (∀ (failed survivor : BitVec 13) (e : Byte),
      let a := (((d.writeAlias failed.toNat survivor.toNat).setFld Reg.fabEra 7 0 e.toNat).asyncFault 0x41)
      survivor.toNat ≠ a.index → a.fld Reg.usyStatus 2 0 ≠ 7 → Does (.takeoverNote failed survivor e) s a.offerFrames) ∧
    (∀ (failed survivor : BitVec 13) (e : Byte),
      Does (.takeoverNote failed survivor e) s (d.takeoverNote failed.toNat survivor.toNat e.toNat)) ∧
    (∀ requester failed : BitVec 13,
      (d.isLead = false → Runs (.takeoverReq requester failed) s (fun t => t = s)) ∧
      (d.isLead = true → requester.toNat ≠ d.index → failed.toNat ∈ d.fab.granted →
        Does (.takeoverReq requester failed) s (d.sendMgmt requester.toNat 0x82 (leBytes 2 requester.toNat))) ∧
      (d.isLead = true → requester.toNat = d.index → failed.toNat ∈ d.fab.granted → Does (.takeoverReq requester failed) s d) ∧
      (d.isLead = true → requester.toNat = d.index → failed.toNat ∉ d.fab.granted → requester.toNat ∈ d.fab.granted →
        Does (.takeoverReq requester failed) s (d.fenced s.ident)) ∧
      (d.isLead = true → requester.toNat ≠ d.index → failed.toNat ∉ d.fab.granted → requester.toNat ∈ d.fab.granted →
        Does (.takeoverReq requester failed) s (d.sendMgmt requester.toNat 0x82 (leBytes 2 failed.toNat))) ∧
      (d.isLead = true → failed.toNat ∉ d.fab.granted → requester.toNat ∉ d.fab.granted →
        Does (.takeoverReq requester failed) s (d.grantTakeover s.ident requester.toNat failed.toNat)))

/-- Time (R399, R401, R402, R404 to R408, R410): the clock advances and wraps, a TIME_SYNC payload has TIME at byte 8 and CORR at byte 16
(Table 13-1), SYNC and the servo, link delays, and the fall of the Curtain. -/
def Obligations.TimeTransfer : Prop :=
  (∀ (sub hops seqid time : Nat) (corr : Int), let b := timePayload sub hops seqid time corr
    b.length = 32 ∧ field b 0 1 = sub % 256 ∧ field b 1 1 = hops % 256 ∧ field b 2 2 = seqid % 2 ^ 16 ∧ field b 4 4 = 0 ∧
      field b 8 8 = time % 2 ^ 64 ∧ field b 16 8 = trunc 64 corr ∧ field b 24 8 = 0) ∧
  (∀ d : Dev, (d.advance 1).hck.time = d.hck.time + BitVec.ofNat 56 (d.reg Reg.hckIncrNom + d.reg Reg.hckAdj).toNat) ∧
  (∀ (d : Dev) (o : Int), let limit := d.fld Reg.hckStepLimit 15 0 * 65536
    (limit ≤ o.natAbs → (d.servo o).hck.step = some o ∧ (d.servo o).hck.integ = 0 ∧ (d.servo o).reg Reg.hckAdj = 0 ∧
      (d.servo o).reg Reg.hckSteps = BitVec.ofNat 32 (min ((d.reg Reg.hckSteps).toNat + 1) 0xFFFFFFFF) ∧
      (d.servo o).bit Reg.hckStatus 0 = false ∧ (d.servo o).bit Reg.hckStatus 2 = true ∧
      (d.servo o).arrivalCount 339 = min 255 (d.arrivalCount 339 + 1)) ∧
    (o.natAbs < limit → (d.servo o).hck.step = d.hck.step ∧
      (d.servo o).hck.integ = max (-16384) (min 16384 (d.hck.integ - o / 1024)) ∧
      (d.servo o).reg Reg.hckAdj = BitVec.ofInt 32 (max (-16384) (min 16384 ((d.servo o).hck.integ - o / 64))))) ∧
  (∀ (s : State), On s →
    let d := s.dev
    Does .houseClockWrap s d.tickStart.runToWrap ∧
    (d.increment ≠ 0 → d.runToWrap.hck.time.toNat < d.increment ∧
      (∃ k, d.runToWrap.hck.time = d.hck.time + BitVec.ofNat 56 (k * d.increment)) ∧
      d.runToWrap.arrivalCount 336 = min 255 (d.arrivalCount 336 + 1)) ∧
    (d.hck.curtain = none → Runs .curtainFall s (fun t => t = s)) ∧
    (∀ w at_, d.hck.curtain = some w → w.fall = some at_ → atOrAfter d.time48 at_ = false →
      Does .curtainFall s (d.tickStart.runTo at_).dropCurtain) ∧
    (∀ w at_, d.hck.curtain = some w → w.fall = some at_ → atOrAfter d.time48 at_ = true →
      Does .curtainFall s (d.curtainFalls w) ∧
      (w.late = false → d.hckLocked = true → d.stage.power = .dark → Runs .curtainFall s (fun t =>
        t.dev.reg Reg.hckCurtains = BitVec.ofNat 32 (min ((d.reg Reg.hckCurtains).toNat + 1) 0xFFFFFFFF) ∧ Raised 341 s t ∧
        t.dev.hck.curtain = none ∧ t.dev.prompter.run = (if w.init then .init else .step) ∧ t.dev.stage.power = .rampUp ∧
        t.dev.fld Reg.dimStatus 2 0 = 1 ∧ (t.dev.prompter.pc, t.dev.prompter.loops) = d.prompter.after))) ∧
    (∀ ts : List (BitVec 48), (d.timeLead = true → Does (.syncSend ts) s (d.sendSyncs 0 (fun q => (ts.getD q 0).toNat) (fun _ => 0))) ∧
      (d.timeLead = false → Does (.syncSend ts) s d)) ∧
    (d.timeLead = true → Runs .syncLoss s (fun t => t = s)) ∧
    (d.timeLead = false → Runs .syncLoss s (fun t => t.dev.bit Reg.hckStatus 0 = false ∧ t.dev.bit Reg.hckStatus 3 = true ∧
      t.dev.hck = { d.hck with good := 0 } ∧ t.dev.arrivalCount 340 = min 255 (d.arrivalCount 340 + 1) ∧
      (d.bit Reg.hckStatus 0 = true → t.dev.arrivalCount 338 = min 255 (d.arrivalCount 338 + 1)) ∧
      KeepsRegs [Reg.hckStatus] s t ∧ Keeps (.regs :: .hck :: raising) s t)) ∧
    (∀ (p : Fin 17) (t1 : BitVec 48),
      (d.portUp p.val = false → Runs (.pdelayReqSend p t1) s (fun t => t = s)) ∧
      (d.portUp p.val = true → Runs (.pdelayReqSend p t1) s (fun t =>
        t.dev.port p.val = { d.port p.val with
          pdSeq := ((d.port p.val).pdSeq + 1) % 65536, pdReq := some ((d.port p.val).pdSeq, t1.toNat) } ∧
        (∃ st h c, t.dev.outbox = d.outbox ++ [.frame p.val st h (timePayload 2 0 (d.port p.val).pdSeq t1.toNat 0) c]) ∧
        (∀ k, k ≠ p.val → t.dev.port k = d.port k) ∧ Keeps [.fab, .wide, .outbox] s t))) ∧
    (∀ p : Fin 17, Runs (.pdelayTimeout p) s (fun t => t.dev.port p.val = { d.port p.val with pdReq := none } ∧
      (∀ k, k ≠ p.val → t.dev.port k = d.port k) ∧ Keeps [.fab] s t)) ∧
    (∀ (p : Fin 17) (f : Frame), Arrives s p f →
      let r := received s p f
      (∀ (trx : BitVec 48) (ttx : List (BitVec 48)), timeSub f = some 1 →
        (r.upstream = some p.val → Does (.sync p f trx ttx) s (r.takeSync p.val f.payload trx.toNat (fun q => (ttx.getD q 0).toNat))) ∧
        (r.upstream ≠ some p.val → Does (.sync p f trx ttx) s r)) ∧
      (∀ t2 t3 : BitVec 48, timeSub f = some 2 → Does (.pdelayReq p f t2 t3) s (r.sendTime p.val
        (timePayload 3 0 (field f.payload 2 2) t2.toNat (sext 48 (trunc 48 ((t3.toNat : Int) - t2.toNat)))))) ∧
      (∀ t4 : BitVec 48, timeSub f = some 3 → ∀ n t1, (r.port p.val).pdReq = some (n, t1) →
        let m := (sext 48 (trunc 48 ((t4.toNat : Int) - t1)) - sext 64 (field f.payload 16 8)).tdiv 2
        let e := r.setPort p.val { r.port p.val with pdReq := none }
        (n ≠ field f.payload 2 2 → Does (.pdelayResp p f t4) s r) ∧
        (n = field f.payload 2 2 → m < 0 → Does (.pdelayResp p f t4) s e) ∧
        (n = field f.payload 2 2 → 0 ≤ m → Does (.pdelayResp p f t4) s (e.addDelay p.val m.toNat)))))

/-! ### The Understudy -/

/-- Pairing, heartbeats, takeover requests, drain and failure (R457, R458, R466 to R469, R478). -/
def Obligations.UnderstudyPair : Prop :=
  ∀ (s : State) (m : Master), On s →
    let d := s.dev
    (∀ f : Frame, frameType f = 5 → Arrives s 16 f → let r := received s 16 f
      let st := bits (field f.payload 0 1) 0 3
      Does (.heartbeat 16 f) s (r.takeHeartbeat s.ident f.payload) ∧
      (r.usy.loaded = false ∨ r.usy.tried = true → st ≠ 2 → st ≠ 3 → Runs (.heartbeat 16 f) s (fun t =>
        t.dev.reg Reg.usyTwinSeq = BitVec.ofNat 32 (field f.payload 4 4) ∧ t.dev.reg Reg.usyTwinCkpt = BitVec.ofNat 32 (field f.payload 8 4) ∧
        t.dev.reg Reg.usyHbLast = r.ns ∧ t.dev.usy = { r.usy with peerState := st }))) ∧
    (∀ (p : Fin 17) (f : Frame), frameType f = 5 → p ≠ 16 → Arrives s p f → Does (.heartbeat p f) s ((d.takeAck p.val f).dropFrame p.val)) ∧
    (d.pend = [] → d.portUp 16 = false → Runs .heartbeatSend s (fun t => t = s)) ∧
    (d.pend = [] → d.armed = false → d.bit Reg.usyCtrl 0 = false ∨ d.usy.loaded = false → Runs .heartbeatSend s (fun t => t = s)) ∧
    (d.pend = [] → d.portUp 16 = true → d.armed = true ∨ (d.bit Reg.usyCtrl 0 = true ∧ d.usy.loaded = true) → Runs .heartbeatSend s (fun t =>
      t.dev.usy = { d.usy with hbCount := (d.usy.hbCount + 1) % 65536 } ∧
      (∃ st h bs c, t.dev.outbox = d.outbox ++ [.frame 16 st h bs c] ∧ st.extractLsb' 8 4 = 5 ∧ bs.length = 32 ∧
        c.toNat = frameCrc st h bs) ∧
      Keeps [.usy, .wide, .outbox] s t)) ∧
    (d.armed = false → Runs .heartbeatTimeout s (fun t => t = s)) ∧
    (d.armed = true → Does .heartbeatTimeout s (((d.count Reg.usyHbMissed).raise 70).requestTakeover s.ident)) ∧
    (d.armed = true → d.bit Reg.usyCtrl 13 = false → Runs .heartbeatTimeout s (fun t => Raised 70 s t ∧
      t.dev.reg Reg.usyHbMissed = BitVec.ofNat 32 (min ((d.reg Reg.usyHbMissed).toNat + 1) 0xFFFFFFFF) ∧
      KeepsRegs [Reg.usyHbMissed] s t ∧ Keeps (.regs :: raising) s t)) ∧
    (d.bit Reg.usyCtrl 0 = true ∧ d.armed = false → Runs .pairingWaitExpiry s (fun t =>
      t.dev.usy = { d.usy with waited := true } ∧ Keeps [.usy] s t)) ∧
    (d.bit Reg.usyCtrl 0 = false ∨ d.armed = true → Runs .pairingWaitExpiry s (fun t => t = s)) ∧
    (d.usy.request = none → Runs .takeoverReqResend s (fun t => t = s) ∧ Runs .takeoverSelfGrant s (fun t => t = s)) ∧
    (∀ f, d.usy.request = some f →
      (d.isLead = false → Does .takeoverReqResend s (d.sendMgmt d.leadIndex 0x80 (leBytes 2 d.index ++ leBytes 2 f))) ∧
      (d.isLead = true → Does .takeoverReqResend s (d.leadRequest s.ident d.index f)) ∧
      (f = d.leadIndex → Does .takeoverSelfGrant s (d.grantTakeover s.ident d.index f)) ∧
      (f ≠ d.leadIndex → Runs .takeoverSelfGrant s (fun t => t = s))) ∧
    (d.armed = true → d.usyState ≤ 1 → Runs (.usyDrain m) s (fun t => t.dev.usyState = 7 ∧ t.dev.usy = { d.usy with hbCount := t.dev.usy.hbCount } ∧
      (d.portUp 16 = true → ∃ st h bs c, t.dev.outbox = d.outbox ++ [.frame 16 st h bs c] ∧ st.extractLsb' 8 4 = 5) ∧
      KeepsRegs [Reg.usyStatus] s t ∧ Keeps [.regs, .usy, .wide, .outbox] s t)) ∧
    (d.armed = false ∨ 1 < d.usyState → Runs (.usyDrain m) s (fun t => t = s)) ∧
    (d.armed = true → d.usyState ≠ 2 → d.usyState ≠ 4 → Runs (.usyFail m) s (fun t => t.dev.usyState = 2 ∧ Raised 73 s t ∧
      t.dev.usy = { d.usy with hbCount := t.dev.usy.hbCount } ∧ KeepsRegs [Reg.usyStatus] s t ∧ Keeps (.regs :: .usy :: .wide :: raising) s t)) ∧
    (d.armed = false ∨ d.usyState = 2 ∨ d.usyState = 4 → Runs (.usyFail m) s (fun t => t = s)) ∧
    (d.usy.draining = none → Runs .drainAcknowledged s (fun t => t = s)) ∧
    (∀ n, d.usy.draining = some n → d.usy.commits = [] → d.usyState = 7 → d.portUp 16 = false → Runs .drainAcknowledged s (fun t =>
      t.dev.usyState = 3 ∧ Raised 74 s t ∧ KeepsRegs [Reg.usyStatus] s t ∧ Keeps (.regs :: raising) s t))

/-- The log (R462 to R465): a WRITE lands in the twin region and nowhere else, a COMMIT is only acknowledged, a DELIVERED is noted;
an acknowledged COMMIT releases its entries; the log queue is sent once port 16 is UP. -/
def Obligations.UnderstudyLog : Prop :=
  (∀ (d : Dev) (b : List Byte),
    let base := bits (d.reg64 Reg.memTwinBase) 0 39
    let off := bits (field b 8 8) 0 39
    let data := b.drop 16
    let e := d.takeRecord b
    (field b 0 1 = 1 → off + data.length ≤ d.mems.twinSize → d.mems.errors = [] →
      (∀ x, memByte e.mems.hbm x =
        if base + off ≤ x ∧ x < base + off + data.length then data.getD (x - (base + off)) 0 else memByte d.mems.hbm x) ∧
      e = { d with mems := { d.mems with hbm := e.mems.hbm } }) ∧
    (field b 0 1 = 1 → d.mems.twinSize < off + data.length → e = d) ∧
    (field b 0 1 = 2 → e = d) ∧
    (field b 0 1 = 3 → e.reg Reg.usyDelivered = BitVec.ofNat 32 (field b 4 4) ∧ e.usy = { d.usy with suppress := field b 4 4 + 1 } ∧ e.mems = d.mems)) ∧
  (∀ (s : State) (f : Frame), frameType f = 6 →
    ∀ r ∈ [(Instr.logWrite 16 f, field f.payload 0 1 ≠ 2 ∧ field f.payload 0 1 ≠ 3), (.logCommit 16 f, field f.payload 0 1 = 2),
        (.logDelivered 16 f, field f.payload 0 1 = 3)],
      r.2 → Arrives s 16 f → behind s 16 f = 0 → frameEns f = (accepted s 16 f).fld Reg.fabEns 15 0 →
      Does r.1 s (((accepted s 16 f).takeRecord f.payload).sendCredit 16 (frameCredits (frameLen f)))) ∧
  (∀ (s : State), On s →
    let d := s.dev
    (d.portUp 16 = false → Runs .logQueueResume s (fun t => t = s)) ∧
    (d.usy.logq = [] → (d.port 16).txq = [] → Runs .logQueueResume s (fun t => t = s)) ∧
    (∀ r, d.usy.logq = [r] → (d.port 16).txq = [] →
      let f := d.frame 6 (d.fld (Reg.fabPeer 16) 12 0) 0 r
      d.mayEnter 16 f = true → Runs .logQueueResume s (fun t =>
        t.dev.outbox = d.outbox ++ [f.out 16 (d.port 16).txSeq (d.port 16).expect false] ∧
        (t.dev.port 16).held = (d.port 16).held ++ [((d.port 16).txSeq, f)] ∧ t.dev.usy = { d.usy with logq := [] } ∧
        t.dev.reg Reg.usyLogBacklog = 0 ∧ t.dev.wideGet Reg.usyLogBytes = d.wideGet Reg.usyLogBytes + BitVec.ofNat 64 r.length ∧
        KeepsRegs [Reg.usyLogBacklog] s t ∧ Keeps [.regs, .usy, .fab, .wide, .outbox] s t)) ∧
    (d.usy.commits = [] → Runs .commitAcknowledged s (fun t => t = s)) ∧
    (∀ c cs, d.usy.commits = c :: cs →
      (c.sent = false ∨ c.lost = true ∨ d.commitOpen c.seq = true → Runs .commitAcknowledged s (fun t => t = s)) ∧
      (c.sent = true → c.lost = false → d.commitOpen c.seq = false → Runs .commitAcknowledged s (fun t => t.dev.usy.commits = cs ∧
        t.dev = (Dev.deliver { d with usy := { d.usy with commits := cs } } c.entries).shipRecord (logRecord 3 0 c.seq 0 [])))))

/-! ### The Grid network and the Cast Table -/

/-- Tokens and edge units (R229, R230, R232 to R235, R280): a token of an old epoch is counted, one without a partner waits at its steering unit,
one with a partner delivers the pair; lonely tokens expire, and an orphan faults with 0x51, or with 0x50 where a changeover fails in its
core cycle (R243); an edge unit takes requests and write data in order and answers them. -/
def Obligations.GridNetwork : Prop :=
  ∀ (s : State), On s →
    let d := s.dev
    let sat := fun (a : Nat) => BitVec.ofNat 32 (min ((d.reg a).toNat + 1) 0xFFFFFFFF)
    (d.grid.flight = [] → Runs .tokenArrival s (fun t => t = s)) ∧
    (∀ x, earliest d.grid.flight = some x →
      (∀ y ∈ d.grid.flight, x.due ≤ y.due) ∧
      let moved := { (d.gridTo x.due).grid with flight := dropToken x d.grid.flight }
      (x.epoch ≠ d.epoch → d.bit Reg.lgrCtrl 0 = false → Runs .tokenArrival s (fun t => t.dev.grid = moved ∧
        t.dev.reg Reg.lgrStaleCount = sat Reg.lgrStaleCount ∧ KeepsRegs [Reg.lgrStaleCount] s t ∧ Keeps [.grid, .regs] s t)) ∧
      (x.epoch ≠ d.epoch → d.bit Reg.lgrCtrl 0 = true → Runs .tokenArrival s (fun t => t.dev.grid = moved ∧ Raised 129 s t ∧
        t.dev.reg Reg.lgrStaleCount = sat Reg.lgrStaleCount ∧ KeepsRegs [Reg.lgrStaleCount] s t ∧ Keeps (.grid :: .regs :: raising) s t)) ∧
      (x.epoch = d.epoch → (∀ h ∈ d.grid.held x.unit, partners h x = false) → Runs .tokenArrival s (fun t =>
        t.dev.grid.held x.unit = d.grid.held x.unit ++ [x] ∧ (∀ u, u ≠ x.unit → t.dev.grid.held u = d.grid.held u) ∧
        t.dev.grid = { moved with steer := t.dev.grid.steer } ∧ Keeps [.grid] s t)) ∧
      (∀ h, x.epoch = d.epoch → (d.grid.held x.unit).find? (fun h => partners h x) = some h →
        Does .tokenArrival s (Dev.deliverPair { d with grid := moved.setHeld x.unit (dropToken h (d.grid.held x.unit)) } x.unit
          (if x.ctl then x.word else h.word) (if x.ctl then h.word else x.word)))) ∧
    (∀ u : Fin 320, let gone := fun (x : GridToken) =>
        (d.gridTo (x.due + 5)).grid.setHeld u.val (dropToken x (d.grid.held u.val))
      (d.lonely u.val true = none → Runs (.controlTokenExpiry u) s (fun t => t = s)) ∧
      (d.lonely u.val false = none → Runs (.orphanData u) s (fun t => t = s)) ∧
      (∀ x, d.lonely u.val true = some x → Runs (.controlTokenExpiry u) s (fun t => t.dev.grid = gone x ∧
        t.dev.reg Reg.lgrExpiredCount = sat Reg.lgrExpiredCount ∧ KeepsRegs [Reg.lgrExpiredCount] s t ∧
        (d.bit Reg.lgrCtrl 1 = true → Raised 130 s t) ∧ Keeps (.grid :: .regs :: raising) s t)) ∧
      (∀ x, d.lonely u.val false = some x → d.bit Reg.lgrStatus 18 = false →
        (∀ c, d.grid.change = some c → d.swapReady c = true ∨ sameCoreCycle (c.start + 2048) (x.due + 5) = false) →
        Does (.orphanData u) s (((({ d with grid := gone x } : Dev).setReg Reg.lgrOrphanInfo
          (BitVec.ofNat 32 (u.val + x.src * 2 ^ 9 + x.sslot * 2 ^ 18 + x.epoch * 2 ^ 22 + 2 ^ 31))).flagRaise Reg.lgrStatus 18 134).asyncFault 0x51)) ∧
      (∀ x c, d.lonely u.val false = some x → d.grid.change = some c → d.swapReady c = false →
        sameCoreCycle (c.start + 2048) (x.due + 5) = true → d.halted = false → Runs (.orphanData u) s (fun t => t.dev.faultCode = 0x50)) ∧
      (∀ fs : List Found, ∀ r ∈ [(Instr.tsRead u fs, 0, fs), (.tsWrite u, 1, []), (.hbmRead u fs, 2, fs), (.hbmWrite u, 3, []),
            (.cstRead u, 4, []), (.cstWrite u, 5, [])],
        ((d.edge u.val).inbox = [] → Runs r.1 s (fun t => t = s)) ∧
        ∀ c w rest, (d.edge u.val).inbox = (c, w) :: rest →
          (tokenKind c = 2 → bits w 0 4 = r.2.1 → Runs r.1 s (fun t =>
            t.dev.edge u.val = { d.edge u.val with inbox := rest, reqs := (d.edge u.val).reqs ++ [edgeReq (bits c 12 9) w] } ∧
            (∀ k, k ≠ u.val → t.dev.edge k = d.edge k) ∧ t.dev.grid = { d.grid with edges := t.dev.grid.edges } ∧
            Keeps [.grid] { s with dev := d.meets s.ident r.2.2 } t)) ∧
          (tokenKind c ≠ 2 ∨ (bits w 0 4 ≠ r.2.1 ∧ bits w 0 4 < 6) → Runs r.1 s (fun t => t = s))) ∧
      (∀ c w rest, (d.edge u.val).inbox = (c, w) :: rest → tokenKind c = 4 →
        (∀ rs, takeData (bits c 12 9) (leBytes 16 w) (d.edge u.val).reqs = some rs → Runs (.wdata u) s (fun t =>
          t.dev.edge u.val = { d.edge u.val with inbox := rest, reqs := rs } ∧ (∀ k, k ≠ u.val → t.dev.edge k = d.edge k) ∧ Keeps [.grid] s t)) ∧
        (takeData (bits c 12 9) (leBytes 16 w) (d.edge u.val).reqs = none → Runs (.wdata u) s (fun t =>
          t.dev.edge u.val = { d.edge u.val with inbox := rest } ∧ t.dev.reg Reg.lgrMisrouteCount = sat Reg.lgrMisrouteCount ∧
          Raised 131 s t ∧ Keeps (.grid :: .regs :: raising) s t))) ∧
      ((d.edge u.val).reqs = [] → Runs (.edgeReply u) s (fun t => t = s)) ∧
      (∀ r rs, (d.edge u.val).reqs = r :: rs →
        let e := d.setEdge u.val { d.edge u.val with reqs := rs }
        (r.isWrite = true → r.data.length < 16 * r.words → Runs (.edgeReply u) s (fun t => t = s)) ∧
        (r.isWrite = false ∨ 16 * r.words ≤ r.data.length → e.edgeStatus s.ident u.val r ≠ 0 →
          Does (.edgeReply u) s (e.answer u.val r true [e.edgeStatus s.ident u.val r])) ∧
        (r.op = 0 ∨ r.op = 2 → e.edgeStatus s.ident u.val r = 0 → d.errorsIn r.place.1 r.place.2 (16 * r.words) = [] →
          Does (.edgeReply u) s (e.answer u.val r false
            ((List.range r.words).map (fun k => leNat (memBytes (d.mems.get r.place.1) (r.place.2 + 16 * k) 16))))) ∧
        (r.isWrite = true → 16 * r.words ≤ r.data.length → e.edgeStatus s.ident u.val r = 0 →
          ((e.serveWrite r).1 = false → Does (.edgeReply u) s ((e.serveWrite r).2.answer u.val r false [0])) ∧
          ((e.serveWrite r).1 = true → Does (.edgeReply u) s ((e.serveWrite r).2.answer u.val r true [3]) ∧
            ∀ c, (e.serveWrite r).2.mems.get c = d.mems.get c))))

/-- The Cast Table's own acts (R275, R277, R296 to R298, R300): a formation that may begin forms the next manifest; a checkpoint being written is
complete; a spill takes the stream that R296 names and leaves it SPILLED; a return leaves it in its saved state; a PCIe error sets WINGS_ERR
and raises 116, and fails a returning stream. -/
def Obligations.CastTableActs : Prop :=
  ∀ (s : State), On s →
    let d := s.dev
    let clean := fun (ts : List Touch) (more : List Span) => d.cast.hurt = false ∧
      (∀ x ∈ d.castSpans ts ++ more, d.errorsIn x.1 x.2.1 x.2.2 = []) ∧ ∀ x ∈ ts, d.touchBad x = false
    (d.mayForm = false → Runs .formation s (fun t => t = s)) ∧
    (d.mayForm = true → clean d.formTouch d.formSpans → Does .formation s (d.resumed.formNext.stopIfHurt s.ident)) ∧
    (d.cast.hurt = false → d.cast.ckptDue = none → d.cast.ckptReq = [] → Runs .checkpointComplete s (fun t => t = s)) ∧
    (∀ x, d.cast.hurt = false → d.mems.errors = [] → d.cast.ckptDue = some x → d.cast.ckptReq = [] → x.cmds = [] →
      let e := d.castWrite (d.ckptBuffer x.serial + 4) (leBytes 4 1)
      Runs .checkpointComplete s (fun t =>
      t.dev.cast.ckptDue = none ∧ t.dev.reg Reg.cstCkptSeq = BitVec.ofNat 32 (field (e.ckptRead x.serial) 16 4) ∧
      t.dev.arrivalCount 118 = min 255 (d.arrivalCount 118 + 1) ∧ t.dev.cast.entries = d.cast.entries)) ∧
    (d.wingsOn = false ∨ d.cast.spill ≠ none ∨ d.freeFrame = none → Runs .spillStart s (fun t => t = s)) ∧
    (∀ x, d.wingsOn = true → d.cast.spill = none → d.freeFrame ≠ none → clean [] [] → d.nextSpill = some x → Runs .spillStart s (fun t =>
      t.dev.cast = { d.cast with spill := some x, spillReq := d.cast.spillReq.filter (· != x) } ∧ (d.entry x).state = .paused ∧
      Keeps [.cast] s t)) ∧
    (d.wingsOn = true → clean [] [] → d.nextSpill = none → Runs .spillStart s (fun t => t = s)) ∧
    (d.cast.spill = none → ∀ e, Runs (.spillComplete e) s (fun t => t = s)) ∧
    (∀ x, d.cast.spill = some x → d.wingsOn = true → (d.entry x).state = .paused → clean [(x, 0, (d.entry x).blocks)] [] →
      Runs (.spillComplete true) s (fun t => t.dev.cast = { d.cast with spill := none } ∧ t.dev.bit Reg.cstStatus 2 = true ∧
        Raised 116 s t ∧ KeepsRegs [Reg.cstStatus] s t ∧ Keeps (.cast :: .regs :: raising) s t) ∧
      (d.mems.errors = [] → (d.spillList x).length ≤ d.frameCount - d.cast.frames.length → Runs (.spillComplete false) s (fun t =>
        (t.dev.entry x).state = .spilled ∧ t.dev.cast.spill = none ∧
        t.dev.reg Reg.cstSpills = BitVec.ofNat 32 (min ((d.reg Reg.cstSpills).toNat + 1) 0xFFFFFFFF)))) ∧
    (d.cast.returns = [] → ∀ e, Runs (.returnComplete e) s (fun t => t = s)) ∧
    (∀ x xs, d.cast.returns = x :: xs → d.wingsOn = true → (d.entry x).state = .spilled → clean [(x, 0, (d.entry x).blocks)] [] → d.mems.errors = [] →
      Runs (.returnComplete true) s (fun t => (t.dev.entry x).state = .failed ∧ (t.dev.entry x).reason = 8 ∧
        t.dev.cast.returns = (x :: xs).filter (· != x) ∧ t.dev.bit Reg.cstStatus 2 = true ∧
        t.dev.arrivalCount 115 = min 255 (d.arrivalCount 115 + 1) ∧ t.dev.arrivalCount 116 = min 255 (d.arrivalCount 116 + 1)) ∧
      ((d.returnList x).length ≤ d.freeBlocks.length → Runs (.returnComplete false) s (fun t =>
        (t.dev.entry x).state = (d.entry x).saved ∧ t.dev.cast.returns = (x :: xs).filter (· != x) ∧
        t.dev.reg Reg.cstReturns = BitVec.ofNat 32 (min ((d.reg Reg.cstReturns).toNat + 1) 0xFFFFFFFF))))
end

