-- ==== Sys2Proof/Laws/State.lean ====
section
/-! SUPPORT. State: what each plain update of the package leaves as it was, one lemma per field per update. -/
namespace Sys2Proof.Machine

variable (d : Dev)

@[simp] theorem Dev.setReg_pend (off : Nat) (v : W32) : (d.setReg off v).pend = d.pend := rfl
@[simp] theorem Dev.setReg_wide (off : Nat) (v : W32) : (d.setReg off v).wide = d.wide := rfl
@[simp] theorem Dev.setReg_hold (off : Nat) (v : W32) : (d.setReg off v).hold = d.hold := rfl
@[simp] theorem Dev.setReg_arrivals (off : Nat) (v : W32) : (d.setReg off v).arrivals = d.arrivals := rfl
@[simp] theorem Dev.setReg_pairs (off : Nat) (v : W32) : (d.setReg off v).pairs = d.pairs := rfl
@[simp] theorem Dev.setReg_asleep (off : Nat) (v : W32) : (d.setReg off v).asleep = d.asleep := rfl
@[simp] theorem Dev.setReg_snapTicks (off : Nat) (v : W32) : (d.setReg off v).snapTicks = d.snapTicks := rfl
@[simp] theorem Dev.setReg_prompter (off : Nat) (v : W32) : (d.setReg off v).prompter = d.prompter := rfl
@[simp] theorem Dev.setReg_stage (off : Nat) (v : W32) : (d.setReg off v).stage = d.stage := rfl
@[simp] theorem Dev.setReg_slots (off : Nat) (v : W32) : (d.setReg off v).slots = d.slots := rfl
@[simp] theorem Dev.setReg_xfers (off : Nat) (v : W32) : (d.setReg off v).xfers = d.xfers := rfl
@[simp] theorem Dev.setReg_colls (off : Nat) (v : W32) : (d.setReg off v).colls = d.colls := rfl
@[simp] theorem Dev.setReg_grid (off : Nat) (v : W32) : (d.setReg off v).grid = d.grid := rfl
@[simp] theorem Dev.setReg_cast (off : Nat) (v : W32) : (d.setReg off v).cast = d.cast := rfl
@[simp] theorem Dev.setReg_hif (off : Nat) (v : W32) : (d.setReg off v).hif = d.hif := rfl
@[simp] theorem Dev.setReg_mems (off : Nat) (v : W32) : (d.setReg off v).mems = d.mems := rfl
@[simp] theorem Dev.setReg_fab (off : Nat) (v : W32) : (d.setReg off v).fab = d.fab := rfl
@[simp] theorem Dev.setReg_hck (off : Nat) (v : W32) : (d.setReg off v).hck = d.hck := rfl
@[simp] theorem Dev.setReg_dim (off : Nat) (v : W32) : (d.setReg off v).dim = d.dim := rfl
@[simp] theorem Dev.setReg_usy (off : Nat) (v : W32) : (d.setReg off v).usy = d.usy := rfl
@[simp] theorem Dev.setReg_spt (off : Nat) (v : W32) : (d.setReg off v).spt = d.spt := rfl
@[simp] theorem Dev.setReg_boot (off : Nat) (v : W32) : (d.setReg off v).boot = d.boot := rfl
@[simp] theorem Dev.setReg_lc (off : Nat) (v : W32) : (d.setReg off v).lc = d.lc := rfl
@[simp] theorem Dev.setReg_strike (off : Nat) (v : W32) : (d.setReg off v).strike = d.strike := rfl
@[simp] theorem Dev.setReg_flashOp (off : Nat) (v : W32) : (d.setReg off v).flashOp = d.flashOp := rfl
@[simp] theorem Dev.setReg_outbox (off : Nat) (v : W32) : (d.setReg off v).outbox = d.outbox := rfl
@[simp] theorem Dev.setReg_free (off : Nat) (v : W32) : (d.setReg off v).free = d.free := rfl
@[simp] theorem Dev.setReg_lines (off : Nat) (v : W32) : (d.setReg off v).lines = d.lines := rfl

@[simp] theorem Dev.setFld_pend (off hi lo n : Nat) : (d.setFld off hi lo n).pend = d.pend := rfl
@[simp] theorem Dev.setFld_wide (off hi lo n : Nat) : (d.setFld off hi lo n).wide = d.wide := rfl
@[simp] theorem Dev.setFld_hold (off hi lo n : Nat) : (d.setFld off hi lo n).hold = d.hold := rfl
@[simp] theorem Dev.setFld_arrivals (off hi lo n : Nat) : (d.setFld off hi lo n).arrivals = d.arrivals := rfl
@[simp] theorem Dev.setFld_pairs (off hi lo n : Nat) : (d.setFld off hi lo n).pairs = d.pairs := rfl
@[simp] theorem Dev.setFld_asleep (off hi lo n : Nat) : (d.setFld off hi lo n).asleep = d.asleep := rfl
@[simp] theorem Dev.setFld_snapTicks (off hi lo n : Nat) : (d.setFld off hi lo n).snapTicks = d.snapTicks := rfl
@[simp] theorem Dev.setFld_prompter (off hi lo n : Nat) : (d.setFld off hi lo n).prompter = d.prompter := rfl
@[simp] theorem Dev.setFld_stage (off hi lo n : Nat) : (d.setFld off hi lo n).stage = d.stage := rfl
@[simp] theorem Dev.setFld_slots (off hi lo n : Nat) : (d.setFld off hi lo n).slots = d.slots := rfl
@[simp] theorem Dev.setFld_xfers (off hi lo n : Nat) : (d.setFld off hi lo n).xfers = d.xfers := rfl
@[simp] theorem Dev.setFld_colls (off hi lo n : Nat) : (d.setFld off hi lo n).colls = d.colls := rfl
@[simp] theorem Dev.setFld_grid (off hi lo n : Nat) : (d.setFld off hi lo n).grid = d.grid := rfl
@[simp] theorem Dev.setFld_cast (off hi lo n : Nat) : (d.setFld off hi lo n).cast = d.cast := rfl
@[simp] theorem Dev.setFld_hif (off hi lo n : Nat) : (d.setFld off hi lo n).hif = d.hif := rfl
@[simp] theorem Dev.setFld_mems (off hi lo n : Nat) : (d.setFld off hi lo n).mems = d.mems := rfl
@[simp] theorem Dev.setFld_fab (off hi lo n : Nat) : (d.setFld off hi lo n).fab = d.fab := rfl
@[simp] theorem Dev.setFld_hck (off hi lo n : Nat) : (d.setFld off hi lo n).hck = d.hck := rfl
@[simp] theorem Dev.setFld_dim (off hi lo n : Nat) : (d.setFld off hi lo n).dim = d.dim := rfl
@[simp] theorem Dev.setFld_usy (off hi lo n : Nat) : (d.setFld off hi lo n).usy = d.usy := rfl
@[simp] theorem Dev.setFld_spt (off hi lo n : Nat) : (d.setFld off hi lo n).spt = d.spt := rfl
@[simp] theorem Dev.setFld_boot (off hi lo n : Nat) : (d.setFld off hi lo n).boot = d.boot := rfl
@[simp] theorem Dev.setFld_lc (off hi lo n : Nat) : (d.setFld off hi lo n).lc = d.lc := rfl
@[simp] theorem Dev.setFld_strike (off hi lo n : Nat) : (d.setFld off hi lo n).strike = d.strike := rfl
@[simp] theorem Dev.setFld_flashOp (off hi lo n : Nat) : (d.setFld off hi lo n).flashOp = d.flashOp := rfl
@[simp] theorem Dev.setFld_outbox (off hi lo n : Nat) : (d.setFld off hi lo n).outbox = d.outbox := rfl
@[simp] theorem Dev.setFld_free (off hi lo n : Nat) : (d.setFld off hi lo n).free = d.free := rfl
@[simp] theorem Dev.setFld_lines (off hi lo n : Nat) : (d.setFld off hi lo n).lines = d.lines := rfl

@[simp] theorem Dev.setBit_pend (off i : Nat) : (d.setBit off i).pend = d.pend := rfl
@[simp] theorem Dev.setBit_wide (off i : Nat) : (d.setBit off i).wide = d.wide := rfl
@[simp] theorem Dev.setBit_hold (off i : Nat) : (d.setBit off i).hold = d.hold := rfl
@[simp] theorem Dev.setBit_arrivals (off i : Nat) : (d.setBit off i).arrivals = d.arrivals := rfl
@[simp] theorem Dev.setBit_pairs (off i : Nat) : (d.setBit off i).pairs = d.pairs := rfl
@[simp] theorem Dev.setBit_asleep (off i : Nat) : (d.setBit off i).asleep = d.asleep := rfl
@[simp] theorem Dev.setBit_snapTicks (off i : Nat) : (d.setBit off i).snapTicks = d.snapTicks := rfl
@[simp] theorem Dev.setBit_prompter (off i : Nat) : (d.setBit off i).prompter = d.prompter := rfl
@[simp] theorem Dev.setBit_stage (off i : Nat) : (d.setBit off i).stage = d.stage := rfl
@[simp] theorem Dev.setBit_slots (off i : Nat) : (d.setBit off i).slots = d.slots := rfl
@[simp] theorem Dev.setBit_xfers (off i : Nat) : (d.setBit off i).xfers = d.xfers := rfl
@[simp] theorem Dev.setBit_colls (off i : Nat) : (d.setBit off i).colls = d.colls := rfl
@[simp] theorem Dev.setBit_grid (off i : Nat) : (d.setBit off i).grid = d.grid := rfl
@[simp] theorem Dev.setBit_cast (off i : Nat) : (d.setBit off i).cast = d.cast := rfl
@[simp] theorem Dev.setBit_hif (off i : Nat) : (d.setBit off i).hif = d.hif := rfl
@[simp] theorem Dev.setBit_mems (off i : Nat) : (d.setBit off i).mems = d.mems := rfl
@[simp] theorem Dev.setBit_fab (off i : Nat) : (d.setBit off i).fab = d.fab := rfl
@[simp] theorem Dev.setBit_hck (off i : Nat) : (d.setBit off i).hck = d.hck := rfl
@[simp] theorem Dev.setBit_dim (off i : Nat) : (d.setBit off i).dim = d.dim := rfl
@[simp] theorem Dev.setBit_usy (off i : Nat) : (d.setBit off i).usy = d.usy := rfl
@[simp] theorem Dev.setBit_spt (off i : Nat) : (d.setBit off i).spt = d.spt := rfl
@[simp] theorem Dev.setBit_boot (off i : Nat) : (d.setBit off i).boot = d.boot := rfl
@[simp] theorem Dev.setBit_lc (off i : Nat) : (d.setBit off i).lc = d.lc := rfl
@[simp] theorem Dev.setBit_strike (off i : Nat) : (d.setBit off i).strike = d.strike := rfl
@[simp] theorem Dev.setBit_flashOp (off i : Nat) : (d.setBit off i).flashOp = d.flashOp := rfl
@[simp] theorem Dev.setBit_outbox (off i : Nat) : (d.setBit off i).outbox = d.outbox := rfl
@[simp] theorem Dev.setBit_free (off i : Nat) : (d.setBit off i).free = d.free := rfl
@[simp] theorem Dev.setBit_lines (off i : Nat) : (d.setBit off i).lines = d.lines := rfl

@[simp] theorem Dev.clrBit_pend (off i : Nat) : (d.clrBit off i).pend = d.pend := rfl
@[simp] theorem Dev.clrBit_wide (off i : Nat) : (d.clrBit off i).wide = d.wide := rfl
@[simp] theorem Dev.clrBit_hold (off i : Nat) : (d.clrBit off i).hold = d.hold := rfl
@[simp] theorem Dev.clrBit_arrivals (off i : Nat) : (d.clrBit off i).arrivals = d.arrivals := rfl
@[simp] theorem Dev.clrBit_pairs (off i : Nat) : (d.clrBit off i).pairs = d.pairs := rfl
@[simp] theorem Dev.clrBit_asleep (off i : Nat) : (d.clrBit off i).asleep = d.asleep := rfl
@[simp] theorem Dev.clrBit_snapTicks (off i : Nat) : (d.clrBit off i).snapTicks = d.snapTicks := rfl
@[simp] theorem Dev.clrBit_prompter (off i : Nat) : (d.clrBit off i).prompter = d.prompter := rfl
@[simp] theorem Dev.clrBit_stage (off i : Nat) : (d.clrBit off i).stage = d.stage := rfl
@[simp] theorem Dev.clrBit_slots (off i : Nat) : (d.clrBit off i).slots = d.slots := rfl
@[simp] theorem Dev.clrBit_xfers (off i : Nat) : (d.clrBit off i).xfers = d.xfers := rfl
@[simp] theorem Dev.clrBit_colls (off i : Nat) : (d.clrBit off i).colls = d.colls := rfl
@[simp] theorem Dev.clrBit_grid (off i : Nat) : (d.clrBit off i).grid = d.grid := rfl
@[simp] theorem Dev.clrBit_cast (off i : Nat) : (d.clrBit off i).cast = d.cast := rfl
@[simp] theorem Dev.clrBit_hif (off i : Nat) : (d.clrBit off i).hif = d.hif := rfl
@[simp] theorem Dev.clrBit_mems (off i : Nat) : (d.clrBit off i).mems = d.mems := rfl
@[simp] theorem Dev.clrBit_fab (off i : Nat) : (d.clrBit off i).fab = d.fab := rfl
@[simp] theorem Dev.clrBit_hck (off i : Nat) : (d.clrBit off i).hck = d.hck := rfl
@[simp] theorem Dev.clrBit_dim (off i : Nat) : (d.clrBit off i).dim = d.dim := rfl
@[simp] theorem Dev.clrBit_usy (off i : Nat) : (d.clrBit off i).usy = d.usy := rfl
@[simp] theorem Dev.clrBit_spt (off i : Nat) : (d.clrBit off i).spt = d.spt := rfl
@[simp] theorem Dev.clrBit_boot (off i : Nat) : (d.clrBit off i).boot = d.boot := rfl
@[simp] theorem Dev.clrBit_lc (off i : Nat) : (d.clrBit off i).lc = d.lc := rfl
@[simp] theorem Dev.clrBit_strike (off i : Nat) : (d.clrBit off i).strike = d.strike := rfl
@[simp] theorem Dev.clrBit_flashOp (off i : Nat) : (d.clrBit off i).flashOp = d.flashOp := rfl
@[simp] theorem Dev.clrBit_outbox (off i : Nat) : (d.clrBit off i).outbox = d.outbox := rfl
@[simp] theorem Dev.clrBit_free (off i : Nat) : (d.clrBit off i).free = d.free := rfl
@[simp] theorem Dev.clrBit_lines (off i : Nat) : (d.clrBit off i).lines = d.lines := rfl

@[simp] theorem Dev.addReg_pend (off n : Nat) : (d.addReg off n).pend = d.pend := rfl
@[simp] theorem Dev.addReg_wide (off n : Nat) : (d.addReg off n).wide = d.wide := rfl
@[simp] theorem Dev.addReg_hold (off n : Nat) : (d.addReg off n).hold = d.hold := rfl
@[simp] theorem Dev.addReg_arrivals (off n : Nat) : (d.addReg off n).arrivals = d.arrivals := rfl
@[simp] theorem Dev.addReg_pairs (off n : Nat) : (d.addReg off n).pairs = d.pairs := rfl
@[simp] theorem Dev.addReg_asleep (off n : Nat) : (d.addReg off n).asleep = d.asleep := rfl
@[simp] theorem Dev.addReg_snapTicks (off n : Nat) : (d.addReg off n).snapTicks = d.snapTicks := rfl
@[simp] theorem Dev.addReg_prompter (off n : Nat) : (d.addReg off n).prompter = d.prompter := rfl
@[simp] theorem Dev.addReg_stage (off n : Nat) : (d.addReg off n).stage = d.stage := rfl
@[simp] theorem Dev.addReg_slots (off n : Nat) : (d.addReg off n).slots = d.slots := rfl
@[simp] theorem Dev.addReg_xfers (off n : Nat) : (d.addReg off n).xfers = d.xfers := rfl
@[simp] theorem Dev.addReg_colls (off n : Nat) : (d.addReg off n).colls = d.colls := rfl
@[simp] theorem Dev.addReg_grid (off n : Nat) : (d.addReg off n).grid = d.grid := rfl
@[simp] theorem Dev.addReg_cast (off n : Nat) : (d.addReg off n).cast = d.cast := rfl
@[simp] theorem Dev.addReg_hif (off n : Nat) : (d.addReg off n).hif = d.hif := rfl
@[simp] theorem Dev.addReg_mems (off n : Nat) : (d.addReg off n).mems = d.mems := rfl
@[simp] theorem Dev.addReg_fab (off n : Nat) : (d.addReg off n).fab = d.fab := rfl
@[simp] theorem Dev.addReg_hck (off n : Nat) : (d.addReg off n).hck = d.hck := rfl
@[simp] theorem Dev.addReg_dim (off n : Nat) : (d.addReg off n).dim = d.dim := rfl
@[simp] theorem Dev.addReg_usy (off n : Nat) : (d.addReg off n).usy = d.usy := rfl
@[simp] theorem Dev.addReg_spt (off n : Nat) : (d.addReg off n).spt = d.spt := rfl
@[simp] theorem Dev.addReg_boot (off n : Nat) : (d.addReg off n).boot = d.boot := rfl
@[simp] theorem Dev.addReg_lc (off n : Nat) : (d.addReg off n).lc = d.lc := rfl
@[simp] theorem Dev.addReg_strike (off n : Nat) : (d.addReg off n).strike = d.strike := rfl
@[simp] theorem Dev.addReg_flashOp (off n : Nat) : (d.addReg off n).flashOp = d.flashOp := rfl
@[simp] theorem Dev.addReg_outbox (off n : Nat) : (d.addReg off n).outbox = d.outbox := rfl
@[simp] theorem Dev.addReg_free (off n : Nat) : (d.addReg off n).free = d.free := rfl
@[simp] theorem Dev.addReg_lines (off n : Nat) : (d.addReg off n).lines = d.lines := rfl

@[simp] theorem Dev.count_pend (off : Nat) : (d.count off).pend = d.pend := rfl
@[simp] theorem Dev.count_wide (off : Nat) : (d.count off).wide = d.wide := rfl
@[simp] theorem Dev.count_hold (off : Nat) : (d.count off).hold = d.hold := rfl
@[simp] theorem Dev.count_arrivals (off : Nat) : (d.count off).arrivals = d.arrivals := rfl
@[simp] theorem Dev.count_pairs (off : Nat) : (d.count off).pairs = d.pairs := rfl
@[simp] theorem Dev.count_asleep (off : Nat) : (d.count off).asleep = d.asleep := rfl
@[simp] theorem Dev.count_snapTicks (off : Nat) : (d.count off).snapTicks = d.snapTicks := rfl
@[simp] theorem Dev.count_prompter (off : Nat) : (d.count off).prompter = d.prompter := rfl
@[simp] theorem Dev.count_stage (off : Nat) : (d.count off).stage = d.stage := rfl
@[simp] theorem Dev.count_slots (off : Nat) : (d.count off).slots = d.slots := rfl
@[simp] theorem Dev.count_xfers (off : Nat) : (d.count off).xfers = d.xfers := rfl
@[simp] theorem Dev.count_colls (off : Nat) : (d.count off).colls = d.colls := rfl
@[simp] theorem Dev.count_grid (off : Nat) : (d.count off).grid = d.grid := rfl
@[simp] theorem Dev.count_cast (off : Nat) : (d.count off).cast = d.cast := rfl
@[simp] theorem Dev.count_hif (off : Nat) : (d.count off).hif = d.hif := rfl
@[simp] theorem Dev.count_mems (off : Nat) : (d.count off).mems = d.mems := rfl
@[simp] theorem Dev.count_fab (off : Nat) : (d.count off).fab = d.fab := rfl
@[simp] theorem Dev.count_hck (off : Nat) : (d.count off).hck = d.hck := rfl
@[simp] theorem Dev.count_dim (off : Nat) : (d.count off).dim = d.dim := rfl
@[simp] theorem Dev.count_usy (off : Nat) : (d.count off).usy = d.usy := rfl
@[simp] theorem Dev.count_spt (off : Nat) : (d.count off).spt = d.spt := rfl
@[simp] theorem Dev.count_boot (off : Nat) : (d.count off).boot = d.boot := rfl
@[simp] theorem Dev.count_lc (off : Nat) : (d.count off).lc = d.lc := rfl
@[simp] theorem Dev.count_strike (off : Nat) : (d.count off).strike = d.strike := rfl
@[simp] theorem Dev.count_flashOp (off : Nat) : (d.count off).flashOp = d.flashOp := rfl
@[simp] theorem Dev.count_outbox (off : Nat) : (d.count off).outbox = d.outbox := rfl
@[simp] theorem Dev.count_free (off : Nat) : (d.count off).free = d.free := rfl
@[simp] theorem Dev.count_lines (off : Nat) : (d.count off).lines = d.lines := rfl

@[simp] theorem Dev.setReg64_pend (off v : Nat) : (d.setReg64 off v).pend = d.pend := rfl
@[simp] theorem Dev.setReg64_wide (off v : Nat) : (d.setReg64 off v).wide = d.wide := rfl
@[simp] theorem Dev.setReg64_hold (off v : Nat) : (d.setReg64 off v).hold = d.hold := rfl
@[simp] theorem Dev.setReg64_arrivals (off v : Nat) : (d.setReg64 off v).arrivals = d.arrivals := rfl
@[simp] theorem Dev.setReg64_pairs (off v : Nat) : (d.setReg64 off v).pairs = d.pairs := rfl
@[simp] theorem Dev.setReg64_asleep (off v : Nat) : (d.setReg64 off v).asleep = d.asleep := rfl
@[simp] theorem Dev.setReg64_snapTicks (off v : Nat) : (d.setReg64 off v).snapTicks = d.snapTicks := rfl
@[simp] theorem Dev.setReg64_prompter (off v : Nat) : (d.setReg64 off v).prompter = d.prompter := rfl
@[simp] theorem Dev.setReg64_stage (off v : Nat) : (d.setReg64 off v).stage = d.stage := rfl
@[simp] theorem Dev.setReg64_slots (off v : Nat) : (d.setReg64 off v).slots = d.slots := rfl
@[simp] theorem Dev.setReg64_xfers (off v : Nat) : (d.setReg64 off v).xfers = d.xfers := rfl
@[simp] theorem Dev.setReg64_colls (off v : Nat) : (d.setReg64 off v).colls = d.colls := rfl
@[simp] theorem Dev.setReg64_grid (off v : Nat) : (d.setReg64 off v).grid = d.grid := rfl
@[simp] theorem Dev.setReg64_cast (off v : Nat) : (d.setReg64 off v).cast = d.cast := rfl
@[simp] theorem Dev.setReg64_hif (off v : Nat) : (d.setReg64 off v).hif = d.hif := rfl
@[simp] theorem Dev.setReg64_mems (off v : Nat) : (d.setReg64 off v).mems = d.mems := rfl
@[simp] theorem Dev.setReg64_fab (off v : Nat) : (d.setReg64 off v).fab = d.fab := rfl
@[simp] theorem Dev.setReg64_hck (off v : Nat) : (d.setReg64 off v).hck = d.hck := rfl
@[simp] theorem Dev.setReg64_dim (off v : Nat) : (d.setReg64 off v).dim = d.dim := rfl
@[simp] theorem Dev.setReg64_usy (off v : Nat) : (d.setReg64 off v).usy = d.usy := rfl
@[simp] theorem Dev.setReg64_spt (off v : Nat) : (d.setReg64 off v).spt = d.spt := rfl
@[simp] theorem Dev.setReg64_boot (off v : Nat) : (d.setReg64 off v).boot = d.boot := rfl
@[simp] theorem Dev.setReg64_lc (off v : Nat) : (d.setReg64 off v).lc = d.lc := rfl
@[simp] theorem Dev.setReg64_strike (off v : Nat) : (d.setReg64 off v).strike = d.strike := rfl
@[simp] theorem Dev.setReg64_flashOp (off v : Nat) : (d.setReg64 off v).flashOp = d.flashOp := rfl
@[simp] theorem Dev.setReg64_outbox (off v : Nat) : (d.setReg64 off v).outbox = d.outbox := rfl
@[simp] theorem Dev.setReg64_free (off v : Nat) : (d.setReg64 off v).free = d.free := rfl
@[simp] theorem Dev.setReg64_lines (off v : Nat) : (d.setReg64 off v).lines = d.lines := rfl

@[simp] theorem Dev.wideAdd_regs (off n : Nat) : (d.wideAdd off n).regs = d.regs := rfl
@[simp] theorem Dev.wideAdd_pend (off n : Nat) : (d.wideAdd off n).pend = d.pend := rfl
@[simp] theorem Dev.wideAdd_hold (off n : Nat) : (d.wideAdd off n).hold = d.hold := rfl
@[simp] theorem Dev.wideAdd_arrivals (off n : Nat) : (d.wideAdd off n).arrivals = d.arrivals := rfl
@[simp] theorem Dev.wideAdd_pairs (off n : Nat) : (d.wideAdd off n).pairs = d.pairs := rfl
@[simp] theorem Dev.wideAdd_asleep (off n : Nat) : (d.wideAdd off n).asleep = d.asleep := rfl
@[simp] theorem Dev.wideAdd_snapTicks (off n : Nat) : (d.wideAdd off n).snapTicks = d.snapTicks := rfl
@[simp] theorem Dev.wideAdd_prompter (off n : Nat) : (d.wideAdd off n).prompter = d.prompter := rfl
@[simp] theorem Dev.wideAdd_stage (off n : Nat) : (d.wideAdd off n).stage = d.stage := rfl
@[simp] theorem Dev.wideAdd_slots (off n : Nat) : (d.wideAdd off n).slots = d.slots := rfl
@[simp] theorem Dev.wideAdd_xfers (off n : Nat) : (d.wideAdd off n).xfers = d.xfers := rfl
@[simp] theorem Dev.wideAdd_colls (off n : Nat) : (d.wideAdd off n).colls = d.colls := rfl
@[simp] theorem Dev.wideAdd_grid (off n : Nat) : (d.wideAdd off n).grid = d.grid := rfl
@[simp] theorem Dev.wideAdd_cast (off n : Nat) : (d.wideAdd off n).cast = d.cast := rfl
@[simp] theorem Dev.wideAdd_hif (off n : Nat) : (d.wideAdd off n).hif = d.hif := rfl
@[simp] theorem Dev.wideAdd_mems (off n : Nat) : (d.wideAdd off n).mems = d.mems := rfl
@[simp] theorem Dev.wideAdd_fab (off n : Nat) : (d.wideAdd off n).fab = d.fab := rfl
@[simp] theorem Dev.wideAdd_hck (off n : Nat) : (d.wideAdd off n).hck = d.hck := rfl
@[simp] theorem Dev.wideAdd_dim (off n : Nat) : (d.wideAdd off n).dim = d.dim := rfl
@[simp] theorem Dev.wideAdd_usy (off n : Nat) : (d.wideAdd off n).usy = d.usy := rfl
@[simp] theorem Dev.wideAdd_spt (off n : Nat) : (d.wideAdd off n).spt = d.spt := rfl
@[simp] theorem Dev.wideAdd_boot (off n : Nat) : (d.wideAdd off n).boot = d.boot := rfl
@[simp] theorem Dev.wideAdd_lc (off n : Nat) : (d.wideAdd off n).lc = d.lc := rfl
@[simp] theorem Dev.wideAdd_strike (off n : Nat) : (d.wideAdd off n).strike = d.strike := rfl
@[simp] theorem Dev.wideAdd_flashOp (off n : Nat) : (d.wideAdd off n).flashOp = d.flashOp := rfl
@[simp] theorem Dev.wideAdd_outbox (off n : Nat) : (d.wideAdd off n).outbox = d.outbox := rfl
@[simp] theorem Dev.wideAdd_free (off n : Nat) : (d.wideAdd off n).free = d.free := rfl
@[simp] theorem Dev.wideAdd_lines (off n : Nat) : (d.wideAdd off n).lines = d.lines := rfl

@[simp] theorem Dev.emit_regs (o : Out) : (d.emit o).regs = d.regs := rfl
@[simp] theorem Dev.emit_pend (o : Out) : (d.emit o).pend = d.pend := rfl
@[simp] theorem Dev.emit_wide (o : Out) : (d.emit o).wide = d.wide := rfl
@[simp] theorem Dev.emit_hold (o : Out) : (d.emit o).hold = d.hold := rfl
@[simp] theorem Dev.emit_arrivals (o : Out) : (d.emit o).arrivals = d.arrivals := rfl
@[simp] theorem Dev.emit_pairs (o : Out) : (d.emit o).pairs = d.pairs := rfl
@[simp] theorem Dev.emit_asleep (o : Out) : (d.emit o).asleep = d.asleep := rfl
@[simp] theorem Dev.emit_snapTicks (o : Out) : (d.emit o).snapTicks = d.snapTicks := rfl
@[simp] theorem Dev.emit_prompter (o : Out) : (d.emit o).prompter = d.prompter := rfl
@[simp] theorem Dev.emit_stage (o : Out) : (d.emit o).stage = d.stage := rfl
@[simp] theorem Dev.emit_slots (o : Out) : (d.emit o).slots = d.slots := rfl
@[simp] theorem Dev.emit_xfers (o : Out) : (d.emit o).xfers = d.xfers := rfl
@[simp] theorem Dev.emit_colls (o : Out) : (d.emit o).colls = d.colls := rfl
@[simp] theorem Dev.emit_grid (o : Out) : (d.emit o).grid = d.grid := rfl
@[simp] theorem Dev.emit_cast (o : Out) : (d.emit o).cast = d.cast := rfl
@[simp] theorem Dev.emit_hif (o : Out) : (d.emit o).hif = d.hif := rfl
@[simp] theorem Dev.emit_mems (o : Out) : (d.emit o).mems = d.mems := rfl
@[simp] theorem Dev.emit_fab (o : Out) : (d.emit o).fab = d.fab := rfl
@[simp] theorem Dev.emit_hck (o : Out) : (d.emit o).hck = d.hck := rfl
@[simp] theorem Dev.emit_dim (o : Out) : (d.emit o).dim = d.dim := rfl
@[simp] theorem Dev.emit_usy (o : Out) : (d.emit o).usy = d.usy := rfl
@[simp] theorem Dev.emit_spt (o : Out) : (d.emit o).spt = d.spt := rfl
@[simp] theorem Dev.emit_boot (o : Out) : (d.emit o).boot = d.boot := rfl
@[simp] theorem Dev.emit_lc (o : Out) : (d.emit o).lc = d.lc := rfl
@[simp] theorem Dev.emit_strike (o : Out) : (d.emit o).strike = d.strike := rfl
@[simp] theorem Dev.emit_flashOp (o : Out) : (d.emit o).flashOp = d.flashOp := rfl
@[simp] theorem Dev.emit_free (o : Out) : (d.emit o).free = d.free := rfl
@[simp] theorem Dev.emit_lines (o : Out) : (d.emit o).lines = d.lines := rfl

@[simp] theorem Dev.setPair_regs (q : Nat) (p : Pair) : (d.setPair q p).regs = d.regs := rfl
@[simp] theorem Dev.setPair_pend (q : Nat) (p : Pair) : (d.setPair q p).pend = d.pend := rfl
@[simp] theorem Dev.setPair_wide (q : Nat) (p : Pair) : (d.setPair q p).wide = d.wide := rfl
@[simp] theorem Dev.setPair_hold (q : Nat) (p : Pair) : (d.setPair q p).hold = d.hold := rfl
@[simp] theorem Dev.setPair_arrivals (q : Nat) (p : Pair) : (d.setPair q p).arrivals = d.arrivals := rfl
@[simp] theorem Dev.setPair_pairs (q : Nat) (p : Pair) : (d.setPair q p).pairs = d.pairs := rfl
@[simp] theorem Dev.setPair_asleep (q : Nat) (p : Pair) : (d.setPair q p).asleep = d.asleep := rfl
@[simp] theorem Dev.setPair_snapTicks (q : Nat) (p : Pair) : (d.setPair q p).snapTicks = d.snapTicks := rfl
@[simp] theorem Dev.setPair_prompter (q : Nat) (p : Pair) : (d.setPair q p).prompter = d.prompter := rfl
@[simp] theorem Dev.setPair_stage (q : Nat) (p : Pair) : (d.setPair q p).stage = d.stage := rfl
@[simp] theorem Dev.setPair_slots (q : Nat) (p : Pair) : (d.setPair q p).slots = d.slots := rfl
@[simp] theorem Dev.setPair_xfers (q : Nat) (p : Pair) : (d.setPair q p).xfers = d.xfers := rfl
@[simp] theorem Dev.setPair_colls (q : Nat) (p : Pair) : (d.setPair q p).colls = d.colls := rfl
@[simp] theorem Dev.setPair_grid (q : Nat) (p : Pair) : (d.setPair q p).grid = d.grid := rfl
@[simp] theorem Dev.setPair_cast (q : Nat) (p : Pair) : (d.setPair q p).cast = d.cast := rfl
@[simp] theorem Dev.setPair_mems (q : Nat) (p : Pair) : (d.setPair q p).mems = d.mems := rfl
@[simp] theorem Dev.setPair_fab (q : Nat) (p : Pair) : (d.setPair q p).fab = d.fab := rfl
@[simp] theorem Dev.setPair_hck (q : Nat) (p : Pair) : (d.setPair q p).hck = d.hck := rfl
@[simp] theorem Dev.setPair_dim (q : Nat) (p : Pair) : (d.setPair q p).dim = d.dim := rfl
@[simp] theorem Dev.setPair_usy (q : Nat) (p : Pair) : (d.setPair q p).usy = d.usy := rfl
@[simp] theorem Dev.setPair_spt (q : Nat) (p : Pair) : (d.setPair q p).spt = d.spt := rfl
@[simp] theorem Dev.setPair_boot (q : Nat) (p : Pair) : (d.setPair q p).boot = d.boot := rfl
@[simp] theorem Dev.setPair_lc (q : Nat) (p : Pair) : (d.setPair q p).lc = d.lc := rfl
@[simp] theorem Dev.setPair_strike (q : Nat) (p : Pair) : (d.setPair q p).strike = d.strike := rfl
@[simp] theorem Dev.setPair_flashOp (q : Nat) (p : Pair) : (d.setPair q p).flashOp = d.flashOp := rfl
@[simp] theorem Dev.setPair_outbox (q : Nat) (p : Pair) : (d.setPair q p).outbox = d.outbox := rfl
@[simp] theorem Dev.setPair_free (q : Nat) (p : Pair) : (d.setPair q p).free = d.free := rfl
@[simp] theorem Dev.setPair_lines (q : Nat) (p : Pair) : (d.setPair q p).lines = d.lines := rfl

@[simp] theorem Dev.hostWrite_regs (a : Nat) (bs : List Byte) : (d.hostWrite a bs).regs = d.regs := rfl
@[simp] theorem Dev.hostWrite_pend (a : Nat) (bs : List Byte) : (d.hostWrite a bs).pend = d.pend := rfl
@[simp] theorem Dev.hostWrite_wide (a : Nat) (bs : List Byte) : (d.hostWrite a bs).wide = d.wide := rfl
@[simp] theorem Dev.hostWrite_hold (a : Nat) (bs : List Byte) : (d.hostWrite a bs).hold = d.hold := rfl
@[simp] theorem Dev.hostWrite_arrivals (a : Nat) (bs : List Byte) : (d.hostWrite a bs).arrivals = d.arrivals := rfl
@[simp] theorem Dev.hostWrite_pairs (a : Nat) (bs : List Byte) : (d.hostWrite a bs).pairs = d.pairs := rfl
@[simp] theorem Dev.hostWrite_asleep (a : Nat) (bs : List Byte) : (d.hostWrite a bs).asleep = d.asleep := rfl
@[simp] theorem Dev.hostWrite_snapTicks (a : Nat) (bs : List Byte) : (d.hostWrite a bs).snapTicks = d.snapTicks := rfl
@[simp] theorem Dev.hostWrite_prompter (a : Nat) (bs : List Byte) : (d.hostWrite a bs).prompter = d.prompter := rfl
@[simp] theorem Dev.hostWrite_stage (a : Nat) (bs : List Byte) : (d.hostWrite a bs).stage = d.stage := rfl
@[simp] theorem Dev.hostWrite_slots (a : Nat) (bs : List Byte) : (d.hostWrite a bs).slots = d.slots := rfl
@[simp] theorem Dev.hostWrite_xfers (a : Nat) (bs : List Byte) : (d.hostWrite a bs).xfers = d.xfers := rfl
@[simp] theorem Dev.hostWrite_colls (a : Nat) (bs : List Byte) : (d.hostWrite a bs).colls = d.colls := rfl
@[simp] theorem Dev.hostWrite_grid (a : Nat) (bs : List Byte) : (d.hostWrite a bs).grid = d.grid := rfl
@[simp] theorem Dev.hostWrite_cast (a : Nat) (bs : List Byte) : (d.hostWrite a bs).cast = d.cast := rfl
@[simp] theorem Dev.hostWrite_hif (a : Nat) (bs : List Byte) : (d.hostWrite a bs).hif = d.hif := rfl
@[simp] theorem Dev.hostWrite_fab (a : Nat) (bs : List Byte) : (d.hostWrite a bs).fab = d.fab := rfl
@[simp] theorem Dev.hostWrite_hck (a : Nat) (bs : List Byte) : (d.hostWrite a bs).hck = d.hck := rfl
@[simp] theorem Dev.hostWrite_dim (a : Nat) (bs : List Byte) : (d.hostWrite a bs).dim = d.dim := rfl
@[simp] theorem Dev.hostWrite_usy (a : Nat) (bs : List Byte) : (d.hostWrite a bs).usy = d.usy := rfl
@[simp] theorem Dev.hostWrite_spt (a : Nat) (bs : List Byte) : (d.hostWrite a bs).spt = d.spt := rfl
@[simp] theorem Dev.hostWrite_boot (a : Nat) (bs : List Byte) : (d.hostWrite a bs).boot = d.boot := rfl
@[simp] theorem Dev.hostWrite_lc (a : Nat) (bs : List Byte) : (d.hostWrite a bs).lc = d.lc := rfl
@[simp] theorem Dev.hostWrite_strike (a : Nat) (bs : List Byte) : (d.hostWrite a bs).strike = d.strike := rfl
@[simp] theorem Dev.hostWrite_flashOp (a : Nat) (bs : List Byte) : (d.hostWrite a bs).flashOp = d.flashOp := rfl
@[simp] theorem Dev.hostWrite_outbox (a : Nat) (bs : List Byte) : (d.hostWrite a bs).outbox = d.outbox := rfl
@[simp] theorem Dev.hostWrite_free (a : Nat) (bs : List Byte) : (d.hostWrite a bs).free = d.free := rfl
@[simp] theorem Dev.hostWrite_lines (a : Nat) (bs : List Byte) : (d.hostWrite a bs).lines = d.lines := rfl

@[simp] theorem Dev.setSlot_regs (n : Nat) (x : Slot) : (d.setSlot n x).regs = d.regs := rfl
@[simp] theorem Dev.setSlot_pend (n : Nat) (x : Slot) : (d.setSlot n x).pend = d.pend := rfl
@[simp] theorem Dev.setSlot_wide (n : Nat) (x : Slot) : (d.setSlot n x).wide = d.wide := rfl
@[simp] theorem Dev.setSlot_hold (n : Nat) (x : Slot) : (d.setSlot n x).hold = d.hold := rfl
@[simp] theorem Dev.setSlot_arrivals (n : Nat) (x : Slot) : (d.setSlot n x).arrivals = d.arrivals := rfl
@[simp] theorem Dev.setSlot_pairs (n : Nat) (x : Slot) : (d.setSlot n x).pairs = d.pairs := rfl
@[simp] theorem Dev.setSlot_asleep (n : Nat) (x : Slot) : (d.setSlot n x).asleep = d.asleep := rfl
@[simp] theorem Dev.setSlot_snapTicks (n : Nat) (x : Slot) : (d.setSlot n x).snapTicks = d.snapTicks := rfl
@[simp] theorem Dev.setSlot_prompter (n : Nat) (x : Slot) : (d.setSlot n x).prompter = d.prompter := rfl
@[simp] theorem Dev.setSlot_stage (n : Nat) (x : Slot) : (d.setSlot n x).stage = d.stage := rfl
@[simp] theorem Dev.setSlot_xfers (n : Nat) (x : Slot) : (d.setSlot n x).xfers = d.xfers := rfl
@[simp] theorem Dev.setSlot_colls (n : Nat) (x : Slot) : (d.setSlot n x).colls = d.colls := rfl
@[simp] theorem Dev.setSlot_grid (n : Nat) (x : Slot) : (d.setSlot n x).grid = d.grid := rfl
@[simp] theorem Dev.setSlot_cast (n : Nat) (x : Slot) : (d.setSlot n x).cast = d.cast := rfl
@[simp] theorem Dev.setSlot_hif (n : Nat) (x : Slot) : (d.setSlot n x).hif = d.hif := rfl
@[simp] theorem Dev.setSlot_mems (n : Nat) (x : Slot) : (d.setSlot n x).mems = d.mems := rfl
@[simp] theorem Dev.setSlot_fab (n : Nat) (x : Slot) : (d.setSlot n x).fab = d.fab := rfl
@[simp] theorem Dev.setSlot_hck (n : Nat) (x : Slot) : (d.setSlot n x).hck = d.hck := rfl
@[simp] theorem Dev.setSlot_dim (n : Nat) (x : Slot) : (d.setSlot n x).dim = d.dim := rfl
@[simp] theorem Dev.setSlot_usy (n : Nat) (x : Slot) : (d.setSlot n x).usy = d.usy := rfl
@[simp] theorem Dev.setSlot_spt (n : Nat) (x : Slot) : (d.setSlot n x).spt = d.spt := rfl
@[simp] theorem Dev.setSlot_boot (n : Nat) (x : Slot) : (d.setSlot n x).boot = d.boot := rfl
@[simp] theorem Dev.setSlot_lc (n : Nat) (x : Slot) : (d.setSlot n x).lc = d.lc := rfl
@[simp] theorem Dev.setSlot_strike (n : Nat) (x : Slot) : (d.setSlot n x).strike = d.strike := rfl
@[simp] theorem Dev.setSlot_flashOp (n : Nat) (x : Slot) : (d.setSlot n x).flashOp = d.flashOp := rfl
@[simp] theorem Dev.setSlot_outbox (n : Nat) (x : Slot) : (d.setSlot n x).outbox = d.outbox := rfl
@[simp] theorem Dev.setSlot_free (n : Nat) (x : Slot) : (d.setSlot n x).free = d.free := rfl
@[simp] theorem Dev.setSlot_lines (n : Nat) (x : Slot) : (d.setSlot n x).lines = d.lines := rfl

@[simp] theorem Dev.setCounter_regs (n : Nat) (c : Counter) : (d.setCounter n c).regs = d.regs := rfl
@[simp] theorem Dev.setCounter_pend (n : Nat) (c : Counter) : (d.setCounter n c).pend = d.pend := rfl
@[simp] theorem Dev.setCounter_wide (n : Nat) (c : Counter) : (d.setCounter n c).wide = d.wide := rfl
@[simp] theorem Dev.setCounter_hold (n : Nat) (c : Counter) : (d.setCounter n c).hold = d.hold := rfl
@[simp] theorem Dev.setCounter_arrivals (n : Nat) (c : Counter) : (d.setCounter n c).arrivals = d.arrivals := rfl
@[simp] theorem Dev.setCounter_pairs (n : Nat) (c : Counter) : (d.setCounter n c).pairs = d.pairs := rfl
@[simp] theorem Dev.setCounter_asleep (n : Nat) (c : Counter) : (d.setCounter n c).asleep = d.asleep := rfl
@[simp] theorem Dev.setCounter_snapTicks (n : Nat) (c : Counter) : (d.setCounter n c).snapTicks = d.snapTicks := rfl
@[simp] theorem Dev.setCounter_stage (n : Nat) (c : Counter) : (d.setCounter n c).stage = d.stage := rfl
@[simp] theorem Dev.setCounter_slots (n : Nat) (c : Counter) : (d.setCounter n c).slots = d.slots := rfl
@[simp] theorem Dev.setCounter_xfers (n : Nat) (c : Counter) : (d.setCounter n c).xfers = d.xfers := rfl
@[simp] theorem Dev.setCounter_colls (n : Nat) (c : Counter) : (d.setCounter n c).colls = d.colls := rfl
@[simp] theorem Dev.setCounter_grid (n : Nat) (c : Counter) : (d.setCounter n c).grid = d.grid := rfl
@[simp] theorem Dev.setCounter_cast (n : Nat) (c : Counter) : (d.setCounter n c).cast = d.cast := rfl
@[simp] theorem Dev.setCounter_hif (n : Nat) (c : Counter) : (d.setCounter n c).hif = d.hif := rfl
@[simp] theorem Dev.setCounter_mems (n : Nat) (c : Counter) : (d.setCounter n c).mems = d.mems := rfl
@[simp] theorem Dev.setCounter_fab (n : Nat) (c : Counter) : (d.setCounter n c).fab = d.fab := rfl
@[simp] theorem Dev.setCounter_hck (n : Nat) (c : Counter) : (d.setCounter n c).hck = d.hck := rfl
@[simp] theorem Dev.setCounter_dim (n : Nat) (c : Counter) : (d.setCounter n c).dim = d.dim := rfl
@[simp] theorem Dev.setCounter_usy (n : Nat) (c : Counter) : (d.setCounter n c).usy = d.usy := rfl
@[simp] theorem Dev.setCounter_spt (n : Nat) (c : Counter) : (d.setCounter n c).spt = d.spt := rfl
@[simp] theorem Dev.setCounter_boot (n : Nat) (c : Counter) : (d.setCounter n c).boot = d.boot := rfl
@[simp] theorem Dev.setCounter_lc (n : Nat) (c : Counter) : (d.setCounter n c).lc = d.lc := rfl
@[simp] theorem Dev.setCounter_strike (n : Nat) (c : Counter) : (d.setCounter n c).strike = d.strike := rfl
@[simp] theorem Dev.setCounter_flashOp (n : Nat) (c : Counter) : (d.setCounter n c).flashOp = d.flashOp := rfl
@[simp] theorem Dev.setCounter_outbox (n : Nat) (c : Counter) : (d.setCounter n c).outbox = d.outbox := rfl
@[simp] theorem Dev.setCounter_free (n : Nat) (c : Counter) : (d.setCounter n c).free = d.free := rfl
@[simp] theorem Dev.setCounter_lines (n : Nat) (c : Counter) : (d.setCounter n c).lines = d.lines := rfl

@[simp] theorem Dev.setQueue_regs (q : Nat) (xs : List Transfer) : (d.setQueue q xs).regs = d.regs := rfl
@[simp] theorem Dev.setQueue_pend (q : Nat) (xs : List Transfer) : (d.setQueue q xs).pend = d.pend := rfl
@[simp] theorem Dev.setQueue_wide (q : Nat) (xs : List Transfer) : (d.setQueue q xs).wide = d.wide := rfl
@[simp] theorem Dev.setQueue_hold (q : Nat) (xs : List Transfer) : (d.setQueue q xs).hold = d.hold := rfl
@[simp] theorem Dev.setQueue_arrivals (q : Nat) (xs : List Transfer) : (d.setQueue q xs).arrivals = d.arrivals := rfl
@[simp] theorem Dev.setQueue_pairs (q : Nat) (xs : List Transfer) : (d.setQueue q xs).pairs = d.pairs := rfl
@[simp] theorem Dev.setQueue_asleep (q : Nat) (xs : List Transfer) : (d.setQueue q xs).asleep = d.asleep := rfl
@[simp] theorem Dev.setQueue_snapTicks (q : Nat) (xs : List Transfer) : (d.setQueue q xs).snapTicks = d.snapTicks := rfl
@[simp] theorem Dev.setQueue_prompter (q : Nat) (xs : List Transfer) : (d.setQueue q xs).prompter = d.prompter := rfl
@[simp] theorem Dev.setQueue_stage (q : Nat) (xs : List Transfer) : (d.setQueue q xs).stage = d.stage := rfl
@[simp] theorem Dev.setQueue_slots (q : Nat) (xs : List Transfer) : (d.setQueue q xs).slots = d.slots := rfl
@[simp] theorem Dev.setQueue_colls (q : Nat) (xs : List Transfer) : (d.setQueue q xs).colls = d.colls := rfl
@[simp] theorem Dev.setQueue_grid (q : Nat) (xs : List Transfer) : (d.setQueue q xs).grid = d.grid := rfl
@[simp] theorem Dev.setQueue_cast (q : Nat) (xs : List Transfer) : (d.setQueue q xs).cast = d.cast := rfl
@[simp] theorem Dev.setQueue_hif (q : Nat) (xs : List Transfer) : (d.setQueue q xs).hif = d.hif := rfl
@[simp] theorem Dev.setQueue_mems (q : Nat) (xs : List Transfer) : (d.setQueue q xs).mems = d.mems := rfl
@[simp] theorem Dev.setQueue_fab (q : Nat) (xs : List Transfer) : (d.setQueue q xs).fab = d.fab := rfl
@[simp] theorem Dev.setQueue_hck (q : Nat) (xs : List Transfer) : (d.setQueue q xs).hck = d.hck := rfl
@[simp] theorem Dev.setQueue_dim (q : Nat) (xs : List Transfer) : (d.setQueue q xs).dim = d.dim := rfl
@[simp] theorem Dev.setQueue_usy (q : Nat) (xs : List Transfer) : (d.setQueue q xs).usy = d.usy := rfl
@[simp] theorem Dev.setQueue_spt (q : Nat) (xs : List Transfer) : (d.setQueue q xs).spt = d.spt := rfl
@[simp] theorem Dev.setQueue_boot (q : Nat) (xs : List Transfer) : (d.setQueue q xs).boot = d.boot := rfl
@[simp] theorem Dev.setQueue_lc (q : Nat) (xs : List Transfer) : (d.setQueue q xs).lc = d.lc := rfl
@[simp] theorem Dev.setQueue_strike (q : Nat) (xs : List Transfer) : (d.setQueue q xs).strike = d.strike := rfl
@[simp] theorem Dev.setQueue_flashOp (q : Nat) (xs : List Transfer) : (d.setQueue q xs).flashOp = d.flashOp := rfl
@[simp] theorem Dev.setQueue_outbox (q : Nat) (xs : List Transfer) : (d.setQueue q xs).outbox = d.outbox := rfl
@[simp] theorem Dev.setQueue_free (q : Nat) (xs : List Transfer) : (d.setQueue q xs).free = d.free := rfl
@[simp] theorem Dev.setQueue_lines (q : Nat) (xs : List Transfer) : (d.setQueue q xs).lines = d.lines := rfl

@[simp] theorem Dev.setLantern_regs (l : Nat) (x : Lantern) : (d.setLantern l x).regs = d.regs := rfl
@[simp] theorem Dev.setLantern_pend (l : Nat) (x : Lantern) : (d.setLantern l x).pend = d.pend := rfl
@[simp] theorem Dev.setLantern_wide (l : Nat) (x : Lantern) : (d.setLantern l x).wide = d.wide := rfl
@[simp] theorem Dev.setLantern_hold (l : Nat) (x : Lantern) : (d.setLantern l x).hold = d.hold := rfl
@[simp] theorem Dev.setLantern_arrivals (l : Nat) (x : Lantern) : (d.setLantern l x).arrivals = d.arrivals := rfl
@[simp] theorem Dev.setLantern_pairs (l : Nat) (x : Lantern) : (d.setLantern l x).pairs = d.pairs := rfl
@[simp] theorem Dev.setLantern_asleep (l : Nat) (x : Lantern) : (d.setLantern l x).asleep = d.asleep := rfl
@[simp] theorem Dev.setLantern_snapTicks (l : Nat) (x : Lantern) : (d.setLantern l x).snapTicks = d.snapTicks := rfl
@[simp] theorem Dev.setLantern_prompter (l : Nat) (x : Lantern) : (d.setLantern l x).prompter = d.prompter := rfl
@[simp] theorem Dev.setLantern_stage (l : Nat) (x : Lantern) : (d.setLantern l x).stage = d.stage := rfl
@[simp] theorem Dev.setLantern_slots (l : Nat) (x : Lantern) : (d.setLantern l x).slots = d.slots := rfl
@[simp] theorem Dev.setLantern_xfers (l : Nat) (x : Lantern) : (d.setLantern l x).xfers = d.xfers := rfl
@[simp] theorem Dev.setLantern_colls (l : Nat) (x : Lantern) : (d.setLantern l x).colls = d.colls := rfl
@[simp] theorem Dev.setLantern_cast (l : Nat) (x : Lantern) : (d.setLantern l x).cast = d.cast := rfl
@[simp] theorem Dev.setLantern_hif (l : Nat) (x : Lantern) : (d.setLantern l x).hif = d.hif := rfl
@[simp] theorem Dev.setLantern_mems (l : Nat) (x : Lantern) : (d.setLantern l x).mems = d.mems := rfl
@[simp] theorem Dev.setLantern_fab (l : Nat) (x : Lantern) : (d.setLantern l x).fab = d.fab := rfl
@[simp] theorem Dev.setLantern_hck (l : Nat) (x : Lantern) : (d.setLantern l x).hck = d.hck := rfl
@[simp] theorem Dev.setLantern_dim (l : Nat) (x : Lantern) : (d.setLantern l x).dim = d.dim := rfl
@[simp] theorem Dev.setLantern_usy (l : Nat) (x : Lantern) : (d.setLantern l x).usy = d.usy := rfl
@[simp] theorem Dev.setLantern_spt (l : Nat) (x : Lantern) : (d.setLantern l x).spt = d.spt := rfl
@[simp] theorem Dev.setLantern_boot (l : Nat) (x : Lantern) : (d.setLantern l x).boot = d.boot := rfl
@[simp] theorem Dev.setLantern_lc (l : Nat) (x : Lantern) : (d.setLantern l x).lc = d.lc := rfl
@[simp] theorem Dev.setLantern_strike (l : Nat) (x : Lantern) : (d.setLantern l x).strike = d.strike := rfl
@[simp] theorem Dev.setLantern_flashOp (l : Nat) (x : Lantern) : (d.setLantern l x).flashOp = d.flashOp := rfl
@[simp] theorem Dev.setLantern_outbox (l : Nat) (x : Lantern) : (d.setLantern l x).outbox = d.outbox := rfl
@[simp] theorem Dev.setLantern_free (l : Nat) (x : Lantern) : (d.setLantern l x).free = d.free := rfl
@[simp] theorem Dev.setLantern_lines (l : Nat) (x : Lantern) : (d.setLantern l x).lines = d.lines := rfl

@[simp] theorem Dev.setEdge_regs (u : Nat) (e : EdgeUnit) : (d.setEdge u e).regs = d.regs := rfl
@[simp] theorem Dev.setEdge_pend (u : Nat) (e : EdgeUnit) : (d.setEdge u e).pend = d.pend := rfl
@[simp] theorem Dev.setEdge_wide (u : Nat) (e : EdgeUnit) : (d.setEdge u e).wide = d.wide := rfl
@[simp] theorem Dev.setEdge_hold (u : Nat) (e : EdgeUnit) : (d.setEdge u e).hold = d.hold := rfl
@[simp] theorem Dev.setEdge_arrivals (u : Nat) (e : EdgeUnit) : (d.setEdge u e).arrivals = d.arrivals := rfl
@[simp] theorem Dev.setEdge_pairs (u : Nat) (e : EdgeUnit) : (d.setEdge u e).pairs = d.pairs := rfl
@[simp] theorem Dev.setEdge_asleep (u : Nat) (e : EdgeUnit) : (d.setEdge u e).asleep = d.asleep := rfl
@[simp] theorem Dev.setEdge_snapTicks (u : Nat) (e : EdgeUnit) : (d.setEdge u e).snapTicks = d.snapTicks := rfl
@[simp] theorem Dev.setEdge_prompter (u : Nat) (e : EdgeUnit) : (d.setEdge u e).prompter = d.prompter := rfl
@[simp] theorem Dev.setEdge_stage (u : Nat) (e : EdgeUnit) : (d.setEdge u e).stage = d.stage := rfl
@[simp] theorem Dev.setEdge_slots (u : Nat) (e : EdgeUnit) : (d.setEdge u e).slots = d.slots := rfl
@[simp] theorem Dev.setEdge_xfers (u : Nat) (e : EdgeUnit) : (d.setEdge u e).xfers = d.xfers := rfl
@[simp] theorem Dev.setEdge_colls (u : Nat) (e : EdgeUnit) : (d.setEdge u e).colls = d.colls := rfl
@[simp] theorem Dev.setEdge_cast (u : Nat) (e : EdgeUnit) : (d.setEdge u e).cast = d.cast := rfl
@[simp] theorem Dev.setEdge_hif (u : Nat) (e : EdgeUnit) : (d.setEdge u e).hif = d.hif := rfl
@[simp] theorem Dev.setEdge_mems (u : Nat) (e : EdgeUnit) : (d.setEdge u e).mems = d.mems := rfl
@[simp] theorem Dev.setEdge_fab (u : Nat) (e : EdgeUnit) : (d.setEdge u e).fab = d.fab := rfl
@[simp] theorem Dev.setEdge_hck (u : Nat) (e : EdgeUnit) : (d.setEdge u e).hck = d.hck := rfl
@[simp] theorem Dev.setEdge_dim (u : Nat) (e : EdgeUnit) : (d.setEdge u e).dim = d.dim := rfl
@[simp] theorem Dev.setEdge_usy (u : Nat) (e : EdgeUnit) : (d.setEdge u e).usy = d.usy := rfl
@[simp] theorem Dev.setEdge_spt (u : Nat) (e : EdgeUnit) : (d.setEdge u e).spt = d.spt := rfl
@[simp] theorem Dev.setEdge_boot (u : Nat) (e : EdgeUnit) : (d.setEdge u e).boot = d.boot := rfl
@[simp] theorem Dev.setEdge_lc (u : Nat) (e : EdgeUnit) : (d.setEdge u e).lc = d.lc := rfl
@[simp] theorem Dev.setEdge_strike (u : Nat) (e : EdgeUnit) : (d.setEdge u e).strike = d.strike := rfl
@[simp] theorem Dev.setEdge_flashOp (u : Nat) (e : EdgeUnit) : (d.setEdge u e).flashOp = d.flashOp := rfl
@[simp] theorem Dev.setEdge_outbox (u : Nat) (e : EdgeUnit) : (d.setEdge u e).outbox = d.outbox := rfl
@[simp] theorem Dev.setEdge_free (u : Nat) (e : EdgeUnit) : (d.setEdge u e).free = d.free := rfl
@[simp] theorem Dev.setEdge_lines (u : Nat) (e : EdgeUnit) : (d.setEdge u e).lines = d.lines := rfl

@[simp] theorem Dev.setEntry_regs (s : Nat) (e : Entry) : (d.setEntry s e).regs = d.regs := rfl
@[simp] theorem Dev.setEntry_pend (s : Nat) (e : Entry) : (d.setEntry s e).pend = d.pend := rfl
@[simp] theorem Dev.setEntry_wide (s : Nat) (e : Entry) : (d.setEntry s e).wide = d.wide := rfl
@[simp] theorem Dev.setEntry_hold (s : Nat) (e : Entry) : (d.setEntry s e).hold = d.hold := rfl
@[simp] theorem Dev.setEntry_arrivals (s : Nat) (e : Entry) : (d.setEntry s e).arrivals = d.arrivals := rfl
@[simp] theorem Dev.setEntry_pairs (s : Nat) (e : Entry) : (d.setEntry s e).pairs = d.pairs := rfl
@[simp] theorem Dev.setEntry_asleep (s : Nat) (e : Entry) : (d.setEntry s e).asleep = d.asleep := rfl
@[simp] theorem Dev.setEntry_snapTicks (s : Nat) (e : Entry) : (d.setEntry s e).snapTicks = d.snapTicks := rfl
@[simp] theorem Dev.setEntry_prompter (s : Nat) (e : Entry) : (d.setEntry s e).prompter = d.prompter := rfl
@[simp] theorem Dev.setEntry_stage (s : Nat) (e : Entry) : (d.setEntry s e).stage = d.stage := rfl
@[simp] theorem Dev.setEntry_slots (s : Nat) (e : Entry) : (d.setEntry s e).slots = d.slots := rfl
@[simp] theorem Dev.setEntry_xfers (s : Nat) (e : Entry) : (d.setEntry s e).xfers = d.xfers := rfl
@[simp] theorem Dev.setEntry_colls (s : Nat) (e : Entry) : (d.setEntry s e).colls = d.colls := rfl
@[simp] theorem Dev.setEntry_grid (s : Nat) (e : Entry) : (d.setEntry s e).grid = d.grid := rfl
@[simp] theorem Dev.setEntry_hif (s : Nat) (e : Entry) : (d.setEntry s e).hif = d.hif := rfl
@[simp] theorem Dev.setEntry_mems (s : Nat) (e : Entry) : (d.setEntry s e).mems = d.mems := rfl
@[simp] theorem Dev.setEntry_fab (s : Nat) (e : Entry) : (d.setEntry s e).fab = d.fab := rfl
@[simp] theorem Dev.setEntry_hck (s : Nat) (e : Entry) : (d.setEntry s e).hck = d.hck := rfl
@[simp] theorem Dev.setEntry_dim (s : Nat) (e : Entry) : (d.setEntry s e).dim = d.dim := rfl
@[simp] theorem Dev.setEntry_usy (s : Nat) (e : Entry) : (d.setEntry s e).usy = d.usy := rfl
@[simp] theorem Dev.setEntry_spt (s : Nat) (e : Entry) : (d.setEntry s e).spt = d.spt := rfl
@[simp] theorem Dev.setEntry_boot (s : Nat) (e : Entry) : (d.setEntry s e).boot = d.boot := rfl
@[simp] theorem Dev.setEntry_lc (s : Nat) (e : Entry) : (d.setEntry s e).lc = d.lc := rfl
@[simp] theorem Dev.setEntry_strike (s : Nat) (e : Entry) : (d.setEntry s e).strike = d.strike := rfl
@[simp] theorem Dev.setEntry_flashOp (s : Nat) (e : Entry) : (d.setEntry s e).flashOp = d.flashOp := rfl
@[simp] theorem Dev.setEntry_outbox (s : Nat) (e : Entry) : (d.setEntry s e).outbox = d.outbox := rfl
@[simp] theorem Dev.setEntry_free (s : Nat) (e : Entry) : (d.setEntry s e).free = d.free := rfl
@[simp] theorem Dev.setEntry_lines (s : Nat) (e : Entry) : (d.setEntry s e).lines = d.lines := rfl

@[simp] theorem Dev.setPort_regs (p : Nat) (x : Port) : (d.setPort p x).regs = d.regs := rfl
@[simp] theorem Dev.setPort_pend (p : Nat) (x : Port) : (d.setPort p x).pend = d.pend := rfl
@[simp] theorem Dev.setPort_wide (p : Nat) (x : Port) : (d.setPort p x).wide = d.wide := rfl
@[simp] theorem Dev.setPort_hold (p : Nat) (x : Port) : (d.setPort p x).hold = d.hold := rfl
@[simp] theorem Dev.setPort_arrivals (p : Nat) (x : Port) : (d.setPort p x).arrivals = d.arrivals := rfl
@[simp] theorem Dev.setPort_pairs (p : Nat) (x : Port) : (d.setPort p x).pairs = d.pairs := rfl
@[simp] theorem Dev.setPort_asleep (p : Nat) (x : Port) : (d.setPort p x).asleep = d.asleep := rfl
@[simp] theorem Dev.setPort_snapTicks (p : Nat) (x : Port) : (d.setPort p x).snapTicks = d.snapTicks := rfl
@[simp] theorem Dev.setPort_prompter (p : Nat) (x : Port) : (d.setPort p x).prompter = d.prompter := rfl
@[simp] theorem Dev.setPort_stage (p : Nat) (x : Port) : (d.setPort p x).stage = d.stage := rfl
@[simp] theorem Dev.setPort_slots (p : Nat) (x : Port) : (d.setPort p x).slots = d.slots := rfl
@[simp] theorem Dev.setPort_xfers (p : Nat) (x : Port) : (d.setPort p x).xfers = d.xfers := rfl
@[simp] theorem Dev.setPort_colls (p : Nat) (x : Port) : (d.setPort p x).colls = d.colls := rfl
@[simp] theorem Dev.setPort_grid (p : Nat) (x : Port) : (d.setPort p x).grid = d.grid := rfl
@[simp] theorem Dev.setPort_cast (p : Nat) (x : Port) : (d.setPort p x).cast = d.cast := rfl
@[simp] theorem Dev.setPort_hif (p : Nat) (x : Port) : (d.setPort p x).hif = d.hif := rfl
@[simp] theorem Dev.setPort_mems (p : Nat) (x : Port) : (d.setPort p x).mems = d.mems := rfl
@[simp] theorem Dev.setPort_hck (p : Nat) (x : Port) : (d.setPort p x).hck = d.hck := rfl
@[simp] theorem Dev.setPort_dim (p : Nat) (x : Port) : (d.setPort p x).dim = d.dim := rfl
@[simp] theorem Dev.setPort_usy (p : Nat) (x : Port) : (d.setPort p x).usy = d.usy := rfl
@[simp] theorem Dev.setPort_spt (p : Nat) (x : Port) : (d.setPort p x).spt = d.spt := rfl
@[simp] theorem Dev.setPort_boot (p : Nat) (x : Port) : (d.setPort p x).boot = d.boot := rfl
@[simp] theorem Dev.setPort_lc (p : Nat) (x : Port) : (d.setPort p x).lc = d.lc := rfl
@[simp] theorem Dev.setPort_strike (p : Nat) (x : Port) : (d.setPort p x).strike = d.strike := rfl
@[simp] theorem Dev.setPort_flashOp (p : Nat) (x : Port) : (d.setPort p x).flashOp = d.flashOp := rfl
@[simp] theorem Dev.setPort_outbox (p : Nat) (x : Port) : (d.setPort p x).outbox = d.outbox := rfl
@[simp] theorem Dev.setPort_free (p : Nat) (x : Port) : (d.setPort p x).free = d.free := rfl
@[simp] theorem Dev.setPort_lines (p : Nat) (x : Port) : (d.setPort p x).lines = d.lines := rfl

@[simp] theorem Dev.setColl_regs (x : Collective) : (d.setColl x).regs = d.regs := rfl
@[simp] theorem Dev.setColl_pend (x : Collective) : (d.setColl x).pend = d.pend := rfl
@[simp] theorem Dev.setColl_wide (x : Collective) : (d.setColl x).wide = d.wide := rfl
@[simp] theorem Dev.setColl_hold (x : Collective) : (d.setColl x).hold = d.hold := rfl
@[simp] theorem Dev.setColl_arrivals (x : Collective) : (d.setColl x).arrivals = d.arrivals := rfl
@[simp] theorem Dev.setColl_pairs (x : Collective) : (d.setColl x).pairs = d.pairs := rfl
@[simp] theorem Dev.setColl_asleep (x : Collective) : (d.setColl x).asleep = d.asleep := rfl
@[simp] theorem Dev.setColl_snapTicks (x : Collective) : (d.setColl x).snapTicks = d.snapTicks := rfl
@[simp] theorem Dev.setColl_prompter (x : Collective) : (d.setColl x).prompter = d.prompter := rfl
@[simp] theorem Dev.setColl_stage (x : Collective) : (d.setColl x).stage = d.stage := rfl
@[simp] theorem Dev.setColl_slots (x : Collective) : (d.setColl x).slots = d.slots := rfl
@[simp] theorem Dev.setColl_xfers (x : Collective) : (d.setColl x).xfers = d.xfers := rfl
@[simp] theorem Dev.setColl_grid (x : Collective) : (d.setColl x).grid = d.grid := rfl
@[simp] theorem Dev.setColl_cast (x : Collective) : (d.setColl x).cast = d.cast := rfl
@[simp] theorem Dev.setColl_hif (x : Collective) : (d.setColl x).hif = d.hif := rfl
@[simp] theorem Dev.setColl_mems (x : Collective) : (d.setColl x).mems = d.mems := rfl
@[simp] theorem Dev.setColl_fab (x : Collective) : (d.setColl x).fab = d.fab := rfl
@[simp] theorem Dev.setColl_hck (x : Collective) : (d.setColl x).hck = d.hck := rfl
@[simp] theorem Dev.setColl_dim (x : Collective) : (d.setColl x).dim = d.dim := rfl
@[simp] theorem Dev.setColl_usy (x : Collective) : (d.setColl x).usy = d.usy := rfl
@[simp] theorem Dev.setColl_spt (x : Collective) : (d.setColl x).spt = d.spt := rfl
@[simp] theorem Dev.setColl_boot (x : Collective) : (d.setColl x).boot = d.boot := rfl
@[simp] theorem Dev.setColl_lc (x : Collective) : (d.setColl x).lc = d.lc := rfl
@[simp] theorem Dev.setColl_strike (x : Collective) : (d.setColl x).strike = d.strike := rfl
@[simp] theorem Dev.setColl_flashOp (x : Collective) : (d.setColl x).flashOp = d.flashOp := rfl
@[simp] theorem Dev.setColl_outbox (x : Collective) : (d.setColl x).outbox = d.outbox := rfl
@[simp] theorem Dev.setColl_free (x : Collective) : (d.setColl x).free = d.free := rfl
@[simp] theorem Dev.setColl_lines (x : Collective) : (d.setColl x).lines = d.lines := rfl
@[simp] theorem Dev.pulse_regs (n : Nat) : (d.pulse n).regs = d.regs := rfl
@[simp] theorem Dev.pulse_pend (n : Nat) : (d.pulse n).pend = d.pend := rfl
@[simp] theorem Dev.pulse_wide (n : Nat) : (d.pulse n).wide = d.wide := rfl
@[simp] theorem Dev.pulse_hold (n : Nat) : (d.pulse n).hold = d.hold := rfl
@[simp] theorem Dev.pulse_arrivals (n : Nat) : (d.pulse n).arrivals = d.arrivals := rfl
@[simp] theorem Dev.pulse_pairs (n : Nat) : (d.pulse n).pairs = d.pairs := rfl
@[simp] theorem Dev.pulse_asleep (n : Nat) : (d.pulse n).asleep = d.asleep := rfl
@[simp] theorem Dev.pulse_snapTicks (n : Nat) : (d.pulse n).snapTicks = d.snapTicks := rfl
@[simp] theorem Dev.pulse_prompter (n : Nat) : (d.pulse n).prompter = d.prompter := rfl
@[simp] theorem Dev.pulse_stage (n : Nat) : (d.pulse n).stage = d.stage := rfl
@[simp] theorem Dev.pulse_slots (n : Nat) : (d.pulse n).slots = d.slots := rfl
@[simp] theorem Dev.pulse_xfers (n : Nat) : (d.pulse n).xfers = d.xfers := rfl
@[simp] theorem Dev.pulse_colls (n : Nat) : (d.pulse n).colls = d.colls := rfl
@[simp] theorem Dev.pulse_grid (n : Nat) : (d.pulse n).grid = d.grid := rfl
@[simp] theorem Dev.pulse_cast (n : Nat) : (d.pulse n).cast = d.cast := rfl
@[simp] theorem Dev.pulse_hif (n : Nat) : (d.pulse n).hif = d.hif := rfl
@[simp] theorem Dev.pulse_mems (n : Nat) : (d.pulse n).mems = d.mems := rfl
@[simp] theorem Dev.pulse_fab (n : Nat) : (d.pulse n).fab = d.fab := rfl
@[simp] theorem Dev.pulse_hck (n : Nat) : (d.pulse n).hck = d.hck := rfl
@[simp] theorem Dev.pulse_dim (n : Nat) : (d.pulse n).dim = d.dim := rfl
@[simp] theorem Dev.pulse_usy (n : Nat) : (d.pulse n).usy = d.usy := rfl
@[simp] theorem Dev.pulse_spt (n : Nat) : (d.pulse n).spt = d.spt := rfl
@[simp] theorem Dev.pulse_boot (n : Nat) : (d.pulse n).boot = d.boot := rfl
@[simp] theorem Dev.pulse_lc (n : Nat) : (d.pulse n).lc = d.lc := rfl
@[simp] theorem Dev.pulse_strike (n : Nat) : (d.pulse n).strike = d.strike := rfl
@[simp] theorem Dev.pulse_flashOp (n : Nat) : (d.pulse n).flashOp = d.flashOp := rfl
@[simp] theorem Dev.pulse_outbox (n : Nat) : (d.pulse n).outbox = d.outbox := rfl
@[simp] theorem Dev.pulse_free (n : Nat) : (d.pulse n).free = d.free := rfl

end Sys2Proof.Machine
end

