-- ==== Sys2Proof/Laws/Tab.lean ====
section
/-! SUPPORT. Tables: what a read gives after a write, and that every operation keeps the canonical form. -/
namespace Sys2Proof.Machine

variable {α : Type} {dflt : Nat → α}

/-! ### Read after write -/

theorem tabGet_tabDel_same (t : Tab α) (k : Nat) : tabGet dflt (tabDel t k) k = dflt k := by
  induction t with
  | nil => rfl
  | cons e t ih => unfold tabDel; split <;> simp_all [tabGet]

theorem tabGet_tabDel_other (t : Tab α) {k k' : Nat} (h : k' ≠ k) : tabGet dflt (tabDel t k) k' = tabGet dflt t k' := by
  induction t with
  | nil => rfl
  | cons e t ih => unfold tabDel; split <;> simp_all [tabGet]; grind

theorem tabGet_tabIns_same (t : Tab α) (k : Nat) (v : α) : tabGet dflt (tabIns t k v) k = v := by
  induction t with
  | nil => simp [tabIns, tabGet]
  | cons e t ih => unfold tabIns; split <;> [skip; split] <;> simp_all [tabGet]

theorem tabGet_tabIns_other (t : Tab α) {k k' : Nat} (v : α) (h : k' ≠ k) : tabGet dflt (tabIns t k v) k' = tabGet dflt t k' := by
  induction t with
  | nil => simp [tabIns, tabGet, h.symm]
  | cons e t ih => unfold tabIns; split <;> [skip; split] <;> simp_all [tabGet] <;> grind

/-- A read after a write to the same key gives the value written. -/
@[simp] theorem tabGet_tabSet_same [DecidableEq α] (t : Tab α) (k : Nat) (v : α) : tabGet dflt (tabSet dflt t k v) k = v := by
  unfold tabSet; split
  · simp [tabGet_tabDel_same, *]
  · exact tabGet_tabIns_same t k v

/-- A write leaves every other key alone. -/
theorem tabGet_tabSet_other [DecidableEq α] (t : Tab α) {k k' : Nat} (v : α) (h : k' ≠ k) :
    tabGet dflt (tabSet dflt t k v) k' = tabGet dflt t k' := by
  unfold tabSet; split
  · exact tabGet_tabDel_other t h
  · exact tabGet_tabIns_other t v h

/-- Both at once. -/
theorem tabGet_tabSet [DecidableEq α] (t : Tab α) (k k' : Nat) (v : α) :
    tabGet dflt (tabSet dflt t k v) k' = if k' = k then v else tabGet dflt t k' := by
  split
  · subst_vars; simp
  · exact tabGet_tabSet_other t v ‹_›

/-! ### The canonical form -/

/-- The keys of a canonical table rise strictly and lie above `lo`, as a property. -/
theorem tabRising_iff (t : Tab α) (lo : Option Nat) :
    tabRising lo t = true ↔ t.Pairwise (fun a b => a.1 < b.1) ∧ ∀ j ∈ lo, ∀ e ∈ t, j < e.1 := by
  induction t generalizing lo with
  | nil => simp [tabRising]
  | cons e t ih =>
    cases lo with
    | none => simp [tabRising, ih]; tauto
    | some j => simp [tabRising, ih]; grind

theorem tabWf_iff [DecidableEq α] (t : Tab α) :
    tabWf dflt t = true ↔ t.Pairwise (fun a b => a.1 < b.1) ∧ ∀ e ∈ t, e.2 ≠ dflt e.1 := by
  simp [tabWf, tabRising_iff]

theorem tabDel_sub (t : Tab α) (k : Nat) : (tabDel t k).Sublist t := by
  induction t with
  | nil => simp [tabDel]
  | cons e t ih => unfold tabDel; split <;> grind

theorem mem_tabIns (t : Tab α) (k : Nat) (v : α) {e : Nat × α} (h : e ∈ tabIns t k v) : e = (k, v) ∨ e ∈ t := by
  induction t with
  | nil => simp_all [tabIns]
  | cons x t ih => unfold tabIns at h; split at h <;> [skip; split at h] <;> grind

theorem tabIns_rising (t : Tab α) (k : Nat) (v : α) (h : t.Pairwise (fun a b => a.1 < b.1)) :
    (tabIns t k v).Pairwise (fun a b => a.1 < b.1) := by
  induction t with
  | nil => simp [tabIns]
  | cons x t ih =>
    obtain ⟨j, u⟩ := x
    unfold tabIns
    simp only [List.pairwise_cons] at h
    split
    · subst_vars; simpa using h
    · split
      · simp only [List.pairwise_cons]
        grind
      · simp only [List.pairwise_cons]
        refine ⟨fun e he => ?_, ih h.2⟩
        rcases mem_tabIns t k v he with rfl | he
        · simp; omega
        · exact h.1 e he

/-- A write keeps the canonical form. -/
theorem tabSet_wf [DecidableEq α] (t : Tab α) (k : Nat) (v : α) (h : tabWf dflt t = true) : tabWf dflt (tabSet dflt t k v) = true := by
  rw [tabWf_iff] at h ⊢
  unfold tabSet
  split
  · exact ⟨h.1.sublist (tabDel_sub t k), fun e he => h.2 e ((tabDel_sub t k).subset he)⟩
  · refine ⟨tabIns_rising t k v h.1, fun e he => ?_⟩
    rcases mem_tabIns t k v he with rfl | he
    · assumption
    · exact h.2 e he

theorem tabClear_wf [DecidableEq α] (t : Tab α) (lo hi : Nat) (h : tabWf dflt t = true) : tabWf dflt (tabClear t lo hi) = true := by
  rw [tabWf_iff] at h ⊢
  unfold tabClear
  exact ⟨h.1.filter _, fun e he => h.2 e (List.mem_of_mem_filter he)⟩

theorem tabMap_wf [DecidableEq α] (f : α → α) (t : Tab α) (h : tabWf dflt t = true) : tabWf dflt (tabMap dflt f t) = true := by
  rw [tabWf_iff] at h ⊢
  unfold tabMap
  refine ⟨List.Pairwise.filter _ (List.pairwise_map.mpr (by simpa using h.1)), fun e he => ?_⟩
  simpa using List.of_mem_filter he

/-! ### Memories -/

@[simp] theorem memByte_memPut_same (m : Memory) (a : Nat) (b : Byte) : memByte (memPut m a b) a = b := tabGet_tabSet_same m a b

theorem memByte_memPut_other (m : Memory) {a a' : Nat} (b : Byte) (h : a' ≠ a) : memByte (memPut m a b) a' = memByte m a' :=
  tabGet_tabSet_other m b h

/-- What a byte reads after a write of several: the byte written there, or what it held. -/
theorem memByte_memPuts (m : Memory) (a : Nat) (bs : List Byte) (x : Nat) :
    memByte (memPuts m a bs) x = if a ≤ x ∧ x < a + bs.length then bs.getD (x - a) 0 else memByte m x := by
  induction bs generalizing m a with
  | nil => simp [memPuts]
  | cons b bs ih =>
    rw [memPuts, ih]
    by_cases h : x = a
    · subst h; simp [-not_and]
    · rw [memByte_memPut_other m b h]
      by_cases h1 : a + 1 ≤ x ∧ x < a + 1 + bs.length
      · rw [if_pos h1, if_pos (by simp; omega)]
        obtain ⟨k, rfl⟩ : ∃ k, x = a + 1 + k := ⟨x - (a + 1), by omega⟩
        simp [show a + 1 + k - a = k + 1 by omega]
      · rw [if_neg h1, if_neg (by simp; omega)]

@[simp] theorem memBytes_length (m : Memory) (a n : Nat) : (memBytes m a n).length = n := by
  induction n generalizing a with
  | zero => rfl
  | succ n ih => simp [memBytes, ih]

theorem memBytes_getD (m : Memory) (a n k : Nat) (h : k < n) : (memBytes m a n).getD k 0 = memByte m (a + k) := by
  induction n generalizing a k with
  | zero => omega
  | succ n ih =>
    cases k with
    | zero => simp [memBytes]
    | succ k => simpa [memBytes, show a + 1 + k = a + (k + 1) by omega] using ih (a + 1) k (by omega)

/-- A read of what was just written gives it back. -/
theorem memBytes_memPuts (m : Memory) (a : Nat) (bs : List Byte) : memBytes (memPuts m a bs) a bs.length = bs := by
  apply List.ext_getElem (by simp)
  intro k h1 h2
  have := memBytes_getD (memPuts m a bs) a bs.length k h2
  rw [memByte_memPuts, if_pos (by omega)] at this
  simpa [List.getD_eq_getElem, h1, h2] using this

theorem memPut_wf (m : Memory) (a : Nat) (b : Byte) (h : m.wf = true) : (memPut m a b).wf = true := tabSet_wf m a b h

/-- A write of several bytes keeps the canonical form. -/
theorem memPuts_wf (m : Memory) (a : Nat) (bs : List Byte) (h : m.wf = true) : (memPuts m a bs).wf = true := by
  induction bs generalizing m a with
  | nil => exact h
  | cons b bs ih => exact ih _ _ (memPut_wf m a b h)

end Sys2Proof.Machine
end

