-- ==== Sys2Proof/Laws/Ops.lean ====
section
/-! SUPPORT. The named operations: what each reads back, what it changes, and what it leaves as it was. -/
namespace Sys2Proof.Machine

variable (d : Dev)

/-! ### Registers -/

@[simp] theorem Dev.reg_setReg_same (off : Nat) (v : W32) : (d.setReg off v).reg off = v := by simp [Dev.reg, Dev.setReg]

theorem Dev.reg_setReg (off x : Nat) (v : W32) : (d.setReg off v).reg x = if x = off then v else d.reg x := by
  simp [Dev.reg, Dev.setReg, tabGet_tabSet]

theorem Dev.reg_setReg_other {off x : Nat} (v : W32) (h : x ≠ off) : (d.setReg off v).reg x = d.reg x := by
  simp [Dev.reg_setReg, h]

/-- A register is its stored value alone. -/
theorem Dev.reg_congr {d e : Dev} (h : d.regs = e.regs) (x : Nat) : d.reg x = e.reg x := by simp [Dev.reg, h]

theorem Dev.reg_setFld_other {off x : Nat} (hi lo n : Nat) (h : x ≠ off) : (d.setFld off hi lo n).reg x = d.reg x :=
  d.reg_setReg_other _ h

/-! ### Frames of the operations made of several updates -/


@[simp] theorem Dev.msix_regs (v : Nat) : (d.msix v).regs = d.regs := by unfold Dev.msix; (repeat' split) <;> rfl
@[simp] theorem Dev.msix_pend (v : Nat) : (d.msix v).pend = d.pend := by unfold Dev.msix; (repeat' split) <;> rfl
@[simp] theorem Dev.msix_wide (v : Nat) : (d.msix v).wide = d.wide := by unfold Dev.msix; (repeat' split) <;> rfl
@[simp] theorem Dev.msix_hold (v : Nat) : (d.msix v).hold = d.hold := by unfold Dev.msix; (repeat' split) <;> rfl
@[simp] theorem Dev.msix_arrivals (v : Nat) : (d.msix v).arrivals = d.arrivals := by unfold Dev.msix; (repeat' split) <;> rfl
@[simp] theorem Dev.msix_pairs (v : Nat) : (d.msix v).pairs = d.pairs := by unfold Dev.msix; (repeat' split) <;> rfl
@[simp] theorem Dev.msix_asleep (v : Nat) : (d.msix v).asleep = d.asleep := by unfold Dev.msix; (repeat' split) <;> rfl
@[simp] theorem Dev.msix_snapTicks (v : Nat) : (d.msix v).snapTicks = d.snapTicks := by unfold Dev.msix; (repeat' split) <;> rfl
@[simp] theorem Dev.msix_prompter (v : Nat) : (d.msix v).prompter = d.prompter := by unfold Dev.msix; (repeat' split) <;> rfl
@[simp] theorem Dev.msix_stage (v : Nat) : (d.msix v).stage = d.stage := by unfold Dev.msix; (repeat' split) <;> rfl
@[simp] theorem Dev.msix_slots (v : Nat) : (d.msix v).slots = d.slots := by unfold Dev.msix; (repeat' split) <;> rfl
@[simp] theorem Dev.msix_xfers (v : Nat) : (d.msix v).xfers = d.xfers := by unfold Dev.msix; (repeat' split) <;> rfl
@[simp] theorem Dev.msix_colls (v : Nat) : (d.msix v).colls = d.colls := by unfold Dev.msix; (repeat' split) <;> rfl
@[simp] theorem Dev.msix_grid (v : Nat) : (d.msix v).grid = d.grid := by unfold Dev.msix; (repeat' split) <;> rfl
@[simp] theorem Dev.msix_cast (v : Nat) : (d.msix v).cast = d.cast := by unfold Dev.msix; (repeat' split) <;> rfl
@[simp] theorem Dev.msix_mems (v : Nat) : (d.msix v).mems = d.mems := by unfold Dev.msix; (repeat' split) <;> rfl
@[simp] theorem Dev.msix_fab (v : Nat) : (d.msix v).fab = d.fab := by unfold Dev.msix; (repeat' split) <;> rfl
@[simp] theorem Dev.msix_hck (v : Nat) : (d.msix v).hck = d.hck := by unfold Dev.msix; (repeat' split) <;> rfl
@[simp] theorem Dev.msix_dim (v : Nat) : (d.msix v).dim = d.dim := by unfold Dev.msix; (repeat' split) <;> rfl
@[simp] theorem Dev.msix_usy (v : Nat) : (d.msix v).usy = d.usy := by unfold Dev.msix; (repeat' split) <;> rfl
@[simp] theorem Dev.msix_spt (v : Nat) : (d.msix v).spt = d.spt := by unfold Dev.msix; (repeat' split) <;> rfl
@[simp] theorem Dev.msix_boot (v : Nat) : (d.msix v).boot = d.boot := by unfold Dev.msix; (repeat' split) <;> rfl
@[simp] theorem Dev.msix_lc (v : Nat) : (d.msix v).lc = d.lc := by unfold Dev.msix; (repeat' split) <;> rfl
@[simp] theorem Dev.msix_strike (v : Nat) : (d.msix v).strike = d.strike := by unfold Dev.msix; (repeat' split) <;> rfl
@[simp] theorem Dev.msix_flashOp (v : Nat) : (d.msix v).flashOp = d.flashOp := by unfold Dev.msix; (repeat' split) <;> rfl
@[simp] theorem Dev.msix_free (v : Nat) : (d.msix v).free = d.free := by unfold Dev.msix; (repeat' split) <;> rfl
@[simp] theorem Dev.msix_lines (v : Nat) : (d.msix v).lines = d.lines := by unfold Dev.msix; (repeat' split) <;> rfl

@[simp] theorem Dev.wakeFor_regs (src : Nat) : (d.wakeFor src).regs = d.regs := by unfold Dev.wakeFor; split <;> rfl
@[simp] theorem Dev.wakeFor_pend (src : Nat) : (d.wakeFor src).pend = d.pend := by unfold Dev.wakeFor; split <;> rfl
@[simp] theorem Dev.wakeFor_wide (src : Nat) : (d.wakeFor src).wide = d.wide := by unfold Dev.wakeFor; split <;> rfl
@[simp] theorem Dev.wakeFor_hold (src : Nat) : (d.wakeFor src).hold = d.hold := by unfold Dev.wakeFor; split <;> rfl
@[simp] theorem Dev.wakeFor_arrivals (src : Nat) : (d.wakeFor src).arrivals = d.arrivals := by unfold Dev.wakeFor; split <;> rfl
@[simp] theorem Dev.wakeFor_pairs (src : Nat) : (d.wakeFor src).pairs = d.pairs := by unfold Dev.wakeFor; split <;> rfl
@[simp] theorem Dev.wakeFor_snapTicks (src : Nat) : (d.wakeFor src).snapTicks = d.snapTicks := by unfold Dev.wakeFor; split <;> rfl
@[simp] theorem Dev.wakeFor_prompter (src : Nat) : (d.wakeFor src).prompter = d.prompter := by unfold Dev.wakeFor; split <;> rfl
@[simp] theorem Dev.wakeFor_stage (src : Nat) : (d.wakeFor src).stage = d.stage := by unfold Dev.wakeFor; split <;> rfl
@[simp] theorem Dev.wakeFor_slots (src : Nat) : (d.wakeFor src).slots = d.slots := by unfold Dev.wakeFor; split <;> rfl
@[simp] theorem Dev.wakeFor_xfers (src : Nat) : (d.wakeFor src).xfers = d.xfers := by unfold Dev.wakeFor; split <;> rfl
@[simp] theorem Dev.wakeFor_colls (src : Nat) : (d.wakeFor src).colls = d.colls := by unfold Dev.wakeFor; split <;> rfl
@[simp] theorem Dev.wakeFor_grid (src : Nat) : (d.wakeFor src).grid = d.grid := by unfold Dev.wakeFor; split <;> rfl
@[simp] theorem Dev.wakeFor_cast (src : Nat) : (d.wakeFor src).cast = d.cast := by unfold Dev.wakeFor; split <;> rfl
@[simp] theorem Dev.wakeFor_hif (src : Nat) : (d.wakeFor src).hif = d.hif := by unfold Dev.wakeFor; split <;> rfl
@[simp] theorem Dev.wakeFor_mems (src : Nat) : (d.wakeFor src).mems = d.mems := by unfold Dev.wakeFor; split <;> rfl
@[simp] theorem Dev.wakeFor_fab (src : Nat) : (d.wakeFor src).fab = d.fab := by unfold Dev.wakeFor; split <;> rfl
@[simp] theorem Dev.wakeFor_hck (src : Nat) : (d.wakeFor src).hck = d.hck := by unfold Dev.wakeFor; split <;> rfl
@[simp] theorem Dev.wakeFor_dim (src : Nat) : (d.wakeFor src).dim = d.dim := by unfold Dev.wakeFor; split <;> rfl
@[simp] theorem Dev.wakeFor_usy (src : Nat) : (d.wakeFor src).usy = d.usy := by unfold Dev.wakeFor; split <;> rfl
@[simp] theorem Dev.wakeFor_spt (src : Nat) : (d.wakeFor src).spt = d.spt := by unfold Dev.wakeFor; split <;> rfl
@[simp] theorem Dev.wakeFor_boot (src : Nat) : (d.wakeFor src).boot = d.boot := by unfold Dev.wakeFor; split <;> rfl
@[simp] theorem Dev.wakeFor_lc (src : Nat) : (d.wakeFor src).lc = d.lc := by unfold Dev.wakeFor; split <;> rfl
@[simp] theorem Dev.wakeFor_strike (src : Nat) : (d.wakeFor src).strike = d.strike := by unfold Dev.wakeFor; split <;> rfl
@[simp] theorem Dev.wakeFor_flashOp (src : Nat) : (d.wakeFor src).flashOp = d.flashOp := by unfold Dev.wakeFor; split <;> rfl
@[simp] theorem Dev.wakeFor_outbox (src : Nat) : (d.wakeFor src).outbox = d.outbox := by unfold Dev.wakeFor; split <;> rfl
@[simp] theorem Dev.wakeFor_free (src : Nat) : (d.wakeFor src).free = d.free := by unfold Dev.wakeFor; split <;> rfl
@[simp] theorem Dev.wakeFor_lines (src : Nat) : (d.wakeFor src).lines = d.lines := by unfold Dev.wakeFor; split <;> rfl

@[simp] theorem Dev.deliverHost_regs (src : Nat) : (d.deliverHost src).regs = d.regs := by unfold Dev.deliverHost; split <;> simp
@[simp] theorem Dev.deliverHost_pend (src : Nat) : (d.deliverHost src).pend = d.pend := by unfold Dev.deliverHost; split <;> simp
@[simp] theorem Dev.deliverHost_wide (src : Nat) : (d.deliverHost src).wide = d.wide := by unfold Dev.deliverHost; split <;> simp
@[simp] theorem Dev.deliverHost_hold (src : Nat) : (d.deliverHost src).hold = d.hold := by unfold Dev.deliverHost; split <;> simp
@[simp] theorem Dev.deliverHost_arrivals (src : Nat) : (d.deliverHost src).arrivals = d.arrivals := by unfold Dev.deliverHost; split <;> simp
@[simp] theorem Dev.deliverHost_pairs (src : Nat) : (d.deliverHost src).pairs = d.pairs := by unfold Dev.deliverHost; split <;> simp
@[simp] theorem Dev.deliverHost_asleep (src : Nat) : (d.deliverHost src).asleep = d.asleep := by unfold Dev.deliverHost; split <;> simp
@[simp] theorem Dev.deliverHost_snapTicks (src : Nat) : (d.deliverHost src).snapTicks = d.snapTicks := by unfold Dev.deliverHost; split <;> simp
@[simp] theorem Dev.deliverHost_prompter (src : Nat) : (d.deliverHost src).prompter = d.prompter := by unfold Dev.deliverHost; split <;> simp
@[simp] theorem Dev.deliverHost_stage (src : Nat) : (d.deliverHost src).stage = d.stage := by unfold Dev.deliverHost; split <;> simp
@[simp] theorem Dev.deliverHost_slots (src : Nat) : (d.deliverHost src).slots = d.slots := by unfold Dev.deliverHost; split <;> simp
@[simp] theorem Dev.deliverHost_xfers (src : Nat) : (d.deliverHost src).xfers = d.xfers := by unfold Dev.deliverHost; split <;> simp
@[simp] theorem Dev.deliverHost_colls (src : Nat) : (d.deliverHost src).colls = d.colls := by unfold Dev.deliverHost; split <;> simp
@[simp] theorem Dev.deliverHost_grid (src : Nat) : (d.deliverHost src).grid = d.grid := by unfold Dev.deliverHost; split <;> simp
@[simp] theorem Dev.deliverHost_cast (src : Nat) : (d.deliverHost src).cast = d.cast := by unfold Dev.deliverHost; split <;> simp
@[simp] theorem Dev.deliverHost_mems (src : Nat) : (d.deliverHost src).mems = d.mems := by unfold Dev.deliverHost; split <;> simp
@[simp] theorem Dev.deliverHost_fab (src : Nat) : (d.deliverHost src).fab = d.fab := by unfold Dev.deliverHost; split <;> simp
@[simp] theorem Dev.deliverHost_hck (src : Nat) : (d.deliverHost src).hck = d.hck := by unfold Dev.deliverHost; split <;> simp
@[simp] theorem Dev.deliverHost_dim (src : Nat) : (d.deliverHost src).dim = d.dim := by unfold Dev.deliverHost; split <;> simp
@[simp] theorem Dev.deliverHost_usy (src : Nat) : (d.deliverHost src).usy = d.usy := by unfold Dev.deliverHost; split <;> simp
@[simp] theorem Dev.deliverHost_spt (src : Nat) : (d.deliverHost src).spt = d.spt := by unfold Dev.deliverHost; split <;> simp
@[simp] theorem Dev.deliverHost_boot (src : Nat) : (d.deliverHost src).boot = d.boot := by unfold Dev.deliverHost; split <;> simp
@[simp] theorem Dev.deliverHost_lc (src : Nat) : (d.deliverHost src).lc = d.lc := by unfold Dev.deliverHost; split <;> simp
@[simp] theorem Dev.deliverHost_strike (src : Nat) : (d.deliverHost src).strike = d.strike := by unfold Dev.deliverHost; split <;> simp
@[simp] theorem Dev.deliverHost_flashOp (src : Nat) : (d.deliverHost src).flashOp = d.flashOp := by unfold Dev.deliverHost; split <;> simp
@[simp] theorem Dev.deliverHost_free (src : Nat) : (d.deliverHost src).free = d.free := by unfold Dev.deliverHost; split <;> simp
@[simp] theorem Dev.deliverHost_lines (src : Nat) : (d.deliverHost src).lines = d.lines := by unfold Dev.deliverHost; split <;> simp

@[simp] theorem Dev.raise_regs (src : Nat) : (d.raise src).regs = d.regs := by
  unfold Dev.raise
  dsimp only
  split <;> simp
@[simp] theorem Dev.raise_pend (src : Nat) : (d.raise src).pend = d.pend := by
  unfold Dev.raise
  dsimp only
  split <;> simp
@[simp] theorem Dev.raise_wide (src : Nat) : (d.raise src).wide = d.wide := by
  unfold Dev.raise
  dsimp only
  split <;> simp
@[simp] theorem Dev.raise_hold (src : Nat) : (d.raise src).hold = d.hold := by
  unfold Dev.raise
  dsimp only
  split <;> simp
@[simp] theorem Dev.raise_pairs (src : Nat) : (d.raise src).pairs = d.pairs := by
  unfold Dev.raise
  dsimp only
  split <;> simp
@[simp] theorem Dev.raise_snapTicks (src : Nat) : (d.raise src).snapTicks = d.snapTicks := by
  unfold Dev.raise
  dsimp only
  split <;> simp
@[simp] theorem Dev.raise_prompter (src : Nat) : (d.raise src).prompter = d.prompter := by
  unfold Dev.raise
  dsimp only
  split <;> simp
@[simp] theorem Dev.raise_stage (src : Nat) : (d.raise src).stage = d.stage := by
  unfold Dev.raise
  dsimp only
  split <;> simp
@[simp] theorem Dev.raise_slots (src : Nat) : (d.raise src).slots = d.slots := by
  unfold Dev.raise
  dsimp only
  split <;> simp
@[simp] theorem Dev.raise_xfers (src : Nat) : (d.raise src).xfers = d.xfers := by
  unfold Dev.raise
  dsimp only
  split <;> simp
@[simp] theorem Dev.raise_colls (src : Nat) : (d.raise src).colls = d.colls := by
  unfold Dev.raise
  dsimp only
  split <;> simp
@[simp] theorem Dev.raise_grid (src : Nat) : (d.raise src).grid = d.grid := by
  unfold Dev.raise
  dsimp only
  split <;> simp
@[simp] theorem Dev.raise_cast (src : Nat) : (d.raise src).cast = d.cast := by
  unfold Dev.raise
  dsimp only
  split <;> simp
@[simp] theorem Dev.raise_mems (src : Nat) : (d.raise src).mems = d.mems := by
  unfold Dev.raise
  dsimp only
  split <;> simp
@[simp] theorem Dev.raise_fab (src : Nat) : (d.raise src).fab = d.fab := by
  unfold Dev.raise
  dsimp only
  split <;> simp
@[simp] theorem Dev.raise_hck (src : Nat) : (d.raise src).hck = d.hck := by
  unfold Dev.raise
  dsimp only
  split <;> simp
@[simp] theorem Dev.raise_dim (src : Nat) : (d.raise src).dim = d.dim := by
  unfold Dev.raise
  dsimp only
  split <;> simp
@[simp] theorem Dev.raise_usy (src : Nat) : (d.raise src).usy = d.usy := by
  unfold Dev.raise
  dsimp only
  split <;> simp
@[simp] theorem Dev.raise_spt (src : Nat) : (d.raise src).spt = d.spt := by
  unfold Dev.raise
  dsimp only
  split <;> simp
@[simp] theorem Dev.raise_boot (src : Nat) : (d.raise src).boot = d.boot := by
  unfold Dev.raise
  dsimp only
  split <;> simp
@[simp] theorem Dev.raise_lc (src : Nat) : (d.raise src).lc = d.lc := by
  unfold Dev.raise
  dsimp only
  split <;> simp
@[simp] theorem Dev.raise_strike (src : Nat) : (d.raise src).strike = d.strike := by
  unfold Dev.raise
  dsimp only
  split <;> simp
@[simp] theorem Dev.raise_flashOp (src : Nat) : (d.raise src).flashOp = d.flashOp := by
  unfold Dev.raise
  dsimp only
  split <;> simp
@[simp] theorem Dev.raise_free (src : Nat) : (d.raise src).free = d.free := by
  unfold Dev.raise
  dsimp only
  split <;> simp

@[simp] theorem Dev.flagRaise_pend (off i src : Nat) : (d.flagRaise off i src).pend = d.pend := by simp [Dev.flagRaise]
@[simp] theorem Dev.flagRaise_wide (off i src : Nat) : (d.flagRaise off i src).wide = d.wide := by simp [Dev.flagRaise]
@[simp] theorem Dev.flagRaise_hold (off i src : Nat) : (d.flagRaise off i src).hold = d.hold := by simp [Dev.flagRaise]
@[simp] theorem Dev.flagRaise_pairs (off i src : Nat) : (d.flagRaise off i src).pairs = d.pairs := by simp [Dev.flagRaise]
@[simp] theorem Dev.flagRaise_snapTicks (off i src : Nat) : (d.flagRaise off i src).snapTicks = d.snapTicks := by simp [Dev.flagRaise]
@[simp] theorem Dev.flagRaise_prompter (off i src : Nat) : (d.flagRaise off i src).prompter = d.prompter := by simp [Dev.flagRaise]
@[simp] theorem Dev.flagRaise_stage (off i src : Nat) : (d.flagRaise off i src).stage = d.stage := by simp [Dev.flagRaise]
@[simp] theorem Dev.flagRaise_slots (off i src : Nat) : (d.flagRaise off i src).slots = d.slots := by simp [Dev.flagRaise]
@[simp] theorem Dev.flagRaise_xfers (off i src : Nat) : (d.flagRaise off i src).xfers = d.xfers := by simp [Dev.flagRaise]
@[simp] theorem Dev.flagRaise_colls (off i src : Nat) : (d.flagRaise off i src).colls = d.colls := by simp [Dev.flagRaise]
@[simp] theorem Dev.flagRaise_grid (off i src : Nat) : (d.flagRaise off i src).grid = d.grid := by simp [Dev.flagRaise]
@[simp] theorem Dev.flagRaise_cast (off i src : Nat) : (d.flagRaise off i src).cast = d.cast := by simp [Dev.flagRaise]
@[simp] theorem Dev.flagRaise_mems (off i src : Nat) : (d.flagRaise off i src).mems = d.mems := by simp [Dev.flagRaise]
@[simp] theorem Dev.flagRaise_fab (off i src : Nat) : (d.flagRaise off i src).fab = d.fab := by simp [Dev.flagRaise]
@[simp] theorem Dev.flagRaise_hck (off i src : Nat) : (d.flagRaise off i src).hck = d.hck := by simp [Dev.flagRaise]
@[simp] theorem Dev.flagRaise_dim (off i src : Nat) : (d.flagRaise off i src).dim = d.dim := by simp [Dev.flagRaise]
@[simp] theorem Dev.flagRaise_usy (off i src : Nat) : (d.flagRaise off i src).usy = d.usy := by simp [Dev.flagRaise]
@[simp] theorem Dev.flagRaise_spt (off i src : Nat) : (d.flagRaise off i src).spt = d.spt := by simp [Dev.flagRaise]
@[simp] theorem Dev.flagRaise_boot (off i src : Nat) : (d.flagRaise off i src).boot = d.boot := by simp [Dev.flagRaise]
@[simp] theorem Dev.flagRaise_lc (off i src : Nat) : (d.flagRaise off i src).lc = d.lc := by simp [Dev.flagRaise]
@[simp] theorem Dev.flagRaise_strike (off i src : Nat) : (d.flagRaise off i src).strike = d.strike := by simp [Dev.flagRaise]
@[simp] theorem Dev.flagRaise_flashOp (off i src : Nat) : (d.flagRaise off i src).flashOp = d.flashOp := by simp [Dev.flagRaise]
@[simp] theorem Dev.flagRaise_free (off i src : Nat) : (d.flagRaise off i src).free = d.free := by simp [Dev.flagRaise]

@[simp] theorem Dev.cqSignal_regs (q : Nat) : (d.cqSignal q).regs = d.regs := by simp [Dev.cqSignal]
@[simp] theorem Dev.cqSignal_pend (q : Nat) : (d.cqSignal q).pend = d.pend := by simp [Dev.cqSignal]
@[simp] theorem Dev.cqSignal_wide (q : Nat) : (d.cqSignal q).wide = d.wide := by simp [Dev.cqSignal]
@[simp] theorem Dev.cqSignal_hold (q : Nat) : (d.cqSignal q).hold = d.hold := by simp [Dev.cqSignal]
@[simp] theorem Dev.cqSignal_arrivals (q : Nat) : (d.cqSignal q).arrivals = d.arrivals := by simp [Dev.cqSignal]
@[simp] theorem Dev.cqSignal_pairs (q : Nat) : (d.cqSignal q).pairs = d.pairs := by simp [Dev.cqSignal]
@[simp] theorem Dev.cqSignal_asleep (q : Nat) : (d.cqSignal q).asleep = d.asleep := by simp [Dev.cqSignal]
@[simp] theorem Dev.cqSignal_snapTicks (q : Nat) : (d.cqSignal q).snapTicks = d.snapTicks := by simp [Dev.cqSignal]
@[simp] theorem Dev.cqSignal_prompter (q : Nat) : (d.cqSignal q).prompter = d.prompter := by simp [Dev.cqSignal]
@[simp] theorem Dev.cqSignal_stage (q : Nat) : (d.cqSignal q).stage = d.stage := by simp [Dev.cqSignal]
@[simp] theorem Dev.cqSignal_slots (q : Nat) : (d.cqSignal q).slots = d.slots := by simp [Dev.cqSignal]
@[simp] theorem Dev.cqSignal_xfers (q : Nat) : (d.cqSignal q).xfers = d.xfers := by simp [Dev.cqSignal]
@[simp] theorem Dev.cqSignal_colls (q : Nat) : (d.cqSignal q).colls = d.colls := by simp [Dev.cqSignal]
@[simp] theorem Dev.cqSignal_grid (q : Nat) : (d.cqSignal q).grid = d.grid := by simp [Dev.cqSignal]
@[simp] theorem Dev.cqSignal_cast (q : Nat) : (d.cqSignal q).cast = d.cast := by simp [Dev.cqSignal]
@[simp] theorem Dev.cqSignal_mems (q : Nat) : (d.cqSignal q).mems = d.mems := by simp [Dev.cqSignal]
@[simp] theorem Dev.cqSignal_fab (q : Nat) : (d.cqSignal q).fab = d.fab := by simp [Dev.cqSignal]
@[simp] theorem Dev.cqSignal_hck (q : Nat) : (d.cqSignal q).hck = d.hck := by simp [Dev.cqSignal]
@[simp] theorem Dev.cqSignal_dim (q : Nat) : (d.cqSignal q).dim = d.dim := by simp [Dev.cqSignal]
@[simp] theorem Dev.cqSignal_usy (q : Nat) : (d.cqSignal q).usy = d.usy := by simp [Dev.cqSignal]
@[simp] theorem Dev.cqSignal_spt (q : Nat) : (d.cqSignal q).spt = d.spt := by simp [Dev.cqSignal]
@[simp] theorem Dev.cqSignal_boot (q : Nat) : (d.cqSignal q).boot = d.boot := by simp [Dev.cqSignal]
@[simp] theorem Dev.cqSignal_lc (q : Nat) : (d.cqSignal q).lc = d.lc := by simp [Dev.cqSignal]
@[simp] theorem Dev.cqSignal_strike (q : Nat) : (d.cqSignal q).strike = d.strike := by simp [Dev.cqSignal]
@[simp] theorem Dev.cqSignal_flashOp (q : Nat) : (d.cqSignal q).flashOp = d.flashOp := by simp [Dev.cqSignal]
@[simp] theorem Dev.cqSignal_free (q : Nat) : (d.cqSignal q).free = d.free := by simp [Dev.cqSignal]
@[simp] theorem Dev.cqSignal_lines (q : Nat) : (d.cqSignal q).lines = d.lines := by simp [Dev.cqSignal]

@[simp] theorem Dev.cqWrite_regs (q : Nat) (e : List Byte) : (d.cqWrite q e).regs = d.regs := by simp [Dev.cqWrite, apply_ite Dev.regs]
@[simp] theorem Dev.cqWrite_pend (q : Nat) (e : List Byte) : (d.cqWrite q e).pend = d.pend := by simp [Dev.cqWrite, apply_ite Dev.pend]
@[simp] theorem Dev.cqWrite_wide (q : Nat) (e : List Byte) : (d.cqWrite q e).wide = d.wide := by simp [Dev.cqWrite, apply_ite Dev.wide]
@[simp] theorem Dev.cqWrite_hold (q : Nat) (e : List Byte) : (d.cqWrite q e).hold = d.hold := by simp [Dev.cqWrite, apply_ite Dev.hold]
@[simp] theorem Dev.cqWrite_arrivals (q : Nat) (e : List Byte) : (d.cqWrite q e).arrivals = d.arrivals := by simp [Dev.cqWrite, apply_ite Dev.arrivals]
@[simp] theorem Dev.cqWrite_pairs (q : Nat) (e : List Byte) : (d.cqWrite q e).pairs = d.pairs := by simp [Dev.cqWrite, apply_ite Dev.pairs]
@[simp] theorem Dev.cqWrite_asleep (q : Nat) (e : List Byte) : (d.cqWrite q e).asleep = d.asleep := by simp [Dev.cqWrite, apply_ite Dev.asleep]
@[simp] theorem Dev.cqWrite_snapTicks (q : Nat) (e : List Byte) : (d.cqWrite q e).snapTicks = d.snapTicks := by simp [Dev.cqWrite, apply_ite Dev.snapTicks]
@[simp] theorem Dev.cqWrite_prompter (q : Nat) (e : List Byte) : (d.cqWrite q e).prompter = d.prompter := by simp [Dev.cqWrite, apply_ite Dev.prompter]
@[simp] theorem Dev.cqWrite_stage (q : Nat) (e : List Byte) : (d.cqWrite q e).stage = d.stage := by simp [Dev.cqWrite, apply_ite Dev.stage]
@[simp] theorem Dev.cqWrite_slots (q : Nat) (e : List Byte) : (d.cqWrite q e).slots = d.slots := by simp [Dev.cqWrite, apply_ite Dev.slots]
@[simp] theorem Dev.cqWrite_xfers (q : Nat) (e : List Byte) : (d.cqWrite q e).xfers = d.xfers := by simp [Dev.cqWrite, apply_ite Dev.xfers]
@[simp] theorem Dev.cqWrite_colls (q : Nat) (e : List Byte) : (d.cqWrite q e).colls = d.colls := by simp [Dev.cqWrite, apply_ite Dev.colls]
@[simp] theorem Dev.cqWrite_grid (q : Nat) (e : List Byte) : (d.cqWrite q e).grid = d.grid := by simp [Dev.cqWrite, apply_ite Dev.grid]
@[simp] theorem Dev.cqWrite_cast (q : Nat) (e : List Byte) : (d.cqWrite q e).cast = d.cast := by simp [Dev.cqWrite, apply_ite Dev.cast]
@[simp] theorem Dev.cqWrite_fab (q : Nat) (e : List Byte) : (d.cqWrite q e).fab = d.fab := by simp [Dev.cqWrite, apply_ite Dev.fab]
@[simp] theorem Dev.cqWrite_hck (q : Nat) (e : List Byte) : (d.cqWrite q e).hck = d.hck := by simp [Dev.cqWrite, apply_ite Dev.hck]
@[simp] theorem Dev.cqWrite_dim (q : Nat) (e : List Byte) : (d.cqWrite q e).dim = d.dim := by simp [Dev.cqWrite, apply_ite Dev.dim]
@[simp] theorem Dev.cqWrite_usy (q : Nat) (e : List Byte) : (d.cqWrite q e).usy = d.usy := by simp [Dev.cqWrite, apply_ite Dev.usy]
@[simp] theorem Dev.cqWrite_spt (q : Nat) (e : List Byte) : (d.cqWrite q e).spt = d.spt := by simp [Dev.cqWrite, apply_ite Dev.spt]
@[simp] theorem Dev.cqWrite_boot (q : Nat) (e : List Byte) : (d.cqWrite q e).boot = d.boot := by simp [Dev.cqWrite, apply_ite Dev.boot]
@[simp] theorem Dev.cqWrite_lc (q : Nat) (e : List Byte) : (d.cqWrite q e).lc = d.lc := by simp [Dev.cqWrite, apply_ite Dev.lc]
@[simp] theorem Dev.cqWrite_strike (q : Nat) (e : List Byte) : (d.cqWrite q e).strike = d.strike := by simp [Dev.cqWrite, apply_ite Dev.strike]
@[simp] theorem Dev.cqWrite_flashOp (q : Nat) (e : List Byte) : (d.cqWrite q e).flashOp = d.flashOp := by simp [Dev.cqWrite, apply_ite Dev.flashOp]
@[simp] theorem Dev.cqWrite_free (q : Nat) (e : List Byte) : (d.cqWrite q e).free = d.free := by simp [Dev.cqWrite, apply_ite Dev.free]
@[simp] theorem Dev.cqWrite_lines (q : Nat) (e : List Byte) : (d.cqWrite q e).lines = d.lines := by simp [Dev.cqWrite, apply_ite Dev.lines]

@[simp] theorem Dev.post_regs (q : Nat) (e : List Byte) : (d.post q e).regs = d.regs := by simp [Dev.post, apply_ite Dev.regs]
@[simp] theorem Dev.post_pend (q : Nat) (e : List Byte) : (d.post q e).pend = d.pend := by simp [Dev.post, apply_ite Dev.pend]
@[simp] theorem Dev.post_wide (q : Nat) (e : List Byte) : (d.post q e).wide = d.wide := by simp [Dev.post, apply_ite Dev.wide]
@[simp] theorem Dev.post_hold (q : Nat) (e : List Byte) : (d.post q e).hold = d.hold := by simp [Dev.post, apply_ite Dev.hold]
@[simp] theorem Dev.post_arrivals (q : Nat) (e : List Byte) : (d.post q e).arrivals = d.arrivals := by simp [Dev.post, apply_ite Dev.arrivals]
@[simp] theorem Dev.post_pairs (q : Nat) (e : List Byte) : (d.post q e).pairs = d.pairs := by simp [Dev.post, apply_ite Dev.pairs]
@[simp] theorem Dev.post_asleep (q : Nat) (e : List Byte) : (d.post q e).asleep = d.asleep := by simp [Dev.post, apply_ite Dev.asleep]
@[simp] theorem Dev.post_snapTicks (q : Nat) (e : List Byte) : (d.post q e).snapTicks = d.snapTicks := by simp [Dev.post, apply_ite Dev.snapTicks]
@[simp] theorem Dev.post_prompter (q : Nat) (e : List Byte) : (d.post q e).prompter = d.prompter := by simp [Dev.post, apply_ite Dev.prompter]
@[simp] theorem Dev.post_stage (q : Nat) (e : List Byte) : (d.post q e).stage = d.stage := by simp [Dev.post, apply_ite Dev.stage]
@[simp] theorem Dev.post_slots (q : Nat) (e : List Byte) : (d.post q e).slots = d.slots := by simp [Dev.post, apply_ite Dev.slots]
@[simp] theorem Dev.post_xfers (q : Nat) (e : List Byte) : (d.post q e).xfers = d.xfers := by simp [Dev.post, apply_ite Dev.xfers]
@[simp] theorem Dev.post_colls (q : Nat) (e : List Byte) : (d.post q e).colls = d.colls := by simp [Dev.post, apply_ite Dev.colls]
@[simp] theorem Dev.post_grid (q : Nat) (e : List Byte) : (d.post q e).grid = d.grid := by simp [Dev.post, apply_ite Dev.grid]
@[simp] theorem Dev.post_cast (q : Nat) (e : List Byte) : (d.post q e).cast = d.cast := by simp [Dev.post, apply_ite Dev.cast]
@[simp] theorem Dev.post_fab (q : Nat) (e : List Byte) : (d.post q e).fab = d.fab := by simp [Dev.post, apply_ite Dev.fab]
@[simp] theorem Dev.post_hck (q : Nat) (e : List Byte) : (d.post q e).hck = d.hck := by simp [Dev.post, apply_ite Dev.hck]
@[simp] theorem Dev.post_dim (q : Nat) (e : List Byte) : (d.post q e).dim = d.dim := by simp [Dev.post, apply_ite Dev.dim]
@[simp] theorem Dev.post_usy (q : Nat) (e : List Byte) : (d.post q e).usy = d.usy := by simp [Dev.post, apply_ite Dev.usy]
@[simp] theorem Dev.post_spt (q : Nat) (e : List Byte) : (d.post q e).spt = d.spt := by simp [Dev.post, apply_ite Dev.spt]
@[simp] theorem Dev.post_boot (q : Nat) (e : List Byte) : (d.post q e).boot = d.boot := by simp [Dev.post, apply_ite Dev.boot]
@[simp] theorem Dev.post_lc (q : Nat) (e : List Byte) : (d.post q e).lc = d.lc := by simp [Dev.post, apply_ite Dev.lc]
@[simp] theorem Dev.post_strike (q : Nat) (e : List Byte) : (d.post q e).strike = d.strike := by simp [Dev.post, apply_ite Dev.strike]
@[simp] theorem Dev.post_flashOp (q : Nat) (e : List Byte) : (d.post q e).flashOp = d.flashOp := by simp [Dev.post, apply_ite Dev.flashOp]
@[simp] theorem Dev.post_free (q : Nat) (e : List Byte) : (d.post q e).free = d.free := by simp [Dev.post, apply_ite Dev.free]
@[simp] theorem Dev.post_lines (q : Nat) (e : List Byte) : (d.post q e).lines = d.lines := by simp [Dev.post, apply_ite Dev.lines]

@[simp] theorem Dev.completeWith_regs (c : Submission) (st : Status) (reason r0 r1 r2 : Nat) : (d.completeWith c st reason r0 r1 r2).regs = d.regs := by simp [Dev.completeWith]
@[simp] theorem Dev.completeWith_pend (c : Submission) (st : Status) (reason r0 r1 r2 : Nat) : (d.completeWith c st reason r0 r1 r2).pend = d.pend := by simp [Dev.completeWith]
@[simp] theorem Dev.completeWith_wide (c : Submission) (st : Status) (reason r0 r1 r2 : Nat) : (d.completeWith c st reason r0 r1 r2).wide = d.wide := by simp [Dev.completeWith]
@[simp] theorem Dev.completeWith_hold (c : Submission) (st : Status) (reason r0 r1 r2 : Nat) : (d.completeWith c st reason r0 r1 r2).hold = d.hold := by simp [Dev.completeWith]
@[simp] theorem Dev.completeWith_arrivals (c : Submission) (st : Status) (reason r0 r1 r2 : Nat) : (d.completeWith c st reason r0 r1 r2).arrivals = d.arrivals := by simp [Dev.completeWith]
@[simp] theorem Dev.completeWith_pairs (c : Submission) (st : Status) (reason r0 r1 r2 : Nat) : (d.completeWith c st reason r0 r1 r2).pairs = d.pairs := by simp [Dev.completeWith]
@[simp] theorem Dev.completeWith_asleep (c : Submission) (st : Status) (reason r0 r1 r2 : Nat) : (d.completeWith c st reason r0 r1 r2).asleep = d.asleep := by simp [Dev.completeWith]
@[simp] theorem Dev.completeWith_snapTicks (c : Submission) (st : Status) (reason r0 r1 r2 : Nat) : (d.completeWith c st reason r0 r1 r2).snapTicks = d.snapTicks := by simp [Dev.completeWith]
@[simp] theorem Dev.completeWith_prompter (c : Submission) (st : Status) (reason r0 r1 r2 : Nat) : (d.completeWith c st reason r0 r1 r2).prompter = d.prompter := by simp [Dev.completeWith]
@[simp] theorem Dev.completeWith_stage (c : Submission) (st : Status) (reason r0 r1 r2 : Nat) : (d.completeWith c st reason r0 r1 r2).stage = d.stage := by simp [Dev.completeWith]
@[simp] theorem Dev.completeWith_slots (c : Submission) (st : Status) (reason r0 r1 r2 : Nat) : (d.completeWith c st reason r0 r1 r2).slots = d.slots := by simp [Dev.completeWith]
@[simp] theorem Dev.completeWith_xfers (c : Submission) (st : Status) (reason r0 r1 r2 : Nat) : (d.completeWith c st reason r0 r1 r2).xfers = d.xfers := by simp [Dev.completeWith]
@[simp] theorem Dev.completeWith_colls (c : Submission) (st : Status) (reason r0 r1 r2 : Nat) : (d.completeWith c st reason r0 r1 r2).colls = d.colls := by simp [Dev.completeWith]
@[simp] theorem Dev.completeWith_grid (c : Submission) (st : Status) (reason r0 r1 r2 : Nat) : (d.completeWith c st reason r0 r1 r2).grid = d.grid := by simp [Dev.completeWith]
@[simp] theorem Dev.completeWith_cast (c : Submission) (st : Status) (reason r0 r1 r2 : Nat) : (d.completeWith c st reason r0 r1 r2).cast = d.cast := by simp [Dev.completeWith]
@[simp] theorem Dev.completeWith_fab (c : Submission) (st : Status) (reason r0 r1 r2 : Nat) : (d.completeWith c st reason r0 r1 r2).fab = d.fab := by simp [Dev.completeWith]
@[simp] theorem Dev.completeWith_hck (c : Submission) (st : Status) (reason r0 r1 r2 : Nat) : (d.completeWith c st reason r0 r1 r2).hck = d.hck := by simp [Dev.completeWith]
@[simp] theorem Dev.completeWith_dim (c : Submission) (st : Status) (reason r0 r1 r2 : Nat) : (d.completeWith c st reason r0 r1 r2).dim = d.dim := by simp [Dev.completeWith]
@[simp] theorem Dev.completeWith_usy (c : Submission) (st : Status) (reason r0 r1 r2 : Nat) : (d.completeWith c st reason r0 r1 r2).usy = d.usy := by simp [Dev.completeWith]
@[simp] theorem Dev.completeWith_spt (c : Submission) (st : Status) (reason r0 r1 r2 : Nat) : (d.completeWith c st reason r0 r1 r2).spt = d.spt := by simp [Dev.completeWith]
@[simp] theorem Dev.completeWith_boot (c : Submission) (st : Status) (reason r0 r1 r2 : Nat) : (d.completeWith c st reason r0 r1 r2).boot = d.boot := by simp [Dev.completeWith]
@[simp] theorem Dev.completeWith_lc (c : Submission) (st : Status) (reason r0 r1 r2 : Nat) : (d.completeWith c st reason r0 r1 r2).lc = d.lc := by simp [Dev.completeWith]
@[simp] theorem Dev.completeWith_strike (c : Submission) (st : Status) (reason r0 r1 r2 : Nat) : (d.completeWith c st reason r0 r1 r2).strike = d.strike := by simp [Dev.completeWith]
@[simp] theorem Dev.completeWith_flashOp (c : Submission) (st : Status) (reason r0 r1 r2 : Nat) : (d.completeWith c st reason r0 r1 r2).flashOp = d.flashOp := by simp [Dev.completeWith]
@[simp] theorem Dev.completeWith_free (c : Submission) (st : Status) (reason r0 r1 r2 : Nat) : (d.completeWith c st reason r0 r1 r2).free = d.free := by simp [Dev.completeWith]
@[simp] theorem Dev.completeWith_lines (c : Submission) (st : Status) (reason r0 r1 r2 : Nat) : (d.completeWith c st reason r0 r1 r2).lines = d.lines := by simp [Dev.completeWith]

@[simp] theorem Dev.complete_regs (c : Submission) (st : Status) : (d.complete c st).regs = d.regs := by simp [Dev.complete]
@[simp] theorem Dev.complete_pend (c : Submission) (st : Status) : (d.complete c st).pend = d.pend := by simp [Dev.complete]
@[simp] theorem Dev.complete_wide (c : Submission) (st : Status) : (d.complete c st).wide = d.wide := by simp [Dev.complete]
@[simp] theorem Dev.complete_hold (c : Submission) (st : Status) : (d.complete c st).hold = d.hold := by simp [Dev.complete]
@[simp] theorem Dev.complete_arrivals (c : Submission) (st : Status) : (d.complete c st).arrivals = d.arrivals := by simp [Dev.complete]
@[simp] theorem Dev.complete_pairs (c : Submission) (st : Status) : (d.complete c st).pairs = d.pairs := by simp [Dev.complete]
@[simp] theorem Dev.complete_asleep (c : Submission) (st : Status) : (d.complete c st).asleep = d.asleep := by simp [Dev.complete]
@[simp] theorem Dev.complete_snapTicks (c : Submission) (st : Status) : (d.complete c st).snapTicks = d.snapTicks := by simp [Dev.complete]
@[simp] theorem Dev.complete_prompter (c : Submission) (st : Status) : (d.complete c st).prompter = d.prompter := by simp [Dev.complete]
@[simp] theorem Dev.complete_stage (c : Submission) (st : Status) : (d.complete c st).stage = d.stage := by simp [Dev.complete]
@[simp] theorem Dev.complete_slots (c : Submission) (st : Status) : (d.complete c st).slots = d.slots := by simp [Dev.complete]
@[simp] theorem Dev.complete_xfers (c : Submission) (st : Status) : (d.complete c st).xfers = d.xfers := by simp [Dev.complete]
@[simp] theorem Dev.complete_colls (c : Submission) (st : Status) : (d.complete c st).colls = d.colls := by simp [Dev.complete]
@[simp] theorem Dev.complete_grid (c : Submission) (st : Status) : (d.complete c st).grid = d.grid := by simp [Dev.complete]
@[simp] theorem Dev.complete_cast (c : Submission) (st : Status) : (d.complete c st).cast = d.cast := by simp [Dev.complete]
@[simp] theorem Dev.complete_fab (c : Submission) (st : Status) : (d.complete c st).fab = d.fab := by simp [Dev.complete]
@[simp] theorem Dev.complete_hck (c : Submission) (st : Status) : (d.complete c st).hck = d.hck := by simp [Dev.complete]
@[simp] theorem Dev.complete_dim (c : Submission) (st : Status) : (d.complete c st).dim = d.dim := by simp [Dev.complete]
@[simp] theorem Dev.complete_usy (c : Submission) (st : Status) : (d.complete c st).usy = d.usy := by simp [Dev.complete]
@[simp] theorem Dev.complete_spt (c : Submission) (st : Status) : (d.complete c st).spt = d.spt := by simp [Dev.complete]
@[simp] theorem Dev.complete_boot (c : Submission) (st : Status) : (d.complete c st).boot = d.boot := by simp [Dev.complete]
@[simp] theorem Dev.complete_lc (c : Submission) (st : Status) : (d.complete c st).lc = d.lc := by simp [Dev.complete]
@[simp] theorem Dev.complete_strike (c : Submission) (st : Status) : (d.complete c st).strike = d.strike := by simp [Dev.complete]
@[simp] theorem Dev.complete_flashOp (c : Submission) (st : Status) : (d.complete c st).flashOp = d.flashOp := by simp [Dev.complete]
@[simp] theorem Dev.complete_free (c : Submission) (st : Status) : (d.complete c st).free = d.free := by simp [Dev.complete]
@[simp] theorem Dev.complete_lines (c : Submission) (st : Status) : (d.complete c st).lines = d.lines := by simp [Dev.complete]


end Sys2Proof.Machine
end

