-- ==== Sys2Proof/Laws/Bits.lean ====
section
/-! SUPPORT. Bit fields: what a field reads after a field has been written, in a number and in a register. -/
namespace Sys2Proof.Machine

theorem testBit_bits (v lo len i : Nat) : (bits v lo len).testBit i = (decide (i < len) && v.testBit (lo + i)) := by
  simp [bits, Nat.testBit_mod_two_pow, Nat.testBit_shiftRight]

theorem testBit_putBits (v lo len n i : Nat) :
    (putBits v lo len n).testBit i = if lo ≤ i ∧ i < lo + len then n.testBit (i - lo) else v.testBit i := by
  have h1 : v % 2 ^ lo + (n % 2 ^ len) <<< lo = (n % 2 ^ len) <<< lo ||| v % 2 ^ lo := by
    rw [Nat.add_comm]; exact Nat.shiftLeft_add_eq_or_of_lt (Nat.mod_lt _ (Nat.two_pow_pos _)) _
  have h2 : (n % 2 ^ len) <<< lo ||| v % 2 ^ lo < 2 ^ (lo + len) := by
    apply Nat.or_lt_two_pow
    · rw [Nat.shiftLeft_eq, Nat.pow_add, Nat.mul_comm]
      exact Nat.mul_lt_mul_of_pos_left (Nat.mod_lt _ (Nat.two_pow_pos _)) (Nat.two_pow_pos _)
    · exact Nat.lt_of_lt_of_le (Nat.mod_lt _ (Nat.two_pow_pos _)) (Nat.pow_le_pow_right (by omega) (by omega))
  have h3 : putBits v lo len n = (v >>> (lo + len)) <<< (lo + len) ||| ((n % 2 ^ len) <<< lo ||| v % 2 ^ lo) := by
    rw [putBits, h1, Nat.add_comm]; exact Nat.shiftLeft_add_eq_or_of_lt h2 _
  rw [h3]
  simp only [Nat.testBit_or, Nat.testBit_shiftLeft, Nat.testBit_shiftRight, Nat.testBit_mod_two_pow]
  by_cases ha : lo ≤ i <;> by_cases hb : i < lo + len
  · have : ¬(lo + len ≤ i) := by omega
    have h' : ¬(i < lo) := by omega
    have h'' : i - lo < len := by omega
    simp [ha, hb, this, h', h'']
  · have : lo + len ≤ i := by omega
    have h' : ¬(i < lo) := by omega
    have h'' : ¬(i - lo < len) := by omega
    have e : lo + len + (i - (lo + len)) = i := by omega
    simp [ha, hb, this, h', h'', e]
  · have : ¬(lo + len ≤ i) := by omega
    have h' : i < lo := by omega
    simp [ha, this, h']
  · omega

theorem bits_putBits_same (v lo len n : Nat) : bits (putBits v lo len n) lo len = n % 2 ^ len := by
  apply Nat.eq_of_testBit_eq; intro i
  rw [testBit_bits, testBit_putBits, Nat.testBit_mod_two_pow]
  by_cases h : i < len
  · simp [h]
  · simp [h]

theorem bits_putBits_other (v n : Nat) {lo len lo' len' : Nat} (h : lo' + len' ≤ lo ∨ lo + len ≤ lo') :
    bits (putBits v lo len n) lo' len' = bits v lo' len' := by
  apply Nat.eq_of_testBit_eq; intro i
  rw [testBit_bits, testBit_bits, testBit_putBits]
  by_cases hi : i < len'
  · rw [if_neg (by omega)]
  · simp [hi]

theorem putBits_lt {v n w lo len : Nat} (hv : v < 2 ^ w) (h : lo + len ≤ w) : putBits v lo len n < 2 ^ w := by
  apply Nat.lt_pow_two_of_testBit; intro i hi
  rw [testBit_putBits, if_neg (by omega)]
  exact Nat.testBit_lt_two_pow (Nat.lt_of_lt_of_le hv (Nat.pow_le_pow_right (by omega) hi))

variable (d : Dev)

/-- A register after one of its fields has been written, as a number. -/
theorem Dev.reg_setFld_toNat (off n : Nat) {hi lo : Nat} (h : lo ≤ hi ∧ hi < 32) :
    ((d.setFld off hi lo n).reg off).toNat = putBits (d.reg off).toNat lo (hi + 1 - lo) n := by
  have := putBits_lt (n := n) (len := hi + 1 - lo) (lo := lo) (d.reg off).isLt (by omega)
  simp only [Dev.setFld, Dev.reg_setReg_same, BitVec.toNat_ofNat]
  exact Nat.mod_eq_of_lt this

theorem Dev.fld_setFld_same (off n : Nat) {hi lo : Nat} (h : lo ≤ hi ∧ hi < 32) :
    (d.setFld off hi lo n).fld off hi lo = n % 2 ^ (hi + 1 - lo) := by
  rw [Dev.fld, d.reg_setFld_toNat off n h, bits_putBits_same]

theorem Dev.fld_setFld_apart (off n : Nat) {hi lo hi' lo' : Nat} (h : lo ≤ hi ∧ hi < 32) (h' : hi' < lo ∨ hi < lo') (hl : lo' ≤ hi') :
    (d.setFld off hi lo n).fld off hi' lo' = d.fld off hi' lo' := by
  rw [Dev.fld, d.reg_setFld_toNat off n h, bits_putBits_other _ _ (by omega), Dev.fld]

theorem Dev.fld_setReg_other {off x : Nat} (v : W32) (hi lo : Nat) (h : x ≠ off) : (d.setReg off v).fld x hi lo = d.fld x hi lo := by
  simp [Dev.fld, d.reg_setReg_other v h]

theorem Dev.fld_setFld_other {off x : Nat} (hi lo n hi' lo' : Nat) (h : x ≠ off) :
    (d.setFld off hi lo n).fld x hi' lo' = d.fld x hi' lo' := by simp [Dev.fld, d.reg_setFld_other hi lo n h]

theorem Dev.bit_setFld (off n i : Nat) {hi lo : Nat} (h : lo ≤ hi ∧ hi < 32) :
    (d.setFld off hi lo n).bit off i = if lo ≤ i ∧ i ≤ hi then n.testBit (i - lo) else d.bit off i := by
  simp only [Dev.bit, BitVec.getLsbD, d.reg_setFld_toNat off n h, testBit_putBits]
  by_cases h1 : lo ≤ i ∧ i ≤ hi
  · rw [if_pos (by omega), if_pos h1]
  · rw [if_neg (by omega), if_neg h1]

theorem Dev.bit_setFld_other {off x : Nat} (hi lo n i : Nat) (h : x ≠ off) : (d.setFld off hi lo n).bit x i = d.bit x i := by
  simp [Dev.bit, d.reg_setFld_other hi lo n h]

theorem Dev.bit_setReg_other {off x : Nat} (v : W32) (i : Nat) (h : x ≠ off) : (d.setReg off v).bit x i = d.bit x i := by
  simp [Dev.bit, d.reg_setReg_other v h]

theorem Dev.bit_setBit_same (off : Nat) {i : Nat} (h : i < 32) : (d.setBit off i).bit off i = true := by
  rw [Dev.setBit, d.bit_setFld off 1 i ⟨Nat.le_refl _, h⟩, if_pos (by omega)]; simp

theorem Dev.bit_clrBit_same (off : Nat) {i : Nat} (h : i < 32) : (d.clrBit off i).bit off i = false := by
  rw [Dev.clrBit, d.bit_setFld off 0 i ⟨Nat.le_refl _, h⟩, if_pos (by omega)]; simp

/-- A counter that saturates counts one. -/
theorem Dev.reg_count_same (off : Nat) : (d.count off).reg off = BitVec.ofNat 32 (min ((d.reg off).toNat + 1) 0xFFFFFFFF) := by
  simp [Dev.count, Dev.addReg, sat32]

theorem Dev.reg_count_other {off x : Nat} (h : x ≠ off) : (d.count off).reg x = d.reg x := by
  simp [Dev.count, Dev.addReg, d.reg_setReg_other _ h]

/-- A raised source's count, and every other's (R519). -/
theorem Dev.arrivalCount_raise (src x : Nat) :
    (d.raise src).arrivalCount x = if x = src then min 255 (d.arrivalCount src + 1) else d.arrivalCount x := by
  unfold Dev.raise
  dsimp only
  split <;> simp [Dev.arrivalCount, tabGet_tabSet]

end Sys2Proof.Machine
end

