-- ==== Sys2Proof/Laws/Lantern.lean ====
section
/-! SUPPORT. Lanterns: the fields of an encoded instruction, when a row acts, what registers read after a write. -/
namespace Sys2Proof.Machine

/-! ### Instruction words -/

theorem bits_extract {n : Nat} (v : BitVec n) (lo len : Nat) : bits v.toNat lo len = (v.extractLsb' lo len).toNat := by
  simp [bits, BitVec.extractLsb'_toNat]

theorem encode_op (w : LInst) : (encodeLantern w).extractLsb' 0 8 = w.op.code := by
  ext i hi; simp [encodeLantern, BitVec.getElem_extractLsb']; grind

theorem encode_a (w : LInst) : (encodeLantern w).extractLsb' 8 4 = w.a := by
  ext i hi; simp [encodeLantern, BitVec.getElem_extractLsb']; grind

theorem encode_b (w : LInst) : (encodeLantern w).extractLsb' 12 4 = w.b := by
  ext i hi; simp [encodeLantern, BitVec.getElem_extractLsb']; grind

theorem encode_c (w : LInst) : (encodeLantern w).extractLsb' 16 4 = w.c := by
  ext i hi; simp [encodeLantern, BitVec.getElem_extractLsb']; grind

theorem encode_imm (w : LInst) : (encodeLantern w).extractLsb' 20 12 = w.imm := by
  ext i hi; simp [encodeLantern, BitVec.getElem_extractLsb']; grind

theorem encode_imm20 (w : LInst) : (encodeLantern w).extractLsb' 12 20 = w.imm20 := by
  ext i hi; simp [encodeLantern, LInst.imm20, BitVec.getElem_extractLsb']; grind

theorem lword_encode (w : LInst) :
    lword (encodeLantern w) =
      { op := w.op.code.toNat, a := w.a.toNat, b := w.b.toNat, c := w.c.toNat, imm := immOf w, imm12 := w.imm.toNat
        imm20 := w.imm20.toNat } := by
  simp only [lword, immOf, bits_extract, encode_op, encode_a, encode_b, encode_c, encode_imm, encode_imm20]

/-! ### Registers -/

theorem Lantern.gr_setG (x : Lantern) (n r : Nat) (v : W32) : (x.setG n v).gr r = if r = n then v else x.gr r := by
  simp [Lantern.gr, Lantern.setG, tabGet_tabSet]

theorem Lantern.lane_setLane (x : Lantern) (n i r j : Nat) (v : W32) (hi : i < 16) (hj : j < 16) :
    (x.setLane n i v).lane r j = if r = n ∧ j = i then v else x.lane r j := by
  simp only [Lantern.lane, Lantern.setLane, tabGet_tabSet]
  split <;> split <;> first | rfl | omega

theorem Lantern.setLane_eq (x : Lantern) (n i : Nat) (v : W32) : x.setLane n i v = { x with v := (x.setLane n i v).v } := rfl

/-- Writing lanes 0 to k − 1 of vN. -/
theorem Lantern.setLanes (x : Lantern) (n : Nat) (vs : List W32) (k : Nat) (hk : k ≤ 16) :
    let y := (List.range k).foldl (fun x i => x.setLane n i (vs.getD i 0)) x
    y = { x with v := y.v } ∧ ∀ r j, j < 16 → y.lane r j = if r = n ∧ j < k then vs.getD j 0 else x.lane r j := by
  induction k with
  | zero => simp
  | succ k ih =>
    obtain ⟨h1, h2⟩ := ih (by omega)
    rw [List.range_succ, List.foldl_append]
    refine ⟨?_, fun r j hj => ?_⟩
    · simp only [List.foldl_cons, List.foldl_nil]
      rw [Lantern.setLane_eq, h1]
    · simp only [List.foldl_cons, List.foldl_nil]
      rw [Lantern.lane_setLane _ _ _ _ _ _ (by omega) hj, h2 r j hj]
      by_cases h : r = n ∧ j = k
      · simp [h.1, h.2]
      · rw [if_neg h]
        congr 1
        exact propext ⟨fun g => ⟨g.1, by omega⟩, fun g => ⟨g.1, by omega⟩⟩

theorem Lantern.setV_eq (x : Lantern) (n : Nat) (vs : List W32) : x.setV n vs = { x with v := (x.setV n vs).v } :=
  (x.setLanes n vs 16 (by omega)).1

theorem Lantern.lane_setV (x : Lantern) (n r j : Nat) (vs : List W32) (hj : j < 16) :
    (x.setV n vs).lane r j = if r = n then vs.getD j 0 else x.lane r j := by
  have h := (x.setLanes n vs 16 (by omega)).2 r j hj
  simpa [hj, Lantern.setV] using h

/-! ### When a row acts -/

theorem Dev.lantern_setLantern (d : Dev) (l k : Nat) (x : Lantern) : (d.setLantern l x).lantern k = if k = l then x else d.lantern k := by
  simp [Dev.lantern, Dev.setLantern, tabGet_tabSet]

/-- A row meets its instruction: it acts with the instruction's fields. -/
theorem Dev.runOp_at {s : State} {l : Fin 256} {w : LInst} (h : LanternAt s l w) (op : Nat) (act : Dev → Lantern → LWord → Dev)
    (hop : op = w.op.code.toNat) :
    s.dev.runOp l.val op act = act s.dev (s.dev.lantern l.val) (lword (encodeLantern w)) := by
  obtain ⟨-, h1, h2, h3, h4⟩ := h
  simp [Dev.runOp, h1, h2, h3, h4, lword_encode, hop]

/-- What a command does to a powered package. -/
theorem onDev_on {s : State} (h : On s) (f : Ident → Dev → Dev) : onDev f s = .next { s with dev := f s.ident s.dev } := by
  simp [onDev, show s.board.power = .on from h]

/-- Storing lantern `l` touches nothing else. -/
theorem onlyLantern_set (s : State) (l : Fin 256) (x : Lantern) : OnlyLantern l s { s with dev := s.dev.setLantern l.val x } := by
  refine ⟨fun p hp => ?_, rfl, fun k hk => ?_⟩
  · cases p <;> first | rfl | simp at hp
  · simp [Dev.lantern_setLantern, hk]

end Sys2Proof.Machine
end

