-- ==== Sys2Proof/Laws/Cue.lean ====
section
/-! SUPPORT. Cues: what the check of a cue that passes answers. -/
namespace Sys2Proof.Machine

theorem Dev.readErrors_none {d : Dev} {c : MemCode} {k n : Nat} (h : d.errorsIn c k n = []) : d.readErrors c k n = (false, d) := by
  simp [Dev.readErrors, h]

/-- A row meets its cue, which passes its check. -/
theorem Dev.issue_at {s : State} {w : Nat} {desc : List Byte} (h : CueAt s w desc) (mine : Nat → Bool) (act : Cue → Dev → Dev)
    (hm : mine (cueHere s) = true) :
    s.dev.issue s.ident mine act = (act (cueChecked s w desc) (issuing s w desc)).post121 := by
  obtain ⟨-, h1, h2, h3, h4, h5, h6, h7, h8, h9⟩ := h
  have hc : s.dev.check s.ident = (some (cueChecked s w desc), issuing s w desc) := by
    simp only [Dev.check, Dev.readErrors_none h3]
    rw [show s.dev.cueWord s.dev.prompter.pc.toNat = cueHere s from rfl, h4]
    simp only [h5, Dev.readErrors_none h6, Dev.load, Mems.get, h7, h8, h9]
    rfl
  unfold Dev.issue
  rw [show s.dev.cueWord s.dev.prompter.pc.toNat = cueHere s from rfl]
  have hq : ((cueClass (cueHere s)).stage && decide (4 ≤ s.dev.prompter.stageQueue.length)) = false := by
    cases hs : (cueClass (cueHere s)).stage with
    | false => rfl
    | true => have := h2 hs; simp; omega
  simp only [h1, hm, hq, hc]
  rfl

end Sys2Proof.Machine
end

