-- ==== Sys2Proof/Laws/LineCode.lean ====
section
/-! SUPPORT. The receiver undoes the line code (R358, R360). -/
namespace Sys2Proof.Machine.LineCode

theorem ungray_gray (a b : Bool) : ungray (gray a b) = (a, b) := by
  cases a <;> cases b <;> rfl

theorem recover_precode (y : BitVec 2) (xs : List (BitVec 2)) : recover y (precode y xs) = xs := by
  induction xs generalizing y with
  | nil => rfl
  | cons x rest ih => simp [precode, recover, ih, BitVec.sub_add_cancel]

theorem descramble_scramble (h : BitVec 58) (bs : List Bool) : descramble h (scramble h bs) = bs := by
  induction bs generalizing h with
  | nil => rfl
  | cons b rest ih => simp [scramble, descramble, ih]

end Sys2Proof.Machine.LineCode
end

