-- ==== Sys2Proof/Laws/Memory.lean ====
section
/-! SUPPORT. The memories: every operation that writes one keeps its canonical form. -/
namespace Sys2Proof.Machine

/-- Leaving out entries keeps the canonical form. -/
theorem tabFilter_wf {α : Type} [DecidableEq α] (dflt : Nat → α) (t : Tab α) (p : Nat × α → Bool) (h : tabWf dflt t = true) :
    tabWf dflt (t.filter p) = true := by
  rw [tabWf_iff] at h ⊢
  exact ⟨h.1.filter p, fun e he => h.2 e (List.mem_of_mem_filter he)⟩

/-- A write that leaves out units keeps the canonical form. -/
theorem memPutsSkip_wf (unit : Nat) (skip : List Nat) (m : Memory) (a : Nat) (bs : List Byte) (h : m.wf = true) :
    (memPutsSkip unit skip m a bs).wf = true := by
  induction bs generalizing m a with
  | nil => exact h
  | cons b bs ih =>
    refine ih _ _ ?_
    split
    · exact h
    · exact memPut_wf m a b h

theorem Mems.wf_iff (m : Mems) : m.wf = true ↔ m.tile.wf = true ∧ m.cue.wf = true ∧ m.lins.wf = true ∧ m.ldata.wf = true ∧
    m.capt.wf = true ∧ m.hbm.wf = true ∧ m.host.wf = true ∧ m.copyCue.wf = true ∧ m.copyLins.wf = true ∧ m.copyData.wf = true := by
  simp only [Mems.wf, Bool.and_eq_true, and_assoc]

/-- Every memory that a code names is in its canonical form. -/
theorem Mems.get_wf {m : Mems} (h : m.wf = true) (c : MemCode) : (m.get c).wf = true := by
  obtain ⟨h1, h2, h3, h4, h5, h6, -⟩ := m.wf_iff.mp h
  cases c <;> first | assumption | rfl

/-- Storing a memory in its canonical form keeps that of all. -/
theorem Mems.put_wf {m : Mems} (h : m.wf = true) (c : MemCode) {x : Memory} (hx : x.wf = true) : (m.put c x).wf = true := by
  obtain ⟨h1, h2, h3, h4, h5, h6, h7, h8, h9, h10⟩ := m.wf_iff.mp h
  cases c <;> exact Mems.wf_iff _ |>.mpr ⟨by assumption, by assumption, by assumption, by assumption, by assumption, by assumption,
    by assumption, by assumption, by assumption, by assumption⟩

/-- The memories after reset list nothing. -/
theorem Mems.reset_wf : Mems.reset.wf = true := by decide

/-! ### Sending changes no memory -/

@[simp] theorem Dev.transmit_mems (d : Dev) (p : Nat) (f : TxFrame) (seq : Nat) (nak : Bool) : (d.transmit p f seq nak).mems = d.mems := by
  simp [Dev.transmit]

@[simp] theorem Dev.sendPlain_mems (d : Dev) (p : Nat) (f : TxFrame) : (d.sendPlain p f).mems = d.mems := by
  unfold Dev.sendPlain
  split <;> simp

@[simp] theorem Dev.sendCredit_mems (d : Dev) (p n : Nat) : (d.sendCredit p n).mems = d.mems := by
  unfold Dev.sendCredit
  split <;> simp

@[simp] theorem Dev.leaveBuffer_mems (d : Dev) (f : TxFrame) : (d.leaveBuffer f).mems = d.mems := by
  unfold Dev.leaveBuffer
  split <;> simp

@[simp] theorem Dev.pump_mems (n : Nat) (d : Dev) (p : Nat) : (Dev.pump n d p).mems = d.mems := by
  induction n generalizing d with
  | zero => rfl
  | succ n ih =>
    unfold Dev.pump
    dsimp only
    repeat' split
    all_goals simp [ih]

@[simp] theorem Dev.pumpLog_mems (n : Nat) (d : Dev) : (Dev.pumpLog n d).mems = d.mems := by
  induction n generalizing d with
  | zero => rfl
  | succ n ih =>
    unfold Dev.pumpLog
    dsimp only
    repeat' split
    all_goals simp [ih]

/-- Sending what may be sent changes no memory. -/
@[simp] theorem Dev.pumpAll_mems (d : Dev) (p : Nat) : (d.pumpAll p).mems = d.mems := by
  unfold Dev.pumpAll
  dsimp only
  split <;> simp

/-- Shipping a record changes no memory. -/
@[simp] theorem Dev.shipRecord_mems (d : Dev) (r : List Byte) : (d.shipRecord r).mems = d.mems := by
  unfold Dev.shipRecord
  dsimp only
  split
  · rw [Dev.raise_mems, Dev.pumpAll_mems, Dev.setReg_mems]
  · rw [Dev.pumpAll_mems, Dev.setReg_mems]

theorem Dev.shipChunks_mems (cs : List (List Byte)) (acc : Dev × Nat) :
    (cs.foldl (fun (acc : Dev × Nat) (c : List Byte) =>
      (acc.1.shipRecord (logRecord 1 0 (acc.1.reg Reg.stgStepSeq).toNat acc.2 c), acc.2 + c.length)) acc).1.mems = acc.1.mems := by
  induction cs generalizing acc with
  | nil => rfl
  | cons c cs ih => simp [ih]

/-- Shipping a write changes no memory. -/
@[simp] theorem Dev.shipWrite_mems (d : Dev) (a n : Nat) : (d.shipWrite a n).mems = d.mems := by
  simp only [Dev.shipWrite, apply_ite Dev.mems, Dev.shipChunks_mems, ite_self]

theorem Dev.shipWords_mems (ws : List Nat) (d : Dev) : (ws.foldl (fun d w => d.shipWrite (8 * w) 8) d).mems = d.mems := by
  induction ws generalizing d with
  | nil => rfl
  | cons w ws ih => simp [ih]

@[simp] theorem Dev.enterUsy_mems (d : Dev) (st : Nat) : (d.enterUsy st).mems = d.mems := by
  unfold Dev.enterUsy Dev.sendHeartbeat
  repeat' split
  all_goals simp

/-! ### Errors and writes -/

/-- An uncorrectable error changes no memory. -/
@[simp] theorem Dev.uncorrectable_mems (d : Dev) (c : MemCode) (k : Nat) : (d.uncorrectable c k).mems = d.mems := by
  unfold Dev.uncorrectable
  simp only []
  repeat' split
  all_goals simp [Dev.enterFailing, Dev.setReg64]
  all_goals (repeat' split) <;> simp [Dev.count]

theorem Dev.uncorrectables_mems (c : MemCode) (u : Nat) (es : List Nat) (d : Dev) :
    (es.foldl (fun d e => d.uncorrectable c (e * u)) d).mems = d.mems := by
  induction es generalizing d with
  | nil => rfl
  | cons e es ih => simp [ih]

/-- A read changes no memory. -/
@[simp] theorem Dev.readErrors_mems (d : Dev) (c : MemCode) (k n : Nat) : (d.readErrors c k n).2.mems = d.mems :=
  d.uncorrectables_mems c _ _

/-- A write keeps the canonical form of every memory. -/
theorem Dev.store_wf {d : Dev} (h : d.mems.wf = true) (c : MemCode) (k : Nat) (bs : List Byte) :
    (d.store c k bs).2.mems.wf = true := by
  unfold Dev.store
  split
  · exact Mems.put_wf h c (memPuts_wf _ _ _ (Mems.get_wf h c))
  · simp only [Dev.uncorrectables_mems]
    exact Mems.put_wf h c (memPutsSkip_wf _ _ _ _ _ (Mems.get_wf h c))

/-- A write of HBM keeps the canonical form of every memory. -/
theorem Dev.hbmWrite_wf {d : Dev} (h : d.mems.wf = true) (a : Nat) (bs : List Byte) : (d.hbmWrite a bs).2.mems.wf = true := by
  simpa [Dev.hbmWrite] using Dev.store_wf h .hbm a bs

/-- A write of host memory keeps the canonical form of every memory. -/
theorem Dev.hostWrite_wf {d : Dev} (h : d.mems.wf = true) (a : Nat) (bs : List Byte) : (d.hostWrite a bs).mems.wf = true := by
  obtain ⟨h1, h2, h3, h4, h5, h6, h7, h8, h9, h10⟩ := d.mems.wf_iff.mp h
  exact (Mems.wf_iff _).mpr ⟨h1, h2, h3, h4, h5, h6, memPuts_wf _ _ _ h7, h8, h9, h10⟩

/-- Bytes of HBM that become 0 keep the canonical form of every memory. -/
theorem Dev.hbmZero_wf {d : Dev} (h : d.mems.wf = true) (a n : Nat) : (d.hbmZero a n).mems.wf = true := by
  obtain ⟨h1, h2, h3, h4, h5, h6, h7, h8, h9, h10⟩ := d.mems.wf_iff.mp h
  unfold Dev.hbmZero
  simp only [Dev.shipWords_mems, Dev.uncorrectables_mems]
  exact (Mems.wf_iff _).mpr ⟨h1, h2, h3, h4, h5, tabFilter_wf _ _ _ h6, h7, h8, h9, h10⟩

/-- The reload from the load copy keeps the canonical form of every memory. -/
theorem Dev.reload_wf {d : Dev} (h : d.mems.wf = true) : d.reload.mems.wf = true := by
  obtain ⟨h1, h2, h3, h4, h5, h6, h7, h8, h9, h10⟩ := d.mems.wf_iff.mp h
  exact (Mems.wf_iff _).mpr ⟨h1, h8, h9, h10, h5, h6, h7, h8, h9, h10⟩

end Sys2Proof.Machine
end

