-- ==== Sys2Proof/WellFormed.lean ====
section
/-! DEFINITION. Well-formed commands: the sizes that the manual fixes for what a command carries. -/
namespace Sys2Proof

/-- A submission entry is 64 bytes, of which 56 are operands (R341, Table 11-5). -/
def Submission.wellFormed (c : Submission) : Bool := c.ops.length == 56

/-- A frame's payload is whole blocks of 8 bytes, at most 4,096 bytes (R371). -/
def Frame.wellFormed (f : Frame) : Bool := f.payload.length % 8 == 0 && decide (f.payload.length ≤ 4096)

/-- A SPOTLIGHT command carries a submission entry (R497). -/
def SptVia.wellFormed : SptVia → Bool
  | .reg _ _ => true
  | .cmd c => c.wellFormed

/-- A fetched submission entry is 64 bytes (R337); none is a fetch that failed. -/
def entryWellFormed : Option (List Byte) → Bool
  | none => true
  | some e => e.length == 64

/-- One PCIe write carries 1 to 4,096 bytes (R334). -/
def bar2DataWellFormed (d : List Byte) : Bool := decide (0 < d.length) && decide (d.length ≤ 4096)

/-- One PCIe read asks for 1 to 4,096 bytes (R334). -/
def bar2LenWellFormed (n : BitVec 13) : Bool := decide (0 < n.toNat) && decide (n.toNat ≤ 4096)

/-- An acquisition has at most 256 columns (R493). -/
def columnsWellFormed (cs : List (BitVec 10)) : Bool := decide (cs.length ≤ 256)

/-- A command is well formed. -/
def Instr.wellFormed (i : Instr) : Bool :=
  match i with
  | .nop => true
  | .illegalOpcode => true
  | .scene => true
  | .vec => true
  | .qnt => true
  | .moveLinear => true
  | .moveGatherRows => true
  | .moveKvRead => true
  | .moveKvWrite => true
  | .moveSend => true
  | .moveReceive => true
  | .wait => true
  | .waitRetire => true
  | .waitLimitExpiry => true
  | .red => true
  | .stepEnd => true
  | .initEnd => true
  | .barrier => true
  | .curtain => true
  | .event => true
  | .gridStart => true
  | .sampler => true
  | .masker => true
  | .qstat => true
  | .specv => true
  | .gridChangeover => true
  | .hint => true
  | .digest => true
  | .loop => true
  | .stageCueStart _ => true
  | .rampUpDone => true
  | .sceneBoundary => true
  | .rampDownDone => true
  | .darkIdleExpiry => true
  | .bubble => true
  | .flicker => true
  | .flickerBurstEnd => true
  | .transferComplete _ _ => true
  | .redComplete _ => true
  | .barrierComplete _ => true
  | .gridProgramDone _ => true
  | .changeoverSwap => true
  | .changeoverTimeout => true
  | .collectiveTimeout => true
  | .deviceLost _ => true
  | .checkpointComplete => true
  | .formation => true
  | .spillStart => true
  | .spillComplete _ => true
  | .returnComplete _ => true
  | .tokenArrival => true
  | .controlTokenExpiry _ => true
  | .orphanData _ => true
  | .tsRead _ _ => true
  | .tsWrite _ => true
  | .hbmRead _ _ => true
  | .hbmWrite _ => true
  | .cstRead _ => true
  | .cstWrite _ => true
  | .wdata _ => true
  | .edgeReply _ => true
  | .halt _ => true
  | .lanternNop _ => true
  | .add _ => true
  | .sub _ => true
  | .and _ => true
  | .or _ => true
  | .xor _ => true
  | .shl _ => true
  | .shr _ => true
  | .sra _ => true
  | .slt _ => true
  | .sltu _ => true
  | .mul _ => true
  | .addi _ => true
  | .andi _ => true
  | .ori _ => true
  | .lui _ => true
  | .fadd _ => true
  | .fsub _ => true
  | .fmul _ => true
  | .fmax _ => true
  | .fmin _ => true
  | .flt _ => true
  | .ffma _ => true
  | .fexp _ => true
  | .fln _ => true
  | .frecip _ => true
  | .itof _ => true
  | .ftoi _ => true
  | .rng _ => true
  | .vadd _ => true
  | .vsub _ => true
  | .vmul _ => true
  | .vmax _ => true
  | .vmin _ => true
  | .vfma _ => true
  | .vexp _ => true
  | .vbcast _ => true
  | .vextr _ => true
  | .vins _ => true
  | .vrsum _ => true
  | .vrmax _ => true
  | .ld _ => true
  | .st _ => true
  | .ldb _ => true
  | .stb _ => true
  | .vld _ => true
  | .vst _ => true
  | .beq _ => true
  | .bne _ => true
  | .blt _ => true
  | .jal _ => true
  | .jr _ => true
  | .send _ => true
  | .sendc _ => true
  | .sendd _ => true
  | .recv _ => true
  | .ccount _ => true
  | .signal _ => true
  | .hbmRefresh _ => true
  | .hbmTempRead _ _ => true
  | .scrubRead _ _ _ _ => true
  | .bar2Read _ len _ => bar2LenWellFormed len
  | .bar2Write _ data => bar2DataWellFormed data
  | .memRefreshOvr _ _ _ => true
  | .memWipe _ _ _ => true
  | .strikeComplete _ => true
  | .sqDoorbell _ _ => true
  | .sqFetch _ entry _ => entryWellFormed entry
  | .cqDoorbell _ _ => true
  | .cqHeldEntryWrite _ => true
  | .cqIrqTimer _ => true
  | .queueEnable _ _ _ => true
  | .queueDisable _ _ _ => true
  | .loadProgram c _ => c.wellFormed
  | .unloadProgram c => c.wellFormed
  | .openStream c _ => c.wellFormed
  | .append c _ => c.wellFormed
  | .closeStream c => c.wellFormed
  | .pauseStream c => c.wellFormed
  | .resumeStream c => c.wellFormed
  | .forkStream c _ => c.wellFormed
  | .checkpoint c => c.wellFormed
  | .restore c _ => c.wellFormed
  | .runJob c => c.wellFormed
  | .readEnergy c => c.wellFormed
  | .abortQueue c => c.wellFormed
  | .safetyCurtain c => c.wellFormed
  | .safetyCurtainComplete => true
  | .hifCurtain _ _ _ => true
  | .mailbox c => c.wellFormed
  | .mailboxAnswer _ _ _ _ => true
  | .invalidOpcode c => c.wellFormed
  | .sptArm via => via.wellFormed
  | .sptStop via => via.wellFormed
  | .sptForce via => via.wellFormed
  | .spotlightRead c => c.wellFormed
  | .sptAutoTimeout => true
  | .sptArmFire _ _ => true
  | .sptTimerExpiry _ => true
  | .waveRecord _ _ _ => true
  | .persAcquisitionEnd codes => columnsWellFormed codes
  | .pcieLinkDown => true
  | .linkRateChange _ _ _ => true
  | .d3hotEntry => true
  | .d0Return => true
  | .flr => true
  | .perstAssert => true
  | .perstRelease => true
  | .autoload => true
  | .doeDiscovery => true
  | .doeAbort => true
  | .getVersion => true
  | .getCapabilities => true
  | .negotiateAlgorithms => true
  | .getDigests => true
  | .getCertificate _ _ _ => true
  | .challenge _ _ => true
  | .getMeasurements _ _ _ => true
  | .unsupportedRequest _ => true
  | .los _ _ => true
  | .laneLockLoss _ _ => true
  | .alignBlock _ _ _ => true
  | .alignDisagreement _ => true
  | .trainBlock _ _ _ xs => (xs.map Sample.count).sum == 65536
  | .trainClockStable _ => true
  | .trainingLimitExpiry _ => true
  | .trainingRetry _ => true
  | .portEnable _ _ _ => true
  | .portRetrain _ _ _ => true
  | .hello _ f => f.wellFormed
  | .acknak _ f => f.wellFormed
  | .credit _ f => f.wellFormed
  | .replayTimeout _ => true
  | .dataFrame _ f => f.wellFormed
  | .collectiveFrame _ f => f.wellFormed
  | .join _ _ _ => true
  | .joinDone _ => true
  | .lost _ => true
  | .aliasMsg _ _ => true
  | .era _ => true
  | .takeoverReq _ _ => true
  | .takeoverGrant _ => true
  | .takeoverDeny _ => true
  | .fence => true
  | .takeoverNote _ _ _ => true
  | .sync _ f _ ttx => f.wellFormed && ttx.length == 17
  | .syncSend ttx => ttx.length == 17
  | .syncLoss => true
  | .pdelayReqSend _ _ => true
  | .pdelayReq _ f _ _ => f.wellFormed
  | .pdelayResp _ f _ => f.wellFormed
  | .pdelayTimeout _ => true
  | .curtainArmFrame _ f => f.wellFormed
  | .curtainFallFrame _ f => f.wellFormed
  | .curtainFall => true
  | .houseClockWrap => true
  | .heartbeat _ f => f.wellFormed
  | .heartbeatSend => true
  | .heartbeatTimeout => true
  | .takeoverReqResend => true
  | .takeoverSelfGrant => true
  | .pairingWaitExpiry => true
  | .logWrite _ f => f.wellFormed
  | .logCommit _ f => f.wellFormed
  | .logDelivered _ f => f.wellFormed
  | .commitAcknowledged => true
  | .logQueueResume => true
  | .usyDrain _ => true
  | .drainAcknowledged => true
  | .usyFail _ => true
  | .dimmerControlPeriod _ _ => true
  | .calibrationReading _ _ => true
  | .thermalReading _ _ => true
  | .hintPrearm => true
  | .dimCap _ _ _ => true
  | .dimFixed _ _ => true
  | .registerWrite _ _ _ _ => true
  | .rwcPairTimeout _ => true
  | .digestRingConfig _ _ _ => true
  | .cfgUse _ => true
  | .cfgCapture _ => true
  | .cfgOff _ => true
  | .cfgPassComplete _ => true
  | .snpGo _ => true
  | .snapshot => true
  | .clbRaise _ _ _ => true
  | .clbPendingClear _ _ _ => true
  | .secLcReq _ _ _ => true
  | .secSvnBurn _ _ _ => true
  | .secKeyRevoke _ _ _ => true
  | .secVovr _ _ _ _ => true
  | .flashRead _ => true
  | .flashProgram _ => true
  | .flashErase _ => true
  | .flashCommandDone _ => true
  | .modEnRise => true
  | .modEnFall => true
  | .inputFault => true
  | .status => true
  | .vin _ => true
  | .iin _ => true
  | .pin _ => true
  | .temps _ => true
  | .energy => true
  | .fru => true
  | .clearFault _ => true
  | .headerLock _ _ => true
  | .pcieLinkUp => true
  | .inputInRange _ => true
  | .uvWarn _ => true
  | .hckTimeNsRead _ => true
  | .edgeCancelled _ => true
  | .msixVectorUnmask _ => true

end Sys2Proof
end

