-- ==== Sys2Proof/Laws/PerInstr.lean ====
section
/-! SUPPORT. Per command: what its well-formedness says of what it carries. -/
namespace Sys2Proof.Laws.WellFormed

open Sys2Proof

/-- The submission entry that a command carries, if it carries one. -/
def carried : Instr → Option Submission
  | .loadProgram x _ => some x
  | .unloadProgram x => some x
  | .openStream x _ => some x
  | .append x _ => some x
  | .closeStream x => some x
  | .pauseStream x => some x
  | .resumeStream x => some x
  | .forkStream x _ => some x
  | .checkpoint x => some x
  | .restore x _ => some x
  | .runJob x => some x
  | .readEnergy x => some x
  | .abortQueue x => some x
  | .safetyCurtain x => some x
  | .mailbox x => some x
  | .invalidOpcode x => some x
  | .sptArm (.cmd x) => some x
  | .sptStop (.cmd x) => some x
  | .sptForce (.cmd x) => some x
  | .spotlightRead x => some x
  | _ => none

/-- The frame that a command carries, if it carries one. -/
def framed : Instr → Option Frame
  | .hello _ x => some x
  | .acknak _ x => some x
  | .credit _ x => some x
  | .dataFrame _ x => some x
  | .collectiveFrame _ x => some x
  | .sync _ x _ _ => some x
  | .pdelayReq _ x _ _ => some x
  | .pdelayResp _ x _ => some x
  | .curtainArmFrame _ x => some x
  | .curtainFallFrame _ x => some x
  | .heartbeat _ x => some x
  | .logWrite _ x => some x
  | .logCommit _ x => some x
  | .logDelivered _ x => some x
  | _ => none

/-- A well-formed command's submission entry has 56 bytes of operands (R341), and its frame a payload of whole blocks of 8 bytes, at most
4,096 bytes (R371). -/
def Statement (i : Instr) : Prop :=
  i.wellFormed = true →
    (∀ c, carried i = some c → c.ops.length = 56) ∧ (∀ f, framed i = some f → f.payload.length % 8 = 0 ∧ f.payload.length ≤ 4096)

/-- A command that carries neither. -/
theorem bare {i : Instr} (h : carried i = none) (k : framed i = none) : Statement i :=
  fun _ => ⟨fun _ x => by simp [h] at x, fun _ x => by simp [k] at x⟩

/-- A command that carries a submission entry. -/
theorem entry {i : Instr} {c : Submission} (h : carried i = some c) (k : framed i = none) (w : i.wellFormed = c.wellFormed) :
    Statement i := by
  intro hi
  refine ⟨fun _ x => ?_, fun _ x => by simp [k] at x⟩
  rw [h, Option.some.injEq] at x
  subst x
  simpa [w, Submission.wellFormed] using hi

/-- A command that carries a frame. -/
theorem frame {i : Instr} {f : Frame} (h : carried i = none) (k : framed i = some f) (w : i.wellFormed = f.wellFormed) : Statement i := by
  intro hi
  refine ⟨fun _ x => by simp [h] at x, fun _ x => ?_⟩
  rw [k, Option.some.injEq] at x
  subst x
  simpa [w, Frame.wellFormed] using hi

theorem nop : Statement .nop := bare rfl rfl
theorem illegalOpcode : Statement .illegalOpcode := bare rfl rfl
theorem scene : Statement .scene := bare rfl rfl
theorem vec : Statement .vec := bare rfl rfl
theorem qnt : Statement .qnt := bare rfl rfl
theorem moveLinear : Statement .moveLinear := bare rfl rfl
theorem moveGatherRows : Statement .moveGatherRows := bare rfl rfl
theorem moveKvRead : Statement .moveKvRead := bare rfl rfl
theorem moveKvWrite : Statement .moveKvWrite := bare rfl rfl
theorem moveSend : Statement .moveSend := bare rfl rfl
theorem moveReceive : Statement .moveReceive := bare rfl rfl
theorem wait : Statement .wait := bare rfl rfl
theorem waitRetire : Statement .waitRetire := bare rfl rfl
theorem waitLimitExpiry : Statement .waitLimitExpiry := bare rfl rfl
theorem red : Statement .red := bare rfl rfl
theorem stepEnd : Statement .stepEnd := bare rfl rfl
theorem initEnd : Statement .initEnd := bare rfl rfl
theorem barrier : Statement .barrier := bare rfl rfl
theorem curtain : Statement .curtain := bare rfl rfl
theorem event : Statement .event := bare rfl rfl
theorem gridStart : Statement .gridStart := bare rfl rfl
theorem sampler : Statement .sampler := bare rfl rfl
theorem masker : Statement .masker := bare rfl rfl
theorem qstat : Statement .qstat := bare rfl rfl
theorem specv : Statement .specv := bare rfl rfl
theorem gridChangeover : Statement .gridChangeover := bare rfl rfl
theorem hint : Statement .hint := bare rfl rfl
theorem digest : Statement .digest := bare rfl rfl
theorem loop : Statement .loop := bare rfl rfl
theorem stageCueStart (x0 : List Found) : Statement (.stageCueStart x0) := bare rfl rfl
theorem rampUpDone : Statement .rampUpDone := bare rfl rfl
theorem sceneBoundary : Statement .sceneBoundary := bare rfl rfl
theorem rampDownDone : Statement .rampDownDone := bare rfl rfl
theorem darkIdleExpiry : Statement .darkIdleExpiry := bare rfl rfl
theorem bubble : Statement .bubble := bare rfl rfl
theorem flicker : Statement .flicker := bare rfl rfl
theorem flickerBurstEnd : Statement .flickerBurstEnd := bare rfl rfl
theorem transferComplete (x0 : Fin 64) (x1 : List Found) : Statement (.transferComplete x0 x1) := bare rfl rfl
theorem redComplete (x0 : Fin 128) : Statement (.redComplete x0) := bare rfl rfl
theorem barrierComplete (x0 : Fin 128) : Statement (.barrierComplete x0) := bare rfl rfl
theorem gridProgramDone (x0 : Fin 16) : Statement (.gridProgramDone x0) := bare rfl rfl
theorem changeoverSwap : Statement .changeoverSwap := bare rfl rfl
theorem changeoverTimeout : Statement .changeoverTimeout := bare rfl rfl
theorem collectiveTimeout : Statement .collectiveTimeout := bare rfl rfl
theorem deviceLost (x0 : BitVec 13) : Statement (.deviceLost x0) := bare rfl rfl
theorem checkpointComplete : Statement .checkpointComplete := bare rfl rfl
theorem formation : Statement .formation := bare rfl rfl
theorem spillStart : Statement .spillStart := bare rfl rfl
theorem spillComplete (x0 : Bool) : Statement (.spillComplete x0) := bare rfl rfl
theorem returnComplete (x0 : Bool) : Statement (.returnComplete x0) := bare rfl rfl
theorem tokenArrival : Statement .tokenArrival := bare rfl rfl
theorem controlTokenExpiry (x0 : Fin 320) : Statement (.controlTokenExpiry x0) := bare rfl rfl
theorem orphanData (x0 : Fin 320) : Statement (.orphanData x0) := bare rfl rfl
theorem tsRead (x0 : Fin 320) (x1 : List Found) : Statement (.tsRead x0 x1) := bare rfl rfl
theorem tsWrite (x0 : Fin 320) : Statement (.tsWrite x0) := bare rfl rfl
theorem hbmRead (x0 : Fin 320) (x1 : List Found) : Statement (.hbmRead x0 x1) := bare rfl rfl
theorem hbmWrite (x0 : Fin 320) : Statement (.hbmWrite x0) := bare rfl rfl
theorem cstRead (x0 : Fin 320) : Statement (.cstRead x0) := bare rfl rfl
theorem cstWrite (x0 : Fin 320) : Statement (.cstWrite x0) := bare rfl rfl
theorem wdata (x0 : Fin 320) : Statement (.wdata x0) := bare rfl rfl
theorem edgeReply (x0 : Fin 320) : Statement (.edgeReply x0) := bare rfl rfl
theorem halt (x0 : Fin 256) : Statement (.halt x0) := bare rfl rfl
theorem lanternNop (x0 : Fin 256) : Statement (.lanternNop x0) := bare rfl rfl
theorem add (x0 : Fin 256) : Statement (.add x0) := bare rfl rfl
theorem sub (x0 : Fin 256) : Statement (.sub x0) := bare rfl rfl
theorem and (x0 : Fin 256) : Statement (.and x0) := bare rfl rfl
theorem or (x0 : Fin 256) : Statement (.or x0) := bare rfl rfl
theorem xor (x0 : Fin 256) : Statement (.xor x0) := bare rfl rfl
theorem shl (x0 : Fin 256) : Statement (.shl x0) := bare rfl rfl
theorem shr (x0 : Fin 256) : Statement (.shr x0) := bare rfl rfl
theorem sra (x0 : Fin 256) : Statement (.sra x0) := bare rfl rfl
theorem slt (x0 : Fin 256) : Statement (.slt x0) := bare rfl rfl
theorem sltu (x0 : Fin 256) : Statement (.sltu x0) := bare rfl rfl
theorem mul (x0 : Fin 256) : Statement (.mul x0) := bare rfl rfl
theorem addi (x0 : Fin 256) : Statement (.addi x0) := bare rfl rfl
theorem andi (x0 : Fin 256) : Statement (.andi x0) := bare rfl rfl
theorem ori (x0 : Fin 256) : Statement (.ori x0) := bare rfl rfl
theorem lui (x0 : Fin 256) : Statement (.lui x0) := bare rfl rfl
theorem fadd (x0 : Fin 256) : Statement (.fadd x0) := bare rfl rfl
theorem fsub (x0 : Fin 256) : Statement (.fsub x0) := bare rfl rfl
theorem fmul (x0 : Fin 256) : Statement (.fmul x0) := bare rfl rfl
theorem fmax (x0 : Fin 256) : Statement (.fmax x0) := bare rfl rfl
theorem fmin (x0 : Fin 256) : Statement (.fmin x0) := bare rfl rfl
theorem flt (x0 : Fin 256) : Statement (.flt x0) := bare rfl rfl
theorem ffma (x0 : Fin 256) : Statement (.ffma x0) := bare rfl rfl
theorem fexp (x0 : Fin 256) : Statement (.fexp x0) := bare rfl rfl
theorem fln (x0 : Fin 256) : Statement (.fln x0) := bare rfl rfl
theorem frecip (x0 : Fin 256) : Statement (.frecip x0) := bare rfl rfl
theorem itof (x0 : Fin 256) : Statement (.itof x0) := bare rfl rfl
theorem ftoi (x0 : Fin 256) : Statement (.ftoi x0) := bare rfl rfl
theorem rng (x0 : Fin 256) : Statement (.rng x0) := bare rfl rfl
theorem vadd (x0 : Fin 256) : Statement (.vadd x0) := bare rfl rfl
theorem vsub (x0 : Fin 256) : Statement (.vsub x0) := bare rfl rfl
theorem vmul (x0 : Fin 256) : Statement (.vmul x0) := bare rfl rfl
theorem vmax (x0 : Fin 256) : Statement (.vmax x0) := bare rfl rfl
theorem vmin (x0 : Fin 256) : Statement (.vmin x0) := bare rfl rfl
theorem vfma (x0 : Fin 256) : Statement (.vfma x0) := bare rfl rfl
theorem vexp (x0 : Fin 256) : Statement (.vexp x0) := bare rfl rfl
theorem vbcast (x0 : Fin 256) : Statement (.vbcast x0) := bare rfl rfl
theorem vextr (x0 : Fin 256) : Statement (.vextr x0) := bare rfl rfl
theorem vins (x0 : Fin 256) : Statement (.vins x0) := bare rfl rfl
theorem vrsum (x0 : Fin 256) : Statement (.vrsum x0) := bare rfl rfl
theorem vrmax (x0 : Fin 256) : Statement (.vrmax x0) := bare rfl rfl
theorem ld (x0 : Fin 256) : Statement (.ld x0) := bare rfl rfl
theorem st (x0 : Fin 256) : Statement (.st x0) := bare rfl rfl
theorem ldb (x0 : Fin 256) : Statement (.ldb x0) := bare rfl rfl
theorem stb (x0 : Fin 256) : Statement (.stb x0) := bare rfl rfl
theorem vld (x0 : Fin 256) : Statement (.vld x0) := bare rfl rfl
theorem vst (x0 : Fin 256) : Statement (.vst x0) := bare rfl rfl
theorem beq (x0 : Fin 256) : Statement (.beq x0) := bare rfl rfl
theorem bne (x0 : Fin 256) : Statement (.bne x0) := bare rfl rfl
theorem blt (x0 : Fin 256) : Statement (.blt x0) := bare rfl rfl
theorem jal (x0 : Fin 256) : Statement (.jal x0) := bare rfl rfl
theorem jr (x0 : Fin 256) : Statement (.jr x0) := bare rfl rfl
theorem send (x0 : Fin 256) : Statement (.send x0) := bare rfl rfl
theorem sendc (x0 : Fin 256) : Statement (.sendc x0) := bare rfl rfl
theorem sendd (x0 : Fin 256) : Statement (.sendd x0) := bare rfl rfl
theorem recv (x0 : Fin 256) : Statement (.recv x0) := bare rfl rfl
theorem ccount (x0 : Fin 256) : Statement (.ccount x0) := bare rfl rfl
theorem signal (x0 : Fin 256) : Statement (.signal x0) := bare rfl rfl
theorem hbmRefresh (x0 : Fin 512) : Statement (.hbmRefresh x0) := bare rfl rfl
theorem hbmTempRead (x0 : W64) (x1 : W32) : Statement (.hbmTempRead x0 x1) := bare rfl rfl
theorem scrubRead (x0 : MemCode) (x1 : Fin 512) (x2 : BitVec 39) (x3 : Finding) : Statement (.scrubRead x0 x1 x2 x3) := bare rfl rfl
theorem bar2Read (x0 : BitVec 39) (x1 : BitVec 13) (x2 : List Found) : Statement (.bar2Read x0 x1 x2) := bare rfl rfl
theorem bar2Write (x0 : BitVec 39) (x1 : List Byte) : Statement (.bar2Write x0 x1) := bare rfl rfl
theorem memRefreshOvr (x0 : Master) (x1 : W32) (x2 : W32) : Statement (.memRefreshOvr x0 x1 x2) := bare rfl rfl
theorem memWipe (x0 : Master) (x1 : W32) (x2 : W32) : Statement (.memWipe x0 x1 x2) := bare rfl rfl
theorem strikeComplete (x0 : W32) : Statement (.strikeComplete x0) := bare rfl rfl
theorem sqDoorbell (x0 : Fin 64) (x1 : W32) : Statement (.sqDoorbell x0 x1) := bare rfl rfl
theorem sqFetch (x0 : Fin 64) (x1 : Option (List Byte)) (x2 : HostBuffer) : Statement (.sqFetch x0 x1 x2) := bare rfl rfl
theorem cqDoorbell (x0 : Fin 64) (x1 : W32) : Statement (.cqDoorbell x0 x1) := bare rfl rfl
theorem cqHeldEntryWrite (x0 : Fin 64) : Statement (.cqHeldEntryWrite x0) := bare rfl rfl
theorem cqIrqTimer (x0 : Fin 64) : Statement (.cqIrqTimer x0) := bare rfl rfl
theorem queueEnable (x0 : Master) (x1 : Fin 64) (x2 : W32) : Statement (.queueEnable x0 x1 x2) := bare rfl rfl
theorem queueDisable (x0 : Master) (x1 : Fin 64) (x2 : W32) : Statement (.queueDisable x0 x1 x2) := bare rfl rfl
theorem loadProgram (x0 : Submission) (x1 : HostBuffer) : Statement (.loadProgram x0 x1) := entry rfl rfl rfl
theorem unloadProgram (x0 : Submission) : Statement (.unloadProgram x0) := entry rfl rfl rfl
theorem openStream (x0 : Submission) (x1 : HostBuffer) : Statement (.openStream x0 x1) := entry rfl rfl rfl
theorem append (x0 : Submission) (x1 : HostBuffer) : Statement (.append x0 x1) := entry rfl rfl rfl
theorem closeStream (x0 : Submission) : Statement (.closeStream x0) := entry rfl rfl rfl
theorem pauseStream (x0 : Submission) : Statement (.pauseStream x0) := entry rfl rfl rfl
theorem resumeStream (x0 : Submission) : Statement (.resumeStream x0) := entry rfl rfl rfl
theorem forkStream (x0 : Submission) (x1 : HostBuffer) : Statement (.forkStream x0 x1) := entry rfl rfl rfl
theorem checkpoint (x0 : Submission) : Statement (.checkpoint x0) := entry rfl rfl rfl
theorem restore (x0 : Submission) (x1 : HostBuffer) : Statement (.restore x0 x1) := entry rfl rfl rfl
theorem runJob (x0 : Submission) : Statement (.runJob x0) := entry rfl rfl rfl
theorem readEnergy (x0 : Submission) : Statement (.readEnergy x0) := entry rfl rfl rfl
theorem abortQueue (x0 : Submission) : Statement (.abortQueue x0) := entry rfl rfl rfl
theorem safetyCurtain (x0 : Submission) : Statement (.safetyCurtain x0) := entry rfl rfl rfl
theorem safetyCurtainComplete : Statement .safetyCurtainComplete := bare rfl rfl
theorem hifCurtain (x0 : Master) (x1 : W32) (x2 : W32) : Statement (.hifCurtain x0 x1 x2) := bare rfl rfl
theorem mailbox (x0 : Submission) : Statement (.mailbox x0) := entry rfl rfl rfl
theorem mailboxAnswer (x0 : BitVec 8) (x1 : W64) (x2 : W64) (x3 : W64) : Statement (.mailboxAnswer x0 x1 x2 x3) := bare rfl rfl
theorem invalidOpcode (x0 : Submission) : Statement (.invalidOpcode x0) := entry rfl rfl rfl
theorem sptArm (x0 : SptVia) : Statement (.sptArm x0) := by
  cases x0
  · exact bare rfl rfl
  · exact entry rfl rfl rfl
theorem sptStop (x0 : SptVia) : Statement (.sptStop x0) := by
  cases x0
  · exact bare rfl rfl
  · exact entry rfl rfl rfl
theorem sptForce (x0 : SptVia) : Statement (.sptForce x0) := by
  cases x0
  · exact bare rfl rfl
  · exact entry rfl rfl rfl
theorem spotlightRead (x0 : Submission) : Statement (.spotlightRead x0) := entry rfl rfl rfl
theorem sptAutoTimeout : Statement .sptAutoTimeout := bare rfl rfl
theorem sptArmFire (x0 : Bool) (x1 : BitVec 6) : Statement (.sptArmFire x0 x1) := bare rfl rfl
theorem sptTimerExpiry (x0 : Fin 4) : Statement (.sptTimerExpiry x0) := bare rfl rfl
theorem waveRecord (x0 : W64) (x1 : BitVec 40) (x2 : BitVec 4) : Statement (.waveRecord x0 x1 x2) := bare rfl rfl
theorem persAcquisitionEnd (x0 : List (BitVec 10)) : Statement (.persAcquisitionEnd x0) := bare rfl rfl
theorem pcieLinkDown : Statement .pcieLinkDown := bare rfl rfl
theorem linkRateChange (x0 : BitVec 3) (x1 : BitVec 5) (x2 : Bool) : Statement (.linkRateChange x0 x1 x2) := bare rfl rfl
theorem d3hotEntry : Statement .d3hotEntry := bare rfl rfl
theorem d0Return : Statement .d0Return := bare rfl rfl
theorem flr : Statement .flr := bare rfl rfl
theorem perstAssert : Statement .perstAssert := bare rfl rfl
theorem perstRelease : Statement .perstRelease := bare rfl rfl
theorem autoload : Statement .autoload := bare rfl rfl
theorem doeDiscovery : Statement .doeDiscovery := bare rfl rfl
theorem doeAbort : Statement .doeAbort := bare rfl rfl
theorem getVersion : Statement .getVersion := bare rfl rfl
theorem getCapabilities : Statement .getCapabilities := bare rfl rfl
theorem negotiateAlgorithms : Statement .negotiateAlgorithms := bare rfl rfl
theorem getDigests : Statement .getDigests := bare rfl rfl
theorem getCertificate (x0 : BitVec 4) (x1 : BitVec 16) (x2 : BitVec 16) : Statement (.getCertificate x0 x1 x2) := bare rfl rfl
theorem challenge (x0 : BitVec 4) (x1 : BitVec 256) : Statement (.challenge x0 x1) := bare rfl rfl
theorem getMeasurements (x0 : Byte) (x1 : Bool) (x2 : BitVec 256) : Statement (.getMeasurements x0 x1 x2) := bare rfl rfl
theorem unsupportedRequest (x0 : Byte) : Statement (.unsupportedRequest x0) := bare rfl rfl
theorem los (x0 : Fin 17) (x1 : Bool) : Statement (.los x0 x1) := bare rfl rfl
theorem laneLockLoss (x0 : Fin 17) (x1 : Fin 4) : Statement (.laneLockLoss x0 x1) := bare rfl rfl
theorem alignBlock (x0 : Fin 17) (x1 : Fin 4) (x2 : W64) : Statement (.alignBlock x0 x1 x2) := bare rfl rfl
theorem alignDisagreement (x0 : Fin 17) : Statement (.alignDisagreement x0) := bare rfl rfl
theorem trainBlock (x0 : Fin 17) (x1 : Fin 4) (x2 : W64) (x3 : List Sample) : Statement (.trainBlock x0 x1 x2 x3) := bare rfl rfl
theorem trainClockStable (x0 : Fin 17) : Statement (.trainClockStable x0) := bare rfl rfl
theorem trainingLimitExpiry (x0 : Fin 17) : Statement (.trainingLimitExpiry x0) := bare rfl rfl
theorem trainingRetry (x0 : Fin 17) : Statement (.trainingRetry x0) := bare rfl rfl
theorem portEnable (x0 : Master) (x1 : Fin 17) (x2 : W32) : Statement (.portEnable x0 x1 x2) := bare rfl rfl
theorem portRetrain (x0 : Master) (x1 : Fin 17) (x2 : W32) : Statement (.portRetrain x0 x1 x2) := bare rfl rfl
theorem hello (x0 : Fin 17) (x1 : Frame) : Statement (.hello x0 x1) := frame rfl rfl rfl
theorem acknak (x0 : Fin 17) (x1 : Frame) : Statement (.acknak x0 x1) := frame rfl rfl rfl
theorem credit (x0 : Fin 17) (x1 : Frame) : Statement (.credit x0 x1) := frame rfl rfl rfl
theorem replayTimeout (x0 : Fin 17) : Statement (.replayTimeout x0) := bare rfl rfl
theorem dataFrame (x0 : Fin 17) (x1 : Frame) : Statement (.dataFrame x0 x1) := frame rfl rfl rfl
theorem collectiveFrame (x0 : Fin 17) (x1 : Frame) : Statement (.collectiveFrame x0 x1) := frame rfl rfl rfl
theorem join (x0 : BitVec 13) (x1 : W16) (x2 : Byte) : Statement (.join x0 x1 x2) := bare rfl rfl
theorem joinDone (x0 : W16) : Statement (.joinDone x0) := bare rfl rfl
theorem lost (x0 : BitVec 13) : Statement (.lost x0) := bare rfl rfl
theorem aliasMsg (x0 : BitVec 13) (x1 : BitVec 13) : Statement (.aliasMsg x0 x1) := bare rfl rfl
theorem era (x0 : Byte) : Statement (.era x0) := bare rfl rfl
theorem takeoverReq (x0 : BitVec 13) (x1 : BitVec 13) : Statement (.takeoverReq x0 x1) := bare rfl rfl
theorem takeoverGrant (x0 : BitVec 13) : Statement (.takeoverGrant x0) := bare rfl rfl
theorem takeoverDeny (x0 : BitVec 13) : Statement (.takeoverDeny x0) := bare rfl rfl
theorem fence : Statement .fence := bare rfl rfl
theorem takeoverNote (x0 : BitVec 13) (x1 : BitVec 13) (x2 : Byte) : Statement (.takeoverNote x0 x1 x2) := bare rfl rfl
theorem sync (x0 : Fin 17) (x1 : Frame) (x2 : BitVec 48) (x3 : List (BitVec 48)) : Statement (.sync x0 x1 x2 x3) :=
  fun hi => frame (i := .sync x0 x1 x2 x3) rfl rfl (by simp only [Instr.wellFormed, Bool.and_eq_true] at hi ⊢; simp [hi]) hi
theorem syncSend (x0 : List (BitVec 48)) : Statement (.syncSend x0) := bare rfl rfl
theorem syncLoss : Statement .syncLoss := bare rfl rfl
theorem pdelayReqSend (x0 : Fin 17) (x1 : BitVec 48) : Statement (.pdelayReqSend x0 x1) := bare rfl rfl
theorem pdelayReq (x0 : Fin 17) (x1 : Frame) (x2 : BitVec 48) (x3 : BitVec 48) : Statement (.pdelayReq x0 x1 x2 x3) := frame rfl rfl rfl
theorem pdelayResp (x0 : Fin 17) (x1 : Frame) (x2 : BitVec 48) : Statement (.pdelayResp x0 x1 x2) := frame rfl rfl rfl
theorem pdelayTimeout (x0 : Fin 17) : Statement (.pdelayTimeout x0) := bare rfl rfl
theorem curtainArmFrame (x0 : Fin 17) (x1 : Frame) : Statement (.curtainArmFrame x0 x1) := frame rfl rfl rfl
theorem curtainFallFrame (x0 : Fin 17) (x1 : Frame) : Statement (.curtainFallFrame x0 x1) := frame rfl rfl rfl
theorem curtainFall : Statement .curtainFall := bare rfl rfl
theorem houseClockWrap : Statement .houseClockWrap := bare rfl rfl
theorem heartbeat (x0 : Fin 17) (x1 : Frame) : Statement (.heartbeat x0 x1) := frame rfl rfl rfl
theorem heartbeatSend : Statement .heartbeatSend := bare rfl rfl
theorem heartbeatTimeout : Statement .heartbeatTimeout := bare rfl rfl
theorem takeoverReqResend : Statement .takeoverReqResend := bare rfl rfl
theorem takeoverSelfGrant : Statement .takeoverSelfGrant := bare rfl rfl
theorem pairingWaitExpiry : Statement .pairingWaitExpiry := bare rfl rfl
theorem logWrite (x0 : Fin 17) (x1 : Frame) : Statement (.logWrite x0 x1) := frame rfl rfl rfl
theorem logCommit (x0 : Fin 17) (x1 : Frame) : Statement (.logCommit x0 x1) := frame rfl rfl rfl
theorem logDelivered (x0 : Fin 17) (x1 : Frame) : Statement (.logDelivered x0 x1) := frame rfl rfl rfl
theorem commitAcknowledged : Statement .commitAcknowledged := bare rfl rfl
theorem logQueueResume : Statement .logQueueResume := bare rfl rfl
theorem usyDrain (x0 : Master) : Statement (.usyDrain x0) := bare rfl rfl
theorem drainAcknowledged : Statement .drainAcknowledged := bare rfl rfl
theorem usyFail (x0 : Master) : Statement (.usyFail x0) := bare rfl rfl
theorem dimmerControlPeriod (x0 : W16) (x1 : W16) : Statement (.dimmerControlPeriod x0 x1) := bare rfl rfl
theorem calibrationReading (x0 : W16) (x1 : W64) : Statement (.calibrationReading x0 x1) := bare rfl rfl
theorem thermalReading (x0 : Byte) (x1 : Byte) : Statement (.thermalReading x0 x1) := bare rfl rfl
theorem hintPrearm : Statement .hintPrearm := bare rfl rfl
theorem dimCap (x0 : Master) (x1 : W32) (x2 : W32) : Statement (.dimCap x0 x1 x2) := bare rfl rfl
theorem dimFixed (x0 : Master) (x1 : W32) : Statement (.dimFixed x0 x1) := bare rfl rfl
theorem registerWrite (x0 : Master) (x1 : BitVec 26) (x2 : W32) (x3 : BitVec 4) : Statement (.registerWrite x0 x1 x2 x3) := bare rfl rfl
theorem rwcPairTimeout (x0 : Master) : Statement (.rwcPairTimeout x0) := bare rfl rfl
theorem digestRingConfig (x0 : Master) (x1 : BitVec 26) (x2 : W32) : Statement (.digestRingConfig x0 x1 x2) := bare rfl rfl
theorem cfgUse (x0 : Master) : Statement (.cfgUse x0) := bare rfl rfl
theorem cfgCapture (x0 : Master) : Statement (.cfgCapture x0) := bare rfl rfl
theorem cfgOff (x0 : Master) : Statement (.cfgOff x0) := bare rfl rfl
theorem cfgPassComplete (x0 : BitVec 24) : Statement (.cfgPassComplete x0) := bare rfl rfl
theorem snpGo (x0 : Master) : Statement (.snpGo x0) := bare rfl rfl
theorem snapshot : Statement .snapshot := bare rfl rfl
theorem clbRaise (x0 : Master) (x1 : Fin 16) (x2 : W32) : Statement (.clbRaise x0 x1 x2) := bare rfl rfl
theorem clbPendingClear (x0 : Master) (x1 : Fin 16) (x2 : W32) : Statement (.clbPendingClear x0 x1 x2) := bare rfl rfl
theorem secLcReq (x0 : Master) (x1 : W32) (x2 : W32) : Statement (.secLcReq x0 x1 x2) := bare rfl rfl
theorem secSvnBurn (x0 : Master) (x1 : W32) (x2 : W32) : Statement (.secSvnBurn x0 x1 x2) := bare rfl rfl
theorem secKeyRevoke (x0 : Master) (x1 : W32) (x2 : W32) : Statement (.secKeyRevoke x0 x1 x2) := bare rfl rfl
theorem secVovr (x0 : Master) (x1 : Fin 4) (x2 : W32) (x3 : W32) : Statement (.secVovr x0 x1 x2 x3) := bare rfl rfl
theorem flashRead (x0 : Master) : Statement (.flashRead x0) := bare rfl rfl
theorem flashProgram (x0 : Master) : Statement (.flashProgram x0) := bare rfl rfl
theorem flashErase (x0 : Master) : Statement (.flashErase x0) := bare rfl rfl
theorem flashCommandDone (x0 : Bool) : Statement (.flashCommandDone x0) := bare rfl rfl
theorem modEnRise : Statement .modEnRise := bare rfl rfl
theorem modEnFall : Statement .modEnFall := bare rfl rfl
theorem inputFault : Statement .inputFault := bare rfl rfl
theorem status : Statement .status := bare rfl rfl
theorem vin (x0 : W16) : Statement (.vin x0) := bare rfl rfl
theorem iin (x0 : W16) : Statement (.iin x0) := bare rfl rfl
theorem pin (x0 : W16) : Statement (.pin x0) := bare rfl rfl
theorem temps (x0 : Byte) : Statement (.temps x0) := bare rfl rfl
theorem energy : Statement .energy := bare rfl rfl
theorem fru : Statement .fru := bare rfl rfl
theorem clearFault (x0 : Byte) : Statement (.clearFault x0) := bare rfl rfl
theorem headerLock (x0 : Fin 17) (x1 : Fin 4) : Statement (.headerLock x0 x1) := bare rfl rfl
theorem pcieLinkUp : Statement .pcieLinkUp := bare rfl rfl
theorem inputInRange (x0 : W16) : Statement (.inputInRange x0) := bare rfl rfl
theorem uvWarn (x0 : W16) : Statement (.uvWarn x0) := bare rfl rfl
theorem hckTimeNsRead (x0 : Master) : Statement (.hckTimeNsRead x0) := bare rfl rfl
theorem edgeCancelled (x0 : BitVec 9) : Statement (.edgeCancelled x0) := bare rfl rfl
theorem msixVectorUnmask (x0 : Fin 512) : Statement (.msixVectorUnmask x0) := bare rfl rfl

end Sys2Proof.Laws.WellFormed
end

