-- ==== Sys2Proof/Tests/Slice0.lean ====
section
/-! SUPPORT. Tests: ill-formed commands are refused, states that meet the hypotheses of every statement, and single steps against the
manual's words and examples. -/
namespace Sys2Proof.Tests

open Sys2Proof Sys2Proof.Machine

-- One theorem after another: each kernel evaluation would hold a thread.
set_option Elab.async false

/-! ### Builders -/

/-- Fields at their low bits, as one number. -/
def place (fs : List (Nat × Nat)) : Nat := fs.foldl (fun n f => n + f.2 * 2 ^ f.1) 0
/-- Fields at their byte offsets, as `n` bytes. -/
def descOf (n : Nat) (fs : List (Nat × Nat)) : List Byte := leBytes n (fs.foldl (fun n f => n + f.2 * 2 ^ (8 * f.1)) 0)
/-- The machine after reset with this package. -/
def on (d : Dev) : State := { State.reset with dev := d }
/-- The Prompter runs, at PC 0 the cue `w`, its descriptor where DESC says. -/
def withCue (w : Nat) (desc : List Byte) (d : Dev) : State :=
  on { d with
    prompter := { d.prompter with run := .step }
    mems := { d.mems with cue := memPuts (memPuts [] (64 * cueDesc w) desc) 0 (leBytes 16 w) } }
/-- Lantern 0 runs the instruction `w` at PC 0. -/
def withLantern (w : LInst) (x : Lantern) (d : Dev) : State :=
  on { d with
    grid := { d.grid with lanterns := [(0, { x with running := true, lo := 0, hi := 2048 })] }
    mems := { d.mems with lins := memPuts [] 0 (leBytes 4 (encodeLantern w).toNat) } }
/-- A submission on pair 0 with these operand bytes. -/
def sub (op : Byte) (ops : List Byte) : Submission := { q := 0, opcode := op, flags := 0, cid := 7, stream := 0, job := 0, ops := ops }
/-- A frame of a type with this payload and a right CRC. -/
def frameOf (ftype seq dst : Nat) (bs : List Byte) : Frame :=
  let st := BitVec.ofNat 64 (place [(0, 0x78), (8, ftype), (16, seq), (40, bs.length), (56, 32)])
  let h := BitVec.ofNat 64 dst
  { start := st, hdr := h, payload := bs, crc := BitVec.ofNat 32 (frameCrc st h bs), stray := false }

/-! ### Ill-formed commands -/

theorem test_submission_of_55_bytes : (Instr.closeStream (sub 0x12 (List.replicate 55 0))).wellFormed = false := by decide
theorem test_submission_of_56_bytes : (Instr.closeStream (sub 0x12 (List.replicate 56 0))).wellFormed = true := by decide
theorem test_frame_of_12_bytes : (Instr.dataFrame 0 (frameOf 1 0 0 (List.replicate 12 0))).wellFormed = false := by decide +kernel
theorem test_frame_of_4104_bytes :
    (Frame.wellFormed { start := 0, hdr := 0, payload := List.replicate 4104 0, crc := 0, stray := false }) = false := by decide +kernel
theorem test_spotlight_command_of_57_bytes : (Instr.sptArm (.cmd (sub 0x60 (List.replicate 57 0)))).wellFormed = false := by decide
theorem test_entry_of_63_bytes :
    (Instr.sqFetch 0 (some (List.replicate 63 0)) { ok := true, bytes := [], tokens := [] }).wellFormed = false := by decide
theorem test_read_of_no_bytes : (Instr.bar2Read 0 0 []).wellFormed = false := by decide
theorem test_read_of_4097_bytes : (Instr.bar2Read 0 4097 []).wellFormed = false := by decide
theorem test_write_of_no_bytes : (Instr.bar2Write 0 []).wellFormed = false := by decide
theorem test_257_columns : columnsWellFormed (List.replicate 257 0) = false := by decide +kernel

/-! ### Witnesses: lanterns -/

def inst (op : LOp) (a b c : BitVec 4) (imm : BitVec 12) : LInst := { op := op, a := a, b := b, c := c, imm := imm }
def lan0 : Lantern := Lantern.idle 0

theorem test_witness_LanternDecodeEncode : (((0xFFFFFFFF : W32).setWidth 8).toNat ∉ lanternOps) ∧ decodeLantern 0x2D0 = none := by
  decide +kernel
theorem test_witness_LanternScalarResult : ∃ s w v, LanternAt s 0 w ∧ gResult (s.dev.lantern 0) w = some v :=
  ⟨withLantern (inst .addi 15 15 0 0xFFF) lan0 Dev.reset, inst .addi 15 15 0 0xFFF, 0xFFFFFFFF, by
    unfold LanternAt On; decide +kernel⟩
theorem test_witness_LanternVectorResult : ∃ s w f, LanternAt s 0 w ∧ vResult (s.dev.lantern 0) w = some f :=
  ⟨withLantern (inst .vbcast 7 0 0 0) lan0 Dev.reset, inst .vbcast 7 0 0 0, fun _ => 0, by unfold LanternAt On; decide +kernel, rfl⟩
theorem test_witness_LanternControl :
    (∃ s w p, LanternAt s 0 w ∧ branchTo (s.dev.lantern 0) w = some p) ∧
    ∀ op ∈ [LOp.jal, .ccount, .signal, .halt], ∃ s w, LanternAt s 0 w ∧ w.op = op := by
  refine ⟨⟨withLantern (inst .beq 1 2 0 0x800) lan0 Dev.reset, inst .beq 1 2 0 0x800, 0, by unfold LanternAt On; decide +kernel⟩, ?_⟩
  have h : ∀ op ∈ [LOp.jal, .ccount, .signal, .halt],
      LanternAt (withLantern (inst op 15 0 0 15) lan0 Dev.reset) 0 (inst op 15 0 0 15) := by unfold LanternAt On; decide +kernel
  exact fun op hop => ⟨_, _, h op hop, rfl⟩
/-- An access of the last bytes of data memory, and one just above it. -/
def lanB (v : W32) : Lantern := { lan0 with g := [(1, v)] }
theorem test_witness_LanternLoad : ∀ x ∈ [(LOp.ld, 4, 0xFFFC), (.ldb, 1, 0xFFFF), (.vld, 64, 0xFFC0)],
    let w := inst x.1 7 1 0 0
    let s := withLantern w (lanB (BitVec.ofNat 32 x.2.2)) Dev.reset
    LanternAt s 0 w ∧ accessOf w.op = some x.2.1 ∧ accessOk (s.dev.lantern 0) w x.2.1 ∧
      s.dev.errorsIn .ldata (addressOf (s.dev.lantern 0) w) x.2.1 = [] := by
  unfold LanternAt On accessOk; decide +kernel
theorem test_witness_LanternStore : ∀ x ∈ [(LOp.st, 4, 0xFFAC), (.stb, 1, 0xFFAF), (.vst, 64, 0xFF40)],
    let w := inst x.1 7 1 0 0
    let s := withLantern w (lanB (BitVec.ofNat 32 x.2.2)) Dev.reset
    LanternAt s 0 w ∧ accessOf w.op = some x.2.1 ∧ accessOk (s.dev.lantern 0) w x.2.1 ∧
      addressOf (s.dev.lantern 0) w + x.2.1 ≤ s.dev.routeArea ∧ s.dev.mems.errors = [] := by
  unfold LanternAt On accessOk; decide +kernel
theorem test_witness_LanternFault : ∀ x ∈ [(LOp.vld, 64, 8, 0x10000, 1), (.ld, 4, 0, 0xFFFE, 2), (.stb, 1, 0, 0x10000, 3)],
    let w := inst x.1 x.2.2.1 1 0 0
    let s := withLantern w (lanB (BitVec.ofNat 32 x.2.2.2.1)) Dev.reset
    let n := x.2.1
    let a := addressOf (s.dev.lantern 0) w
    let code := x.2.2.2.2
    LanternAt s 0 w ∧ accessOf w.op = some n ∧
      ((n = 64 ∧ 8 ≤ w.a.toNat ∧ code = 1) ∨ ((n = 64 → w.a.toNat < 8) ∧ a % n ≠ 0 ∧ code = 2) ∨
        ((n = 64 → w.a.toNat < 8) ∧ a % n = 0 ∧ 0x10000 < a + n ∧ code = 3)) := by
  unfold LanternAt On; decide +kernel
theorem test_witness_LanternTokens :
    (∀ op ∈ [LOp.send, .sendc, .sendd, .recv], let w := inst op 0 7 0 15; LanternAt (withLantern w lan0 Dev.reset) 0 w ∧ w.b.toNat < 8) ∧
    (let w := inst .recv 0 7 0 15
     let s := withLantern w lan0 { Dev.reset with grid := { Grid.reset with channels := [(15, [(1, 2), (3, 4)])] } }
     LanternAt s 0 w ∧ s.dev.grid.channel 0 15 = [(1, 2), (3, 4)]) ∧
    (let w := inst .rng 0 1 2 0
     let s := withLantern w (lanB 0xFFF0) Dev.reset
     LanternAt s 0 w ∧ ((s.dev.lantern 0).gr 1).toNat + 16 ≤ 0x10000 ∧ s.dev.errorsIn .ldata 0xFFF0 16 = []) := by
  unfold LanternAt On; decide +kernel

/-! ### Witnesses: cues -/

def sceneW : Nat := place [(0, 0x10), (32, 64), (40, 1)]
def sceneD : List Byte := descOf 128 [(4, 1), (8, 64), (12, 1), (32, 128)]
def vecW : Nat := place [(0, 0x11), (32, 119), (40, 1)]
def vecD : List Byte := descOf 64 [(0, 1), (4, 1), (8, 1)]
def qntW : Nat := place [(0, 0x12), (32, 64), (40, 1)]
def qntD : List Byte := descOf 64 [(8, 64), (12, 1), (44, 64)]
def eventW : Nat := place [(0, 0x31), (40, 4), (56, 15)]
def hintW : Nat := place [(0, 0x50), (32, 7), (36, 100), (44, 5)]
def loopW : Nat := place [(0, 0x60), (32, 1), (48, 1)]
def markW : Nat := place [(0, 0x51), (32, 0xFFFFFFFF), (64, 1)]
/-- The digest unit is on. -/
def digest : Dev := Dev.reset.setBit Reg.stgDetCtrl 1
/-- A digest entry that waits for its scene. -/
def waiting : DigestEntry := { value := none, seq := 0, pc := 0, phase := 0, rows := 1, kind := 0, n := 1 }

theorem test_witness_StageCuesIssue :
    CueAt (withCue vecW vecD Dev.reset) vecW vecD ∧ cueClass vecW = .vec ∧
    CueAt (withCue qntW qntD { Dev.reset with prompter := { Prompter.reset with manifestRead := true } }) qntW qntD ∧ cueClass qntW = .qnt ∧
    CueAt (withCue sceneW sceneD Dev.reset) sceneW sceneD ∧ cueClass sceneW = .scene ∧
    (∀ d ∈ [Dev.reset, digest, { digest with prompter := { digest.prompter with digests := [waiting] } }],
      let w := sceneW + 2 ^ 25
      let s := withCue w sceneD d
      CueAt s w sceneD ∧ s.dev.digOn = d.digOn ∧ (∀ e ∈ d.prompter.digests.head?, e.value = none)) ∧
    Dev.reset.digOn = false ∧ digest.digOn = true := by
  unfold CueAt On; decide +kernel
theorem test_witness_SimpleCuesIssue :
    (∀ w ∈ [0, eventW, hintW, loopW], CueAt (withCue w [] Dev.reset) w [] ∧ CueAt (withCue w [] (Dev.reset.setReg Reg.dimCtrl 2)) w []) ∧
    Dev.reset.fld Reg.dimCtrl 1 0 < 2 ∧ 2 ≤ (Dev.reset.setReg Reg.dimCtrl 2).fld Reg.dimCtrl 1 0 := by
  unfold CueAt On; decide +kernel
theorem test_witness_DigestMark :
    (∀ d ∈ [Dev.reset, digest, { digest with prompter := { digest.prompter with digests := [waiting] } }],
      CueAt (withCue markW [] d) markW []) ∧ cueClass markW = .digest := by
  unfold CueAt On; decide +kernel
theorem test_witness_CheckFaults :
    ∀ x ∈ [(0xFF, [], [1]), (2 ^ 127, [], [2]), (place [(0, 0x21), (40, 65)], [], [3]),
        (sceneW + 2 ^ 31 + 93 * 2 ^ 16, List.replicate 128 0, [2, 3, 0x30])],
      let s := withCue x.1 x.2.1 Dev.reset
      On s ∧ s.dev.mayIssue = true ∧ s.dev.errorsIn .cue 0 16 = [] ∧ s.dev.indexedCue (cueHere s) = some x.1 ∧ descInStore x.1 = true ∧
        s.dev.errorsIn .cue (64 * cueDesc x.1) (64 * (cueClass x.1).units) = [] ∧
        s.dev.checkFails s.ident x.1 (memBytes s.dev.mems.cue (64 * cueDesc x.1) (64 * (cueClass x.1).units)) = x.2.2 := by
  unfold On; decide +kernel
theorem test_witness_PromptFaultRecords :
    let d := (withCue 0 [] Dev.reset).dev
    d.halted = false ∧ d.xfers = [] ∧ d.cast.ahead = none := by decide +kernel

/-- A program region of one row, a geometry of one page, and a manifest read. -/
def ready : Dev :=
  { Dev.reset with
    mems := { Mems.reset with progSize := 64 }
    cast := { Cast.reset with geom := some { (geometryOf []) with pages := 1, pageBytes := 64, kvHeads := 1 } }
    prompter := { Prompter.reset with manifestRead := true } }
def moveW (mode q : Nat) : Nat := place [(0, 0x20), (32, q), (40, 1), (56, mode)]
def moveD : List Byte := descOf 128 [(0, 1), (64, hbmProg), (76, 64), (80, 1)]
def kvD : List Byte := descOf 128 [(0, 1), (76, 64), (80, 2 ^ 20)]
theorem test_witness_MovesBegin :
    (let w := moveW 0 47; CueAt (withCue w moveD ready) w moveD ∧ isMove 0 (cueHere (withCue w moveD ready)) = true) ∧
    (∀ x ∈ [(1, 31), (2, 0), (3, 47)], let w := moveW x.1 x.2
      CueAt (withCue w kvD ready) w kvD ∧ isMove x.1 (cueHere (withCue w kvD ready)) = true) := by
  unfold CueAt On; decide +kernel
/-- Joined, as index `k` of `n`. -/
def joined (n k : Nat) : Dev := (Dev.reset.setReg Reg.fabEns (BitVec.ofNat 32 (k * 65536 + 2 ^ 29))).setReg Reg.fabEnsCount (BitVec.ofNat 32 n)
theorem test_witness_FabricMovesBegin :
    let d := descOf 128 [(0, 1), (66, 55), (76, 64), (80, 1)]
    let r := descOf 128 [(0, 1), (76, 64), (80, 1)]
    CueAt (withCue (moveW 4 63) d (joined 2 1)) (moveW 4 63) d ∧ CueAt (withCue (moveW 5 48) r (joined 2 1)) (moveW 5 48) r := by
  unfold CueAt On; decide +kernel
def counterOf (n count : Nat) (err bounds : Bool) (l : Nat) : Tab Counter :=
  [(n, { count := count, err := err, bounds := bounds, ledger := List.replicate l { draw := 1, grid := 0, coll := false } })]
/-- A WAIT stalls on counter `n` for `k` tokens. -/
def stalled (n k : Nat) (c : Tab Counter) : State :=
  on { Dev.reset.setReg Reg.stgWaitLimit 1 with
    prompter := { Prompter.reset with run := .step, wait := some { ctr := n, count := k }, counters := c } }
theorem test_witness_WaitStallsAndRetires :
    (let w := place [(0, 0x21), (32, 119), (40, 1)]
     let d : Dev := { Dev.reset with prompter := { Prompter.reset with counters := counterOf 119 0 false false 1 } }
     CueAt (withCue w [] d) w [] ∧ isClass .wait w = true) ∧
    (∀ x ∈ [(0, 64, counterOf 0 64 false false 64), (120, 1, counterOf 120 1 false false 0), (0, 1, counterOf 0 1 true false 1),
        (0, 1, counterOf 0 1 true true 1)],
      let s := stalled x.1 x.2.1 x.2.2
      On s ∧ s.dev.prompter.wait = some { ctr := x.1, count := x.2.1 } ∧ s.dev.halting = false ∧ x.2.1 ≤ (s.dev.counter x.1).count) ∧
    (let s := stalled 0 2 (counterOf 0 1 false false 2)
     On s ∧ s.dev.fld Reg.stgWaitLimit 23 0 ≠ 0 ∧ (s.dev.counter 0).count < 2) := by
  unfold CueAt On; decide +kernel
def redW : Nat := place [(0, 0x30), (32, 64), (40, 1)]
def redD : List Byte := descOf 128 [(0, 1), (68, 56), (69, 48), (80, 1), (84, 1)]
theorem test_witness_CollectivesIssue :
    (CueAt (withCue redW redD (joined 1 0)) redW redD ∧ ((joined 1 0).group (redOp redD).group).isSome = true ∧ isClass .red redW = true) ∧
    (let w := place [(0, 0x31), (32, 119), (40, 2)]
     CueAt (withCue w [] (joined 2 1)) w [] ∧ ((joined 2 1).group (syncGroup w)).isSome = true ∧ isSync 2 w = true) ∧
    (let w := place [(0, 0x31), (40, 3)]
     CueAt (withCue w [] (joined 2 1)) w [] ∧ ((joined 2 1).group (syncGroup w)).any (fun g => g.rank != 0) = true ∧ isSync 3 w = true) := by
  unfold CueAt On; decide +kernel
/-- A group of this device alone. -/
def alone : Group := { v2 := false, count := 1, rank := 0, members := [0] }
def cueOf (w : Nat) (desc : List Byte) : Cue := { word := w, desc := desc, pc := 0, seq := 0 }
theorem test_witness_CollectivesComplete :
    let w := place [(0, 0x31), (32, 119), (40, 2)]
    let run := (withCue 0 [] (joined 1 0)).dev
    ((run.startRed alone (cueOf redW redD) 1).readyColl 64 false).isSome = true ∧
    ((run.startBarrier alone (cueOf w [])).readyColl 119 true).isSome = true ∧ (run.startBarrier alone (cueOf w [])).halted = false ∧
    ((run.startBarrier alone (cueOf w [])).setReg Reg.fabCollLimit 1).fld Reg.fabCollLimit 31 0 ≠ 0 ∧
    (run.startBarrier alone (cueOf w [])).colls ≠ [] := by
  decide +kernel
def gridW (func prog msel config : Nat) : Nat :=
  place [(0, 0x40), (32, 64), (40, func), (44, prog), (52, 15), (68, msel), (72, config)]
def withProg : Dev :=
  { ready with grid := { Grid.reset with progs := [{ code := 0x40, lo := 0, hi := 1 }, { code := 0xFF, lo := 0, hi := 2048 }] } }
theorem test_witness_GridCuesIssue :
    (∀ p ∈ [1, 2, 3, 4, 0x40, 0xFF], let w := gridW 0 p 1 0
      let s := withCue w [] withProg
      CueAt s w [] ∧ isStart p (cueHere s) = true ∧ (issuing s w []).noGridRows w = true) ∧
    (∀ p ∈ [1, 2, 3, 4, 0x40, 0xFF], let w := gridW 0 p 0 0
      let s := withCue w [] withProg
      CueAt s w [] ∧ isStart p (cueHere s) = true ∧ (issuing s w []).noGridRows w = false ∧
        (p < 5 ∨ ((issuing s w []).grid.progs.find? (fun g => g.code == p)).isSome = true)) ∧
    (let w := gridW 1 0 0 0; CueAt (withCue w [] Dev.reset) w [] ∧ cueFunc w = 1) := by
  unfold CueAt On; decide +kernel
def gridOf (g : Grid) : Dev := { (withCue 0 [] Dev.reset).dev with grid := g }
theorem test_witness_GridCompletes :
    (∀ std ∈ [true, false],
      let r : GridRun := { region := 15, ctr := 64, std := std, bad := false }
      let d := gridOf { Grid.reset with runs := [r] }
      d.grid.runs.find? (fun r => r.region == 15) = some r ∧ (std = true ∨ d.regionDone 15 = true) ∧ d.halted = false) ∧
    (let c : Changeover := { config := 0, ctr := 64, start := 0, records := [], barrier := none }
     (gridOf { Grid.reset with change := some c }).swapReady c = true ∧
     (gridOf { Grid.reset with change := some c, flight := [⟨2000, 0, true, 0, 0, 0, 0⟩] }).swapNext c = true ∧
     (gridOf { Grid.reset with change := some c, cycle := 2048 }).swapReady c = false) := by
  decide +kernel
theorem test_witness_SectionsEnd :
    ∀ f ∈ [0, 1], let w := place [(0, 0x31), (40, f)]
      let s := withCue w [] Dev.reset
      CueAt s w [] ∧ isSync f (cueHere s) = true ∧ s.dev.mayCommit = true ∧ s.dev.cast.geom = none ∧ s.dev.hif.cmds = [] ∧
        s.dev.hif.energy = [] ∧ s.dev.twoContexts = false ∧ s.dev.prompter.ndStep = false ∧ s.dev.prompter.due121 = false := by
  unfold CueAt On; decide +kernel
/-- The Stage in a state of power, with one cue queued. -/
def stageIn (p : StagePower) : Dev :=
  { Dev.reset.setReg Reg.stgCtrl 0x10 with
    stage := { Stage.reset with power := p }, prompter := { Prompter.reset with stageQueue := [cueOf vecW vecD] } }
theorem test_witness_StageLightsAndStarts :
    (∀ p ∈ [StagePower.dark, .rampUp, .lit, .rampDown], (stageIn p).prompter.stageQueue = [cueOf vecW vecD] ∧
      (stageIn p).stage.running = none ∧ (stageIn p).stage.power = p) ∧
    (let d : Dev := { stageIn .lit with prompter := Prompter.reset }
     d.fld Reg.stgCtrl 15 4 ≠ 0 ∧ d.stage.running = none ∧ d.prompter.stageQueue = [] ∧ d.stage.power = .lit) := by
  decide +kernel
/-- A VEC in progress. -/
def vecRun (early : Option (Nat × Bool)) (cut : Bool) : Running := { cue := cueOf vecW vecD, rows := 1, early := early, cut := cut }
theorem test_witness_SceneBoundaryEndsCue :
    (let d := (withCue 0 [] Dev.reset).dev
     d.mems.errors = [] ∧ d.detections Ident.reset { vecRun none false with rows := 0 } = [] ∧ d.halted = false ∧
       d.stageErrors Ident.reset { vecRun none false with rows := 0 } = [] ∧ d.prompter.due121 = false) ∧
    (firstDetection (Dev.reset.detections Ident.reset { vecRun (some (3, true)) false with rows := 0 })).isSome = true := by
  decide +kernel
def moving (q w : Nat) (got : Nat) : Dev :=
  { (withCue 0 [] Dev.reset).dev with
    xfers := [(q, [{ cue := cueOf w kvD, rows := 1, index := 0, got := got, err := false }])] }
theorem test_witness_TransfersComplete :
    ∀ x ∈ [(0, 0), (47, 0), (48, 64), (55, 64), (56, 0), (63, 0)],
      let d := moving x.1 (moveW 5 48) x.2
      (d.queue x.1).length = 1 ∧ d.halted = false ∧
        ∀ t ∈ d.queue x.1, (x.1 < 48 ∨ (48 ≤ x.1 ∧ x.1 < 56 ∧ t.got = t.total) ∨ (56 ≤ x.1 ∧ d.sendPending t = false)) := by
  decide +kernel

/-! ### Witnesses: the Dimmer and the registers -/

theorem test_witness_BubblesAndFlickers :
    (let d := Dev.reset.setB 63
     d.bubbleB ≠ 0 ∧ d.ramping = false ∧ d.fixedMode = false ∧ (d.setBit Reg.dimStatus 3).fixedMode = true ∧
       (d.setBit Reg.dimStatus 3).bubbleB ≠ 0) ∧
    (stageIn .rampUp).stage.power = .rampUp ∧ (stageIn .rampUp).ramping = true ∧
    (stageIn .lit).dim.burst = false ∧ (stageIn .lit).fixedMode = false ∧ (stageIn .dark).dim.burst = false ∧
    ({ Dev.reset with dim := { Dim.reset with burst := true } } : Dev).dim.burst = true ∧
    ({ Dim.reset with prearm := [(5, 100), (2, 90)] } : Dim).prearm ≠ [] ∧ Dim.reset.burst = false := by decide +kernel
theorem test_witness_ControlPeriodLaw : Dev.reset.pend = [] ∧ 128 + 0 * Dev.reset.fld Reg.dimGain 15 0 / 4096 + 65407 < 65536 := by
  decide +kernel
theorem test_witness_DimmerReadings :
    ({ Dev.reset with dim := { Dim.reset with critical := 8 } } : Dev).dim.critical < 9 ∧
    0 < max (255 - Dev.reset.fld Reg.dimTherm 7 0) (Dev.reset.hottestStack - Dev.reset.fld Reg.dimTherm 15 8) ∧
    Dev.reset.bit Reg.dimStatus 5 = false ∧
    max (0 - Dev.reset.fld Reg.dimTherm 7 0) (Dev.reset.hottestStack - Dev.reset.fld Reg.dimTherm 15 8) = 0 ∧
    (Dev.reset.setBit Reg.dimStatus 5).bit Reg.dimStatus 5 = true := by decide +kernel
/-- The host's slot holds a pair opened at `a`. -/
def opened (a : Nat) (v : W32) : State := on { Dev.reset with pairs := [(.host, a, v)] }
theorem test_witness_ComplementPairRefused :
    On (opened Reg.dimCap 7) ∧ (opened Reg.dimCap 7).dev.openPair .host = some (Reg.dimCap, 7) ∧
    (∀ m ∈ [Master.core0, .host], State.reset.dev.openPair m = none) ∧
    (∀ x ∈ [(Reg.dimCap, 7), (Reg.dimCap, 101), (Reg.memRefreshOvr, 3), (Reg.secLcReq, 2), (Reg.secSvnBurn, 1), (Reg.secKeyRevoke, 15),
        (Reg.secVovr 0, 25), (Reg.secVovr 3, 0xCF)], State.reset.rwcPermits x.1 (BitVec.ofNat 32 x.2) = false) ∧
    rwcA (canonOff 0x1C00008) = true ∧ rwcA (canonOff 0x1C0000C) = false ∧ rwcA (canonOff 0x1C0000C - 4) = true ∧
    ((opened Reg.memWipe 0).dev.openPair .host).all (fun p => p.1 != canonOff 0x1C0000C - 4) = true := by
  unfold On; decide +kernel
theorem test_witness_ComplementPairApplied :
    let s : State := { State.reset with
      fuses := { Fuses.reset with lc := .provisioned, rollback := 3 }, dev := Dev.reset.setReg Reg.secSvnImg 4 }
    On s ∧ s.dev.openPair .host = none ∧
    (∀ x ∈ [(Reg.dimCap, 8), (Reg.dimCap, 100), (Reg.memRefreshOvr, 2), (Reg.secVovr 0, 24), (Reg.secVovr 3, 0xD0), (Reg.secSvnBurn, 4),
        (Reg.secKeyRevoke, 14), (Reg.secLcReq, 2)], s.rwcPermits x.1 (BitVec.ofNat 32 x.2) = true) ∧
    s.fuses.rollback < (4 : W32).toNat % 128 ∧ s.fuses.revoked ||| (14 : W32).setWidth 4 ≠ s.fuses.revoked ∧
    (1 : W32).getLsbD 0 = true ∧ s.dev.strike = none := by
  unfold On; decide +kernel
theorem test_witness_RegisterWrites :
    (∀ e ∈ Dev.reset.pend, Dev.reset.boundaryNow (blockOf e.1) = false) ∧
    (∀ off ∈ [0x10, 0x404000], (regRow (canonOff off)).isSome = true ∧ rwcA (canonOff off) = false ∧ rwcA (canonOff off - 4) = false ∧
      blockOf (canonOff off) ∈ [Block.top, .stg, .lgr, .mem, .hck, .dim]) ∧
    (regRow 0x10).any (fun r => r.rwb == 0) = true ∧ Dev.reset.boundaryNow (blockOf Reg.dimCtrl) = false ∧
    (regRow Reg.dimFixed).isSome = true ∧
    (digRegister (canonOff Reg.stgDigSize) = true ∧ (regRow (canonOff Reg.stgDigSize)).isSome = true) ∧
    ({ Dev.reset with stage := { Stage.reset with running := some (vecRun none false) } } : Dev).stage.running ≠ none ∧
    (0xE : BitVec 4) ≠ 0xF ∧ State.reset.dev.openPair .host = none ∧ rwcA (canonOff 0x1C00008) = true := by decide +kernel
theorem test_witness_RegisterReads :
    (regRow (canonOff 0xC) = none ∧ rwcA (canonOff 0xC - 4) = false ∧ regRow (canonOff 0) ≠ none) ∧
    (regRow (canonOff 0x1C0000C) = none ∧ 4 ≤ canonOff 0x1C0000C ∧ rwcA (canonOff 0x1C0000C - 4) = true) ∧
    (regRow (canonOff (Reg.dimEnergy + 4)) ≠ none ∧ wideOf (canonOff (Reg.dimEnergy + 4)) = some Reg.dimEnergy) ∧
    (rwcA (canonOff Reg.memWipe) = true ∧ canonOff (Reg.memWipe + 4) = canonOff Reg.memWipe + 4 ∧
      canonOff Reg.memWipe ∉ [Reg.secLcReq, Reg.secSvnBurn, Reg.secKeyRevoke]) := by decide +kernel

/-! ### Witnesses: the machine, the board, boot and the fuses -/

theorem test_witness_StepRunsFront : State.reset.pending = [] := rfl
theorem test_witness_EveryCommandRuns :
    ({ State.reset with board := { State.reset.board with power := .off } } : State).board.power ≠ .on ∧ boardRow .nop = false := by
  decide +kernel
theorem test_witness_MachineStaysSound :
    (∃ t, State.reset.sound ∧ step State.reset = .next t) ∧
    ∀ lc ∈ [Lifecycle.provisioned, .field, .returned], ({ State.reset with fuses := { Fuses.reset with lc := lc } } : State).sound ∧
      lc ≠ .blank := by
  refine ⟨⟨_, by unfold State.sound; decide +kernel, rfl⟩, ?_⟩
  unfold State.sound; decide +kernel
theorem test_witness_MemoriesStayCanonical : State.reset.dev.mems.wf = true := by decide
/-- The module with this power. -/
def powered (p : Power) (modEn fault perst : Bool) : State :=
  { State.reset with board := { power := p, modEn := modEn, faultOff := fault, uvWarn := false, perst := perst } }
theorem test_witness_BoardPower :
    State.reset.board.modEn = true ∧ State.reset.board.power = .on ∧ (powered .standby true false true).board.power ≠ .on ∧
    (∀ p ∈ [true, false], let b := (powered .standby false false p).board
      b.modEn = false ∧ b.power = .standby ∧ b.faultOff = false ∧ b.perst = p) ∧
    (powered .off false true true).board.modEn = false ∧ (powered .off false true true).board.faultOff = true ∧
    4400 ≤ (4400 : W16).toNat ∧ (5600 : W16).toNat ≤ 5600 ∧ 3800 ≤ (3800 : W16).toNat ∧ (3799 : W16).toNat < 3800 ∧
    (0xA4 : Byte) ≠ 0xA5 := by decide
theorem test_witness_ResetsAndBoot :
    On State.reset ∧ State.reset.board.perst = true ∧ On (powered .on true false false) ∧ (powered .on true false false).board.perst = false ∧
    State.reset.fuses.verify (readManifest State.reset.flash 0) ≠ 0 ∧ State.reset.fuses.verify (readManifest State.reset.flash slotB) ≠ 0 ∧
    ({ Dev.reset with boot := { Boot.reset with stage := .autoload } } : Dev).boot.stage = .autoload := by
  unfold On; decide +kernel
theorem test_witness_SmbusAnswers : On State.reset ∧ (powered .standby false false true).board.power ≠ .on := by unfold On; decide
theorem test_witness_FlashCommands :
    (let d := Dev.reset
     d.flashOp = none ∧ d.fld Reg.secFlashAddr 27 0 % 256 = 0 ∧ d.inBootedSlot 0 = true ∧
       (d.setReg Reg.secFlashAddr 1).fld Reg.secFlashAddr 27 0 % 256 ≠ 0 ∧
       (d.setReg Reg.secFlashAddr 0x07F00000).fld Reg.secFlashAddr 27 0 % 65536 = 0 ∧ d.inBootedSlot 0x07F00000 = false) ∧
    (∀ op ∈ [FlashOp.read, .program, .erase],
      let c : FlashCommand := { op := op, addr := 0x0FFF0000, data := List.replicate 256 1 }
      let d : Dev := { Dev.reset with flashOp := some c }
      d.flashOp = some c ∧ d.lc = none ∧ c.data.length = 256) := by decide +kernel
theorem test_witness_StrikeZeroes : ∀ why ∈ [StrikeFor.wipe, .lifecycle],
    let d : Dev := { Dev.reset with strike := some why, lc := some { target := 1, burned := true } }
    d.strike = some why ∧ ∀ c ∈ d.lc, c.burned = true := by decide

/-! ### Witnesses: the configuration check, the Callboard, the memories -/

/-- CFG_REF_ACTIVE is no checked register, so a pass does not depend on it. -/
theorem passCrc_refActive (d : Dev) (v : W32) : (d.setReg Reg.cfgRefActive v).passCrc = d.passCrc := by
  have h : ∀ r ∈ regRows, checkMask r.base ≠ 0 → Reg.cfgRefActive < r.base ∨ r.base + r.stride * (r.count - 1) < Reg.cfgRefActive := by
    decide +kernel
  have k : ∀ o ∈ checkedOffsets, o ≠ Reg.cfgRefActive := by
    intro o ho e
    simp only [checkedOffsets, List.mem_mergeSort, List.mem_flatMap, List.mem_filter, RegRow.offsets, List.mem_map, List.mem_range] at ho
    obtain ⟨r, ⟨hr, hm⟩, i, hi, rfl⟩ := ho
    have := Nat.mul_le_mul_left r.stride (show i ≤ r.count - 1 by omega)
    rcases h r hr (by simpa using hm) with h | h <;> omega
  have e : ∀ l : List Nat, (∀ o ∈ l, o ≠ Reg.cfgRefActive) →
      l.flatMap (fun o => leBytes 4 o ++ leBytes 4 ((d.setReg Reg.cfgRefActive v).reg o &&& checkMask o).toNat) =
        l.flatMap (fun o => leBytes 4 o ++ leBytes 4 (d.reg o &&& checkMask o).toNat) := by
    intro l hl
    induction l with
    | nil => rfl
    | cons o l ih =>
      rw [List.flatMap_cons, List.flatMap_cons, ih (fun x hx => hl x (List.mem_cons_of_mem _ hx)),
        Dev.reg_setReg_other _ v (hl o List.mem_cons_self)]
  simp only [Dev.passCrc, e checkedOffsets k]
theorem test_witness_ManagementCommands :
    (Dev.reset.setReg Reg.cfgCtrl 0).bit Reg.cfgCtrl 0 = false ∧
    (let d := Dev.reset.setReg Reg.cfgCtrl 1
     d.bit Reg.cfgCtrl 0 = true ∧ d.bit Reg.cfgCtrl 1 = false ∧ d.fld Reg.cfgStatus 1 0 = 1 ∧
       ((d.setReg Reg.cfgStatus 2).setReg Reg.cfgRefActive 0).fld Reg.cfgStatus 1 0 = 2) ∧
    (Dev.reset.setReg Reg.cfgCtrl 3).bit Reg.cfgCtrl 1 = true ∧
    (∀ d : Dev, ∃ v w, (d.setReg Reg.cfgRefActive v).passCrc = (d.setReg Reg.cfgRefActive v).reg Reg.cfgRefActive ∧
      (d.setReg Reg.cfgRefActive w).passCrc ≠ (d.setReg Reg.cfgRefActive w).reg Reg.cfgRefActive) ∧
    (Dev.reset.setReg Reg.snpStatus 1).bit Reg.snpStatus 0 = true ∧ (Dev.reset.setReg Reg.snpPeriod 1).fld Reg.snpPeriod 23 0 ≠ 0 := by
  refine ⟨by decide +kernel, by decide +kernel, by decide +kernel, fun d => ⟨d.passCrc, ~~~d.passCrc, ?_, ?_⟩, by decide +kernel, by decide +kernel⟩
  · simp [passCrc_refActive]
  · rw [passCrc_refActive, Dev.reg_setReg_same]
    intro h
    have := congrArg (fun x : W32 => x.getLsbD 0) h
    simp at this
/-- Source 511 is pending, enabled, routed to core 3 and not masked. -/
def pending511 : Dev :=
  { ((Dev.reset.setReg (Reg.clbEnable 15) 0x80000000).setReg (Reg.clbRoute 511) 8).setReg (Reg.clbMask 3 15) 0 with arrivals := [(511, 255)] }
theorem test_witness_CallboardSources :
    pending511.deliverable 511 3 = true ∧ (∀ y < 511, pending511.deliverable y 3 = false) ∧ pending511.arrivalCount 511 ≤ 255 ∧
    (0x80000000 : W32).getLsbD 31 = true := by decide +kernel
/-- The Strike of the reset is complete. -/
def struck : Dev := Dev.reset.setReg Reg.memStatus 2
theorem test_witness_MemoryRows :
    (∀ x ∈ [(MemCode.tile, 511, 0xFFFFFF), (.lins, 255, 0x1FFF), (.ldata, 255, 0xFFFF), (.cue, 0, 0x3FFFFF), (.cast, 0, 0x3FFFFF),
        (.capt, 0, 0x3FFFFF), (.hbm, 0, 0x40)], (memKey Ident.reset x.1 x.2.1 x.2.2).isSome = true) ∧
    (Dev.reset.setReg Reg.memCeThresh 0).reg Reg.memCeThresh = 0 ∧ Dev.reset.errorsFailing .hbm (memNum .hbm * 2 ^ 64 + 64) = false ∧
    Dev.reset.mems.errors = [] ∧ Dev.reset.bit Reg.memStatus 2 = false ∧ 0 + 4096 ≤ Dev.reset.hif.bar2Size ∧
    Dev.reset.reaches Ident.reset (Dev.reset.aperture 0) 4 = none ∧
    (let d := (struck.setReg Reg.hifBar2Win 0).setReg (Reg.hifBar2Win + 4) 0x60
     d.reaches Ident.reset (d.aperture (2 ^ 33 - 1)) 1 = some (.tile, 2 ^ 33 - 1) ∧ d.reaches Ident.reset (d.aperture (2 ^ 33)) 1 = none ∧
       d.errorsIn .tile 0 8 = [] ∧
       ({ d with mems := { d.mems with errors := [(.tile, 0)] } } : Dev).errorsIn .tile 0 1 ≠ []) := by decide +kernel

/-! ### Witnesses: the Spotlight -/

/-- The Spotlight in this state. -/
def spotlight (ctrl n : Nat) (s : Spt) : Dev :=
  { (struck.setReg Reg.sptCtrl (BitVec.ofNat 32 ctrl)).setReg Reg.sptStatus (BitVec.ofNat 32 n) with spt := s }
theorem test_witness_SpotlightControl :
    ((spotlight 0 0 Spt.reset).applyPend (fun b => b == .spt)).sptArmBad = false ∧
    ((spotlight 0x60 0 Spt.reset).applyPend (fun b => b == .spt)).sptArmBad = true ∧
    (spotlight 0 1 Spt.reset).sptArmed = true ∧ (spotlight 0 2 Spt.reset).sptArmed = true ∧ (spotlight 0 3 Spt.reset).sptArmed = false ∧
    (∀ x ∈ [(1, true, false, false), (2, false, true, false), (4, false, false, true)],
      (BitVec.ofNat 32 x.1).getLsbD 0 = x.2.1 ∧ (BitVec.ofNat 32 x.1).getLsbD 1 = x.2.2.1 ∧ (BitVec.ofNat 32 x.1).getLsbD 2 = x.2.2.2) ∧
    struck.bit Reg.memStatus 1 = true ∧ struck.halting = false ∧
    sptFieldsOk (sub 0x60 (1 :: List.replicate 55 0)) [(8, 1)] = true ∧ sptFieldsOk (sub 0x60 (List.replicate 56 1)) [(8, 1)] = false ∧
    (let c := sub 0x60 ([3, 0] ++ List.replicate 6 0 ++ leBytes 8 64 ++ leBytes 4 64 ++ leBytes 4 (captureBytes - 64) ++ List.replicate 32 0)
     sptFieldsOk c [(8, 2), (16, 16)] = true ∧ subOp c 9 1 = 0 ∧ subOp c 16 8 % 64 = 0 ∧ subOp c 24 4 % 64 = 0 ∧
       (spotlight 0 3 Spt.reset).sptArmed = false ∧ subOp c 28 4 + subOp c 24 4 ≤ captureBytes) ∧
    (Dev.reset.setReg Reg.sptCtrl 8).bit Reg.sptCtrl 3 = true ∧ (Dev.reset.setReg Reg.sptCtrl 0).bit Reg.sptCtrl 3 = false := by
  decide +kernel
/-- Arm 0 of state S0 fires on an edge of a source. -/
def armed (n trig : Nat) : Dev := (spotlight 0 n Spt.reset).setReg (Reg.sptArm 0 0) (BitVec.ofNat 32 (256 + trig * 2 ^ 15 + 7 * 2 ^ 12))
theorem test_witness_SpotlightCaptures :
    (tabGet (fun _ => 0) ({ Spt.reset with timers := [(3, 1)] } : Spt).timers 3 ≠ 0 ∧ tabGet (fun _ => 0) Spt.reset.timers 3 = 0) ∧
    Dev.reset.bit Reg.sptStatus 9 = false ∧ (spotlight 0 0x200 Spt.reset).bit Reg.sptStatus 9 = true ∧
    (armed 0 0).sptArmed = false ∧
    (∀ t ∈ [0, 1], let d := armed 1 t
      let w := d.armReg (d.fld Reg.sptStatus 5 3) 0
      d.sptState = 1 ∧ d.armSees w = true ∧ bits w 16 12 = 0 ∧ bitAt w 15 = (t == 1) ∧ d.sptMode ≠ 1) ∧
    (∀ x ∈ [(1, false, 0), (2, true, 1), (2, false, 2), (2, false, 1)],
      let d := spotlight 0 x.1 { Spt.reset with trig := x.2.1, post := x.2.2 }
      d.sptMode = 0 ∧ d.sptStreaming = false ∧ d.mems.errors = [] ∧ d.sptState = x.1 ∧ d.spt.trig = x.2.1) ∧
    ((spotlight 0x40 2 Spt.reset).sptMode = 2 ∧ (spotlight 0x40 2 Spt.reset).sptState = 2) := by
  decide +kernel


/-! ### Witnesses: the host interface -/

def pair0 : Pair :=
  { active := false, err := 0, sqHead := 0, sqTail := 0, cqHead := 0, cqTail := 0, phase := true, unsignalled := 0, held := [] }
/-- Pair 63 with rings of two entries, its configuration with bit 0 set where `en`. -/
def paired (p : Pair) (cfg : Nat) : State :=
  on { ((struck.setReg (Reg.hifQsize 63) 0x00010001).setReg (Reg.hifQcfg 63) (BitVec.ofNat 32 cfg)) with
    hif := { Hif.reset with pairs := [(63, p)] } }
def entry0 : List Byte := List.replicate 32 0xFE
theorem test_witness_QueuePairs :
    (∀ x ∈ [(pair0, true), ({ pair0 with cqTail := 1, cqHead := 1 }, true)],
      let d := (paired x.1 0).dev
      entry0.length = 32 ∧ (d.pair 63).held = [] ∧ d.cqRoom 63 = true ∧ d.hif.linkUp = true) ∧
    (paired { pair0 with cqTail := 1 } 0).dev.cqRoom 63 = false ∧
    (let s := paired { pair0 with active := true, sqTail := 1, held := [entry0], unsignalled := 1 } (2 ^ 23)
     let d := s.dev
     let p := d.pair 63
     On s ∧ p.active = true ∧ 1 < d.sqSize 63 ∧ 1 < d.cqSize 63 ∧ d.sqSize 63 ≤ 2 ∧ d.cqSize 63 ≤ 2 ∧ p.sqHead ≠ p.sqTail ∧
       d.hif.linkUp = true ∧ p.held = [entry0] ∧ d.cqRoom 63 = true ∧ 0 < p.unsignalled ∧ d.fld (Reg.hifQirq 63) 23 8 = 0 ∧
       ((d.setReg (Reg.hifQirq 63) 0x100).fld (Reg.hifQirq 63) 23 8 ≠ 0)) ∧
    (∀ x ∈ [(0x02000001, true), (0x03000001, false)],
      let d := (paired pair0 0).dev.plainWrite (Reg.hifQcfg 63) (BitVec.ofNat 32 x.1)
      (d.pair 63).active = false ∧ d.bit Reg.secStatus 4 = false ∧ (d.enableError 63 == 0) = x.2) ∧
    (paired pair0 0).dev.bit Reg.hifStatus 0 = false ∧
    tabGet (fun _ => true) ({ Hif.reset with msixMasked := [(0, false)] } : Hif).msixMasked 0 = false := by
  unfold On; decide +kernel

/-- A program with a geometry is loaded. -/
def loadedDev : Dev := { struck.setReg Reg.stgImgLoad 0x100 with cast := ready.cast }
def hostOps : List Byte := List.replicate 56 0
theorem test_witness_HostCommands :
    (0x99 : Byte).toNat ∉ opcodes ∧ Dev.reset.bit Reg.memStatus 1 = false ∧
    (let d := struck.setReg Reg.hifStatus 1; d.bit Reg.memStatus 1 = true ∧ d.curtainDown = true ∧ 0x10 ∉ curtainAccepts) ∧
    (∀ op ∈ [0x10, 0x11, 0x12, 0x13, 0x14, 0x15, 0x30, 0x01, 0x02, 0x20, 0x21, 0x40, 0x50, 0x51, 0x70],
      struck.turnedAway op = none ∧ loadedDev.turnedAway op = none) ∧
    struck.noProgram = true ∧ loadedDev.noProgram = false ∧
    (let c := { sub 0x11 hostOps with stream := 16383 }
     loadedDev.beingMarked c = false ∧
       ({ loadedDev with cast := { loadedDev.cast with marked := [16383] } } : Dev).beingMarked c = true) ∧
    subReservedOk (sub 0x01 hostOps) 0 false false [(8, 16)] = true ∧ subReservedOk (sub 0x02 hostOps) 0 false false [] = true ∧
    loadedDev.lc = none ∧ ({ loadedDev with lc := some { target := 1, burned := true } } : Dev).lc ≠ none ∧
    (∀ fl ∈ [(0 : Byte), 1], let c := { sub 0x20 (leBytes 8 4096 ++ List.replicate 48 0) with flags := fl }
      subReservedOk c 1 false false [(8, 8)] = true ∧ subOp c 8 8 % 4096 = 0) ∧ loadedDev.inTwin = false ∧
    (loadedDev.setBit Reg.hifStatus 1).halting = true ∧ loadedDev.halting = false ∧
    (let d := loadedDev.setBit Reg.hifStatus 0
     d.loaded = true ∧ d.cast.geom ≠ none ∧ d.lc = none ∧ d.cast.replay = none ∧ d.curtainDown = true ∧ d.halting = false ∧
       d.turnedAway 0x21 = none ∧ d.peakFits = true ∧ (d.setReg Reg.stgImgInfo 0x650000).peakFits = false) ∧
    (let d := { loadedDev.setReg Reg.stgFaultCode 0x22 with prompter := { Prompter.reset with run := .halted } }
     d.halted = true ∧ d.faultCode ≠ 0) ∧
    struck.energyIdle = true ∧
    ({ loadedDev with prompter := { Prompter.reset with run := .step } } : Dev).energyIdle = false ∧
    subReservedOk (sub 0x50 (63 :: List.replicate 55 0)) 0 false false [(8, 1)] = true ∧
    subOp (sub 0x50 (63 :: List.replicate 55 0)) 8 1 < 64 ∧ 64 ≤ subOp (sub 0x50 (64 :: List.replicate 55 0)) 8 1 ∧
    subReservedOk (sub 0x70 (List.replicate 56 1)) 0 false false [(8, 56)] = true := by decide +kernel

theorem test_witness_HostLink :
    (∀ r ∈ [(0 : BitVec 3), 3], r.toNat ≤ 3) ∧ (∀ w ∈ [(1 : BitVec 5), 2, 4, 8, 16], w.toNat ∈ [1, 2, 4, 8, 16]) ∧
    On State.reset ∧ (struck.setReg Reg.hifStatus 1).curtainDown = true ∧ struck.curtainDown = false ∧ Hif.reset.d3 = false ∧
    ({ Hif.reset with msixPending := [511] } : Hif).msixPending.contains 511 = true ∧ Hif.reset.msixPending.contains 511 = false ∧
    (struck.setReg Reg.hifStatus 2).halting = true ∧ ({ Hif.reset with mailbox := [sub 0x70 []] } : Hif).mailbox = [sub 0x70 []] := by
  unfold On; decide +kernel
theorem test_witness_SpdmAnswers :
    On State.reset ∧ (∀ s : State, (0 : BitVec 16).toNat ≤ s.chain.length) ∧ (15 : BitVec 4) ≠ 0 ∧ State.reset.fuses.lc ≠ .returned ∧
    ({ State.reset with fuses := { Fuses.reset with lc := .returned } } : State).fuses.lc = .returned := by
  refine ⟨by unfold On; decide, fun s => Nat.zero_le _, by decide, by decide, by decide⟩


/-! ### Witnesses: the fabric, the ensemble and time -/

/-- Port p in a training state, with more status bits, and its record. -/
def portAt (p n : Nat) (x : Port) : Dev :=
  { (Dev.reset.setReg (Reg.fabStatus p) (BitVec.ofNat 32 n)) with fab := { Fab.reset with ports := [(p, x)] } }
theorem test_witness_PortTraining :
    tapsOk (12, 32, 20) = true ∧ On (on (portAt 16 0 Port.reset)) ∧ (portAt 16 0 Port.reset).portState 16 = 0 ∧
    (portAt 16 1 Port.reset).portState 16 = 1 ∧ Port.reset.retry = false ∧ ({ Port.reset with retry := true } : Port).retry = true ∧
    (∀ n ∈ [2, 3], ∀ l ∈ [0, 3], let d := portAt 16 (n + 0x1E00) Port.reset
      d.bit (Reg.fabStatus 16) (9 + l) = true ∧ d.portState 16 = n ∧ d.portState 16 ∈ [2, 3] ∧ d.portState 16 ≠ 4 ∧
        (d.port 16).lanes.length = 4 ∧ (d.port 16).retry = false) ∧
    (portAt 16 2 Port.reset).bit (Reg.fabStatus 16) 9 = false ∧ (0x4B : W64).setWidth 8 = (0x4B : Byte) ∧
    (0x4A : W64).setWidth 8 ≠ (0x4B : Byte) ∧ bits (0x55 : W64).toNat 0 8 = 0x55 ∧ bits (0x54 : W64).toNat 0 8 ≠ 0x55 ∧
    (8 : W32).getLsbD 3 = true ∧ (1 : W32).getLsbD 3 = false ∧ (1 : W32).getLsbD 0 = true ∧ (0 : W32).getLsbD 0 = false ∧
    (portAt 0 0 { Port.reset with released := true }).pend = [] ∧
    ((portAt 0 0 { Port.reset with released := true }).port 0).released = true := by
  unfold On; decide +kernel
def txFrame : TxFrame := { ftype := 1, dst := 0, src := 1, ens := 0, b6 := 0, era := 0, payload := List.replicate 8 0, hop := 32, origin := none }
theorem test_witness_PortLosses :
    (∀ n ∈ [2, 5, 6, 1, 7], (portAt 0 n Port.reset).portState 0 = n ∧ ((portAt 0 n Port.reset).port 0).retry = false) ∧
    (portAt 0 0x206 Port.reset).bit (Reg.fabStatus 0) 9 = true ∧ (portAt 0 6 Port.reset).bit (Reg.fabStatus 0) 9 = false ∧
    (let x := { Port.reset with lanes := [Lane.reset, Lane.reset, Lane.reset, { Lane.reset with acnt := 1 }] }
     ∃ y ∈ x.lanes, y.acnt ≠ (x.lane 0).acnt) ∧ (∀ y ∈ Port.reset.lanes, y.acnt = (Port.reset.lane 0).acnt) ∧
    (∀ n ∈ [14, 15], let x := ((portAt 0 6 { Port.reset with held := [(255, txFrame)], replays := n }).port 0)
      x.held ≠ [] ∧ x.replays = n) ∧ ({ Port.reset with retry := true } : Port).retry = true := by decide +kernel
/-- A frame of another port's acknowledgment number. -/
def acking (f : Frame) (ack : Nat) : Frame :=
  let st := f.start ||| BitVec.ofNat 64 (ack * 2 ^ 24 + 2 ^ 32)
  { f with start := st, crc := BitVec.ofNat 32 (frameCrc st f.hdr f.payload) }
theorem test_witness_PortFrames :
    (∀ x ∈ [(1, 0), (2, 0), (4, 1), (4, 2)], ∀ seq ∈ [(0, 0), (255, 1), (192, 64), (191, 65)],
      let f := frameOf x.1 seq.1 0 (padTo 8 [BitVec.ofNat 8 x.2])
      let s := on (portAt 15 6 Port.reset)
      On s ∧ s.dev.portUp 15 = true ∧ frameBad (s.dev.lenLimit 15) f = false ∧ behind s 15 f = seq.2 ∧
        frameEns f = s.dev.fld Reg.fabEns 15 0 ∧ (accepted s 15 f).forMe (frameDst f) = true ∧
        (accepted s 15 f).fld Reg.fabEns 15 0 = s.dev.fld Reg.fabEns 15 0) ∧
    (let f := frameOf 1 0 0 (padTo 8 [])
     frameType f = 1 ∧ frameBad 4096 { f with crc := f.crc + 1 } = true ∧ (portAt 15 5 Port.reset).portUp 15 = false) ∧
    (∀ sub ∈ [1, 2, 3], linkSub (frameOf 7 0 0 (padTo 8 [BitVec.ofNat 8 sub])) = some sub) ∧
    (let f := acking (frameOf 7 0 0 (padTo 8 [2])) 0
     let s := on (portAt 15 6 { Port.reset with held := [(255, txFrame)] })
     linkSub f = some 2 ∧ On s ∧ s.dev.portUp 15 = true ∧ frameBad (s.dev.lenLimit 15) f = false ∧ frameAckV f = true ∧ frameNak f = false ∧
       (s.dev.port 15).txq = [] ∧ (s.dev.port 15).held = [(255, txFrame)] ∧ (frameAck f + 256 - 255) % 256 ≤ 1) ∧
    (let d := portAt 15 5 Port.reset
     d.portState 15 = 5 ∧ (d.port 15).retry = false ∧ frameBad 4096 (frameOf 7 0 0 (padTo 16 [1, 3, 2])) = false ∧
       frameBad 4096 { frameOf 7 0 0 (padTo 16 [1, 3, 2]) with stray := true } = true ∧
       d.helloVerdict 15 (padTo 16 [1, 3, 2]) = (none, 3) ∧ d.helloVerdict 15 (padTo 16 [1, 1, 1]) = (some 5, 1) ∧
       d.helloVerdict 15 (padTo 16 [1, 3, 2, 0, 0, 0, 1]) = (some 6, 3)) := by
  unfold On; decide +kernel

theorem test_witness_EnsembleMessages :
    Dev.reset.boot.stage ≠ .join ∧ 16 < (joined 17 0).devices ∧
    (joined 2 1).isLead = false ∧ (joined 2 0).isLead = true ∧ ({ Fab.reset with joins := [1] } : Fab).joins.contains 1 = true ∧
    (∃ j < (joined 3 0).devices, j ∉ ([] : List Nat) ++ [1]) ∧ (∀ j < (joined 2 0).devices, j ∈ [0] ++ [1]) ∧
    (let d := Dev.reset.setReg (Reg.fabAlias 15) 0x80001FFF
     d.aliased 8191 = true ∧ d.aliased 0 = false ∧ (∀ n < 15, d.bit (Reg.fabAlias n) 31 = false)) ∧
    (let d := (Dev.reset.setReg (Reg.fabRoute 0) 0x80000000).setReg (Reg.fabStatus 0) 6
     (d.routePort 0).isSome = true ∧ Dev.reset.routePort 0 = none) ∧
    Dev.reset.colls = [] ∧ Dev.reset.hck.curtain = none ∧ Dev.reset.xfers = [] ∧
    ({ Dev.reset with prompter := { Prompter.reset with run := .halted } } : Dev).halted = true ∧
    (∀ n < 16, ((List.range 16).foldl (fun d k => Dev.setReg d (Reg.fabAlias k) 0x80000000) Dev.reset).bit (Reg.fabAlias n) 31 = true) ∧
    (∀ k < 17, (Dev.reset.port k).buffer = []) ∧ ({ Usy.reset with request := some 8191 } : Usy).request = some 8191 ∧
    (1 : BitVec 13).toNat ≠ ((Dev.reset.writeAlias 0 1).setFld Reg.fabEra 7 0 0).index ∧
    ((((Dev.reset.writeAlias 0 1).setFld Reg.fabEra 7 0 0).asyncFault 0x41).fld Reg.usyStatus 2 0 ≠ 7) ∧
    (0 : BitVec 13).toNat = (joined 2 0).index ∧ (1 : BitVec 13).toNat ≠ (joined 2 0).index ∧ 1 ∈ [1] ∧ 1 ∉ Fab.reset.granted := by
  decide +kernel

def falling (late : Bool) : Dev :=
  { Dev.reset with hck := { Hck.reset with
      curtain := some { group := 1, ccnt := 0, init := false, arms := [], fall := some 0, late := late } } }
theorem test_witness_TimeTransfer :
    (let limit := (Dev.reset.setReg Reg.hckStepLimit 1).fld Reg.hckStepLimit 15 0 * 65536
     limit ≤ (-65536 : Int).natAbs ∧ (65535 : Int).natAbs < limit) ∧
    Dev.reset.increment ≠ 0 ∧ Dev.reset.hck.curtain = none ∧
    (∀ late ∈ [true, false], atOrAfter (falling late).time48 0 = true) ∧ atOrAfter Dev.reset.time48 65536 = false ∧
    (falling false).hckLocked = true ∧ (falling false).stage.power = .dark ∧ (joined 2 0).timeLead = true ∧ (joined 2 1).timeLead = false ∧
    ((joined 2 1).setBit Reg.hckStatus 0).bit Reg.hckStatus 0 = true ∧ (portAt 16 6 Port.reset).portUp 16 = true ∧
    (portAt 16 5 Port.reset).portUp 16 = false ∧
    (∀ k ∈ [1, 2, 3], let f := frameOf 3 0 0 (padTo 24 [BitVec.ofNat 8 k])
      let s := on (portAt 16 6 { Port.reset with pdReq := some (0, 0) })
      On s ∧ s.dev.portUp 16 = true ∧ frameBad (s.dev.lenLimit 16) f = false ∧ timeSub f = some k ∧
        ((received s 16 f).port 16).pdReq = some (0, 0) ∧ (0 = field f.payload 2 2) ∧ (received s 16 f).upstream ≠ some 16 ∧
        (0 : Int) ≤ (sext 48 (trunc 48 (2 - 0)) - sext 64 (field f.payload 16 8)).tdiv 2 ∧
        (sext 48 (trunc 48 (2 ^ 48 - 2 - 0)) - sext 64 (field f.payload 16 8)).tdiv 2 < 0) ∧
    (let d := ((portAt 16 6 { Port.reset with pdReq := some (1, 0) }).setReg Reg.fabEnsCount 2).setReg Reg.fabEns (2 ^ 16)
     (received (on (d.setReg Reg.hckCtrl 0x60)) 16 (frameOf 3 0 0 (padTo 24 [1]))).upstream = some 16) ∧
    (1 ≠ field (padTo 24 [3]) 2 2) := by
  unfold On; decide +kernel

/-! ### Witnesses: the Understudy -/

/-- Port 16 is UP; USY_STATUS holds `n`. -/
def twinned (n : Nat) (u : Usy) : Dev := { (portAt 16 6 Port.reset).setReg Reg.usyStatus (BitVec.ofNat 32 n) with usy := u }
theorem test_witness_UnderstudyPair :
    (let f := frameOf 5 0 0 (padTo 32 [1])
     let s := on (twinned 0 Usy.reset)
     frameType f = 5 ∧ On s ∧ s.dev.portUp 16 = true ∧ frameBad (s.dev.lenLimit 16) f = false ∧ (received s 16 f).usy.loaded = false ∧
       bits (field f.payload 0 1) 0 3 ≠ 2 ∧ bits (field f.payload 0 1) 0 3 ≠ 3) ∧
    Dev.reset.pend = [] ∧ (twinned 0 Usy.reset).pend = [] ∧ Dev.reset.portUp 16 = false ∧ (twinned 0x80 Usy.reset).portUp 16 = true ∧
    (twinned 0x80 Usy.reset).armed = true ∧ Dev.reset.armed = false ∧
    (let d := (twinned 0 { Usy.reset with loaded := true }).setReg Reg.usyCtrl 1
     d.bit Reg.usyCtrl 0 = true ∧ d.usy.loaded = true ∧ d.portUp 16 = true) ∧ Usy.reset.loaded = false ∧ (joined 2 0).isLead = true ∧
    (let f := frameOf 5 0 0 (padTo 32 [1])
     let s := on (portAt 15 6 Port.reset)
     On s ∧ s.dev.portUp 15 = true ∧ frameBad (s.dev.lenLimit 15) f = false) ∧
    ((twinned 0x80 Usy.reset).setReg Reg.usyCtrl 1).bit Reg.usyCtrl 13 = false ∧ ((twinned 0x80 Usy.reset).setReg Reg.usyCtrl 1).armed = true ∧
    (let d := Dev.reset.setReg Reg.usyCtrl 1; d.bit Reg.usyCtrl 0 = true ∧ d.armed = false) ∧
    Dev.reset.usy.request = none ∧ (joined 2 1).isLead = false ∧ (joined 2 0).leadIndex = 0 ∧
    (∀ n ∈ [0, 1], (twinned (0x80 + n) Usy.reset).usyState ≤ 1) ∧ 1 < (twinned 0x82 Usy.reset).usyState ∧
    (∀ n ∈ [1, 3, 5, 7], (twinned (0x80 + n) Usy.reset).usyState ≠ 2 ∧ (twinned (0x80 + n) Usy.reset).usyState ≠ 4) ∧
    (∀ n ∈ [2, 4], (twinned (0x80 + n) Usy.reset).usyState = n) ∧
    (let d := { Dev.reset.setReg Reg.usyStatus 0x87 with usy := { Usy.reset with draining := some 1 } }
     d.usy.draining = some 1 ∧ d.usy.commits = [] ∧ d.usyState = 7 ∧ d.portUp 16 = false) := by
  unfold On; decide +kernel
theorem test_witness_UnderstudyLog :
    (let d : Dev := { Dev.reset with mems := { Mems.reset with twinSize := 64 } }
     let b := fun (kind off : Nat) (n : Nat) => padTo 8 (leBytes 8 kind) ++ leBytes 8 off ++ List.replicate n 7
     (∀ x ∈ [(1, 0, 64), (1, 63, 1)], field (b x.1 x.2.1 x.2.2) 0 1 = 1 ∧
       bits (field (b x.1 x.2.1 x.2.2) 8 8) 0 39 + ((b x.1 x.2.1 x.2.2).drop 16).length ≤ d.mems.twinSize ∧ d.mems.errors = []) ∧
     d.mems.twinSize < bits (field (b 1 64 1) 8 8) 0 39 + ((b 1 64 1).drop 16).length ∧
     (∀ k ∈ [2, 3], field (b k 0 0) 0 1 = k)) ∧
    (∀ k ∈ [1, 2, 3], let f := frameOf 6 0 0 (padTo 16 [BitVec.ofNat 8 k])
      let s := on (twinned 0x80 Usy.reset)
      frameType f = 6 ∧ field f.payload 0 1 = k ∧ On s ∧ s.dev.portUp 16 = true ∧ frameBad (s.dev.lenLimit 16) f = false ∧
        behind s 16 f = 0 ∧ frameEns f = (accepted s 16 f).fld Reg.fabEns 15 0) ∧
    Dev.reset.portUp 16 = false ∧ (twinned 0 Usy.reset).usy.logq = [] ∧ (twinned 0 Usy.reset).portUp 16 = true ∧
    (∀ sent ∈ [true, false], let c : CommitWait := { seq := 0, entries := [], sent := sent, ckpt := false, lost := false }
      ({ Usy.reset with commits := [c] } : Usy).commits = [c] ∧ c.sent = sent ∧ Dev.reset.commitOpen c.seq = false) ∧
    (let d := twinned 0 { Usy.reset with logq := [List.replicate 16 0] }
     d.usy.logq = [List.replicate 16 0] ∧ (d.port 16).txq = [] ∧
       d.mayEnter 16 (d.frame 6 (d.fld (Reg.fabPeer 16) 12 0) 0 (List.replicate 16 0)) = true) := by
  unfold On; decide +kernel

/-! ### Witnesses: the Grid network and the Cast Table -/

def token (due epoch : Nat) (ctl : Bool) : GridToken := { due := due, unit := 319, ctl := ctl, word := 0, epoch := epoch, src := 0, sslot := 0 }
def netOf (g : Grid) : Dev :=
  { struck with grid := g, mems := { Mems.reset with progSize := 64 }, prompter := { Prompter.reset with run := .step } }
/-- The west edge unit 319 has these. -/
def edgeWith (inbox : List (Nat × Nat)) (reqs : List EdgeReq) : Dev :=
  netOf { Grid.reset with edges := [(319, { inbox := inbox, reqs := reqs, nextInj := 0 })] }
theorem test_witness_GridNetwork :
    Grid.reset.flight = [] ∧
    (∀ x ∈ [token 4 1 true, token 4 0 true], let d := netOf { Grid.reset with flight := [token 5 0 true, x] }
      earliest d.grid.flight = some x ∧ (x.epoch ≠ d.epoch ∨ x.epoch = d.epoch) ∧ d.bit Reg.lgrCtrl 0 = false ∧
        ∀ h ∈ d.grid.held x.unit, partners h x = false) ∧
    (let x := token 8 0 true
     let h := token 4 0 false
     let d := netOf { Grid.reset with flight := [x], steer := [(319, [h])] }
     earliest d.grid.flight = some x ∧ x.epoch = d.epoch ∧ (d.grid.held 319).find? (fun h => partners h x) = some h) ∧
    (∀ ctl ∈ [true, false], let d := netOf { Grid.reset with steer := [(319, [token 4 0 ctl])] }
      d.lonely 319 ctl = some (token 4 0 ctl) ∧ d.lonely 319 (!ctl) = none ∧ d.bit Reg.lgrStatus 18 = false ∧ d.grid.change = none) ∧
    (let c : Changeover := { config := 0, ctr := 64, start := 0, records := [], barrier := none }
     let d := netOf { Grid.reset with steer := [(319, [token 2043 0 false])], change := some c, cycle := 2048 }
     d.lonely 319 false = some (token 2043 0 false) ∧ d.grid.change = some c ∧ d.swapReady c = false ∧ d.halted = false) ∧
    sameCoreCycle (0 + 2048) (2043 + 5) = true ∧
    ((netOf Grid.reset).setReg Reg.lgrCtrl 2).bit Reg.lgrCtrl 1 = true ∧ (netOf Grid.reset).edge 319 = ⟨[], [], 0⟩ ∧
    (∀ op ∈ [0, 1, 2, 3, 4, 5], let d := edgeWith [(0x200, op)] []
      (d.edge 319).inbox = [(0x200, op)] ∧ tokenKind 0x200 = 2 ∧ bits op 0 4 = op) ∧
    tokenKind 0x400 = 4 ∧
    (let r : EdgeReq := { edgeReq 0 3 with data := [] }
     (takeData (bits 0x400 12 9) (leBytes 16 0) [r]).isSome = true ∧ takeData (bits 0x400 12 9) (leBytes 16 0) [] = none ∧
       r.isWrite = true ∧ r.data.length < 16 * r.words) ∧
    (let d := edgeWith [] [edgeReq 0 (2 + hbmProg * 2 ^ 64)]
     let r := edgeReq 0 (2 + hbmProg * 2 ^ 64)
     (d.edge 319).reqs = [r] ∧ r.op = 2 ∧ r.isWrite = false ∧ d.edgeStatus Ident.reset 319 r = 0 ∧
       d.errorsIn r.place.1 r.place.2 (16 * r.words) = [] ∧ d.edgeStatus Ident.reset 319 { r with op := 0 } ≠ 0) ∧
    (let r : EdgeReq := { edgeReq 0 (3 + hbmProg * 2 ^ 64) with data := List.replicate 16 1 }
     let d := edgeWith [] [r]
     r.isWrite = true ∧ 16 * r.words ≤ r.data.length ∧ d.edgeStatus Ident.reset 319 r = 0 ∧ (d.serveWrite r).1 = false ∧
       ({ d with mems := { d.mems with errors := [(.hbm, hbmProg / memUnit .hbm)] } } : Dev).mems.errors ≠ []) := by
  refine ⟨by decide +kernel, by decide +kernel, by decide +kernel, by decide +kernel, by decide +kernel, ?_, by decide +kernel⟩
  simp [sameCoreCycle]

/-- Stream 16383 in a state, one block long, and what the Wings are doing; one frame, one block. -/
def castOf (st : StreamState) (c : Cast) : Dev :=
  { (struck.setReg Reg.stgImgLoad 0x100).setReg Reg.cstWingsFrames 1 with
    mems := { Mems.reset with progSize := 64 }
    cast := { c with geom := some { (geometryOf []) with pages := 1, pageBytes := 64, kvHeads := 1, blocks := 1, blockBytes := 64 }
                     entries := [(16383, { (Entry.zero 0) with state := st, stage := noStage })] } }
theorem test_witness_CastTableActs :
    Dev.reset.mayForm = false ∧
    (let d := { castOf .paused Cast.reset with prompter := { Prompter.reset with run := .step } }
     d.mayForm = true ∧ d.cast.hurt = false ∧ (∀ x ∈ d.castSpans d.formTouch ++ d.formSpans, d.errorsIn x.1 x.2.1 x.2.2 = []) ∧ ∀ x ∈ d.formTouch, d.touchBad x = false) ∧
    Dev.reset.cast.ckptDue = none ∧ Dev.reset.cast.ckptReq = [] ∧
    (let c : CheckpointDue := { serial := 0, cmds := [], journal := 0, deferred := [], effects := 0, blocks := 0 }
     ({ Cast.reset with ckptDue := some c } : Cast).ckptDue = some c) ∧
    Dev.reset.wingsOn = false ∧ (struck.freeFrame = none) ∧
    (let d := castOf .paused { Cast.reset with spillReq := [16383] }
     d.wingsOn = true ∧ d.cast.spill = none ∧ d.freeFrame ≠ none ∧ (∀ x ∈ d.castSpans [], d.errorsIn x.1 x.2.1 x.2.2 = []) ∧
       d.nextSpill = some 16383) ∧
    (let d := castOf .paused { Cast.reset with spill := some 16383 }
     let ts := [(16383, 0, (d.entry 16383).blocks)]
     d.cast.spill = some 16383 ∧ d.wingsOn = true ∧ (d.entry 16383).state = .paused ∧
       (∀ x ∈ d.castSpans ts, d.errorsIn x.1 x.2.1 x.2.2 = []) ∧ (∀ x ∈ ts, d.touchBad x = false) ∧ d.spillBad 16383 = false ∧
       (d.spillList 16383).length ≤ d.frameCount - d.cast.frames.length) ∧
    (let d := castOf .spilled { Cast.reset with returns := [16383] }
     let ts := [(16383, 0, (d.entry 16383).blocks)]
     d.cast.returns = [16383] ∧ d.wingsOn = true ∧ (d.entry 16383).state = .spilled ∧
       (∀ x ∈ d.castSpans ts, d.errorsIn x.1 x.2.1 x.2.2 = []) ∧ (∀ x ∈ ts, d.touchBad x = false) ∧
       (d.returnList 16383).length ≤ d.freeBlocks.length) := by
  decide +kernel


/-! ### Single steps against the manual's words and worked examples -/

/-- The command's next state has this. -/
def gives (c : Instr) (s : State) (f : State → Bool) : Bool := match exec c s with
  | .next t => f t
  | _ => false
/-- Lantern 0 runs the word `w`, and its next state has this. -/
def lanternGives (c : Instr) (w : Nat) (x : Lantern) (f : Lantern → Bool) : Bool :=
  gives c (on { Dev.reset with
    grid := { Grid.reset with lanterns := [(0, { x with running := true, lo := 0, hi := 2048 })] }
    mems := { Mems.reset with lins := memPuts [] 0 (leBytes 4 w) } }) (fun t => f (t.dev.lantern 0))

/-! The block. -/

/-- R1 to R4 name no tick: a step on an empty queue lets the clocks of the block pass (notes/assumptions/2.md). -/
theorem test_idle_step_answers : (match step State.reset with
  | .next t => t.pending == []
  | _ => false) = true := by decide +kernel
/-- The table gives no row bits. -/
theorem test_no_table_word_spells_a_command : decodeTableWord 32 0 = none := by decide

/-! Lantern words written out from R249 and Table 8-3. -/

theorem test_word_addi : (encodeLantern (inst .addi 3 4 0 0xFFE)).toNat = 0xFFE0431B := by decide
theorem test_word_vfma : decodeLantern 0x00065735 = some (inst .vfma 7 5 6 0) := by decide
theorem test_word_reserved_opcode : decodeLantern 0x0000001F = none := by decide
/-- ADDI sign-extends its immediate: 1 + (−2) is −1. -/
theorem test_addi_sign_extends : lanternGives (.addi 0) 0xFFE0431B { lan0 with g := [(4, 1)] } (fun x => x.gr 3 == 0xFFFFFFFF && x.pc == 1) = true := by
  decide +kernel
/-- ORI zero-extends its immediate. -/
theorem test_ori_zero_extends : lanternGives (.ori 0) 0xFFE0431D { lan0 with g := [(4, 1)] } (fun x => x.gr 3 == 0xFFF) = true := by decide +kernel
/-- LUI places IMM20 at bit 12. -/
theorem test_lui : lanternGives (.lui 0) 0x8000131E lan0 (fun x => x.gr 3 == 0x80001000) = true := by decide +kernel
/-- SRA shifts by gC[4:0] and keeps the sign: a count of 33 shifts by 1. -/
theorem test_sra_count_modulo_32 : lanternGives (.sra 0) 0x00021317 { lan0 with g := [(1, 0x80000002), (2, 33)] } (fun x => x.gr 3 == 0xC0000001) = true := by
  decide +kernel
/-- SLT is signed, SLTU is not. -/
theorem test_slt_signed : lanternGives (.slt 0) 0x00021318 { lan0 with g := [(1, 0xFFFFFFFF), (2, 0)] } (fun x => x.gr 3 == 1) = true := by decide +kernel
theorem test_sltu_unsigned : lanternGives (.sltu 0) 0x00021319 { lan0 with g := [(1, 0xFFFFFFFF), (2, 0)] } (fun x => x.gr 3 == 0) = true := by
  decide +kernel
/-- FLT gives 0 for a NaN; FTOI clamps to ±(2^31 − 1). -/
theorem test_flt_nan : lanternGives (.flt 0) 0x00021325 { lan0 with g := [(1, 0xFF800000), (2, 0x7FC00000)] } (fun x => x.gr 3 == 0) = true := by
  decide +kernel
theorem test_ftoi_clamps : lanternGives (.ftoi 0) 0x0000132B { lan0 with g := [(1, 0xFF800000)] } (fun x => x.gr 3 == 0x80000001) = true := by
  decide +kernel
/-- JAL links PC + 1 and adds its immediate to PC; PC is 11 bits. -/
theorem test_jal_wraps : lanternGives (.jal 0) 0xFFF00353 lan0 (fun x => x.gr 3 == 1 && x.pc == 0x7FF) = true := by decide +kernel
/-- VRMAX gives the lowest lane of the largest value. -/
theorem test_vrmax_lowest_lane :
    lanternGives (.vrmax 0) 0x0000133B { lan0 with v := [(18, 0x40000000), (21, 0x40000000)] } (fun x => x.gr 3 == 2) = true := by decide +kernel
/-- JAL at PC 2,047 links 2,048 (Table 8-3: PC + 1 modulo 2^32). -/
theorem test_jal_links_2048 : gives (.jal 0)
    (on { Dev.reset with
      grid := { Grid.reset with lanterns := [(0, { lan0 with pc := 2047, running := true, lo := 0, hi := 2048 })] }
      mems := { Mems.reset with lins := memPuts [] (4 * 2047) (leBytes 4 0x00000353) } })
    (fun t => (t.dev.lantern 0).gr 3 == 2048) = true := by decide +kernel
/-- A vector register above v7 is fault 0x1, and the lantern finishes (R248). -/
theorem test_vector_register_fault : gives (.vadd 0) (withLantern (inst .vadd 8 0 0 0) lan0 Dev.reset)
    (fun t => !(t.dev.lantern 0).running && t.dev.reg Reg.lgrLfault == 0x80000100) = true := by decide +kernel

/-! Number formats (chapters 3 and 4, 8.7). -/

/-- 3.7: escape at position 2 with side entry 0x8002_4030, the whole term −80,740,352. -/
theorem test_group_term_of_3_7 :
    (do
      let w ← readGroup false 32 ([0xE3, 0x78] ++ List.replicate 14 0) [0x80024030, 0]
      let a ← readGroup false 32 ([0x45, 0xFA] ++ List.replicate 14 0) [0, 0]
      pure (groupTerm w a (-3) (-2) 1)) = some (-80740352, 0) := by decide +kernel
/-- 3.8: 0.40625 and −0.40625 at E = −3, and t = ±2.5 to even. -/
theorem test_conversions_of_3_8 :
    (convertElem true 0x3ED00000 (-3) 0 none, convertElem true 0x3ED00000 (-3) 0 (some 0x2A5F0001),
      convertElem true 0x3ED00000 (-3) 0 (some 0x90000000), convertElem true 0xBED00000 (-3) 0 (some 0xBFFFFFFF),
      convertElem true 0xBED00000 (-3) 0 (some 0xC0000000), convertElem true 0x3EA00000 (-3) 0 none, convertElem true 0xBEA00000 (-3) 0 none) =
    (3, 4, 3, -3, -4, 2, -2) := by decide +kernel
/-- The group of 4.4. -/
def group44 : List W32 := (List.range 32).map (fun k =>
  if k = 3 then 0x40D00000 else if k = 10 then 0xBF600000 else if k = 17 then 0x3F100000 else if k = 21 then 0x3EA00000 else 0x3E400000)
/-- 4.4: emx is −3 for HI = 0.5625, and Table 4-2 at h = 0 and h = 1. -/
theorem test_headrooms_of_4_4 :
    statHiLo 2 false false group44 = (0x3F100000, 0) ∧ emx 0x3F100000 false = -3 ∧
    (let c := convertGroup false false 2 (-3) 0 (fun _ => none) group44
     c.side = [0x800340D0, 0] ∧ c.clip = 0 ∧ [3, 10, 17, 21, 0].map (c.codes.getD · 0) = [8, 9, 4, 2, 2]) ∧
    (let c := convertGroup false false 2 (-4) 0 (fun _ => none) group44
     c.side = [0x800340D0, 0x800ABF60] ∧ c.clip = 1 ∧ [3, 10, 17, 21, 0].map (c.codes.getD · 0) = [8, 8, 7, 5, 3]) := by decide +kernel
/-- 8.7: recip(1.25) is 0x3F4C_CCCD, and 5.0 times it rounds to 4.0. -/
theorem test_penalty_of_8_7 : frecip 0x3FA00000 = 0x3F4CCCCD ∧ fmul 0x40A00000 0x3F4CCCCD = 0x40800000 := by decide +kernel
/-- Table 3-6 and R251: exp(0) is 1; ln(1) is +0 and ln(−0) is −infinity. -/
theorem test_exp_and_ln : fexp 0 = 0x3F800000 ∧ fln 0x3F800000 = 0 ∧ fln 0x80000000 = 0xFF800000 := by decide +kernel

/-! The Prompter (chapters 1 and 5). -/

/-- 5.16: the WAIT on the manifest and the SCENE at phase 0x20, as words. -/
theorem test_words_of_chapter_5 :
    (let w := 0x0000017800000121
     cueClass w = .wait ∧ cuePhase w = 1 ∧ cueCtr w = 120 ∧ bits w 40 7 = 1 ∧ cueReservedBad w = false) ∧
    (let w := 0x01012340022E2010
     cueClass w = .scene ∧ cuePhase w = 0x20 ∧ cueDraw w = 46 ∧ cueCtr w = 64 ∧ cueDesc w = 0x0123 ∧ cueMsel w = 1 ∧ bitAt w 25 = true) := by
  decide
/-- 1.7: at a ledger of 88 units under a cap of 90, a GRID cue of 6 units fails with 0x30; without the MOVE's 22 it does not. -/
def ledgerOf (draws : List Nat) : Dev :=
  { ready with
    prompter := { ready.prompter with
      budget := 90
      counters := [(64, { count := 0, err := false, bounds := false, ledger := draws.map (fun n => { draw := n, grid := 0, coll := false }) })] }
    grid := withProg.grid }
theorem test_draw_of_chapter_1 :
    let w := gridW 0 0x40 0 0 + 6 * 2 ^ 16
    (ledgerOf [46, 22, 12]).checkFails Ident.reset w [] = [0x30] ∧ (ledgerOf [46, 12]).checkFails Ident.reset w [] = [] := by
  decide +kernel
/-- NOP retires: PC moves on by one (R143, R190). -/
theorem test_nop_moves_on : gives .nop (withCue 0 [] Dev.reset) (fun t => t.dev.prompter.pc == 1) = true := by decide +kernel
/-- A reserved opcode faults with 0x01 (Table 5-22), and the Prompter halts. -/
theorem test_reserved_opcode_faults : gives .illegalOpcode (withCue 0xFF [] Dev.reset)
    (fun t => t.dev.halted && t.dev.reg Reg.stgFaultCode &&& 0xFF == 1) = true := by decide +kernel

/-! The Grid (7.4). -/

/-- The records of 7.4's circuits. -/
def records74 : Tab Byte :=
  [(37, 12, 0x0005), (21, 14, 0x0003), (5, 16, 0x0003), (37, 44, 0x0A00), (36, 46, 0x0002), (20, 48, 0x0003), (4, 50, 0x0018), (5, 52, 0x0004)].foldl
    (fun (m : Memory) (x : Nat × Nat × Nat) => memPuts m (80 * x.1 + x.2.1) (leBytes 2 x.2.2)) []
theorem test_circuits_of_7_4 :
    let g := { Grid.reset with records := records74 }
    g.reached true 37 1030 = [(261, 3)] ∧ g.reached false 37 1030 = [(261, 5)] ∧
    ({ Dev.reset with grid := g }.setReg Reg.lgrStatus 0x2A00).controlWord 37 1030 0x200 = 0x00C2522A := by decide +kernel

/-! Memory and host (chapters 10, 11 and 12). -/

/-- 10.2: the granule at 0x08_1234_5600 lies in stack 0, p = 2; the next in stack 1. -/
theorem test_hbm_map_of_10_2 :
    hbmRow 0x0812345600 = 2 * 2 ^ 20 + 264474 / 4 ∧ hbmRow 0x0812345700 / 2 ^ 26 = 1 := by decide
/-- 11.2: with BAR2 at 64 GiB, offset 0x2512_3400 reaches byte 0x12_3400 of tile 37, and offset 0x2_0000_0000 is refused. -/
theorem test_window_of_11_2 :
    let d := (struck.setReg Reg.hifBar2Win 0).setReg (Reg.hifBar2Win + 4) 0x60
    d.reaches Ident.reset (d.aperture 0x25123400) 1 = some (.tile, 37 * 2 ^ 24 + 0x123400) ∧
      d.reaches Ident.reset (d.aperture 0x200000000) 1 = none := by decide +kernel
/-- R374 names CRC-32C; its published check value is that of the nine digits 1 to 9. -/
theorem test_crc32c_check_value : crc32c [0x31, 0x32, 0x33, 0x34, 0x35, 0x36, 0x37, 0x38, 0x39] = 0xE3069283 := by decide +kernel

/-- R366 by hand: means −64, −20, 20 and 64 with mean deviations 4, 2, 2 and 4 give min(⌊256 × 44 / 6⌋, 256 × 10) = 1,877; without
level 3 it is 0. -/
theorem test_figure_of_merit :
    let eye := fun (m d : Int) (k : Fin 4) => [(⟨BitVec.ofInt 8 (m - d), k, 8192⟩ : Sample), ⟨BitVec.ofInt 8 (m + d), k, 8192⟩]
    LineCode.figureOfMerit (eye (-64) 4 0 ++ eye (-20) 2 1 ++ eye 20 2 2 ++ eye 64 4 3) = 1877 ∧
      LineCode.figureOfMerit (eye (-64) 4 0 ++ eye (-20) 2 1 ++ eye 20 2 2) = 0 := by decide +kernel

/-! Time and power (chapters 13 and 14). -/

/-- 13.2: +250 ps is 16,384; o = 163,840 gives integ −160, adj −2,720 and HCK_INCR 0x03FF_F560. -/
theorem test_servo_of_13_2 :
    (Dev.reset.setReg (Reg.fabAsym 3) 250).asym 3 = 16384 ∧
    (let d := Dev.reset.servo 163840
     d.hck.integ = -160 ∧ d.reg Reg.hckAdj = BitVec.ofInt 32 (-2720) ∧ d.increment = 0x03FFF560) := by decide +kernel
/-- 14.3: with C = 80, S = 46: D = 81.0 raises b from 14 to 16, and D = 79.5 leaves 16. -/
theorem test_bubble_law_of_14_3 : bubbleLaw 14 63 1296 80 46 = 16 ∧ bubbleLaw 16 63 1272 80 46 = 16 := by decide

/-! Registers (0.7, 17.6, 19.5). -/

/-- A write of a register, then its complement at the next address. -/
def pairOf (off : Nat) (v c : W32) (s : State) (f : State → Bool) : Bool :=
  gives (.registerWrite .core0 (BitVec.ofNat 26 off) v 0xF) s (fun t => gives (.registerWrite .core0 (BitVec.ofNat 26 (off + 4)) c 0xF) t f)
/-- 0.7: 0x40 and its complement make 0x40 take effect (DIM_CAP: at the next control period); what is no complement changes nothing. -/
theorem test_pair_of_0_7 :
    pairOf Reg.dimCap 0x40 0xFFFFFFBF State.reset (fun t => (tabGet Buffered.none t.dev.pend Reg.dimCap).value == 0x40) = true ∧
    pairOf Reg.dimCap 0x40 0xFFFFFFBE State.reset (fun t => t.dev.pend == [] && t.dev.reg Reg.dimCap == Dev.reset.reg Reg.dimCap) = true := by
  decide +kernel
/-- 19.5: −20 mV is permitted at 0x240_0600, +8 mV fails with reason 5 and leaves it. -/
theorem test_override_of_19_5 :
    let s := { State.reset with fuses := { Fuses.reset with lc := .field } }
    pairOf 0x2400600 0xEC 0xFFFFFF13 s (fun t => t.dev.reg (Reg.secVovr 0) == 0xEC) = true ∧
    pairOf 0x2400600 0x08 0xFFFFFFF7 s (fun t => t.dev.reg (Reg.secVovr 0) == 0) = true := by decide +kernel
/-- 17.6: source 64, routed to core 1 and host vector 5, masked on core 1, is pending and deliverable to the host alone. -/
theorem test_source_64_of_17_6 :
    let d := (((Dev.reset.setReg 0x10900 0x512).setReg 0x10008 1).setReg 0x10208 0).raise 64
    d.arrivalCount 64 = 1 ∧ d.deliverable 64 1 = false ∧ d.deliverable 64 4 = true := by decide +kernel

/-- 6.7: HBM_BASE adds the program base; PEER wraps at the device count and leaves the queue field; a sum past 2^39 − 1 is refused. -/
theorem test_relocations_of_6_7 :
    (let r : Reloc := { ca := 0x8040, type := 1, lo := 0, width := 39, arg := 0, reserved := false }
     let m := memPuts [] 0x8040 (leBytes 8 0x12345600)
     (r.apply 0x0800000000 0 15 16 m).map (fun m => leNat (memBytes m 0x8040 8)) = some 0x0812345600 ∧
       ({ r with arg := 0x7800000000 } : Reloc).apply 0x0800000000 0 15 16 m = none) ∧
    (let r : Reloc := { ca := 0x8440, type := 4, lo := 0, width := 13, arg := 1, reserved := false }
     let m := memPuts [] 0x8440 (leBytes 8 0x300000)
     (r.apply 0 0 15 16 m).map (fun m => leNat (memBytes m 0x8440 8)) = some 0x300000 ∧
       (r.apply 0 0 3 16 m).map (fun m => leNat (memBytes m 0x8440 8)) = some 0x300004) := by decide +kernel
/-- FIPS 180-4's example of SHA-384, which 18.1 names: the message abc. -/
theorem test_sha384_of_abc : sha384 [0x61, 0x62, 0x63] =
    (leBytes 48 0xCB00753F45A35E8BB5A03D699AC65007272C32AB0EDED1631A8B605A43FF5BED8086072BA1E7CC2358BAECA134C825A7).reverse := by decide +kernel
/-- What the two outcomes of a host read leave to see: corrected and uncorrectable errors counted, and the last message. -/
def readSees (found : List Found) : Nat × Nat × Option Out :=
  let d := (struck.setReg Reg.hifBar2Win 0).setReg (Reg.hifBar2Win + 4) 0x60
  match exec (.bar2Read 8 8 found) (on d) with
  | .next t => ((t.dev.wideGet Reg.memCeSram).toNat, (t.dev.reg Reg.memUeCount).toNat, t.dev.outbox.getLast?)
  | _ => (9, 9, none)
/-- 10.4, Table 10-5: a read that corrects an error is served and counted; one that meets an uncorrectable error is not served. -/
theorem test_host_read_meets_errors :
    readSees [⟨.tile, 0, 8, .corrected⟩] = (1, 0, some (.completion [0, 0, 0, 0, 0, 0, 0, 0])) ∧
    readSees [⟨.tile, 0, 8, .uncorrectable⟩] = (0, 1, some .completerAbort) := by decide +kernel
/-- R358's worked example: the bits 11100001 with precoding, the amplitudes, and what the receiver recovers. -/
theorem test_line_code_of_R358 :
    let x := LineCode.indices [true, true, true, false, false, false, false, true]
    x = [2, 3, 0, 1] ∧ LineCode.precode 0 x = [2, 1, 3, 2] ∧ (LineCode.precode 0 x).map LineCode.amplitude = [1, -1, 3, 1] ∧
      LineCode.recover 0 [2, 2, 3, 2] = [2, 0, 1, 1] := by decide
/-- R362: 64 valid headers in a row lock a lane, not 63; 16 invalid ones within a window of 64 lose it, not 15. -/
theorem test_header_hunt_of_R362 :
    let valid := fun n => List.replicate n (1 : BitVec 2)
    let locked := LineCode.huntAll LineCode.Hunt.zero (valid 64)
    (LineCode.huntAll LineCode.Hunt.zero (valid 63)).locked = false ∧ locked.locked = true ∧
      (LineCode.huntAll locked (List.replicate 15 0 ++ valid 49)).locked = true ∧
      (LineCode.huntAll locked (valid 48 ++ List.replicate 16 3)).locked = false := by decide +kernel

end Sys2Proof.Tests
end

section
/-! Lantern token and generator instructions (R252): what an injection may change, the slot of a send, the data word of a vector
register, the channel that RECV takes from, and O8. -/
namespace Sys2Proof.Machine

/-! ### Words -/

/-- A control token's fields read back what it was made of (Table 7-4). -/
theorem Dev.bits_controlWord (d : Dev) {u : Nat} (c g : Nat) (hu : u < 512) :
    let t := d.controlWord u c g
    bits t 0 8 = d.epoch ∧ bits t 8 4 = bits g 8 4 ∧ bits t 12 9 = u ∧ bits t 21 4 = c % 16 ∧ bits t 25 4 = bits g 25 4 ∧
      bits t 29 1 = bits g 29 1 := by
  have he : d.epoch < 256 := Nat.mod_lt _ (by decide)
  simp only [Dev.controlWord, bits, Nat.shiftRight_eq_div_pow]
  omega

theorem leNat_leBytes_append (n v : Nat) (bs : List Byte) : leNat (leBytes n v ++ bs) = v % 256 ^ n + 256 ^ n * leNat bs := by
  induction n generalizing v with
  | zero => simp [leBytes, Nat.mod_one]
  | succ n ih =>
    have hmod : v % 256 ^ (n + 1) = v % 256 + 256 * (v / 256 % 256 ^ n) := by rw [Nat.pow_succ', Nat.mod_mul]
    rw [leBytes, List.cons_append, leNat, ih, BitVec.toNat_ofNat, hmod]
    ring

/-- The number that words spell, lowest first. -/
theorem leNat_flatMap_words (vs : List W32) :
    leNat (vs.flatMap (fun v => leBytes 4 v.toNat)) = vs.foldr (fun v acc => v.toNat + 2 ^ 32 * acc) 0 := by
  induction vs with
  | nil => rfl
  | cons v vs ih =>
    have hv : v.toNat < 256 ^ 4 := v.isLt
    rw [List.flatMap_cons, leNat_leBytes_append, ih, List.foldr_cons, Nat.mod_eq_of_lt hv]
    rfl

theorem Lantern.dataWord_eq (x : Lantern) (n : Nat) :
    x.dataWord n = (List.range 4).foldr (fun i acc => (x.lane n i).toNat + 2 ^ 32 * acc) 0 := by
  rw [Lantern.dataWord, Lantern.vec, ← List.map_take, leNat_flatMap_words, List.foldr_map]
  rfl

/-! ### Slots -/

theorem slotCycle_mod (c slot : Nat) : slotCycle c slot % 16 = slot % 16 := by
  unfold slotCycle; omega

theorem le_slotCycle (c slot : Nat) : c ≤ slotCycle c slot := Nat.le_add_right _ _

theorem slotCycle_lt (c slot : Nat) : slotCycle c slot < c + 16 := by
  unfold slotCycle; omega

/-! ### Injection -/

/-- What an injection may change: registers, for the count of misroutes, and the Grid but for its lanterns. -/
def Dev.InjectsTo (d e : Dev) : Prop := e = { d with regs := e.regs, grid := e.grid } ∧ e.grid.lanterns = d.grid.lanterns

theorem Dev.injectOne_injectsTo (d : Dev) (u c : Nat) (ctl : Bool) (word : Nat) : d.InjectsTo (d.injectOne u c ctl word) := by
  unfold Dev.injectOne
  split
  · exact ⟨rfl, rfl⟩
  · exact ⟨rfl, rfl⟩

theorem Dev.InjectsTo.trans {d e f : Dev} (h : d.InjectsTo e) (h' : e.InjectsTo f) : d.InjectsTo f := by
  obtain ⟨hde, hlan⟩ := h
  obtain ⟨hef, hlan'⟩ := h'
  refine ⟨?_, hlan'.trans hlan⟩
  rw [hef, hde]

theorem Dev.injectPair_injectsTo (d : Dev) (u c ctlWord data : Nat) : d.InjectsTo (d.injectPair u c ctlWord data) := by
  rw [Dev.injectPair]
  exact (d.injectOne_injectsTo ..).trans (Dev.injectOne_injectsTo ..)

/-! ### Rows that act -/

/-- A row of a lantern instruction that meets its instruction runs to what its action leaves. -/
theorem runs_runOp {s : State} {l : Fin 256} {w : LInst} {c : Instr} {op : Nat} {act : Dev → Lantern → LWord → Dev}
    {P : State → Prop} (h : LanternAt s l w) (hc : exec c s = onDev (fun _ d => d.runOp l.val op act) s)
    (hop : op = w.op.code.toNat) (hp : P { s with dev := act s.dev (s.dev.lantern l.val) (lword (encodeLantern w)) }) :
    Runs c s P := by
  refine ⟨_, ?_, hp⟩
  rw [hc, onDev_on h.1, Dev.runOp_at h op act hop]

theorem Dev.vecOk_of_lt {r : Nat} (d : Dev) (l : Nat) (act : Dev) (h : r < 8) : d.vecOk l [r] act = act := by
  simp [Dev.vecOk, h]

/-! ### SEND, SENDC, SENDD -/

/-- The lantern has injected in grid cycle `k`, the first after issue whose slot is IMM[3:0], which the Grid has then reached; it is owed
`asked` answers more and steps on. -/
def Sent (s : State) (l : Fin 256) (w : LInst) (k : Nat) (inject : Dev) (asked : Nat) (t : State) : Prop :=
  let x := s.dev.lantern l.val
  t.dev.grid = { inject.grid with cycle := k, lanterns := t.dev.grid.lanterns } ∧ k % 16 = w.imm.toNat % 16 ∧
    s.dev.grid.cycle < k ∧ k ≤ s.dev.grid.cycle + 16 ∧
    t.dev.lantern l.val = { x with pc := x.pc + 1, owed := x.owed + asked } ∧
    (∀ j, j ≠ l.val → t.dev.lantern j = s.dev.lantern j) ∧ t.dev.regs = inject.regs ∧ Keeps [.grid, .regs] s t

theorem sent_sendAt (s : State) (l : Fin 256) (w : LInst) {v : LWord} (hv : v.imm12 = w.imm.toNat) (asked : Nat → Nat)
    (inject : Dev → Nat → Dev) {k : Nat} (hk : slotCycle (s.dev.grid.cycle + 1) (w.imm.toNat % 16) = k)
    (hi : s.dev.InjectsTo (inject s.dev k)) :
    Sent s l w k (inject s.dev k) (asked k)
      { s with dev := s.dev.sendAt l.val (s.dev.lantern l.val) v asked inject } := by
  obtain ⟨hrest, hlan⟩ := hi
  have hmod : k % 16 = w.imm.toNat % 16 := by rw [← hk, slotCycle_mod, Nat.mod_mod]
  have hle : s.dev.grid.cycle + 1 ≤ k := hk ▸ le_slotCycle _ _
  have hlt : k < s.dev.grid.cycle + 1 + 16 := hk ▸ slotCycle_lt _ _
  simp only [Sent, Dev.sendAt, hv, hk]
  refine ⟨rfl, hmod, by omega, by omega, ?_, fun j hj => ?_, rfl, fun p hp => ?_⟩
  · rw [Dev.lantern_setLantern, if_pos rfl]; rfl
  · rw [Dev.lantern_setLantern, if_neg hj, Dev.lantern, Dev.lantern, ← hlan]
  · rw [hrest]
    cases p with
    | regs | grid | lines => simp at hp
    | _ => rfl

/-! ### RECV -/

theorem Grid.channel_setChannel (g : Grid) (l ch j c : Nat) (q : List (Nat × Nat)) :
    (g.setChannel l ch q).channel j c = if 16 * j + c = 16 * l + ch then q else g.channel j c := tabGet_tabSet ..

theorem Lantern.gr_setV (x : Lantern) (n r : Nat) (vs : List W32) : (x.setV n vs).gr r = x.gr r := by
  have hg : (x.setV n vs).g = x.g := by rw [Lantern.setV_eq]
  rw [Lantern.gr, hg, Lantern.gr]

@[simp] theorem Lantern.gr_next (x : Lantern) (r : Nat) : x.next.gr r = x.gr r := rfl
@[simp] theorem Lantern.lane_next (x : Lantern) (r i : Nat) : x.next.lane r i = x.lane r i := rfl
@[simp] theorem Lantern.lane_setG (x : Lantern) (n r i : Nat) (v : W32) : (x.setG n v).lane r i = x.lane r i := rfl

/-- The lantern has taken the pair (c, data), the oldest of its channel, and steps on. -/
def Taken (s : State) (l : Fin 256) (w : LInst) (c data : Nat) (rest : List (Nat × Nat)) (t : State) : Prop :=
  let x := s.dev.lantern l.val
  let y := t.dev.lantern l.val
  y.gr w.a.toNat = BitVec.ofNat 32 c ∧ (∀ r, r ≠ w.a.toNat → y.gr r = x.gr r) ∧
    (∀ i, i < 16 → y.lane w.b.toNat i = if i < 4 then BitVec.ofNat 32 (bits data (32 * i) 32) else 0) ∧
    (∀ r i, r ≠ w.b.toNat → i < 16 → y.lane r i = x.lane r i) ∧ y = { x with g := y.g, v := y.v, pc := x.pc + 1 } ∧
    t.dev.grid.channel l.val (w.imm.toNat % 16) = rest ∧
    (∀ j c, 16 * j + c ≠ 16 * l.val + w.imm.toNat % 16 → t.dev.grid.channel j c = s.dev.grid.channel j c) ∧
    (∀ j, j ≠ l.val → t.dev.lantern j = s.dev.lantern j) ∧ Keeps [.grid] s t

/-- What RECV leaves in the lantern: the control token in gA, the data word in the lanes of vB. -/
def Lantern.receive (x : Lantern) (w : LInst) (c data : Nat) : Lantern :=
  ((x.setG w.a.toNat (BitVec.ofNat 32 c)).setV w.b.toNat
    ((List.range 4).map (fun i => BitVec.ofNat 32 (bits data (32 * i) 32)))).next

theorem Lantern.gr_receive (x : Lantern) (w : LInst) (c data r : Nat) :
    (x.receive w c data).gr r = if r = w.a.toNat then BitVec.ofNat 32 c else x.gr r := by
  rw [Lantern.receive, Lantern.gr_next, Lantern.gr_setV, Lantern.gr_setG]

theorem Lantern.lane_receive (x : Lantern) (w : LInst) (c data r : Nat) {i : Nat} (hi : i < 16) :
    (x.receive w c data).lane r i =
      if r = w.b.toNat then (if i < 4 then BitVec.ofNat 32 (bits data (32 * i) 32) else 0) else x.lane r i := by
  rw [Lantern.receive, Lantern.lane_next, Lantern.lane_setV _ _ _ _ _ hi, Lantern.lane_setG]
  by_cases h4 : i < 4
  · simp [h4]
  · simp [h4]

theorem Lantern.receive_eq (x : Lantern) (w : LInst) (c data : Nat) :
    x.receive w c data = { x with g := (x.receive w c data).g, v := (x.receive w c data).v, pc := x.pc + 1 } := by
  conv_lhs => rw [Lantern.receive, Lantern.setV_eq]
  rfl

theorem taken_receive (s : State) (l : Fin 256) (w : LInst) (c data : Nat) (rest : List (Nat × Nat)) :
    Taken s l w c data rest
      (let d := { s.dev with grid := s.dev.grid.setChannel l.val (w.imm.toNat % 16) rest }
       { s with dev := d.setLantern l.val ((s.dev.lantern l.val).receive w c data) }) := by
  unfold Taken
  simp only [Dev.lantern_setLantern, if_pos]
  refine ⟨?_, fun r hr => ?_, fun i hi => ?_, fun r i hr hi => ?_, Lantern.receive_eq .., ?_, fun j c hj => ?_, fun j hj => ?_,
    fun p hp => ?_⟩
  · rw [Lantern.gr_receive, if_pos rfl]
  · rw [Lantern.gr_receive, if_neg hr]
  · rw [Lantern.lane_receive _ _ _ _ _ hi, if_pos rfl]
  · rw [Lantern.lane_receive _ _ _ _ _ hi, if_neg hr]
  · exact (Grid.channel_setChannel ..).trans (if_pos rfl)
  · exact (Grid.channel_setChannel ..).trans (if_neg hj)
  · rw [if_neg hj]; rfl
  · cases p with
    | grid | lines => simp at hp
    | _ => rfl

/-! ### RNG -/

theorem stepsG_setG_next (x : Lantern) (a : BitVec 4) (v : W32) : StepsG x (x.setG a.toNat v).next a v :=
  ⟨(Lantern.gr_setG ..).trans (if_pos rfl), fun _ hr => (Lantern.gr_setG ..).trans (if_neg hr), rfl, rfl⟩

theorem Dev.loadData_of_no_error {d : Dev} {l a n : Nat} (act : Dev → List Byte → Dev)
    (h : d.errorsIn .ldata (65536 * l + a) n = []) :
    d.loadData l a n act = act d (memBytes d.mems.ldata (65536 * l + a) n) := by
  rw [Nat.mul_comm] at h ⊢
  simp only [Dev.loadData, Dev.readErrors_none h]
  rfl

/-- A lantern's row that leaves `v` in gA and does no more. -/
theorem stepsG_setLantern (s : State) (l : Fin 256) (a : BitVec 4) (v : W32) :
    let t := { s with dev := s.dev.setLantern l.val ((s.dev.lantern l.val).setG a.toNat v).next }
    StepsG (s.dev.lantern l.val) (t.dev.lantern l.val) a v ∧ OnlyLantern l s t := by
  refine ⟨?_, onlyLantern_set ..⟩
  rw [Dev.lantern_setLantern, if_pos rfl]
  exact stepsG_setG_next ..

/-! ### The rows -/

section Rows
variable {s : State} {l : Fin 256} {w : LInst} (h : LanternAt s l w)
include h

theorem runs_send (hop : w.op = .send) (hb : w.b.toNat < 8) {asked : Nat} :
    let x := s.dev.lantern l.val
    let c := (x.gr w.a.toNat).toNat
    let k := slotCycle (s.dev.grid.cycle + 1) (w.imm.toNat % 16)
    s.dev.grid.asked l.val c k = asked →
      Runs (.send l) s (Sent s l w k (s.dev.injectPair l.val k c (x.dataWord w.b.toNat)) asked) := by
  rintro x c k rfl
  refine runs_runOp h rfl (by rw [hop]; rfl) ?_
  rw [lword_encode, Dev.vecOk_of_lt _ _ _ hb]
  exact sent_sendAt s l w rfl _ (fun d k => d.injectPair l.val k c (x.dataWord w.b.toNat)) rfl (Dev.injectPair_injectsTo ..)

theorem runs_sendc (hop : w.op = .sendc) :
    let x := s.dev.lantern l.val
    let k := slotCycle (s.dev.grid.cycle + 1) (w.imm.toNat % 16)
    Runs (.sendc l) s
      (Sent s l w k (s.dev.injectOne l.val k true (s.dev.controlWord l.val k (x.gr w.a.toNat).toNat)) 0) := by
  intro x k
  refine runs_runOp h rfl (by rw [hop]; rfl) ?_
  rw [lword_encode]
  exact sent_sendAt s l w rfl _ (fun d k => d.injectOne l.val k true (d.controlWord l.val k (x.gr w.a.toNat).toNat)) rfl
    (Dev.injectOne_injectsTo ..)

theorem runs_sendd (hop : w.op = .sendd) (hb : w.b.toNat < 8) :
    let x := s.dev.lantern l.val
    let k := slotCycle (s.dev.grid.cycle + 1) (w.imm.toNat % 16)
    Runs (.sendd l) s (Sent s l w k (s.dev.injectOne l.val k false (x.dataWord w.b.toNat)) 0) := by
  intro x k
  refine runs_runOp h rfl (by rw [hop]; rfl) ?_
  rw [lword_encode, Dev.vecOk_of_lt _ _ _ hb]
  exact sent_sendAt s l w rfl _ (fun d k => d.injectOne l.val k false (x.dataWord w.b.toNat)) rfl (Dev.injectOne_injectsTo ..)

theorem runs_recv_of_pair (hop : w.op = .recv) (hb : w.b.toNat < 8) {c data : Nat} {rest : List (Nat × Nat)}
    (hq : s.dev.grid.channel l.val (w.imm.toNat % 16) = (c, data) :: rest) :
    Runs (.recv l) s (Taken s l w c data rest) := by
  refine runs_runOp h rfl (by rw [hop]; rfl) ?_
  rw [lword_encode, Dev.vecOk_of_lt _ _ _ hb]
  simp only [hq]
  exact taken_receive s l w c data rest

theorem runs_recv_of_empty (hop : w.op = .recv) (hb : w.b.toNat < 8)
    (hq : s.dev.grid.channel l.val (w.imm.toNat % 16) = []) : Runs (.recv l) s (fun t => t = s) := by
  refine runs_runOp h rfl (by rw [hop]; rfl) ?_
  rw [lword_encode, Dev.vecOk_of_lt _ _ _ hb]
  simp only [hq]

theorem runs_rng (hop : w.op = .rng) {a : Nat} (ha : ((s.dev.lantern l.val).gr w.b.toNat).toNat = a) (hin : a + 16 ≤ 0x10000)
    (he : s.dev.errorsIn .ldata (65536 * l.val + a) 16 = []) :
    let x := s.dev.lantern l.val
    let bs := memBytes s.dev.mems.ldata (65536 * l.val + a) 16
    Runs (.rng l) s (fun t =>
      StepsG x (t.dev.lantern l.val) w.a
        (nzr (BitVec.ofNat 64 (field bs 0 8)) (field bs 8 2 % 2 ^ 14) (field bs 12 4) (field bs 10 2) (x.gr w.c.toNat).toNat) ∧
      OnlyLantern l s t) := by
  refine runs_runOp h rfl (by rw [hop]; rfl) ?_
  simp only [lword_encode, ha, if_neg (Nat.not_lt.mpr hin), Dev.loadData_of_no_error _ he]
  exact stepsG_setLantern ..

end Rows

/-- Settles O8: each row meets its instruction, and what its action leaves is read off by the rules above. -/
theorem lanternTokens : Obligations.LanternTokens := by
  unfold Obligations.LanternTokens
  refine ⟨fun d u c g hu => d.bits_controlWord c g hu, fun s l w h => ?_⟩
  dsimp only
  rw [← Lantern.dataWord_eq]
  refine ⟨fun hop hb => ?_, fun hop => ?_, fun hop hb => ?_, fun hop hb c data rest hq => ?_, fun hop hb hq => ?_,
    fun hop hin he => ?_⟩
  · exact runs_send h hop hb rfl
  · exact runs_sendc h hop
  · exact runs_sendd h hop hb
  · exact runs_recv_of_pair h hop hb hq
  · exact runs_recv_of_empty h hop hb hq
  · exact runs_rng h hop rfl hin he

end Sys2Proof.Machine
end

section
/-! The readings of each millisecond (R435, R450, R453): what a conflict event leaves as it was, when the Callboard hears of a state
entered or left, what a reading leaves in the Dimmer, and O28. -/
namespace Sys2Proof.Machine

/-! ### Frames -/

theorem Part.same_trans {s t u : State} {p : Part} (h : p.same s t) (h' : p.same t u) : p.same s u := by
  cases p <;> exact Eq.trans h' h

/-- What two steps may change between them. -/
theorem Keeps.trans {a b : List Part} {s t u : State} (h : Keeps a s t) (h' : Keeps b t u) : Keeps (a ++ b) s u := by
  intro p hp
  simp only [List.mem_cons, List.mem_append, not_or] at hp
  obtain ⟨hl, ha, hb⟩ := hp
  exact Part.same_trans (h p (by simp [hl, ha])) (h' p (by simp [hl, hb]))

theorem Keeps.mono {a b : List Part} {s t : State} (h : Keeps a s t) (hab : a ⊆ b) : Keeps b s t :=
  fun p hp => h p (fun hp' => hp (List.cons_subset_cons _ hab hp'))

theorem keeps_refl (a : List Part) (s : State) : Keeps a s s := by
  intro p _
  cases p <;> rfl

theorem keeps_dim (s : State) (d : Dev) (x : Dim) : Keeps [.dim] { s with dev := d } { s with dev := { d with dim := x } } := by
  intro p hp
  cases p with
  | dim | lines => simp at hp
  | _ => rfl

theorem keeps_raise (s : State) (d : Dev) (src : Nat) : Keeps raising { s with dev := d } { s with dev := d.raise src } := by
  intro p hp
  cases p with
  | arrivals | asleep | hif | outbox | lines => simp [raising] at hp
  | _ => simp [Part.same]

/-- A command that acts on a powered package alone runs to what its act leaves of the package. -/
theorem runs_onDev {c : Instr} {s : State} {f : Ident → Dev → Dev} {P : State → Prop} (hon : On s) (hc : exec c s = onDev f s)
    (hp : P { s with dev := f s.ident s.dev }) : Runs c s P :=
  ⟨_, hc.trans (onDev_on hon f), hp⟩

/-! ### Registers, counters and free values -/

variable (d : Dev)

@[simp] theorem Dev.reg_raise (src off : Nat) : (d.raise src).reg off = d.reg off := by simp [Dev.reg]

theorem Dev.wideGet_wideAdd_same (off n : Nat) : (d.wideAdd off n).wideGet off = d.wideGet off + BitVec.ofNat 64 n := by
  simp [Dev.wideGet, Dev.wideAdd]

theorem Dev.freeQuot_eq (num den : Nat) : (d.freeQuot num den).2 = { d with free := (d.freeQuot num den).2.free } := by
  by_cases h : num % den = 0
  · rw [Dev.freeQuot, if_pos h]
  · rw [Dev.freeQuot, if_neg h]; rfl

/-- The mean takes free values at most. -/
theorem Dev.meanEstimate_eq : d.meanEstimate.2 = { d with free := d.meanEstimate.2.free } := by
  by_cases h : d.dim.estCount = 0
  · rw [Dev.meanEstimate, if_pos h]; rfl
  · rw [Dev.meanEstimate, if_neg h]; exact d.freeQuot_eq ..

@[simp] theorem Dev.meanEstimate_wide : d.meanEstimate.2.wide = d.wide := by rw [Dev.meanEstimate_eq]
@[simp] theorem Dev.meanEstimate_dim : d.meanEstimate.2.dim = d.dim := by rw [Dev.meanEstimate_eq]

/-! ### Conflict events -/

@[simp] theorem Dev.conflict_wide (code : Nat) : (d.conflict code).wide = d.wide := by
  unfold Dev.conflict
  simp [Dev.takeFree, apply_ite Dev.wide]

@[simp] theorem Dev.conflict_dim (code : Nat) : (d.conflict code).dim = d.dim := by
  unfold Dev.conflict
  simp [Dev.takeFree, apply_ite Dev.dim]

/-- The registers of a conflict event lie below the DIM block. -/
theorem Dev.reg_conflict_of_dim {off : Nat} (code : Nat) (h : Reg.dimCtrl ≤ off) : (d.conflict code).reg off = d.reg off := by
  have hpair : off ≠ Reg.stgGconfPair (conflictOf code).2.2 := by
    have hle : (conflictOf code).2.2 ≤ 8 := by unfold conflictOf; split <;> decide
    simp only [Reg.dimCtrl, Reg.stgGconfPair] at h ⊢
    omega
  simp only [Reg.dimCtrl] at h
  unfold Dev.conflict
  simp only [Dev.flagRaise, Dev.setBit, Dev.reg_raise]
  rw [Dev.reg_setFld_other, Dev.reg_count_other]
  · split
    · rfl
    · rw [Dev.reg_setReg_other, Dev.reg_setReg_other]
      · rfl
      · simp only [Reg.stgGconfLast]; omega
      · simp only [Reg.stgGconfTime]; omega
  · exact hpair
  · simp only [Reg.stgDetStatus]; omega

/-! ### CALIBRATION_READING -/

/-- DIM_EST.M, the gain and CAL_SUSPECT as a reading of M leaves them (R435, R436). -/
def Dev.recordPower (c : Calibration) (m : Nat) : Dev :=
  ((d.setFld Reg.dimEst 31 16 m).setReg Reg.dimGain (BitVec.ofNat 32 (c.gain + b2n c.suspect * 65536))).setFld Reg.dimStatus 4 4
    (b2n c.suspect)

@[simp] theorem Dev.recordPower_dim (c : Calibration) (m : Nat) : (d.recordPower c m).dim = d.dim := by simp [Dev.recordPower]
@[simp] theorem Dev.recordPower_wide (c : Calibration) (m : Nat) : (d.recordPower c m).wide = d.wide := by simp [Dev.recordPower]

theorem Dev.fld_recordPower (c : Calibration) (m : Nat) : (d.recordPower c m).fld Reg.dimEst 31 16 = m % 2 ^ 16 := by
  rw [Dev.recordPower, Dev.fld_setFld_other _ _ _ _ _ _ (by decide), Dev.fld_setReg_other _ _ _ _ (by decide),
    Dev.fld_setFld_same _ _ _ (by decide)]

/-- CAL_SUSPECT entered or left (R436). -/
def Dev.suspectEdge (was suspect : Bool) : Dev :=
  if suspect && !was then (d.conflict 4).raise 354 else if was && !suspect then d.raise 355 else d

@[simp] theorem Dev.suspectEdge_wide (was suspect : Bool) : (d.suspectEdge was suspect).wide = d.wide := by
  unfold Dev.suspectEdge
  (repeat' split) <;> simp

@[simp] theorem Dev.suspectEdge_dim (was suspect : Bool) : (d.suspectEdge was suspect).dim = d.dim := by
  unfold Dev.suspectEdge
  (repeat' split) <;> simp

theorem Dev.reg_suspectEdge_of_dim {off : Nat} (was suspect : Bool) (h : Reg.dimCtrl ≤ off) :
    (d.suspectEdge was suspect).reg off = d.reg off := by
  unfold Dev.suspectEdge
  (repeat' split) <;> simp [Dev.reg_conflict_of_dim _ _ h]

theorem exec_calibrationReading (power : W16) (nj : W64) (s : State) :
    exec (.calibrationReading power nj) s = onDev (fun _ d => d.calibrationReading power.toNat nj.toNat) s := rfl

/-- What a reading of M, with `nj` of input energy, comes to: the power recorded, then the energy counted and the millisecond's
estimates begun again. -/
theorem Dev.calibrationReading_eq (m nj : Nat) : ∃ (x : Dev) (c : Calibration),
    x.wide = d.wide ∧ x.fld Reg.dimEst 31 16 = m % 2 ^ 16 ∧
    d.calibrationReading m nj = { x.wideAdd Reg.dimEnergy ((d.dim.remainder + nj) / 1000) with
      dim := { d.dim with dis := c.dis, agree := c.agree, estSum := 0, estCount := 0, remainder := (d.dim.remainder + nj) % 1000 } } := by
  let e := d.meanEstimate.2
  let was := e.bit Reg.dimStatus 4
  let c := calibrate { dis := e.dim.dis, agree := e.dim.agree, suspect := was, gain := e.fld Reg.dimGain 15 0 } d.meanEstimate.1 m
  let x := (e.recordPower c m).suspectEdge was c.suspect
  have hdim : x.dim = d.dim := by simp [x, e]
  have hwide : x.wide = d.wide := by simp [x, e]
  have hest : x.fld Reg.dimEst 31 16 = m % 2 ^ 16 := by
    rw [Dev.fld, Dev.reg_suspectEdge_of_dim _ _ _ (by decide), ← Dev.fld, Dev.fld_recordPower]
  refine ⟨x, c, hwide, hest, ?_⟩
  rw [← hdim]
  rfl

/-! ### THERMAL_READING -/

/-- The thermal excess x over the die's and the stacks' starting temperatures (R450). -/
def Dev.thermalExcess (die : Nat) : Nat := max (die - d.fld Reg.dimTherm 7 0) (d.hottestStack - d.fld Reg.dimTherm 15 8)

/-- The temperatures, the thermal cap and THROTTLE as a reading leaves them (R450). -/
def Dev.recordTemps (temps x : Nat) : Dev :=
  ((d.setReg Reg.dimTemp (BitVec.ofNat 32 temps)).setFld Reg.dimTcap 6 0 (max 8 (100 - 4 * x))).setFld Reg.dimStatus 5 5
    (b2n (decide (0 < x)))

section
variable (temps x : Nat)

@[simp] theorem Dev.recordTemps_dim : (d.recordTemps temps x).dim = d.dim := by simp [Dev.recordTemps]

theorem keeps_recordTemps (s : State) : Keeps [.regs] s { s with dev := s.dev.recordTemps temps x } := by
  intro p hp
  cases p with
  | regs | lines => simp at hp
  | _ => simp [Part.same, Dev.recordTemps]

theorem Dev.reg_recordTemps_dimTemp : (d.recordTemps temps x).reg Reg.dimTemp = BitVec.ofNat 32 temps := by
  rw [Dev.recordTemps, Dev.reg_setFld_other _ _ _ _ (by decide), Dev.reg_setFld_other _ _ _ _ (by decide), Dev.reg_setReg_same]

theorem Dev.fld_recordTemps_dimTcap : (d.recordTemps temps x).fld Reg.dimTcap 6 0 = max 8 (100 - 4 * x) := by
  rw [Dev.recordTemps, Dev.fld_setFld_other _ _ _ _ _ _ (by decide), Dev.fld_setFld_same _ _ _ (by decide)]
  omega

theorem Dev.bit_recordTemps_throttle : (d.recordTemps temps x).bit Reg.dimStatus 5 = decide (0 < x) := by
  rw [Dev.recordTemps, Dev.bit_setFld _ _ _ _ (by decide), if_pos (by decide)]
  cases decide (0 < x) <;> rfl

theorem Dev.reg_recordTemps_other {off : Nat} (h : off ∉ [Reg.dimTemp, Reg.dimTcap, Reg.dimStatus]) :
    (d.recordTemps temps x).reg off = d.reg off := by
  simp only [List.mem_cons, List.not_mem_nil, or_false, not_or] at h
  obtain ⟨htemp, htcap, hstatus⟩ := h
  rw [Dev.recordTemps, Dev.reg_setFld_other _ _ _ _ hstatus, Dev.reg_setFld_other _ _ _ _ htcap, Dev.reg_setReg_other _ _ htemp]

end

/-- Thermal derating entered or left (R450). -/
def Dev.throttleEdge (was : Bool) (x : Nat) : Dev :=
  if decide (0 < x) && !was then d.raise 356 else if was && x == 0 then d.raise 357 else d

theorem Dev.throttleEdge_cases (was : Bool) (x : Nat) :
    (0 < x ∧ was = false ∧ d.throttleEdge was x = d.raise 356) ∨ (x = 0 ∧ was = true ∧ d.throttleEdge was x = d.raise 357) ∨
      ((0 < x ↔ was = true) ∧ d.throttleEdge was x = d) := by
  obtain rfl | hx := Nat.eq_zero_or_pos x <;> cases was
  · exact .inr (.inr (by simp [Dev.throttleEdge]))
  · exact .inr (.inl (by simp [Dev.throttleEdge]))
  · exact .inl (by simp [Dev.throttleEdge, hx])
  · exact .inr (.inr (by simp [Dev.throttleEdge, hx, Nat.ne_of_gt hx]))

@[simp] theorem Dev.reg_throttleEdge (was : Bool) (x off : Nat) : (d.throttleEdge was x).reg off = d.reg off := by
  obtain ⟨-, -, h⟩ | ⟨-, -, h⟩ | ⟨-, h⟩ := d.throttleEdge_cases was x <;> simp [h]

@[simp] theorem Dev.throttleEdge_dim (was : Bool) (x : Nat) : (d.throttleEdge was x).dim = d.dim := by
  obtain ⟨-, -, h⟩ | ⟨-, -, h⟩ | ⟨-, h⟩ := d.throttleEdge_cases was x <;> simp [h]

theorem keeps_throttleEdge (s : State) (was : Bool) (x : Nat) :
    Keeps raising { s with dev := d } { s with dev := d.throttleEdge was x } := by
  obtain ⟨-, -, h⟩ | ⟨-, -, h⟩ | ⟨-, h⟩ := d.throttleEdge_cases was x <;> rw [h]
  · exact keeps_raise s d 356
  · exact keeps_raise s d 357
  · exact keeps_refl _ _

theorem Dev.arrivalCount_throttleEdge_of_entered {x : Nat} (hx : 0 < x) :
    (d.throttleEdge false x).arrivalCount 356 = min 255 (d.arrivalCount 356 + 1) := by
  simp [Dev.throttleEdge, hx, Dev.arrivalCount_raise]

theorem Dev.arrivalCount_throttleEdge_of_left : (d.throttleEdge true 0).arrivalCount 357 = min 255 (d.arrivalCount 357 + 1) := by
  simp [Dev.throttleEdge, Dev.arrivalCount_raise]

theorem exec_thermalReading (die0 die1 : Byte) (s : State) :
    exec (.thermalReading die0 die1) s = onDev (fun i d => d.thermalReading i die0.toNat die1.toNat) s := rfl

/-- A reading after fewer than nine critical ones in a row takes no Safety Curtain (R451): it records the temperatures, tells the
Callboard of derating entered or left, and counts critical readings. -/
theorem Dev.thermalReading_of_critical_lt (i : Ident) (die0 die1 : Nat) (h : d.dim.critical < 9) :
    let x := d.thermalExcess (max die0 die1)
    ∃ n, d.thermalReading i die0 die1 =
      { (d.recordTemps (die0 + die1 * 256 + d.hottestStack * 65536) x).throttleEdge (d.bit Reg.dimStatus 5) x with
        dim := { d.dim with critical := n } } := by
  intro x
  generalize hr : d.thermalReading i die0 die1 = r
  unfold Dev.thermalReading at hr
  extract_lets die hbm d1 y d2 was d3 d4 n dim' d5 at hr
  have hwas : was = d.bit Reg.dimStatus 5 := by
    simp only [was, d2, d1]
    rw [Dev.bit_setFld_other _ _ _ _ _ (by decide), Dev.bit_setReg_other _ _ _ (by decide)]
  have hy : y = x := by
    simp only [y, d1, x, Dev.thermalExcess]
    rw [Dev.fld_setReg_other _ _ _ _ (by decide), Dev.fld_setReg_other _ _ _ _ (by decide)]
  have hd4 : (d.recordTemps (die0 + die1 * 256 + hbm * 65536) x).throttleEdge (d.bit Reg.dimStatus 5) x = d4 := by
    rw [← hy, ← hwas]; rfl
  have hdim : d4.dim = d.dim := by
    rw [← hd4, Dev.throttleEdge_dim, Dev.recordTemps_dim]
  have hn : n ≤ d.dim.critical + 1 := by
    simp only [n, hdim]; split <;> omega
  rw [if_neg (by omega)] at hr
  refine ⟨min 10 n, ?_⟩
  rw [← hr, hd4, ← hdim]

/-- What a reading of these temperatures, with excess `x`, leaves: the temperatures, the cap, THROTTLE and its two sources, and nothing
else but the count of critical readings. -/
def ThermalRead (s : State) (temps x : Nat) (t : State) : Prop :=
  t.dev.reg Reg.dimTemp = BitVec.ofNat 32 temps ∧ t.dev.fld Reg.dimTcap 6 0 = max 8 (100 - 4 * x) ∧
    (t.dev.bit Reg.dimStatus 5 = true ↔ 0 < x) ∧
    (0 < x → s.dev.bit Reg.dimStatus 5 = false → t.dev.arrivalCount 356 = min 255 (s.dev.arrivalCount 356 + 1)) ∧
    (x = 0 → s.dev.bit Reg.dimStatus 5 = true → t.dev.arrivalCount 357 = min 255 (s.dev.arrivalCount 357 + 1)) ∧
    KeepsRegs [Reg.dimTemp, Reg.dimTcap, Reg.dimStatus] s t ∧ Keeps (.regs :: .dim :: raising) s t

theorem thermalRead_recordTemps_throttleEdge (s : State) (temps x n : Nat) :
    let d := s.dev
    let e := (d.recordTemps temps x).throttleEdge (d.bit Reg.dimStatus 5) x
    ThermalRead s temps x { s with dev := { e with dim := { d.dim with critical := n } } } := by
  intro d e
  let t : State := { s with dev := { e with dim := { d.dim with critical := n } } }
  let r := d.recordTemps temps x
  have hreg : ∀ off, t.dev.reg off = r.reg off := fun off => r.reg_throttleEdge _ _ off
  refine ⟨?_, ?_, ?_, fun hx hwas => ?_, fun hx hwas => ?_, fun off hoff => ?_, ?_⟩
  · rw [hreg, Dev.reg_recordTemps_dimTemp]
  · rw [Dev.fld, hreg, ← Dev.fld, Dev.fld_recordTemps_dimTcap]
  · rw [Dev.bit, hreg, ← Dev.bit, Dev.bit_recordTemps_throttle, decide_eq_true_iff]
  · have h := r.arrivalCount_throttleEdge_of_entered hx
    rw [← hwas] at h
    exact h
  · have h := r.arrivalCount_throttleEdge_of_left
    rw [← hwas, ← hx] at h
    exact h
  · rw [hreg, Dev.reg_recordTemps_other _ _ _ hoff]
  · have hrec : Keeps [.regs] s { s with dev := r } := keeps_recordTemps temps x s
    have hedge : Keeps raising { s with dev := r } { s with dev := e } := keeps_throttleEdge r s _ x
    exact ((hrec.trans hedge).trans (keeps_dim s e _)).mono (by simp [raising])

/-- Settles O28: `calibrationReading_eq` gives the power and the energy; below nine critical readings `thermalReading_of_critical_lt`
gives the thermal reading without the Safety Curtain, and its frame is that of its three steps. -/
theorem dimmerReadings : Obligations.DimmerReadings := by
  unfold Obligations.DimmerReadings
  refine ⟨fun s power nj hon => ?_, fun s die0 die1 hon hcrit => ?_⟩
  · refine runs_onDev hon (exec_calibrationReading ..) ?_
    obtain ⟨x, c, hwide, hest, heq⟩ := s.dev.calibrationReading_eq power.toNat nj.toNat
    have henergy : x.wideGet Reg.dimEnergy = s.dev.wideGet Reg.dimEnergy := by rw [Dev.wideGet, hwide, Dev.wideGet]
    rw [heq]
    exact ⟨hest.trans (Nat.mod_eq_of_lt power.isLt), henergy ▸ x.wideGet_wideAdd_same .., rfl, rfl, rfl⟩
  · intro d die x
    refine runs_onDev hon (exec_thermalReading ..) ?_
    obtain ⟨n, heq⟩ := d.thermalReading_of_critical_lt s.ident die0.toNat die1.toNat hcrit
    rw [heq]
    exact thermalRead_recordTemps_throttleEdge s _ _ n

end Sys2Proof.Machine
end

section
/-! What a read of BAR0 returns (R5, R505, R511, R517): the registers that Table 17-3 writes in complement pairs, which of the three kinds of
read an offset meets, and O32. -/
namespace Sys2Proof.Machine

/-! ### The register map -/

theorem mem_offsets_of_regRow {a : Nat} {r : RegRow} (h : regRow a = some r) : a ∈ r.offsets := by
  have hp := List.find?_some h
  simp only [Bool.and_eq_true, decide_eq_true_eq, beq_iff_eq] at hp
  obtain ⟨⟨hbase, hstride⟩, hcount⟩ := hp
  have hdiv := Nat.div_add_mod (a - r.base) r.stride
  simp only [RegRow.offsets, List.mem_map, List.mem_range]
  exact ⟨_, hcount, by omega⟩

theorem isSome_regRow_of_mem {r : RegRow} {k : Nat} (hr : r ∈ regRows) (hstride : 0 < r.stride) (hk : k < r.count) :
    (regRow (r.base + r.stride * k)).isSome = true := by
  rw [regRow, List.find?_isSome]
  refine ⟨r, hr, ?_⟩
  rw [Nat.add_sub_cancel_left, Nat.mul_mod_right, Nat.mul_div_cancel_left _ hstride]
  simp [hk]

/-- The A of each complement pair whose register holds what was applied (Table 17-3). -/
def storedPairs : List Nat :=
  [Reg.hifCurtain, Reg.memRefreshOvr, Reg.memWipe, Reg.dimCap, Reg.secVovr 0, Reg.secVovr 1, Reg.secVovr 2, Reg.secVovr 3]

/-- The A of each complement pair whose register shows fuses (Table 17-3). -/
def fusedPairs : List Nat := [Reg.secLcReq, Reg.secSvnBurn, Reg.secKeyRevoke]

theorem mem_pairs_of_rwcA {a : Nat} (h : rwcA a = true) : a ∈ storedPairs ++ fusedPairs := by
  have rows : ∀ r ∈ regRows, r.rwc ≠ 0 → ∀ x ∈ r.offsets, x ∈ storedPairs ++ fusedPairs := by decide +kernel
  unfold rwcA at h
  split at h
  next r hr => exact rows r (List.mem_of_find?_eq_some hr) (by simpa using h) a (mem_offsets_of_regRow hr)
  next => simp at h

/-- A of a pair is a register, no half of a 64-bit counter, and the one register of its pair. -/
theorem regRow_of_rwcA {a : Nat} (h : rwcA a = true) : regRow a ≠ none ∧ wideOf a = none ∧ regRow (a + 4) = none := by
  have all : ∀ x ∈ storedPairs ++ fusedPairs, regRow x ≠ none ∧ wideOf x = none ∧ regRow (x + 4) = none := by decide +kernel
  exact all a (mem_pairs_of_rwcA h)

/-! ### The three kinds of read -/

section
variable (s : State) {off : Nat}

theorem State.readBar0_of_no_register (h : regRow (canonOff off) = none) :
    s.readBar0 off =
      if 4 ≤ canonOff off ∧ rwcA (canonOff off - 4) = true then ~~~(BitVec.ofNat 32 (s.view (canonOff off - 4))) else 0 := by
  simp [State.readBar0, h]

theorem State.readBar0_of_wide {lo : Nat} (h : regRow (canonOff off) ≠ none) (hlo : wideOf (canonOff off) = some lo) :
    s.readBar0 off = BitVec.ofNat 32 ((tabGet (fun _ => (0 : W64)) s.dev.hold lo).toNat >>> (8 * (canonOff off - lo))) := by
  simp [State.readBar0, h, hlo]

theorem State.readBar0_of_register (h : regRow (canonOff off) ≠ none) (hlo : wideOf (canonOff off) = none) :
    s.readBar0 off = BitVec.ofNat 32 (s.view (canonOff off)) := by
  simp [State.readBar0, h, hlo]

/-- A read at a register's canonical offset. -/
theorem State.readBar0_canonical {a : Nat} (hc : canonOff a = a) (h : (regRow a).isSome = true) (hlo : wideOf a = none) :
    s.readBar0 a = BitVec.ofNat 32 (s.view a) := by
  have hreg : regRow (canonOff a) ≠ none := by rwa [hc, ← Option.isSome_iff_ne_none]
  rw [s.readBar0_of_register hreg (by rwa [hc]), hc]

theorem State.view_of_storedPairs {a : Nat} (h : a ∈ storedPairs) : s.view a = (s.dev.reg a).toNat := by
  simp only [storedPairs, List.mem_cons, List.not_mem_nil, or_false] at h
  rcases h with rfl | rfl | rfl | rfl | rfl | rfl | rfl | rfl <;> rfl

/-- A + 4 of a pair reads the complement of what A reads (R511). -/
theorem State.readBar0_second {off2 : Nat} (h : rwcA (canonOff off) = true) (h2 : canonOff off2 = canonOff off + 4) :
    s.readBar0 off2 = ~~~(s.readBar0 off) := by
  obtain ⟨hreg, hwide, hnext⟩ := regRow_of_rwcA h
  rw [s.readBar0_of_register hreg hwide, s.readBar0_of_no_register (by rw [h2, hnext]), h2, Nat.add_sub_cancel,
    if_pos ⟨Nat.le_add_left .., h⟩]

theorem State.readBar0_storedPair (h : rwcA (canonOff off) = true) (hf : canonOff off ∉ fusedPairs) :
    s.readBar0 off = s.dev.reg (canonOff off) := by
  obtain ⟨hreg, hwide, -⟩ := regRow_of_rwcA h
  have hstored := (List.mem_append.mp (mem_pairs_of_rwcA h)).resolve_right hf
  rw [s.readBar0_of_register hreg hwide, s.view_of_storedPairs hstored, BitVec.ofNat_toNat, BitVec.setWidth_eq]

end

/-! ### Registers that show state held elsewhere -/

variable (s : State)

theorem State.readBar0_secLcReq : s.readBar0 Reg.secLcReq = BitVec.ofNat 32 s.fuses.lc.code :=
  s.readBar0_canonical (by decide) (by decide +kernel) (by decide)

theorem State.readBar0_secSvnBurn : s.readBar0 Reg.secSvnBurn = BitVec.ofNat 32 s.fuses.rollback :=
  s.readBar0_canonical (by decide) (by decide +kernel) (by decide)

theorem State.readBar0_secKeyRevoke : s.readBar0 Reg.secKeyRevoke = s.fuses.revoked.setWidth 32 := by
  rw [← BitVec.ofNat_toNat]
  exact s.readBar0_canonical (by decide) (by decide +kernel) (by decide)

theorem State.readBar0_topIdent :
    s.readBar0 Reg.topIdent = BitVec.ofNat 32 (0x80000 + s.ident.stepping.toNat * 256 + s.ident.grade.toNat * 16) := by
  have hword : s.ident.word = 0x80000 + s.ident.stepping.toNat * 256 + s.ident.grade.toNat * 16 := by
    rw [Ident.word]; omega
  rw [← hword]
  exact s.readBar0_canonical (by decide) (by decide +kernel) (by decide)

theorem State.readBar0_stgPc : s.readBar0 Reg.stgPc = s.dev.prompter.pc.setWidth 32 := by
  rw [← BitVec.ofNat_toNat]
  exact s.readBar0_canonical (by decide) (by decide +kernel) (by decide)

/-- Settles O32: a read meets no register, a 64-bit counter's holding copy, or a register; Table 17-3's registers are the second address's
complement. -/
theorem registerReads : Obligations.RegisterReads := by
  unfold Obligations.RegisterReads
  refine ⟨fun s off h => ⟨fun hfree => ?_, fun h4 hrwc => ?_⟩, fun s off lo h hlo => s.readBar0_of_wide h hlo,
    fun s off h => ⟨fun off2 h2 => s.readBar0_second h h2, fun hf => s.readBar0_storedPair h hf⟩,
    fun s => ⟨s.readBar0_secLcReq, s.readBar0_secSvnBurn, s.readBar0_secKeyRevoke, s.readBar0_topIdent⟩,
    fun s => s.readBar0_stgPc⟩
  · rw [s.readBar0_of_no_register h, if_neg]
    rintro ⟨h4, hrwc⟩
    rcases hfree with hlt | hno
    · omega
    · simp [hno] at hrwc
  · rw [s.readBar0_of_no_register h, if_pos ⟨h4, hrwc⟩]

end Sys2Proof.Machine
end

section
/-! The Callboard (R519 to R521): the counts that arrivals and a W1C leave, what CLB_PENDING, CLB_COUNT and CLB_NEXT read, and O44. -/
namespace Sys2Proof.Machine

/-! ### Tables and words -/

/-- Writes at several keys, each of the key's own value. -/
theorem tabGet_foldl_tabSet {α : Type} [DecidableEq α] {dflt : Nat → α} (v : Nat → α) (ks : List Nat) (t : Tab α) (k : Nat) :
    tabGet dflt (ks.foldl (fun t j => tabSet dflt t j (v j)) t) k = if k ∈ ks then v k else tabGet dflt t k := by
  induction ks generalizing t with
  | nil => simp
  | cons j ks ih =>
    rw [List.foldl_cons, ih, tabGet_tabSet]
    by_cases hj : k = j
    · simp [hj]
    · simp [hj]

/-- A number made of one bit for each index that satisfies `p`. -/
theorem testBit_sum_two_pow (p : Nat → Prop) [DecidablePred p] (n i : Nat) :
    (((List.range n).map (fun j => if p j then 2 ^ j else 0)).sum).testBit i = decide (i < n ∧ p i) ∧
      ((List.range n).map (fun j => if p j then 2 ^ j else 0)).sum < 2 ^ n := by
  induction n with
  | zero => simp
  | succ n ih =>
    obtain ⟨hbit, hlt⟩ := ih
    simp only [List.range_succ, List.map_append, List.map_cons, List.map_nil, List.sum_append, List.sum_singleton]
    by_cases hp : p n
    · rw [if_pos hp, Nat.add_comm]
      refine ⟨?_, by omega⟩
      rcases Nat.lt_trichotomy i n with hi | rfl | hi
      · rw [Nat.testBit_two_pow_add_gt hi, hbit]
        simp [hi, Nat.lt_succ_of_lt hi]
      · rw [Nat.testBit_two_pow_add_eq, Nat.testBit_lt_two_pow hlt]
        simp [hp]
      · have hsum : 2 ^ n + ((List.range n).map (fun j => if p j then 2 ^ j else 0)).sum < 2 ^ i :=
          Nat.lt_of_lt_of_le (by omega) (Nat.pow_le_pow_right (by decide) hi)
        rw [Nat.testBit_lt_two_pow hsum]
        simp [Nat.not_lt.mpr hi]
    · rw [if_neg hp, Nat.add_zero, hbit]
      refine ⟨?_, by omega⟩
      by_cases hi : i = n
      · simp [hi, hp]
      · simp [show i < n + 1 ↔ i < n by omega]

/-! ### Frames -/

theorem keeps_foldl {β : Type} {a : List Part} {f : Dev → β → Dev} (s : State)
    (h : ∀ d x, Keeps a { s with dev := d } { s with dev := f d x }) (xs : List β) (d : Dev) :
    Keeps a { s with dev := d } { s with dev := xs.foldl f d } := by
  induction xs generalizing d with
  | nil => exact keeps_refl _ _
  | cons x xs ih => exact ((h d x).trans (ih (f d x))).mono (by simp)

theorem keeps_msix (s : State) (d : Dev) (v : Nat) : Keeps [.hif, .outbox] { s with dev := d } { s with dev := d.msix v } := by
  intro p hp
  cases p with
  | hif | outbox | lines => simp at hp
  | _ => simp [Part.same]

theorem keeps_sendVectors (s : State) (d : Dev) (xs : List Nat) :
    Keeps [.hif, .outbox] { s with dev := d } { s with dev := d.sendVectors xs } :=
  keeps_foldl s (keeps_msix s) _ d

/-! ### Arrivals -/

variable (d : Dev)

/-- One of several sources arrives: it is counted, and wakes cores (R519, R522). -/
def Dev.arrival (src : Nat) : Dev :=
  ({ d with arrivals := tabSet (fun _ => 0) d.arrivals src (min 255 (d.arrivalCount src + 1)) }).wakeFor src

theorem keeps_arrival (s : State) (src : Nat) : Keeps [.arrivals, .asleep] { s with dev := d } { s with dev := d.arrival src } := by
  intro p hp
  cases p with
  | arrivals | asleep | lines => simp at hp
  | _ => simp [Part.same, Dev.arrival]

theorem Dev.arrivalCount_arrival (src x : Nat) :
    (d.arrival src).arrivalCount x = if x = src then min 255 (d.arrivalCount src + 1) else d.arrivalCount x := by
  simp [Dev.arrival, Dev.arrivalCount, tabGet_tabSet]

theorem Dev.arrivalCount_foldl_arrival {xs : List Nat} (h : xs.Nodup) (x : Nat) :
    (xs.foldl Dev.arrival d).arrivalCount x = if x ∈ xs then min 255 (d.arrivalCount x + 1) else d.arrivalCount x := by
  induction xs generalizing d with
  | nil => simp
  | cons y xs ih =>
    obtain ⟨hy, hxs⟩ := List.nodup_cons.mp h
    rw [List.foldl_cons, ih _ hxs, Dev.arrivalCount_arrival]
    by_cases hx : x = y
    · simp [hx, hy]
    · simp [hx]

theorem Dev.arrivalCount_sendVectors (xs : List Nat) (x : Nat) : (d.sendVectors xs).arrivalCount x = d.arrivalCount x := by
  have h : (d.sendVectors xs).arrivals = d.arrivals :=
    keeps_sendVectors State.reset d xs .arrivals (by decide)
  rw [Dev.arrivalCount, h, Dev.arrivalCount]

theorem Dev.arrivalCount_raiseTogether {xs : List Nat} (h : xs.Nodup) (x : Nat) :
    (d.raiseTogether xs).arrivalCount x = if x ∈ xs then min 255 (d.arrivalCount x + 1) else d.arrivalCount x :=
  (Dev.arrivalCount_sendVectors ..).trans (d.arrivalCount_foldl_arrival h x)

theorem keeps_raiseTogether (s : State) (xs : List Nat) :
    Keeps raising { s with dev := d } { s with dev := d.raiseTogether xs } :=
  (keeps_foldl s (fun e => keeps_arrival e s) xs d).trans (keeps_sendVectors s _ _)

/-! ### The sources that a word of the Callboard names -/

/-- The sources of word `w` whose bits `v` sets. -/
def namedSources (w : Nat) (v : W32) : List Nat := (setBits 32 v.toNat).map (fun i => 32 * w + i)

theorem nodup_namedSources (w : Nat) (v : W32) : (namedSources w v).Nodup :=
  ((List.nodup_range).filter _).map (fun i j h => by simpa using h)

theorem mem_namedSources {w : Nat} {v : W32} {x : Nat} : x ∈ namedSources w v ↔ ∃ i < 32, v.getLsbD i = true ∧ 32 * w + i = x := by
  simp [namedSources, setBits, BitVec.getLsbD, and_assoc]

theorem mem_namedSources_of_lt {w i : Nat} {v : W32} (h : i < 32) : 32 * w + i ∈ namedSources w v ↔ v.getLsbD i = true := by
  rw [mem_namedSources]
  constructor
  · rintro ⟨j, -, hj, hij⟩
    rwa [← Nat.add_left_cancel hij]
  · exact fun hi => ⟨i, h, hi, rfl⟩

theorem not_mem_namedSources {w x : Nat} {v : W32} (h : x < 32 * w ∨ 32 * w + 32 ≤ x) : x ∉ namedSources w v := by
  rw [mem_namedSources]
  rintro ⟨i, hi, -, rfl⟩
  omega

theorem Dev.clbRaised_software {w : Nat} (v : W32) (h : 14 ≤ w) : d.clbRaised w v = d.raiseTogether (namedSources w v) :=
  if_neg (Nat.not_lt.mpr h)

theorem Dev.clbRaised_other {w : Nat} (v : W32) (h : w < 14) : d.clbRaised w v = d := if_pos h

theorem Dev.arrivalCount_clbCleared (w : Nat) (v : W32) (x : Nat) :
    (d.clbCleared w v).arrivalCount x = if x ∈ namedSources w v then 0 else d.arrivalCount x := by
  have h : (d.clbCleared w v).arrivals = (namedSources w v).foldl (fun t j => tabSet (fun _ => 0) t j 0) d.arrivals := by
    rw [namedSources, List.foldl_map]; rfl
  rw [Dev.arrivalCount, h, tabGet_foldl_tabSet (fun _ => 0), Dev.arrivalCount]

theorem keeps_clbCleared (s : State) (w : Nat) (v : W32) : Keeps [.arrivals] s { s with dev := s.dev.clbCleared w v } := by
  intro p hp
  cases p with
  | arrivals | lines => simp at hp
  | _ => rfl

theorem Dev.deliverable_iff (x t : Nat) : d.deliverable x t = true ↔ 0 < d.arrivalCount x ∧
    d.bit (Reg.clbEnable (x / 32)) (x % 32) = true ∧ d.bit (Reg.clbRoute x) t = true ∧ d.bit (Reg.clbMask t (x / 32)) (x % 32) = false := by
  simp [Dev.deliverable, Dev.clbEnabled, Dev.clbRouted, and_assoc]

/-! ### Reads -/

section
variable {a : Nat}

theorem blockOf_clb (h : 0x10000 ≤ a ∧ a < 0x20000) : blockOf a = .clb := by
  rw [blockOf, if_neg (by omega), if_pos h.2]

theorem canonOff_clb (h : 0x10000 ≤ a ∧ a < 0x12000) (h4 : a % 4 = 0) : canonOff a = a := by
  have ha : a / 4 * 4 = a := by omega
  simp only [canonOff, ha, blockOf_clb (a := a) (by omega)]
  omega

/-- The 64-bit counters lie above the first blocks. -/
theorem wideOf_of_lt (h : a < 0x100000) : wideOf a = none := by
  have hlo : a / 8 * 8 < 0x100000 := by omega
  rw [wideOf, if_neg]
  simp only [Bool.or_eq_true, Bool.and_eq_true, decide_eq_true_eq]
  simp only [Reg.stgSatCount, Reg.qstEscOvf, Reg.qstInvalid, Reg.stgNdChoices, Reg.memCeHbm, Reg.memCeSram, Reg.memCeStack,
    Reg.dimEnergy, Reg.dimBubbles, Reg.usyLogBytes, Reg.fabTxBytes]
  omega

end

variable (s : State)

theorem State.readBar0_clb {r : RegRow} {k : Nat} (hr : r ∈ regRowsClb) (hk : k < r.count) :
    s.readBar0 (r.base + r.stride * k) = BitVec.ofNat 32 (s.view (r.base + r.stride * k)) := by
  have rows : ∀ r ∈ regRowsClb, r ∈ regRows ∧ r.stride = 4 ∧ 0x10000 ≤ r.base ∧ r.base % 4 = 0 ∧ r.base + 4 * r.count ≤ 0x12000 := by
    decide +kernel
  obtain ⟨hmem, hstride, hlo, halign, hhi⟩ := rows r hr
  have hreg := isSome_regRow_of_mem hmem (by omega) hk
  rw [hstride] at hreg ⊢
  exact s.readBar0_canonical (canonOff_clb (by omega) (by omega)) hreg (wideOf_of_lt (by omega))

/-- What the Callboard's block shows (R519 to R521). -/
theorem State.view_clb {a : Nat} (h : 0x10000 ≤ a ∧ a < 0x20000) :
    s.view a =
      if Reg.clbPending 0 ≤ a ∧ a < Reg.clbPending 16 then s.dev.pendingWord ((a - Reg.clbPending 0) / 4)
      else if Reg.clbNext 0 ≤ a ∧ a < Reg.clbNext 4 then s.dev.nextSource ((a - Reg.clbNext 0) / 4)
      else if Reg.clbCount 0 ≤ a ∧ a < Reg.clbCount 128 then s.dev.countWord ((a - Reg.clbCount 0) / 4)
      else (s.dev.reg a).toNat := by
  simp only [State.view, blockOf_clb h, Bool.and_eq_true, decide_eq_true_eq]

theorem State.readBar0_clbPending {w : Nat} (h : w < 16) :
    s.readBar0 (Reg.clbPending w) = BitVec.ofNat 32 (s.dev.pendingWord w) := by
  have hview : s.view (Reg.clbPending w) = s.dev.pendingWord w := by
    rw [s.view_clb (by simp only [Reg.clbPending]; omega), if_pos (by simp only [Reg.clbPending]; omega)]
    simp [Reg.clbPending]
  exact (s.readBar0_clb (r := ⟨0x10040, 4, 16, 0, 0, 0, 0xFFFFFFFF, 0⟩) (by decide) h).trans (congrArg _ hview)

theorem State.readBar0_clbNext {t : Nat} (h : t < 4) : s.readBar0 (Reg.clbNext t) = BitVec.ofNat 32 (s.dev.nextSource t) := by
  have hview : s.view (Reg.clbNext t) = s.dev.nextSource t := by
    rw [s.view_clb (by simp only [Reg.clbNext]; omega), if_neg (by simp only [Reg.clbNext, Reg.clbPending]; omega),
      if_pos (by simp only [Reg.clbNext]; omega)]
    simp [Reg.clbNext]
  exact (s.readBar0_clb (r := ⟨0x10400, 4, 4, 0, 0, 0, 0, 0⟩) (by decide) h).trans (congrArg _ hview)

theorem State.readBar0_clbCount {q : Nat} (h : q < 128) : s.readBar0 (Reg.clbCount q) = BitVec.ofNat 32 (s.dev.countWord q) := by
  have hview : s.view (Reg.clbCount q) = s.dev.countWord q := by
    rw [s.view_clb (by simp only [Reg.clbCount]; omega), if_neg (by simp only [Reg.clbCount, Reg.clbPending]; omega),
      if_neg (by simp only [Reg.clbCount, Reg.clbNext]; omega),
      if_pos (by simp only [Reg.clbCount]; omega)]
    simp [Reg.clbCount]
  exact (s.readBar0_clb (r := ⟨0x11000, 4, 128, 0, 0, 0, 0, 0⟩) (by decide) h).trans (congrArg _ hview)

theorem State.getLsbD_readBar0_clbPending {w i : Nat} (hw : w < 16) (hi : i < 32) :
    (s.readBar0 (Reg.clbPending w)).getLsbD i = decide (0 < s.dev.arrivalCount (32 * w + i)) := by
  rw [s.readBar0_clbPending hw, BitVec.getLsbD_ofNat, Dev.pendingWord,
    (testBit_sum_two_pow (fun j => 0 < s.dev.arrivalCount (32 * w + j)) 32 i).1]
  simp [hi]

theorem State.byte_readBar0_clbCount {q j : Nat} (hq : q < 128) (hj : j < 4)
    (hle : ∀ k, k < 4 → s.dev.arrivalCount (4 * q + k) ≤ 255) :
    (s.readBar0 (Reg.clbCount q)).toNat / 2 ^ (8 * j) % 256 = s.dev.arrivalCount (4 * q + j) := by
  have h0 := hle 0 (by decide)
  have h1 := hle 1 (by decide)
  have h2 := hle 2 (by decide)
  have h3 := hle 3 (by decide)
  have hword : s.dev.countWord q = s.dev.arrivalCount (4 * q + 0) + s.dev.arrivalCount (4 * q + 1) * 2 ^ 8 +
      s.dev.arrivalCount (4 * q + 2) * 2 ^ 16 + s.dev.arrivalCount (4 * q + 3) * 2 ^ 24 := by
    simp only [Dev.countWord, List.range_succ, List.range_zero, List.nil_append, List.map_append, List.map_cons, List.map_nil,
      List.sum_append, List.sum_cons, List.sum_nil]
    omega
  rw [s.readBar0_clbCount hq, BitVec.toNat_ofNat, hword]
  interval_cases j <;> omega

theorem find?_range_of_lowest {p : Nat → Bool} {n x : Nat} (hx : x < n) (h : p x = true) (hlow : ∀ y < x, p y = false) :
    (List.range n).find? p = some x :=
  List.find?_range_eq_some.mpr ⟨h, List.mem_range.mpr hx, fun y hy => by rw [hlow y hy]; rfl⟩

theorem find?_range_of_none {p : Nat → Bool} {n : Nat} (h : ∀ x < n, p x = false) : (List.range n).find? p = none :=
  List.find?_range_eq_none.mpr fun y hy => by rw [h y hy]; rfl

/-- CLB_NEXT where a source is deliverable: the lowest one. -/
theorem Dev.nextSource_of_lowest {x t : Nat} (hx : x < 512) (h : d.deliverable x t = true) (hlow : ∀ y < x, d.deliverable y t = false) :
    d.nextSource t = x + 2 ^ 31 := by
  unfold Dev.nextSource
  rw [find?_range_of_lowest hx h hlow]

theorem Dev.nextSource_of_none {t : Nat} (h : ∀ x < 512, d.deliverable x t = false) : d.nextSource t = 0 := by
  unfold Dev.nextSource
  rw [find?_range_of_none h]

theorem State.getLsbD_readBar0_clbNext {t : Nat} (ht : t < 4) :
    (s.readBar0 (Reg.clbNext t)).getLsbD 31 = true ↔ ∃ x < 512, s.dev.deliverable x t = true := by
  rw [s.readBar0_clbNext ht]
  by_cases h : ∃ x < 512, s.dev.deliverable x t = true
  · have hex : ∃ x, x < 512 ∧ s.dev.deliverable x t = true := h
    obtain ⟨hx, hdel⟩ := Nat.find_spec hex
    have hlow : ∀ y < Nat.find hex, s.dev.deliverable y t = false := fun y hy => by
      simpa [Nat.lt_trans hy hx] using Nat.find_min hex hy
    rw [s.dev.nextSource_of_lowest hx hdel hlow, BitVec.getLsbD_ofNat, Nat.add_comm, Nat.testBit_two_pow_add_eq,
      Nat.testBit_lt_two_pow (by omega)]
    simp [h]
  · rw [s.dev.nextSource_of_none (by simpa using h)]
    simp [h]

/-! ### The commands -/

/-- The counts of the sources that word `w` names by `v` go by `f`; every other source's count is as it was. -/
def NamedCounts (w : Nat) (v : W32) (f : Nat → Nat) (d e : Dev) : Prop :=
  (∀ i, i < 32 → e.arrivalCount (32 * w + i) = if v.getLsbD i = true then f (d.arrivalCount (32 * w + i)) else d.arrivalCount (32 * w + i)) ∧
    ∀ x, x < 32 * w ∨ 32 * w + 32 ≤ x → e.arrivalCount x = d.arrivalCount x

theorem namedCounts_of_mem {w : Nat} {v : W32} {f : Nat → Nat} {d e : Dev}
    (h : ∀ x, e.arrivalCount x = if x ∈ namedSources w v then f (d.arrivalCount x) else d.arrivalCount x) : NamedCounts w v f d e := by
  refine ⟨fun i hi => ?_, fun x hx => ?_⟩
  · simp only [h, mem_namedSources_of_lt hi]
  · rw [h, if_neg (not_mem_namedSources hx)]

theorem Dev.namedCounts_clbRaised {w : Nat} (v : W32) (hw : 14 ≤ w) :
    NamedCounts w v (fun n => min 255 (n + 1)) d (d.clbRaised w v) := by
  rw [d.clbRaised_software v hw]
  exact namedCounts_of_mem fun x => d.arrivalCount_raiseTogether (nodup_namedSources w v) x

theorem Dev.namedCounts_clbCleared (w : Nat) (v : W32) : NamedCounts w v (fun _ => 0) d (d.clbCleared w v) :=
  namedCounts_of_mem fun x => d.arrivalCount_clbCleared w v x

theorem keeps_clbRaised {w : Nat} (v : W32) (hw : 14 ≤ w) : Keeps raising s { s with dev := s.dev.clbRaised w v } := by
  rw [s.dev.clbRaised_software v hw]
  exact keeps_raiseTogether s.dev s _

theorem exec_clbRaise (m : Master) (w : Fin 16) (v : W32) :
    exec (.clbRaise m w v) s = onDev (fun _ d => d.clbRaised w.val v) s := rfl

theorem exec_clbPendingClear (m : Master) (w : Fin 16) (v : W32) :
    exec (.clbPendingClear m w v) s = onDev (fun _ d => d.clbCleared w.val v) s := rfl

/-- Settles O44: `arrivalCount_raise`, `namedCounts_clbRaised` and `namedCounts_clbCleared` give the counts, and the reads of the
Callboard's words follow from what `State.view` shows there. -/
theorem callboardSources : Obligations.CallboardSources := by
  unfold Obligations.CallboardSources
  refine ⟨fun d x => ⟨?_, fun y hy => ?_⟩, fun s w i hw hi => s.getLsbD_readBar0_clbPending hw hi,
    fun s q j hq hj hle => s.byte_readBar0_clbCount hq hj hle,
    fun s m w v hon => ⟨fun hw => ?_, fun hw => ?_, ?_⟩, fun d w i v hi hv => ?_, fun d x t => d.deliverable_iff x t,
    fun s t => ⟨s.getLsbD_readBar0_clbNext t.isLt, fun x hx hdel hlow => ?_⟩⟩
  · rw [Dev.arrivalCount_raise, if_pos rfl]
  · rw [Dev.arrivalCount_raise, if_neg hy]
  · obtain ⟨hnamed, hother⟩ := s.dev.namedCounts_clbRaised v hw
    exact runs_onDev hon (exec_clbRaise s m w v) ⟨hnamed, hother, keeps_clbRaised s v hw⟩
  · refine runs_onDev hon (exec_clbRaise s m w v) ?_
    rw [Dev.clbRaised_other _ _ hw]
  · obtain ⟨hnamed, hother⟩ := s.dev.namedCounts_clbCleared w.val v
    exact runs_onDev hon (exec_clbPendingClear s m w v) ⟨hnamed, hother, keeps_clbCleared s _ _⟩
  · rw [Dev.arrivalCount_raise, if_pos rfl, Dev.arrivalCount_clbCleared, if_pos ((mem_namedSources_of_lt hi).mpr hv)]
    rfl
  · rw [s.readBar0_clbNext t.isLt, s.dev.nextSource_of_lowest hx hdel hlow]

end Sys2Proof.Machine
end

section
/-! The configuration check and snapshots (R512 to R515, R517, R518): what a pass records and what its CRC then does, what a snapshot copies,
and O43. -/
namespace Sys2Proof.Machine

/-! ### Frames -/

/-- Registers alone have been written. -/
def Dev.RegsTo (d e : Dev) : Prop := e = { d with regs := e.regs }

theorem Dev.RegsTo.trans {d e f : Dev} (h : d.RegsTo e) (h' : e.RegsTo f) : d.RegsTo f := by
  have hstep : f = { e with regs := f.regs } := h'
  have hfirst : e = { d with regs := e.regs } := h
  rw [hfirst] at hstep
  exact hstep

theorem Dev.RegsTo.arrivals {d e : Dev} (h : d.RegsTo e) : e.arrivals = d.arrivals := by
  have heq : e = { d with regs := e.regs } := h
  rw [heq]

theorem Dev.RegsTo.keeps {d e : Dev} (h : d.RegsTo e) (s : State) : Keeps [.regs] { s with dev := d } { s with dev := e } := by
  have heq : e = { d with regs := e.regs } := h
  intro p hp
  rw [heq]
  cases p with
  | regs | lines => simp at hp
  | _ => rfl

section
variable (d : Dev)

theorem Dev.regsTo_setReg (off : Nat) (v : W32) : d.RegsTo (d.setReg off v) := rfl
theorem Dev.regsTo_setFld (off hi lo n : Nat) : d.RegsTo (d.setFld off hi lo n) := rfl
theorem Dev.regsTo_setBit (off i : Nat) : d.RegsTo (d.setBit off i) := rfl
theorem Dev.regsTo_clrBit (off i : Nat) : d.RegsTo (d.clrBit off i) := rfl
theorem Dev.regsTo_count (off : Nat) : d.RegsTo (d.count off) := rfl

theorem Dev.regsTo_setReg_setFld (off off' hi lo n : Nat) (v : W32) : d.RegsTo ((d.setReg off v).setFld off' hi lo n) :=
  (d.regsTo_setReg ..).trans (Dev.regsTo_setFld ..)

end

theorem Dev.fld_congr {d e : Dev} {off : Nat} (h : d.reg off = e.reg off) (hi lo : Nat) : d.fld off hi lo = e.fld off hi lo := by
  rw [Dev.fld, h, Dev.fld]

theorem Dev.bit_congr {d e : Dev} {off : Nat} (h : d.reg off = e.reg off) (i : Nat) : d.bit off i = e.bit off i := by
  rw [Dev.bit, h, Dev.bit]

theorem raised_raise {s : State} {d : Dev} (h : d.arrivals = s.dev.arrivals) (src : Nat) :
    Raised src s { s with dev := d.raise src } := by
  have hcount : ∀ x, d.arrivalCount x = s.dev.arrivalCount x := fun x => by rw [Dev.arrivalCount, h, Dev.arrivalCount]
  refine ⟨?_, fun x hx => ?_⟩
  · rw [Dev.arrivalCount_raise, if_pos rfl, hcount]
  · rw [Dev.arrivalCount_raise, if_neg hx, hcount]

variable (d : Dev)

theorem Dev.reg_setBit_other {off x : Nat} (i : Nat) (h : x ≠ off) : (d.setBit off i).reg x = d.reg x := d.reg_setFld_other _ _ _ h

theorem Dev.reg_clrBit_other {off x : Nat} (i : Nat) (h : x ≠ off) : (d.clrBit off i).reg x = d.reg x := d.reg_setFld_other _ _ _ h

/-! ### A pass of the configuration check -/

/-- The CRC, the number of passes and the time of the last one (R513). -/
def Dev.recordPass (cycles : BitVec 24) : Dev :=
  ((d.setReg Reg.cfgLastCrc d.passCrc).setReg Reg.cfgPasses (d.reg Reg.cfgPasses + 1)).setReg Reg.cfgPassTime (cycles.setWidth 32)

/-- The registers that every pass writes. -/
def passRegs : List Nat := [Reg.cfgLastCrc, Reg.cfgPasses, Reg.cfgPassTime]

theorem Dev.regsTo_recordPass (cycles : BitVec 24) : d.RegsTo (d.recordPass cycles) :=
  ((d.regsTo_setReg ..).trans (Dev.regsTo_setReg ..)).trans (Dev.regsTo_setReg ..)

theorem Dev.reg_recordPass_other {off : Nat} (cycles : BitVec 24) (h : off ∉ passRegs) : (d.recordPass cycles).reg off = d.reg off := by
  simp only [passRegs, List.mem_cons, List.not_mem_nil, or_false, not_or] at h
  obtain ⟨hcrc, hpasses, htime⟩ := h
  rw [Dev.recordPass, Dev.reg_setReg_other _ _ htime, Dev.reg_setReg_other _ _ hpasses, Dev.reg_setReg_other _ _ hcrc]

/-- The registers show a pass of this many cycles (R513). -/
def PassRecorded (s : State) (cycles : BitVec 24) (t : State) : Prop :=
  t.dev.reg Reg.cfgLastCrc = s.dev.passCrc ∧ t.dev.reg Reg.cfgPasses = s.dev.reg Reg.cfgPasses + 1 ∧
    t.dev.reg Reg.cfgPassTime = cycles.setWidth 32

theorem passRecorded_of_regs {s t : State} {cycles : BitVec 24}
    (h : ∀ off ∈ passRegs, t.dev.reg off = (s.dev.recordPass cycles).reg off) : PassRecorded s cycles t := by
  refine ⟨?_, ?_, ?_⟩ <;> rw [h _ (by decide), Dev.recordPass]
  · rw [Dev.reg_setReg_other _ _ (by decide), Dev.reg_setReg_other _ _ (by decide), Dev.reg_setReg_same]
  · rw [Dev.reg_setReg_other _ _ (by decide), Dev.reg_setReg_same]
  · rw [Dev.reg_setReg_same]

/-- MISMATCH set, counted and raised (R515). -/
def Dev.mismatch : Dev := ((d.setBit Reg.cfgStatus 2).count Reg.cfgMismatches).raise 416

theorem Dev.reg_mismatch_other {off : Nat} (hstatus : off ≠ Reg.cfgStatus) (hcount : off ≠ Reg.cfgMismatches) :
    d.mismatch.reg off = d.reg off := by
  rw [Dev.mismatch, Dev.reg_raise, Dev.reg_count_other _ hcount, Dev.reg_setBit_other _ _ hstatus]

theorem Dev.reg_mismatch_cfgStatus : d.mismatch.reg Reg.cfgStatus = (d.setBit Reg.cfgStatus 2).reg Reg.cfgStatus := by
  rw [Dev.mismatch, Dev.reg_raise, Dev.reg_count_other _ (by decide)]

theorem Dev.reg_mismatch_cfgMismatches :
    d.mismatch.reg Reg.cfgMismatches = BitVec.ofNat 32 (min ((d.reg Reg.cfgMismatches).toNat + 1) 0xFFFFFFFF) := by
  rw [Dev.mismatch, Dev.reg_raise, Dev.reg_count_same, Dev.reg_setBit_other _ _ (by decide)]

theorem raised_mismatch {s : State} (h : d.arrivals = s.dev.arrivals) : Raised 416 s { s with dev := d.mismatch } :=
  raised_raise (((d.regsTo_setBit _ _).trans (Dev.regsTo_count ..)).arrivals.trans h) 416

theorem keeps_mismatch (s : State) : Keeps (.regs :: raising) { s with dev := d } { s with dev := d.mismatch } := by
  have hregs := ((d.regsTo_setBit Reg.cfgStatus 2).trans (Dev.regsTo_count _ Reg.cfgMismatches)).keeps s
  exact hregs.trans (keeps_raise s _ 416)

theorem Dev.passDone_eq (i : Ident) (cycles : BitVec 24) :
    d.passDone i cycles.toNat =
      if d.fld Reg.cfgStatus 1 0 = 1 then ((d.recordPass cycles).setReg Reg.cfgRefActive d.passCrc).setFld Reg.cfgStatus 1 0 2
      else if d.fld Reg.cfgStatus 1 0 = 2 ∧ d.passCrc ≠ d.reg Reg.cfgRefActive then
        if d.bit Reg.cfgCtrl 1 = true then (d.recordPass cycles).mismatch.curtainHalt i else (d.recordPass cycles).mismatch
      else d.recordPass cycles := by
  have htime : BitVec.ofNat 32 (cycles.toNat % 2 ^ 24) = cycles.setWidth 32 := by
    rw [Nat.mod_eq_of_lt cycles.isLt, BitVec.ofNat_toNat]
  have hstate : (d.recordPass cycles).checkState = d.fld Reg.cfgStatus 1 0 :=
    Dev.fld_congr (d.reg_recordPass_other cycles (by decide)) 1 0
  have href : (d.recordPass cycles).reg Reg.cfgRefActive = d.reg Reg.cfgRefActive := d.reg_recordPass_other cycles (by decide)
  have hctrl : (d.recordPass cycles).mismatch.bit Reg.cfgCtrl 1 = d.bit Reg.cfgCtrl 1 := by
    refine Dev.bit_congr ?_ 1
    rw [Dev.reg_mismatch_other _ (by decide) (by decide), d.reg_recordPass_other cycles (by decide)]
  rw [Dev.passDone, htime, ← Dev.recordPass]
  simp only [hstate, href, Bool.and_eq_true, decide_eq_true_eq, bne_iff_ne]
  rw [← hctrl]
  rfl

/-! ### Snapshots -/

/-- SNP_SEQ, the time and the request as a snapshot leaves them (R518). -/
def Dev.recordSnapshot : Dev :=
  ((d.setReg Reg.snpSeq (d.reg Reg.snpSeq + 1)).setReg Reg.snpTimeNs d.ns).clrBit Reg.snpStatus 0

theorem Dev.regsTo_recordSnapshot : d.RegsTo d.recordSnapshot :=
  ((d.regsTo_setReg ..).trans (Dev.regsTo_setReg ..)).trans (Dev.regsTo_clrBit ..)

/-- The holding copies take their counters (R518). -/
def Dev.holdAll : Dev :=
  { d with hold := wideCounters.foldl (fun t o => tabSet (fun _ => 0) t o (d.wideGet o)) d.hold, snapTicks := 0 }

theorem Dev.snapshot_eq : d.snapshot = d.holdAll.recordSnapshot.raise 419 := rfl

theorem keeps_holdAll (s : State) : Keeps [.hold, .snapTicks] s { s with dev := s.dev.holdAll } := by
  intro p hp
  cases p with
  | hold | snapTicks | lines => simp at hp
  | _ => rfl

theorem Dev.hold_holdAll {o : Nat} (h : o ∈ wideCounters) : tabGet (fun _ => (0 : W64)) d.holdAll.hold o = d.wideGet o := by
  rw [Dev.holdAll, tabGet_foldl_tabSet d.wideGet, if_pos h]

theorem Dev.snapshotDue_iff : d.snapshotDue = true ↔ d.bit Reg.snpStatus 0 = true ∨ d.fld Reg.snpPeriod 23 0 ≠ 0 := by
  simp [Dev.snapshotDue]

/-! ### The commands -/

variable {s : State}

theorem runs_of_does {c : Instr} {e : Dev} {P : State → Prop} (h : Does c s e) (hp : P { s with dev := e }) : Runs c s P :=
  ⟨_, h, hp⟩

section
variable (hon : On s) (m : Master)
include hon

theorem runs_cfgUse :
    Runs (.cfgUse m) s (fun t => t.dev.reg Reg.cfgRefActive = s.dev.reg Reg.cfgReference ∧ t.dev.fld Reg.cfgStatus 1 0 = 2 ∧
      KeepsRegs [Reg.cfgRefActive, Reg.cfgStatus] s t ∧ Keeps [.regs] s t) := by
  refine runs_onDev (f := fun _ d => (d.setReg Reg.cfgRefActive (d.reg Reg.cfgReference)).setFld Reg.cfgStatus 1 0 2) hon rfl
    ⟨?_, Dev.fld_setFld_same _ _ _ (by decide), fun off hoff => ?_, (Dev.regsTo_setReg_setFld ..).keeps s⟩
  · rw [Dev.reg_setFld_other _ _ _ _ (by decide), Dev.reg_setReg_same]
  · simp only [List.mem_cons, List.not_mem_nil, or_false, not_or] at hoff
    obtain ⟨href, hstatus⟩ := hoff
    rw [Dev.reg_setFld_other _ _ _ _ hstatus, Dev.reg_setReg_other _ _ href]

/-- A command that leaves `n` in CFG_STATUS.STATE and does no more. -/
theorem runs_of_setState {c : Instr} {n : Nat} (hn : n < 4) (hc : exec c s = onDev (fun _ d => d.setFld Reg.cfgStatus 1 0 n) s) :
    Runs c s (fun t => t.dev.fld Reg.cfgStatus 1 0 = n ∧ KeepsRegs [Reg.cfgStatus] s t ∧ Keeps [.regs] s t) := by
  refine runs_onDev hon hc ⟨?_, fun off hoff => ?_, (Dev.regsTo_setFld ..).keeps s⟩
  · rw [Dev.fld_setFld_same _ _ _ (by decide)]
    exact Nat.mod_eq_of_lt hn
  · exact Dev.reg_setFld_other _ _ _ _ (by simpa using hoff)

theorem runs_snpGo :
    Runs (.snpGo m) s (fun t => t.dev.bit Reg.snpStatus 0 = true ∧ KeepsRegs [Reg.snpStatus] s t ∧ Keeps [.regs] s t) :=
  runs_onDev (f := fun _ d => d.setBit Reg.snpStatus 0) hon rfl
    ⟨Dev.bit_setBit_same _ _ (by decide), fun _ hoff => Dev.reg_setBit_other _ _ (by simpa using hoff), (Dev.regsTo_setBit ..).keeps s⟩

end

section
variable (hon : On s) (cycles : BitVec 24)
include hon

theorem does_cfgPassComplete_of_disabled (h : s.dev.bit Reg.cfgCtrl 0 = false) : Does (.cfgPassComplete cycles) s s.dev := by
  have hexec : exec (.cfgPassComplete cycles) s = onDev (fun i d => if d.bit Reg.cfgCtrl 0 then d.passDone i cycles.toNat else d) s := rfl
  rw [Does, hexec, onDev_on hon, if_neg (by simp [h])]

theorem does_cfgPassComplete (h : s.dev.bit Reg.cfgCtrl 0 = true) :
    Does (.cfgPassComplete cycles) s (s.dev.passDone s.ident cycles.toNat) := by
  have hexec : exec (.cfgPassComplete cycles) s = onDev (fun i d => if d.bit Reg.cfgCtrl 0 then d.passDone i cycles.toNat else d) s := rfl
  rw [Does, hexec, onDev_on hon, if_pos h]

variable (hen : s.dev.bit Reg.cfgCtrl 0 = true)
include hen

theorem runs_cfgPassComplete_capturing (hst : s.dev.fld Reg.cfgStatus 1 0 = 1) :
    Runs (.cfgPassComplete cycles) s (fun t => PassRecorded s cycles t ∧ t.dev.reg Reg.cfgRefActive = s.dev.passCrc ∧
      t.dev.fld Reg.cfgStatus 1 0 = 2 ∧ KeepsRegs (Reg.cfgRefActive :: Reg.cfgStatus :: passRegs) s t ∧ Keeps [.regs] s t) := by
  refine runs_of_does (does_cfgPassComplete hon cycles hen) ?_
  rw [Dev.passDone_eq, if_pos hst]
  have hreg : ∀ off, off ≠ Reg.cfgRefActive → off ≠ Reg.cfgStatus →
      (((s.dev.recordPass cycles).setReg Reg.cfgRefActive s.dev.passCrc).setFld Reg.cfgStatus 1 0 2).reg off =
        (s.dev.recordPass cycles).reg off := fun off href hstatus => by
    rw [Dev.reg_setFld_other _ _ _ _ hstatus, Dev.reg_setReg_other _ _ href]
  refine ⟨passRecorded_of_regs fun off hoff => hreg off ?_ ?_, ?_, Dev.fld_setFld_same _ _ _ (by decide), fun off hoff => ?_,
    ((s.dev.regsTo_recordPass cycles).trans (Dev.regsTo_setReg_setFld ..)).keeps s⟩
  · rintro rfl; exact absurd hoff (by decide)
  · rintro rfl; exact absurd hoff (by decide)
  · rw [Dev.reg_setFld_other _ _ _ _ (by decide), Dev.reg_setReg_same]
  · simp only [List.mem_cons, not_or] at hoff
    obtain ⟨href, hstatus, hpass⟩ := hoff
    exact (hreg off href hstatus).trans (Dev.reg_recordPass_other _ _ hpass)

theorem runs_cfgPassComplete_match (hst : s.dev.fld Reg.cfgStatus 1 0 = 2) (hcrc : s.dev.passCrc = s.dev.reg Reg.cfgRefActive) :
    Runs (.cfgPassComplete cycles) s (fun t => PassRecorded s cycles t ∧ KeepsRegs passRegs s t ∧ Keeps [.regs] s t) := by
  refine runs_of_does (does_cfgPassComplete hon cycles hen) ?_
  rw [Dev.passDone_eq, if_neg (by omega), if_neg (fun h => h.2 hcrc)]
  exact ⟨passRecorded_of_regs fun _ _ => rfl, fun _ hoff => Dev.reg_recordPass_other _ _ hoff, (s.dev.regsTo_recordPass cycles).keeps s⟩

variable (hst : s.dev.fld Reg.cfgStatus 1 0 = 2) (hcrc : s.dev.passCrc ≠ s.dev.reg Reg.cfgRefActive)
include hst hcrc

theorem does_cfgPassComplete_mismatch :
    Does (.cfgPassComplete cycles) s
      (if s.dev.bit Reg.cfgCtrl 1 = true then (s.dev.recordPass cycles).mismatch.curtainHalt s.ident
      else (s.dev.recordPass cycles).mismatch) := by
  have h := does_cfgPassComplete hon cycles hen
  rwa [Dev.passDone_eq, if_neg (by omega), if_pos ⟨hst, hcrc⟩] at h

theorem runs_cfgPassComplete_mismatch (hact : s.dev.bit Reg.cfgCtrl 1 = false) :
    Runs (.cfgPassComplete cycles) s (fun t => PassRecorded s cycles t ∧ t.dev.bit Reg.cfgStatus 2 = true ∧ Raised 416 s t ∧
      t.dev.reg Reg.cfgMismatches = BitVec.ofNat 32 (min ((s.dev.reg Reg.cfgMismatches).toNat + 1) 0xFFFFFFFF) ∧
      t.dev.fld Reg.cfgStatus 1 0 = 2 ∧ KeepsRegs (Reg.cfgStatus :: Reg.cfgMismatches :: passRegs) s t ∧
      Keeps (.regs :: raising) s t) := by
  have hdoes := does_cfgPassComplete_mismatch hon cycles hen hst hcrc
  rw [if_neg (by simp [hact])] at hdoes
  refine runs_of_does hdoes ?_
  have hpass := (s.dev.regsTo_recordPass cycles).keeps s
  refine ⟨passRecorded_of_regs fun off hoff => (s.dev.recordPass cycles).reg_mismatch_other ?_ ?_, ?_,
    raised_mismatch _ (s.dev.regsTo_recordPass cycles).arrivals, ?_, ?_, fun off hoff => ?_, (hpass.trans (keeps_mismatch _ s)).mono (by simp)⟩
  · rintro rfl; exact absurd hoff (by decide)
  · rintro rfl; exact absurd hoff (by decide)
  · rw [Dev.bit_congr (Dev.reg_mismatch_cfgStatus _), Dev.bit_setBit_same _ _ (by decide)]
  · rw [Dev.reg_mismatch_cfgMismatches, Dev.reg_recordPass_other _ _ (by decide)]
  · rw [Dev.fld_congr (Dev.reg_mismatch_cfgStatus _), Dev.setBit, Dev.fld_setFld_apart _ _ _ (by decide) (by decide) (by decide),
      Dev.fld_congr (s.dev.reg_recordPass_other cycles (by decide)), hst]
  · simp only [List.mem_cons, not_or] at hoff
    obtain ⟨hne, hcount, hpass⟩ := hoff
    exact ((s.dev.recordPass cycles).reg_mismatch_other hne hcount).trans (s.dev.reg_recordPass_other cycles hpass)

end

theorem runs_snapshot (hon : On s) (hdue : s.dev.bit Reg.snpStatus 0 = true ∨ s.dev.fld Reg.snpPeriod 23 0 ≠ 0) :
    Runs .snapshot s (fun t =>
      (∀ o ∈ wideCounters, tabGet (fun _ => (0 : W64)) t.dev.hold o = s.dev.wideGet o) ∧
      t.dev.reg Reg.snpSeq = s.dev.reg Reg.snpSeq + 1 ∧ t.dev.reg Reg.snpTimeNs = s.dev.ns ∧ t.dev.bit Reg.snpStatus 0 = false ∧
      Raised 419 s t ∧ KeepsRegs [Reg.snpSeq, Reg.snpTimeNs, Reg.snpStatus] s t ∧
      Keeps (.regs :: .hold :: .snapTicks :: raising) s t) := by
  refine runs_onDev (f := fun _ d => if d.snapshotDue then d.snapshot else d) hon rfl ?_
  rw [if_pos (s.dev.snapshotDue_iff.mpr hdue), Dev.snapshot_eq]
  have hbefore : ∀ off, s.dev.holdAll.reg off = s.dev.reg off := fun _ => rfl
  refine ⟨fun o ho => ?_, ?_, ?_, ?_, raised_raise s.dev.holdAll.regsTo_recordSnapshot.arrivals 419, fun off hoff => ?_, ?_⟩
  · rw [Dev.raise_hold]
    exact s.dev.hold_holdAll ho
  · rw [Dev.reg_raise, Dev.recordSnapshot, Dev.reg_clrBit_other _ _ (by decide), Dev.reg_setReg_other _ _ (by decide),
      Dev.reg_setReg_same, hbefore]
  · rw [Dev.reg_raise, Dev.recordSnapshot, Dev.reg_clrBit_other _ _ (by decide), Dev.reg_setReg_same]
    rfl
  · rw [Dev.bit_congr (Dev.reg_raise ..), Dev.recordSnapshot, Dev.bit_clrBit_same _ _ (by decide)]
  · simp only [List.mem_cons, List.not_mem_nil, or_false, not_or] at hoff
    obtain ⟨hseq, htime, hstatus⟩ := hoff
    rw [Dev.reg_raise, Dev.recordSnapshot, Dev.reg_clrBit_other _ _ hstatus, Dev.reg_setReg_other _ _ htime,
      Dev.reg_setReg_other _ _ hseq, hbefore]
  · have hcopied := (keeps_holdAll s).trans (s.dev.holdAll.regsTo_recordSnapshot.keeps s)
    exact (hcopied.trans (keeps_raise s _ 419)).mono (by simp [raising])

/-- Settles O43: `passDone_eq` says what a pass does in each state of the check, and a snapshot is its copies, its records and source
419. -/
theorem managementCommands : Obligations.ManagementCommands := by
  unfold Obligations.ManagementCommands
  intro s m hon d regs
  refine ⟨runs_cfgUse hon m, runs_of_setState hon (by decide) rfl, runs_of_setState hon (by decide) rfl, fun cycles => ?_,
    runs_snpGo hon m, runs_snapshot hon⟩
  refine ⟨fun hoff => runs_of_does (does_cfgPassComplete_of_disabled hon cycles hoff) rfl,
    fun hen hst => runs_cfgPassComplete_capturing hon cycles hen hst,
    fun hen hst hcrc => runs_cfgPassComplete_match hon cycles hen hst hcrc,
    fun hen hst hcrc hact => runs_cfgPassComplete_mismatch hon cycles hen hst hcrc hact, fun hen hst hcrc hact => ?_,
    does_cfgPassComplete hon cycles⟩
  have hdoes := does_cfgPassComplete_mismatch hon cycles hen hst hcrc
  rw [if_pos hact, Dev.recordPass, ← BitVec.ofNat_toNat] at hdoes
  exact hdoes

end Sys2Proof.Machine
end

section
/-! Complement pairs that fail (R509, R510, Table 17-4): what a failure records, the master's slot after each write, and O29. -/
namespace Sys2Proof.Machine

variable (d : Dev)

/-! ### The master's slot -/

@[simp] theorem Dev.openPair_closePair (m : Master) : (d.closePair m).openPair m = none := by
  simp [Dev.openPair, Dev.closePair]

theorem Dev.openPair_congr {d e : Dev} (h : d.pairs = e.pairs) (m : Master) : d.openPair m = e.openPair m := by
  rw [Dev.openPair, h, Dev.openPair]

/-- A first write leaves its own pair open. -/
theorem Dev.openPair_pairFirst (m : Master) (a : Nat) (v : W32) : (d.pairFirst m a v).openPair m = some (a, v) := by
  have h (e : Dev) : ({ e.closePair m with pairs := (e.closePair m).pairs ++ [(m, a, v)] } : Dev).openPair m = some (a, v) := by
    have hclosed : (e.closePair m).pairs.find? (fun p => p.1 == m) = none := by simp [Dev.closePair]
    simp [Dev.openPair, List.find?_append, hclosed]
  exact h _

theorem Dev.pairFirst_of_none {m : Master} (h : d.openPair m = none) (a : Nat) (v : W32) :
    d.pairFirst m a v = { d.closePair m with pairs := (d.closePair m).pairs ++ [(m, a, v)] } := by
  rw [Dev.pairFirst, h]

theorem Dev.pairFirst_of_open {m : Master} {a0 : Nat} {x : W32} (h : d.openPair m = some (a0, x)) (a : Nat) (v : W32) :
    ∃ ps, d.pairFirst m a v = { d.pairFail m a0 3 with pairs := ps } := by
  have hfield (e : Dev) (ps : List (Master × Nat × W32)) : ({ e.closePair m with pairs := ps } : Dev) = { e with pairs := ps } := rfl
  exact ⟨_, by rw [Dev.pairFirst, h, hfield]⟩

theorem Dev.closePair_pairFirst {m : Master} (h : d.openPair m = none) (a : Nat) (v : W32) :
    (d.pairFirst m a v).closePair m = d.closePair m := by
  rw [d.pairFirst_of_none h]
  simp [Dev.closePair, List.filter_append]

theorem Dev.pairSecond_complement {m : Master} {a : Nat} {v : W32} (h : d.openPair m = some (a, v)) :
    d.pairSecond m a (~~~v) = (some v, d.closePair m) := by
  simp [Dev.pairSecond, h]

/-- A second write that is no complement: reason 2. -/
theorem Dev.pairSecond_no_complement {m : Master} {a : Nat} {v w : W32} (h : d.openPair m = some (a, v)) (hw : w ≠ ~~~v) :
    d.pairSecond m a w = (none, (d.closePair m).pairFail m a 2) := by
  simp [Dev.pairSecond, h, hw]

/-- A second write with no such pair open: reason 4. -/
theorem Dev.pairSecond_of_not_open {m : Master} {a : Nat} (h : ∀ x, d.openPair m ≠ some (a, x)) (w : W32) :
    d.pairSecond m a w = (none, d.pairFail m a 4) := by
  unfold Dev.pairSecond
  split
  next a0 x ho => rw [if_neg (fun ha : a0 = a => h x (ha ▸ ho))]
  next => rfl

/-! ### What a failure leaves -/

/-- The pair of master `m` at `a` has failed for this reason (R510): the first failure is described, each is counted, flagged and
raised, and nothing is applied. -/
def PairFailed (s : State) (m : Master) (a reason : Nat) (t : State) : Prop :=
  (s.dev.bit Reg.cfgStatus 3 = false → t.dev.reg Reg.cfgPairInfo = BitVec.ofNat 32 (a + masterNum m * 2 ^ 26 + reason * 2 ^ 29)) ∧
    (s.dev.bit Reg.cfgStatus 3 = true → t.dev.reg Reg.cfgPairInfo = s.dev.reg Reg.cfgPairInfo) ∧
    t.dev.reg Reg.cfgPairFails = BitVec.ofNat 32 (min ((s.dev.reg Reg.cfgPairFails).toNat + 1) 0xFFFFFFFF) ∧
    t.dev.bit Reg.cfgStatus 3 = true ∧ Raised 417 s t ∧
    KeepsRegs [Reg.cfgPairInfo, Reg.cfgPairFails, Reg.cfgStatus] s t ∧ Keeps (.regs :: .pairs :: raising) s t

/-- CFG_PAIR_INFO as a failure leaves it. -/
def Dev.pairInfo (m : Master) (a reason : Nat) : Dev :=
  if d.bit Reg.cfgStatus 3 then d else d.setReg Reg.cfgPairInfo (BitVec.ofNat 32 (a + masterNum m * 2 ^ 26 + reason * 2 ^ 29))

theorem Dev.reg_pairInfo_other {off : Nat} (m : Master) (a reason : Nat) (h : off ≠ Reg.cfgPairInfo) :
    (d.pairInfo m a reason).reg off = d.reg off := by
  unfold Dev.pairInfo
  split
  · rfl
  · exact d.reg_setReg_other _ h

theorem Dev.regsTo_pairInfo (m : Master) (a reason : Nat) : d.RegsTo (d.pairInfo m a reason) := by
  unfold Dev.pairInfo
  split
  · rfl
  · exact d.regsTo_setReg ..

/-- CFG_PAIR_INFO, CFG_PAIR_FAILS and PAIR_FAIL as a failure leaves them. -/
def Dev.recordFailure (m : Master) (a reason : Nat) : Dev :=
  ((d.pairInfo m a reason).count Reg.cfgPairFails).setBit Reg.cfgStatus 3

theorem Dev.pairFail_eq (m : Master) (a reason : Nat) : d.pairFail m a reason = (d.recordFailure m a reason).raise 417 := rfl

theorem Dev.regsTo_recordFailure (m : Master) (a reason : Nat) : d.RegsTo (d.recordFailure m a reason) :=
  ((d.regsTo_pairInfo m a reason).trans (Dev.regsTo_count ..)).trans (Dev.regsTo_setBit ..)

theorem Dev.reg_pairFail_other {off : Nat} (m : Master) (a reason : Nat) (hfails : off ≠ Reg.cfgPairFails) (hstatus : off ≠ Reg.cfgStatus) :
    (d.pairFail m a reason).reg off = (d.pairInfo m a reason).reg off := by
  rw [Dev.pairFail_eq, Dev.reg_raise, Dev.recordFailure, Dev.reg_setBit_other _ _ hstatus, Dev.reg_count_other _ hfails]

theorem Dev.reg_pairFail_cfgPairInfo (m : Master) (a reason : Nat) :
    (d.pairFail m a reason).reg Reg.cfgPairInfo =
      if d.bit Reg.cfgStatus 3 then d.reg Reg.cfgPairInfo else BitVec.ofNat 32 (a + masterNum m * 2 ^ 26 + reason * 2 ^ 29) := by
  rw [d.reg_pairFail_other m a reason (by decide) (by decide)]
  unfold Dev.pairInfo
  split
  · rfl
  · rw [Dev.reg_setReg_same]

theorem Dev.reg_pairFail_cfgPairFails (m : Master) (a reason : Nat) :
    (d.pairFail m a reason).reg Reg.cfgPairFails = BitVec.ofNat 32 (min ((d.reg Reg.cfgPairFails).toNat + 1) 0xFFFFFFFF) := by
  rw [Dev.pairFail_eq, Dev.reg_raise, Dev.recordFailure, Dev.reg_setBit_other _ _ (by decide), Dev.reg_count_same,
    Dev.reg_pairInfo_other _ _ _ _ (by decide)]

theorem Dev.bit_pairFail_cfgStatus (m : Master) (a reason : Nat) : (d.pairFail m a reason).bit Reg.cfgStatus 3 = true := by
  rw [Dev.pairFail_eq, Dev.bit_congr (Dev.reg_raise ..), Dev.recordFailure, Dev.bit_setBit_same _ _ (by decide)]

theorem Dev.pairFail_pairs (m : Master) (a reason : Nat) : (d.pairFail m a reason).pairs = d.pairs := by
  rw [Dev.pairFail_eq, Dev.raise_pairs, d.regsTo_recordFailure m a reason]

theorem Dev.openPair_pairFail (m m' : Master) (a reason : Nat) : (d.pairFail m a reason).openPair m' = d.openPair m' :=
  Dev.openPair_congr (d.pairFail_pairs m a reason) m'

theorem keeps_pairs (s : State) (ps : List (Master × Nat × W32)) : Keeps [.pairs] s { s with dev := { s.dev with pairs := ps } } := by
  intro p hp
  cases p with
  | pairs | lines => simp at hp
  | _ => rfl

theorem pairFailed_pairFail (s : State) (m : Master) (a reason : Nat) :
    PairFailed s m a reason { s with dev := s.dev.pairFail m a reason } := by
  have hrec := s.dev.regsTo_recordFailure m a reason
  refine ⟨fun hfirst => ?_, fun hlater => ?_, ?_, ?_, raised_raise hrec.arrivals 417, fun off hoff => ?_,
    ((hrec.keeps s).trans (keeps_raise s _ 417)).mono (by simp [raising])⟩
  · rw [Dev.reg_pairFail_cfgPairInfo, hfirst, if_neg (by decide)]
  · rw [Dev.reg_pairFail_cfgPairInfo, if_pos hlater]
  · rw [Dev.reg_pairFail_cfgPairFails]
  · rw [Dev.bit_pairFail_cfgStatus]
  · simp only [List.mem_cons, List.not_mem_nil, or_false, not_or] at hoff
    obtain ⟨hne, hfails, hstatus⟩ := hoff
    rw [Dev.reg_pairFail_other _ _ _ _ hfails hstatus, Dev.reg_pairInfo_other _ _ _ _ hne]

/-- What the masters' slots held before is no part of a failure's records. -/
theorem PairFailed.of_pairs {s t : State} {m : Master} {a reason : Nat} (qs : List (Master × Nat × W32))
    (h : PairFailed { s with dev := { s.dev with pairs := qs } } m a reason t) : PairFailed s m a reason t := by
  obtain ⟨hfirst, hlater, hcount, hflag, hraised, hregs, hkeeps⟩ := h
  exact ⟨hfirst, hlater, hcount, hflag, hraised, hregs, ((keeps_pairs s qs).trans hkeeps).mono (by simp)⟩

/-- Nor is what they hold after it. -/
theorem PairFailed.to_pairs {s t : State} {m : Master} {a reason : Nat} (h : PairFailed s m a reason t)
    (ps : List (Master × Nat × W32)) : PairFailed s m a reason { t with dev := { t.dev with pairs := ps } } := by
  obtain ⟨hfirst, hlater, hcount, hflag, hraised, hregs, hkeeps⟩ := h
  exact ⟨hfirst, hlater, hcount, hflag, hraised, hregs, (hkeeps.trans (keeps_pairs t ps)).mono (by simp)⟩

theorem pairFailed_closePair (s : State) (m : Master) (a reason : Nat) :
    PairFailed s m a reason { s with dev := (s.dev.closePair m).pairFail m a reason } :=
  (pairFailed_pairFail { s with dev := s.dev.closePair m } m a reason).of_pairs _

/-! ### The commands -/

variable (s : State)

theorem runs_onPower {c : Instr} {f : State → State} {P : State → Prop} (hon : On s) (hc : exec c s = onPower f s) (hp : P (f s)) :
    Runs c s P :=
  ⟨f s, hc.trans (if_pos hon), hp⟩

theorem runs_rwcPairTimeout {m : Master} {a : Nat} {x : W32} (hon : On s) (h : s.dev.openPair m = some (a, x)) :
    Runs (.rwcPairTimeout m) s (fun t => PairFailed s m a 1 t ∧ t.dev.openPair m = none) := by
  have hexec : exec (.rwcPairTimeout m) s = execRwcPairTimeout m s := rfl
  refine ⟨{ s with dev := (s.dev.closePair m).pairFail m a 1 }, ?_, pairFailed_closePair s m a 1, ?_⟩
  · rw [hexec, execRwcPairTimeout, onDev_on hon, h]
  · rw [Dev.openPair_pairFail, Dev.openPair_closePair]

/-- Whether a value is permitted does not depend on the masters' slots. -/
theorem State.rwcPermits_closePair (m : Master) (a : Nat) (v : W32) :
    State.rwcPermits { s with dev := s.dev.closePair m } a v = s.rwcPermits a v := rfl

/-- Both writes of a pair that fails, by a master with no open pair (R510). -/
theorem State.rwcPair_refused {m : Master} {a : Nat} {v w : W32} (h : s.dev.openPair m = none)
    (hbad : w ≠ ~~~v ∨ s.rwcPermits a v = false) :
    s.rwcPair m a v w = { s with dev := (s.dev.closePair m).pairFail m a (if w ≠ ~~~v then 2 else 5) } := by
  have hopen := s.dev.openPair_pairFirst m a v
  have hclose := s.dev.closePair_pairFirst h a v
  rw [State.rwcPair, State.rwcSecond]
  by_cases hw : w = ~~~v
  · have hperm : ¬(State.rwcPermits { s with dev := s.dev.closePair m } a v = true) := by
      rw [s.rwcPermits_closePair, hbad.resolve_left (fun hne => hne hw)]
      decide
    rw [if_neg (fun hne => hne hw), hw, Dev.pairSecond_complement _ hopen, hclose]
    exact if_neg hperm
  · rw [if_pos hw, Dev.pairSecond_no_complement _ hopen hw, hclose]

/-- A row that writes both halves of a pair (Table 17-3) which fails. -/
theorem runs_refused_of_rwcPair {c : Instr} {m : Master} {a : Nat} {v w : W32}
    (hc : exec c s = onPower (fun s => s.rwcPair m a v w) s) (hon : On s) (h : s.dev.openPair m = none)
    (hbad : w ≠ ~~~v ∨ s.rwcPermits a v = false) :
    Runs c s (fun t => PairFailed s m a (if w ≠ ~~~v then 2 else 5) t ∧ t.dev.openPair m = none) := by
  refine runs_onPower s hon hc ?_
  rw [s.rwcPair_refused h hbad]
  refine ⟨pairFailed_closePair s m a _, ?_⟩
  rw [Dev.openPair_pairFail, Dev.openPair_closePair]

/-- A whole write is no bad access (R503). -/
theorem exec_registerWrite_whole (m : Master) (off : BitVec 26) (v : W32) :
    exec (.registerWrite m off v 0xF) s = onPower (fun s => s.writeBar0 m off.toNat v) s := by
  have hexec : exec (.registerWrite m off v 0xF) s = execRegisterWrite m off v 0xF s := rfl
  rw [hexec, execRegisterWrite]
  simp

theorem runs_registerWrite_first {m : Master} {off : BitVec 26} {v x : W32} {a : Nat} (hon : On s)
    (h : s.dev.openPair m = some (a, x)) (hA : rwcA (canonOff off.toNat) = true) :
    Runs (.registerWrite m off v 0xF) s (fun t =>
      PairFailed s m a 3 t ∧ t.dev.openPair m = some (canonOff off.toNat, v)) := by
  refine runs_onPower s hon (exec_registerWrite_whole s m off v) ?_
  rw [State.writeBar0, if_pos hA]
  refine ⟨?_, Dev.openPair_pairFirst ..⟩
  obtain ⟨ps, hps⟩ := s.dev.pairFirst_of_open h (canonOff off.toNat) v
  rw [hps]
  exact (pairFailed_pairFail s m a 3).to_pairs ps

theorem runs_registerWrite_second {m : Master} {off : BitVec 26} {v : W32} (hon : On s) (hA : rwcA (canonOff off.toNat) = false)
    (h4 : 4 ≤ canonOff off.toNat) (hA4 : rwcA (canonOff off.toNat - 4) = true)
    (h : ∀ x, s.dev.openPair m ≠ some (canonOff off.toNat - 4, x)) :
    Runs (.registerWrite m off v 0xF) s (fun t =>
      PairFailed s m (canonOff off.toNat - 4) 4 t ∧ t.dev.openPair m = s.dev.openPair m) := by
  refine runs_onPower s hon (exec_registerWrite_whole s m off v) ?_
  have hwrite : s.writeBar0 m off.toNat v = { s with dev := s.dev.pairFail m (canonOff off.toNat - 4) 4 } := by
    simp only [State.writeBar0, hA, h4, hA4, State.rwcSecond, s.dev.pairSecond_of_not_open h]
    rfl
  rw [hwrite]
  refine ⟨pairFailed_pairFail s m _ 4, ?_⟩
  rw [Dev.openPair_pairFail]

/-! ### Permitted values, and resets -/

theorem State.rwcPermits_dimCap (v : W32) : s.rwcPermits Reg.dimCap v = true ↔ 8 ≤ v.toNat % 128 ∧ v.toNat % 128 ≤ 100 := by
  rw [State.rwcPermits, if_pos rfl, Bool.and_eq_true, decide_eq_true_eq, decide_eq_true_eq]
  rfl

theorem State.rwcPermits_memRefreshOvr (v : W32) : s.rwcPermits Reg.memRefreshOvr v = true ↔ v.toNat % 4 ≠ 3 := by
  have hne : Reg.memRefreshOvr ≠ Reg.dimCap := by decide
  simp [State.rwcPermits, bits, hne]

theorem Dev.openPair_afterReset (c : Nat) (m : Master) : (d.afterReset c).openPair m = none := by
  have hpairs : (d.afterReset c).pairs = [] := by
    unfold Dev.afterReset
    split <;> rfl
  rw [Dev.openPair, hpairs]
  rfl

/-- A reset leaves CFG_STATUS at its reset value. -/
theorem Dev.reg_afterReset_cfgStatus (c : Nat) : (d.afterReset c).reg Reg.cfgStatus = 1 := by
  let r := Dev.reset.setReg Reg.topReset (BitVec.ofNat 32 c)
  have hreset : Dev.reset.reg Reg.cfgStatus = 1 := show regReset Reg.cfgStatus = 1 by decide +kernel
  have hr : r.reg Reg.cfgStatus = 1 := (Dev.reg_setReg_other _ _ (by decide)).trans hreset
  by_cases hc : c = 2
  · have hregs : (d.afterReset c).regs = (r.setReg Reg.hifLink (d.reg Reg.hifLink)).regs := by rw [Dev.afterReset, if_pos hc]
    rw [Dev.reg_congr hregs, Dev.reg_setReg_other _ _ (by decide), hr]
  · have hregs : (d.afterReset c).regs = r.regs := by rw [Dev.afterReset, if_neg hc]
    rw [Dev.reg_congr hregs, hr]

theorem Dev.bit_afterReset_pairFail (c : Nat) : (d.afterReset c).bit Reg.cfgStatus 3 = false := by
  rw [Dev.bit, Dev.reg_afterReset_cfgStatus]
  decide

/-- Settles O29: every way to fail comes to `pairFail`, which `pairFailed_pairFail` describes, with the master's slot emptied, filled anew
or left as it was. -/
theorem complementPairRefused : Obligations.ComplementPairRefused := by
  unfold Obligations.ComplementPairRefused
  refine ⟨fun s m v w hon => ?_, fun s v => ⟨s.rwcPermits_dimCap v, s.rwcPermits_memRefreshOvr v⟩,
    fun d c m => ⟨d.openPair_afterReset c m, d.bit_afterReset_pairFail c⟩⟩
  intro failed rows
  refine ⟨fun a x h => runs_rwcPairTimeout s hon h, fun h c hc hbad => ?_,
    fun off a x h hA => runs_registerWrite_first s hon h hA,
    fun off hA h4 hA4 h => runs_registerWrite_second s hon hA h4 hA4 h⟩
  simp only [rows, List.mem_cons, List.not_mem_nil, or_false] at hc
  rcases hc with rfl | rfl | rfl | rfl | rfl | rfl | rfl | rfl | rfl | rfl | rfl <;> exact runs_refused_of_rwcPair s rfl hon h hbad

end Sys2Proof.Machine
end

section
/-! What a command can do to the machine beside the package (R5, R529, R535, R545): a reading of every row as an act on a powered package, as a
row that may burn fuses or write flash, or as a row of the board; and O33, O34, O35. -/
namespace Sys2Proof.Machine

/-! ### Acts on the package alone -/

/-- The two machines differ in the package alone. -/
def DevOnly (s t : State) : Prop := t = { s with dev := t.dev }

theorem devOnly_refl (s : State) : DevOnly s s := rfl

theorem devOnly_dev (s : State) (d : Dev) : DevOnly s { s with dev := d } := rfl

theorem DevOnly.trans {s t u : State} (h : DevOnly s t) (h' : DevOnly t u) : DevOnly s u := by
  have hu : u = { t with dev := u.dev } := h'
  have ht : t = { s with dev := t.dev } := h
  rw [ht] at hu
  exact hu

theorem devOnly_ite {s a b : State} (c : Prop) [Decidable c] (ha : DevOnly s a) (hb : DevOnly s b) : DevOnly s (if c then a else b) := by
  split
  · exact ha
  · exact hb

theorem DevOnly.of_dev {s t : State} {d : Dev} (h : DevOnly { s with dev := d } t) : DevOnly s t := h

/-- A pair whose register shows no fuses acts on the package alone. -/
theorem State.devOnly_rwcApply (s : State) {a : Nat} (h : a ∉ fusedPairs) (v : W32) : DevOnly s (s.rwcApply a v) := by
  simp only [fusedPairs, List.mem_cons, List.not_mem_nil, or_false, not_or] at h
  obtain ⟨hlc, hsvn, hkey⟩ := h
  unfold State.rwcApply
  simp only [if_neg hlc, if_neg hsvn, if_neg hkey]
  (repeat' split) <;> rfl

theorem State.devOnly_rwcSecond (s : State) (m : Master) {a : Nat} (h : a ∉ fusedPairs) (w : W32) : DevOnly s (s.rwcSecond m a w) := by
  unfold State.rwcSecond
  split
  next => rfl
  next v d _ =>
    dsimp only
    split
    · exact (State.devOnly_rwcApply { s with dev := d } h v).of_dev
    · rfl

theorem State.devOnly_rwcPair (s : State) (m : Master) {a : Nat} (h : a ∉ fusedPairs) (v w : W32) : DevOnly s (s.rwcPair m a v w) :=
  (State.devOnly_rwcSecond { s with dev := _ } m h w).of_dev

theorem State.devOnly_writeBar0 (s : State) (m : Master) {off : Nat} (h : canonOff off - 4 ∉ fusedPairs) (v : W32) :
    DevOnly s (s.writeBar0 m off v) := by
  unfold State.writeBar0
  dsimp only
  split
  · rfl
  · split
    · exact s.devOnly_rwcSecond m h v
    · rfl

/-! ### Boot -/

theorem blockOf_ne_sec_of_lt {off : Nat} (h : off < 0x2400000) : blockOf off ≠ .sec := by
  simp [blockOf, h, ite_eq_iff]

theorem sec_or_none_of_le {off : Nat} (h : 0x2400000 ≤ off) : blockOf off = if off < 0x2800000 then .sec else .none := by
  unfold blockOf
  repeat rw [if_neg (by omega)]

/-- An offset outside the SEC block lies by its canonical offset outside it too (R505). -/
theorem canonOff_of_not_sec {off : Nat} (h : blockOf off ≠ .sec) : canonOff off < 0x2400000 ∨ 0x2800000 ≤ canonOff off := by
  by_cases hlo : off < 0x2400000
  · left
    have hne := blockOf_ne_sec_of_lt (off := off / 4 * 4) (by omega)
    unfold canonOff
    generalize hx : off / 4 * 4 = x at hne ⊢
    cases hb : blockOf x with
    | sec => exact absurd hb hne
    | fab => simp only [hb]; split <;> omega
    | _ => simp only [hb]; omega
  · right
    have hhi : 0x2800000 ≤ off := by
      rw [sec_or_none_of_le (by omega)] at h
      by_contra hlt
      exact h (if_pos (by omega))
    have hblock : blockOf (off / 4 * 4) = .none := by
      rw [sec_or_none_of_le (by omega), if_neg (by omega)]
    simp only [canonOff, hblock]
    omega

/-- A valid CONFIG entry reaches no register that shows fuses (R532). -/
theorem State.devOnly_configWrite (s : State) {e : Nat × W32} (h : entryOk e = true) : DevOnly s (s.configWrite e) := by
  have hsec : blockOf (bits e.1 0 26) ≠ .sec := by
    simp only [entryOk, Bool.and_eq_true, bne_iff_ne] at h
    exact h.1.1.2
  have hrange := canonOff_of_not_sec hsec
  have hA : canonOff (bits e.1 0 26) ∉ fusedPairs := by
    simp only [fusedPairs, Reg.secLcReq, Reg.secSvnBurn, Reg.secKeyRevoke, List.mem_cons, List.not_mem_nil, or_false]
    omega
  have hA4 : canonOff (bits e.1 0 26) - 4 ∉ fusedPairs := by
    simp only [fusedPairs, Reg.secLcReq, Reg.secSvnBurn, Reg.secKeyRevoke, List.mem_cons, List.not_mem_nil, or_false]
    omega
  unfold State.configWrite
  dsimp only
  split
  · exact s.devOnly_rwcPair .core0 hA _ _
  · exact s.devOnly_writeBar0 .core0 hA4 _

theorem devOnly_foldl_configWrite (es : List (Nat × W32)) (s : State) (h : ∀ e ∈ es, entryOk e = true) :
    DevOnly s (es.foldl (fun s e => s.configWrite e) s) := by
  induction es generalizing s with
  | nil => exact devOnly_refl s
  | cons e es ih =>
    exact (s.devOnly_configWrite (h e List.mem_cons_self)).trans (ih _ fun x hx => h x (List.mem_cons_of_mem _ hx))

theorem Manifest.configOk_of_contentReason {m : Manifest} {f : Tab Byte} (h : m.contentReason f = 0) : configOk (m.part f 2) = true := by
  unfold Manifest.contentReason at h
  split_ifs at h with _ _ _ hconfig
  simpa using hconfig

theorem State.devOnly_bootWith (s : State) {m : Manifest} (h : configOk (m.part s.flash 2) = true) : DevOnly s (s.bootWith m) := by
  have hes : ∀ e ∈ configEntries (m.part s.flash 2), entryOk e = true := by
    simp only [configOk, Bool.and_eq_true, List.all_eq_true] at h
    exact h.2
  exact ((devOnly_foldl_configWrite _ { s with dev := _ } hes).of_dev).trans (devOnly_dev _ _)

theorem State.devOnly_bootTry (ms : List Manifest) (s : State) : DevOnly s (s.bootTry ms) := by
  induction ms generalizing s with
  | nil => rfl
  | cons m ms ih =>
    by_cases h : m.contentReason s.flash = 0
    · rw [State.bootTry, if_pos h]
      exact s.devOnly_bootWith (Manifest.configOk_of_contentReason h)
    · rw [State.bootTry, if_neg h]
      have hreason : DevOnly s (s.reason m (m.contentReason s.flash)) := rfl
      exact ((hreason.trans (devOnly_ite (7 ≤ m.contentReason s.flash) (devOnly_dev _ _) (devOnly_refl _))).trans
        (devOnly_ite _ (devOnly_refl _) (devOnly_dev _ _))).trans (ih _)

/-- Boot acts on the package alone. -/
theorem State.devOnly_boot (s : State) : DevOnly s s.boot := (State.devOnly_bootTry _ { s with dev := _ }).of_dev

/-! ### Fuses and flash -/

/-- What a step that may burn fuses or write flash leaves (R529, R535): the queue, the identity and the board as they were; of the fuses, none
that was burned is not. -/
structure Burns (s t : State) : Prop where
  pending : t.pending = s.pending
  ident : t.ident = s.ident
  board : t.board = s.board
  flash : tabWf flashDflt s.flash = true → tabWf flashDflt t.flash = true
  rollback : s.fuses.rollback ≤ t.fuses.rollback
  revoked : s.fuses.revoked &&& ~~~t.fuses.revoked = 0
  keySlot : s.fuses.revoked ≠ 15 → t.fuses.revoked ≠ 15
  returned : (s.fuses.lc = .returned → s.fuses.idAlive = false) → t.fuses.lc = .returned → t.fuses.idAlive = false
  keys : s.fuses.lc ≠ .blank → t.fuses.keyHash = s.fuses.keyHash ∧ t.fuses.idPub = s.fuses.idPub ∧
    (s.fuses.idAlive = false → t.fuses.idAlive = false)
  partNumber : t.fuses.partNumber = s.fuses.partNumber
  serial : t.fuses.serial = s.fuses.serial

theorem burns_refl (s : State) : Burns s s := by
  constructor <;> simp

/-- Burning sees neither what the package was nor, its canonical form apart, what flash held. -/
theorem Burns.of_flash {s t : State} {f : Tab Byte} {d : Dev} (h : Burns { s with flash := f, dev := d } t)
    (hf : tabWf flashDflt s.flash = true → tabWf flashDflt f = true) : Burns s t :=
  { h with flash := fun hs => h.flash (hf hs) }

theorem Burns.of_dev {s t : State} {d : Dev} (h : Burns { s with dev := d } t) : Burns s t := Burns.of_flash (f := s.flash) h id

theorem Burns.to_dev {s t : State} (h : Burns s t) (d : Dev) : Burns s { t with dev := d } := { h with }

theorem DevOnly.burns {s t : State} (h : DevOnly s t) : Burns s t := by
  have heq : t = { s with dev := t.dev } := h
  rw [heq]
  exact (burns_refl s).to_dev _

theorem State.burns_burnLifecycle (s : State) (target : Nat) : Burns s (s.burnLifecycle target) := by
  unfold State.burnLifecycle
  dsimp only
  split
  next h => constructor <;> simp_all
  next => constructor <;> simp_all

theorem State.burns_lifecycleGo (s : State) : Burns s s.lifecycleGo := by
  unfold State.lifecycleGo
  split
  · split
    · exact burns_refl s
    · exact (s.burns_burnLifecycle _).to_dev _
  · exact burns_refl s

theorem State.burns_lifecycleRequest (s : State) (target : Nat) : Burns s (s.lifecycleRequest target) := by
  rw [State.lifecycleRequest]
  exact (State.burns_lifecycleGo _).of_dev

theorem State.burns_svnBurn (s : State) (n : Nat) : Burns s (s.svnBurn n) := by
  unfold State.svnBurn
  split
  next h => exact { burns_refl s with rollback := Nat.le_of_lt h }
  next => exact burns_refl s

theorem and_not_or_eq_zero (x y : BitVec 4) : x &&& ~~~(x ||| y) = 0 := by
  ext i hi
  cases hx : x[i] <;> simp [hx]

theorem State.burns_keyRevoke (s : State) {mask : BitVec 4} (h : s.fuses.revoked ||| mask ≠ 15) : Burns s (s.keyRevoke mask) := by
  unfold State.keyRevoke
  split
  next => exact burns_refl s
  next => exact { burns_refl s with revoked := and_not_or_eq_zero _ _, keySlot := fun _ => h }

/-- A permitted value of SEC_KEY_REVOKE leaves a key slot (R529). -/
theorem State.not_all_revoked {s : State} {v : W32} (h : s.rwcPermits Reg.secKeyRevoke v = true) : s.fuses.revoked ||| v.setWidth 4 ≠ 15 := by
  simp [State.rwcPermits, Reg.secKeyRevoke, Reg.dimCap, Reg.memRefreshOvr, Reg.secLcReq, Reg.secSvnBurn] at h
  exact h.2

/-- A permitted value of a pair, applied. -/
theorem State.burns_rwcApply (s : State) {a : Nat} {v : W32} (h : s.rwcPermits a v = true) : Burns s (s.rwcApply a v) := by
  by_cases ha : a ∈ fusedPairs
  · simp only [fusedPairs, List.mem_cons, List.not_mem_nil, or_false] at ha
    rcases ha with rfl | rfl | rfl
    · exact s.burns_lifecycleRequest _
    · exact s.burns_svnBurn _
    · exact s.burns_keyRevoke (State.not_all_revoked h)
  · exact (s.devOnly_rwcApply ha v).burns

theorem State.burns_rwcSecond (s : State) (m : Master) (a : Nat) (w : W32) : Burns s (s.rwcSecond m a w) := by
  unfold State.rwcSecond
  split
  next => exact (burns_refl s).to_dev _
  next v d _ =>
    dsimp only
    split
    next h => exact (State.burns_rwcApply { s with dev := d } h).of_dev
    next => exact (burns_refl s).to_dev _

theorem State.burns_rwcPair (s : State) (m : Master) (a : Nat) (v w : W32) : Burns s (s.rwcPair m a v w) :=
  (State.burns_rwcSecond { s with dev := _ } m a w).of_dev

theorem State.burns_writeBar0 (s : State) (m : Master) (off : Nat) (v : W32) : Burns s (s.writeBar0 m off v) := by
  unfold State.writeBar0
  dsimp only
  split
  · exact (burns_refl s).to_dev _
  · split
    · exact s.burns_rwcSecond m _ v
    · exact (burns_refl s).to_dev _

/-- A write of flash keeps its canonical form. -/
theorem flashWrite_wf (bs : List Byte) (t : Tab Byte) (a : Nat) (h : tabWf flashDflt t = true) :
    tabWf flashDflt (flashWrite t a bs) = true := by
  induction bs generalizing t a with
  | nil => exact h
  | cons b bs ih => exact ih _ _ (tabSet_wf t a b h)

theorem State.burns_flashDone (s : State) (err : Bool) : Burns s (s.flashDone err) := by
  unfold State.flashDone
  split
  · exact burns_refl s
  · next c _ =>
    dsimp only
    have ends (u : State) (d : Dev) (h : ∀ t, Burns u t → Burns s t) : Burns s (State.lifecycleGo { u with dev := d }) :=
      h _ (State.burns_lifecycleGo { u with dev := d }).of_dev
    refine ends _ _ fun t ht => ?_
    split at ht
    · exact ht.of_dev
    · exact ht.of_flash (flashWrite_wf _ _ _)

theorem State.burns_strikeDone (s : State) (us : W32) : Burns s (s.strikeDone us) := by
  unfold State.strikeDone
  split
  · exact burns_refl s
  · exact (State.burns_lifecycleGo { s with dev := _ }).of_dev

/-! ### Every row -/

/-- A function-level reset of a powered package: none while PERST# is asserted (R330). -/
def State.levelReset (s : State) : State := if (!s.board.perst) = true then State.boot { s with dev := s.dev.afterReset 2 } else s

theorem State.devOnly_levelReset (s : State) : DevOnly s s.levelReset :=
  devOnly_ite _ (State.devOnly_boot { s with dev := _ }).of_dev (devOnly_refl s)

theorem exec_flr (s : State) : exec .flr s = onPower State.levelReset s := by
  have hexec : exec .flr s = execFlr s := rfl
  rw [hexec, execFlr, onPower, State.levelReset]
  by_cases hon : s.board.power = .on <;> by_cases hperst : (!s.board.perst) = true <;> simp only [hon, hperst] <;> rfl

/-- A row of a host command acts on a powered package (R341). -/
theorem exec_of_commandRow {c : Instr} {s : State} {op : Nat} {x : Submission} {buf : HostBuffer} (h : exec c s = commandRow op x buf s) :
    ∃ f, exec c s = onDev f s := ⟨_, h⟩

/-- What a row does: it acts on a powered package; it acts on a powered machine, where it may burn fuses or write flash; or it is a row of
the board. -/
theorem exec_kinds (c : Instr) (s : State) :
    (∃ f, exec c s = onDev f s) ∨ (∃ f, exec c s = onPower f s ∧ Burns s (f s)) ∨ boardRow c = true := by
  cases c with
  | memRefreshOvr m v w | memWipe m v w | hifCurtain m v w | dimCap m v w | secLcReq m v w | secSvnBurn m v w | secKeyRevoke m v w
  | secVovr m r v w => exact .inr (.inl ⟨fun s => s.rwcPair m _ v w, rfl, s.burns_rwcPair m _ v w⟩)
  | strikeComplete us => exact .inr (.inl ⟨fun s => s.strikeDone us, rfl, s.burns_strikeDone us⟩)
  | flashCommandDone err => exact .inr (.inl ⟨fun s => s.flashDone err, rfl, s.burns_flashDone err⟩)
  | registerWrite m off v be =>
    refine .inr (.inl ⟨_, by simp only [exec]; rfl, ?_⟩)
    split
    · exact (burns_refl s).to_dev _
    · exact s.burns_writeBar0 m off.toNat v
  | flr => exact .inr (.inl ⟨State.levelReset, exec_flr s, s.devOnly_levelReset.burns⟩)
  | loadProgram | unloadProgram | openStream | append | closeStream | pauseStream | resumeStream | forkStream | checkpoint | restore
  | runJob | readEnergy | abortQueue | safetyCurtain | mailbox => exact .inl (exec_of_commandRow rfl)
  | modEnRise | modEnFall | inputFault | inputInRange | uvWarn | status | vin | iin | pin | temps | energy | fru | clearFault
  | perstAssert | perstRelease => exact .inr (.inr rfl)
  | _ => exact .inl ⟨_, by simp only [exec]; rfl⟩

/-- What holds of the board alone of a sound machine (R546, R547). -/
def Board.sound (b : Board) : Prop := b.power = .on → b.modEn = true ∧ b.faultOff = false

/-- A row of the board touches the board and the package, and keeps the board sound. -/
def BoardActs (s t : State) : Prop := t = { s with board := t.board, dev := t.dev } ∧ (s.board.sound → t.board.sound)

theorem DevOnly.boardActs {s t : State} (h : DevOnly s t) : BoardActs s t := by
  have heq : t = { s with dev := t.dev } := h
  rw [heq]
  exact ⟨rfl, id⟩

/-- The machine with another board and another package, and what boot makes of it. -/
theorem boardActs_boot (s : State) {b : Board} {d : Dev} (hb : s.board.sound → b.sound) :
    BoardActs s (State.boot { s with board := b, dev := d }) := by
  have heq := State.devOnly_boot { s with board := b, dev := d }
  unfold DevOnly at heq
  rw [heq]
  exact ⟨rfl, hb⟩

theorem State.boardActs_inputFault (s : State) : BoardActs s s.inputFault := by
  refine ⟨rfl, fun _ hon => ?_⟩
  simp [State.inputFault, State.railsOff] at hon

theorem boardActs_of_boardRow {c : Instr} (h : boardRow c = true) (s : State) : Runs c s (BoardActs s) := by
  cases c with
  | status | vin | iin | pin | temps | energy | fru => exact ⟨_, rfl, (devOnly_dev s _).boardActs⟩
  | inputFault => exact ⟨_, rfl, s.boardActs_inputFault⟩
  | uvWarn vin =>
    simp only [Runs, exec, execUvWarn]
    split
    · exact ⟨_, rfl, s.boardActs_inputFault⟩
    · exact ⟨_, rfl, rfl, id⟩
  | inputInRange vin =>
    simp only [Runs, exec, execInputInRange]
    split
    · refine ⟨_, rfl, rfl, fun hs hon => hs ?_⟩
      dsimp only at hon
      split at hon
      · cases hon
      · exact hon
    · exact ⟨_, rfl, (devOnly_refl s).boardActs⟩
  | clearFault b =>
    simp only [Runs, exec, execClearFault]
    refine ⟨_, rfl, ?_⟩
    split
    · exact ⟨rfl, fun hs hon => ⟨(hs hon).1, rfl⟩⟩
    · exact (devOnly_refl s).boardActs
  | perstAssert =>
    simp only [Runs, exec, execPerstAssert]
    refine ⟨_, rfl, ?_⟩
    split <;> exact ⟨rfl, id⟩
  | perstRelease =>
    refine ⟨_, rfl, ?_⟩
    by_cases h : (s.board.perst && s.board.power == .on) = true
    · rw [if_pos h]
      exact boardActs_boot s id
    · rw [if_neg h]
      exact ⟨rfl, id⟩
  | modEnFall =>
    simp only [Runs, exec, execModEnFall]
    split
    · refine ⟨_, rfl, ?_⟩
      split
      · exact ⟨rfl, fun _ hon => by simp [State.railsOff] at hon⟩
      next h => exact ⟨rfl, fun _ hon => absurd hon h⟩
    · exact ⟨_, rfl, (devOnly_refl s).boardActs⟩
  | modEnRise =>
    have hexec : exec .modEnRise s = execModEnRise s := rfl
    rw [Runs, hexec, execModEnRise]
    by_cases hen : s.board.modEn = true
    · exact ⟨s, if_pos hen, (devOnly_refl s).boardActs⟩
    rw [if_neg hen]
    by_cases hgo : (s.board.power == .standby && !s.board.faultOff) = true
    · have hfault : s.board.faultOff = false := by simp_all
      refine ⟨_, if_pos hgo, ?_⟩
      by_cases hperst : s.board.perst = true
      · rw [if_pos hperst]
        exact ⟨rfl, fun _ _ => ⟨rfl, hfault⟩⟩
      · rw [if_neg hperst]
        exact boardActs_boot s fun _ _ => ⟨rfl, hfault⟩
    · exact ⟨_, if_neg hgo, rfl, fun hs hon => ⟨rfl, (hs hon).2⟩⟩
  | _ => cases h

/-! ### The obligations -/

/-- Settles O33: both are the two cases of `step`. -/
theorem stepRunsFront : Obligations.StepRunsFront := by
  unfold Obligations.StepRunsFront
  refine ⟨fun s c => rfl, fun s h => ?_⟩
  unfold step
  rw [h]

/-- Settles O34: `exec_kinds` says what a row can do; without power a row of the package does nothing. -/
theorem everyCommandRuns : Obligations.EveryCommandRuns := by
  unfold Obligations.EveryCommandRuns
  intro c s
  rcases exec_kinds c s with ⟨f, hf⟩ | ⟨f, hf, hburns⟩ | hboard
  · by_cases hon : s.board.power = .on
    · exact ⟨_, hf.trans (onDev_on hon f), rfl, rfl, fun hoff => absurd hon hoff⟩
    · exact ⟨s, hf.trans (if_neg hon), rfl, rfl, fun _ _ => rfl⟩
  · by_cases hon : s.board.power = .on
    · exact ⟨_, hf.trans (if_pos hon), hburns.pending, hburns.ident, fun hoff => absurd hon hoff⟩
    · exact ⟨s, hf.trans (if_neg hon), rfl, rfl, fun _ _ => rfl⟩
  · obtain ⟨t, ht, heq, -⟩ := boardActs_of_boardRow hboard s
    refine ⟨t, ht, by rw [heq], by rw [heq], fun _ hrow => ?_⟩
    rw [hboard] at hrow
    cases hrow

/-- A machine that is sound stays so, and fuses only burn. -/
def StaysSound (s t : State) : Prop :=
  t.sound ∧ s.fuses.rollback ≤ t.fuses.rollback ∧ s.fuses.revoked &&& ~~~t.fuses.revoked = 0 ∧
    (s.fuses.lc ≠ .blank → t.fuses.keyHash = s.fuses.keyHash ∧ t.fuses.idPub = s.fuses.idPub ∧
      (s.fuses.idAlive = false → t.fuses.idAlive = false)) ∧
    t.fuses.partNumber = s.fuses.partNumber ∧ t.fuses.serial = s.fuses.serial ∧ t.ident = s.ident

theorem Burns.staysSound {s t : State} (h : Burns s t) (hs : s.sound) : StaysSound s t := by
  obtain ⟨hboard, hreturned, hkey, hflash⟩ := hs
  refine ⟨⟨?_, h.returned hreturned, h.keySlot hkey, h.flash hflash⟩, h.rollback, h.revoked, h.keys, h.partNumber, h.serial, h.ident⟩
  rw [h.board]
  exact hboard

theorem BoardActs.staysSound {s t : State} (h : BoardActs s t) (hs : s.sound) : StaysSound s t := by
  obtain ⟨heq, hboard⟩ := h
  obtain ⟨hb, hreturned, hkey, hflash⟩ := hs
  have hb' := hboard hb
  rw [heq]
  exact ⟨⟨hb', hreturned, hkey, hflash⟩, Nat.le_refl _, by simp, fun _ => ⟨rfl, rfl, id⟩, rfl, rfl, rfl⟩

theorem devOnly_tick (s : State) : DevOnly s (tick s) := by
  unfold tick
  split <;> rfl

theorem exec_staysSound {c : Instr} {s t : State} (hs : s.sound) (h : exec c s = .next t) : StaysSound s t := by
  rcases exec_kinds c s with ⟨f, hf⟩ | ⟨f, hf, hburns⟩ | hboard
  · rw [hf] at h
    unfold onDev at h
    split at h <;> cases h
    · exact (devOnly_dev s _).burns.staysSound hs
    · exact (burns_refl s).staysSound hs
  · rw [hf] at h
    unfold onPower at h
    split at h <;> cases h
    · exact hburns.staysSound hs
    · exact (burns_refl s).staysSound hs
  · obtain ⟨u, hu, hacts⟩ := boardActs_of_boardRow hboard s
    rw [hu] at h
    cases h
    exact hacts.staysSound hs

/-- Settles O35: a step is a house tick, which acts on the package alone, or the row of the command at the front. -/
theorem machineStaysSound : Obligations.MachineStaysSound := by
  unfold Obligations.MachineStaysSound
  intro s t hs h
  unfold step at h
  split at h
  · cases h
    exact (devOnly_tick s).burns.staysSound hs
  next c rest _ => exact exec_staysSound (s := { s with pending := rest }) hs h

end Sys2Proof.Machine
end

section
/-! Lantern instruction words (R249, R250): decoding and encoding, and O1. -/
namespace Sys2Proof.Machine

theorem setWidth_eq_extractLsb'_zero (v : W32) : v.setWidth 8 = v.extractLsb' 0 8 := by
  ext i hi
  simp [BitVec.getElem_extractLsb', BitVec.getElem_setWidth]

theorem LOp.decode_code (o : LOp) : LOp.decode o.code = some o := by
  cases o <;> rfl

theorem LOp.code_of_decode {c : BitVec 8} {o : LOp} (h : LOp.decode c = some o) : o.code = c := by
  simpa using List.find?_some h

/-- The codes that name no operation are those that Table 8-3 leaves out. -/
theorem LOp.decode_eq_none_iff : ∀ c : BitVec 8, LOp.decode c = none ↔ c.toNat ∉ lanternOps := by
  decide +kernel

theorem decodeLantern_encodeLantern (w : LInst) : decodeLantern (encodeLantern w) = some w := by
  simp only [decodeLantern, setWidth_eq_extractLsb'_zero, encode_op, encode_a, encode_b, encode_c, encode_imm, LOp.decode_code,
    Option.map_some]

/-- A word is its five fields, side by side. -/
theorem append_fields (v : W32) :
    v.extractLsb' 20 12 ++ v.extractLsb' 16 4 ++ v.extractLsb' 12 4 ++ v.extractLsb' 8 4 ++ v.extractLsb' 0 8 = v := by
  ext i hi
  simp only [BitVec.getElem_append, BitVec.getElem_extractLsb']
  grind

theorem encodeLantern_of_decodeLantern {v : W32} {w : LInst} (h : decodeLantern v = some w) : encodeLantern w = v := by
  simp only [decodeLantern, Option.map_eq_some_iff] at h
  obtain ⟨o, ho, rfl⟩ := h
  rw [encodeLantern, LOp.code_of_decode ho, setWidth_eq_extractLsb'_zero]
  exact append_fields v

/-- Settles O1: the fields of an encoding are the instruction's, and a word is its fields side by side. -/
theorem lanternDecodeEncode : Obligations.LanternDecodeEncode := by
  unfold Obligations.LanternDecodeEncode
  refine ⟨decodeLantern_encodeLantern, fun v w => encodeLantern_of_decodeLantern, lword_encode, fun v => ?_⟩
  rw [decodeLantern, Option.map_eq_none_iff]
  exact LOp.decode_eq_none_iff _

end Sys2Proof.Machine
end

section
/-! Lantern instructions on registers, branches and the rest of control (R250, Table 8-3), and O2 to O4. -/
namespace Sys2Proof.Machine

/-! ### Values -/

theorem one_eq_flag32 (p : Bool) : (if p = true then some (1 : W32) else some 0) = some (flag32 p) := by
  cases p <;> rfl

/-- IMM20 above twelve zero bits (LUI). -/
theorem ofNat_mul_4096 (v : BitVec 20) : BitVec.ofNat 32 (v.toNat * 4096) = v ++ (0 : BitVec 12) := by
  apply BitVec.eq_of_toNat_eq
  have hv := v.isLt
  rw [BitVec.toNat_ofNat, Nat.mod_eq_of_lt (by omega), BitVec.toNat_append]
  simp [Nat.shiftLeft_eq]

theorem getD_map_range {α : Type} (f : Nat → α) {n i : Nat} (d : α) (h : i < n) : ((List.range n).map f).getD i d = f i := by
  simp [List.getD_eq_getElem?_getD, h]

/-! ### Registers written -/

theorem stepsV_setV_next {x : Lantern} {a : BitVec 4} {vs : List W32} {f : Nat → W32} (h : ∀ i, i < 16 → vs.getD i 0 = f i) :
    StepsV x (x.setV a.toNat vs).next a f := by
  refine ⟨fun i hi => ?_, fun r i hr hi => ?_, ?_, ?_⟩
  · rw [Lantern.lane_next, Lantern.lane_setV _ _ _ _ _ hi, if_pos rfl, h i hi]
  · rw [Lantern.lane_next, Lantern.lane_setV _ _ _ _ _ hi, if_neg hr]
  · rw [Lantern.setV_eq]; rfl
  · rw [Lantern.setV_eq]; rfl

theorem stepsV_setLane_next (x : Lantern) (a : BitVec 4) (k : Nat) (v : W32) (hk : k < 16) :
    StepsV x (x.setLane a.toNat k v).next a (fun i => if i = k then v else x.lane a.toNat i) := by
  refine ⟨fun i hi => ?_, fun r i hr hi => ?_, rfl, rfl⟩
  · rw [Lantern.lane_next, Lantern.lane_setLane _ _ _ _ _ _ hk hi]
    simp
  · rw [Lantern.lane_next, Lantern.lane_setLane _ _ _ _ _ _ hk hi, if_neg (fun hc => hr hc.1)]

/-! ### Rows -/

section
variable {s : State} {l : Fin 256} {w : LInst} {c : Instr} {op : Nat}

/-- A row that stores a lantern and does no more. -/
theorem runs_setLantern {act : Dev → Lantern → LWord → Dev} {y : Lantern} {P : Lantern → Prop} (h : LanternAt s l w)
    (hc : exec c s = onDev (fun _ d => d.runOp l.val op act) s) (hop : op = w.op.code.toNat)
    (hact : act s.dev (s.dev.lantern l.val) (lword (encodeLantern w)) = s.dev.setLantern l.val y) (hp : P y) :
    Runs c s (fun t => P (t.dev.lantern l.val) ∧ OnlyLantern l s t) := by
  refine runs_runOp h hc hop ?_
  rw [hact]
  refine ⟨?_, onlyLantern_set s l y⟩
  rw [Dev.lantern_setLantern, if_pos rfl]
  exact hp

/-- A row whose result goes to gA. -/
theorem runs_scalar {v : W32} {f : Lantern → LWord → W32} (h : LanternAt s l w)
    (hc : exec c s = onDev (fun _ d => d.scalar l.val op f) s) (hop : op = w.op.code.toNat)
    (hv : f (s.dev.lantern l.val) (lword (encodeLantern w)) = v) :
    Runs c s (fun t => StepsG (s.dev.lantern l.val) (t.dev.lantern l.val) w.a v ∧ OnlyLantern l s t) := by
  refine runs_setLantern (P := fun y => StepsG _ y w.a v) h hc hop ?_ (stepsG_setG_next ..)
  rw [lword_encode] at hv ⊢
  simp only [hv]

/-- A row of vector registers whose result goes to gA. -/
theorem runs_scalar_of_vec {v : W32} {f : Lantern → LWord → W32} (h : LanternAt s l w)
    (hc : exec c s = onDev (fun _ d => d.runOp l.val op (fun d x w => d.vecOk l.val [w.b] (d.setLantern l.val (x.setG w.a (f x w)).next))) s)
    (hop : op = w.op.code.toNat)
    (hv : (if w.b.toNat < 8 then some (f (s.dev.lantern l.val) (lword (encodeLantern w))) else none) = some v) :
    Runs c s (fun t => StepsG (s.dev.lantern l.val) (t.dev.lantern l.val) w.a v ∧ OnlyLantern l s t) := by
  obtain ⟨hb, hv⟩ := Option.ite_none_right_eq_some.mp hv
  refine runs_setLantern (P := fun y => StepsG _ y w.a v) h hc hop ?_ (stepsG_setG_next ..)
  rw [lword_encode] at hv ⊢
  simp only [Dev.vecOk_of_lt _ _ _ hb, Option.some.inj hv]

end

/-- Settles O2: each row leaves in gA what Table 8-3 has it compute. -/
theorem lanternScalarResult : Obligations.LanternScalarResult := by
  unfold Obligations.LanternScalarResult
  rintro s l ⟨op, a, b, c, imm⟩ v h hv
  cases op with
  | add | sub | and | or | xor | shl | shr | sra | mul | addi | fadd | fsub | fmul | fmax | fmin | ffma | fexp | fln | frecip
  | itof | ftoi =>
    refine runs_scalar h (by simp only [rowOf, exec]; rfl) rfl ?_
    rw [lword_encode]
    exact Option.some.inj hv
  | slt | sltu | flt =>
    refine runs_scalar h (by simp only [rowOf, exec]; rfl) rfl ?_
    rw [lword_encode]
    exact Option.some.inj ((one_eq_flag32 _).symm.trans hv)
  | andi | ori =>
    refine runs_scalar h (by simp only [rowOf, exec]; rfl) rfl ?_
    rw [lword_encode, ← Option.some.inj hv]
    simp only [BitVec.ofNat_toNat]
  | lui =>
    refine runs_scalar h (by simp only [rowOf, exec]; rfl) rfl ?_
    rw [lword_encode, ← Option.some.inj hv]
    exact ofNat_mul_4096 _
  | vextr | vrsum | vrmax =>
    refine runs_scalar_of_vec h (by simp only [rowOf, exec]; rfl) rfl ?_
    rw [lword_encode]
    exact hv
  | _ => simp [gResult] at hv

section
variable {s : State} {l : Fin 256} {w : LInst} {c : Instr} {op : Nat}

/-- A row of vector registers whose result goes to vA. -/
theorem runs_vector {f : Nat → W32} {rs : Lantern → LWord → List Nat} {y : Lantern → LWord → Lantern} (h : LanternAt s l w)
    (hc : exec c s = onDev (fun _ d => d.runOp l.val op (fun d x w => d.vecOk l.val (rs x w) (d.setLantern l.val (y x w).next))) s)
    (hop : op = w.op.code.toNat) (hok : ∀ r ∈ rs (s.dev.lantern l.val) (lword (encodeLantern w)), r < 8)
    (hy : StepsV (s.dev.lantern l.val) (y (s.dev.lantern l.val) (lword (encodeLantern w))).next w.a f) :
    Runs c s (fun t => StepsV (s.dev.lantern l.val) (t.dev.lantern l.val) w.a f ∧ OnlyLantern l s t) := by
  refine runs_setLantern (P := fun y => StepsV _ y w.a f) h hc hop (if_pos ?_) hy
  simpa using hok

/-- A row that works lane by lane. -/
theorem runs_lanes {f : W32 → W32 → W32 → W32} {g : Nat → W32} (h : LanternAt s l w)
    (hc : exec c s = onDev (fun _ d => d.lanes l.val op f) s) (hop : op = w.op.code.toNat)
    (hg : (if w.a.toNat < 8 ∧ w.b.toNat < 8 ∧ w.c.toNat < 8 then
        some (fun i => f ((s.dev.lantern l.val).lane w.b.toNat i) ((s.dev.lantern l.val).lane w.c.toNat i)
          ((s.dev.lantern l.val).lane w.a.toNat i)) else none) = some g) :
    Runs c s (fun t => StepsV (s.dev.lantern l.val) (t.dev.lantern l.val) w.a g ∧ OnlyLantern l s t) := by
  obtain ⟨⟨ha, hb, hc8⟩, hg⟩ := Option.ite_none_right_eq_some.mp hg
  refine runs_vector h hc hop ?_ ?_
  · rw [lword_encode]
    simp [ha, hb, hc8]
  · rw [lword_encode, ← Option.some.inj hg]
    exact stepsV_setV_next fun i hi => getD_map_range _ _ hi

end

/-- Settles O3: each row leaves in the lanes of vA what Table 8-3 has it compute. -/
theorem lanternVectorResult : Obligations.LanternVectorResult := by
  unfold Obligations.LanternVectorResult
  rintro s l ⟨op, a, b, c, imm⟩ f h hf
  cases op with
  | vadd | vsub | vmul | vmax | vmin | vfma =>
    refine runs_lanes h (by simp only [rowOf, exec]; rfl) rfl ?_
    exact hf
  | vexp =>
    obtain ⟨⟨ha, hb⟩, hf⟩ := Option.ite_none_right_eq_some.mp hf
    refine runs_vector h (by simp only [rowOf, exec]; rfl) rfl (by simp [lword_encode, ha, hb]) ?_
    rw [lword_encode, ← Option.some.inj hf]
    refine stepsV_setV_next fun i hi => ?_
    rw [Lantern.vec, List.map_map, getD_map_range _ _ hi]
    rfl
  | vbcast =>
    obtain ⟨ha, hf⟩ := Option.ite_none_right_eq_some.mp hf
    refine runs_vector h (by simp only [rowOf, exec]; rfl) rfl (by simp [lword_encode, ha]) ?_
    rw [lword_encode, ← Option.some.inj hf]
    refine stepsV_setV_next fun i hi => ?_
    rw [List.getD_eq_getElem _ _ (by simpa using hi), List.getElem_replicate]
  | vins =>
    obtain ⟨ha, hf⟩ := Option.ite_none_right_eq_some.mp hf
    refine runs_vector h (by simp only [rowOf, exec]; rfl) rfl (by simp [lword_encode, ha]) ?_
    rw [lword_encode, ← Option.some.inj hf]
    exact stepsV_setLane_next _ _ _ _ (Nat.mod_lt _ (by decide))
  | _ => simp [vResult] at hf

/-! ### Control -/

theorem setWidth_signExtend_imm (v : BitVec 12) : (v.signExtend 32).setWidth 11 = v.truncate 11 := by
  ext i hi
  simp [BitVec.getElem_signExtend, show i < 12 by omega, show i < 32 by omega]

/-- A branch goes IMM on from PC. -/
theorem Lantern.jump_encode (x : Lantern) (w : LInst) : x.jump (lword (encodeLantern w)) = { x with pc := x.pc + w.imm.truncate 11 } := by
  rw [Lantern.jump, lword_encode, immOf, setWidth_signExtend_imm]

/-- HALT's own row meets its instruction (R248). -/
theorem Dev.haltRow_at {s : State} {l : Fin 256} {w : LInst} (h : LanternAt s l w) (hop : w.op = .halt) :
    s.dev.haltRow l.val = s.dev.setLantern l.val { (s.dev.lantern l.val).next with running := false } := by
  obtain ⟨-, hrun, hin, herr, hword⟩ := h
  have hcode : w.op.code.toNat = 0 := by rw [hop]; rfl
  simp [Dev.haltRow, hrun, hin, Dev.readErrors_none herr, hword, lword_encode, hcode]

theorem keeps_setLantern (s : State) (l : Nat) (x : Lantern) : Keeps [.grid] s { s with dev := s.dev.setLantern l x } := by
  intro p hp
  cases p with
  | grid | lines => simp at hp
  | _ => rfl

/-- A row that leaves the lantern as `y` says. -/
theorem runs_setLantern_eq {s : State} {l : Fin 256} {w : LInst} {c : Instr} {op : Nat} {y : Lantern → LWord → Lantern} {z : Lantern}
    (h : LanternAt s l w) (hc : exec c s = onDev (fun _ d => d.runOp l.val op (fun d x w => d.setLantern l.val (y x w))) s)
    (hop : op = w.op.code.toNat) (hy : y (s.dev.lantern l.val) (lword (encodeLantern w)) = z) :
    Runs c s (fun t => t.dev.lantern l.val = z ∧ OnlyLantern l s t) :=
  runs_setLantern (P := fun y => y = z) h hc hop rfl hy

theorem exec_halt (l : Fin 256) (s : State) : exec (.halt l) s = onDev (fun _ d => d.haltRow l.val) s := rfl

@[simp] theorem Dev.lantern_raise (d : Dev) (src k : Nat) : (d.raise src).lantern k = d.lantern k := by
  simp [Dev.lantern]

/-- Settles O4: a branch moves PC alone; JAL and CCOUNT write gA, SIGNAL raises its source, HALT ends the run. -/
theorem lanternControl : Obligations.LanternControl := by
  unfold Obligations.LanternControl
  rintro s l ⟨op, a, b, c, imm⟩ h x
  refine ⟨fun p hp => ?_, ?_, ?_, ?_, ?_⟩
  · cases op with
    | nop =>
      cases hp
      exact runs_setLantern_eq (y := fun x _ => x.next) h rfl rfl rfl
    | jr =>
      cases hp
      exact runs_setLantern_eq (y := fun x w => { x with pc := (x.gr w.b).setWidth 11 }) h rfl rfl (by rw [lword_encode])
    | beq | bne =>
      cases hp
      refine runs_setLantern_eq h (by simp only [rowOf, exec]; rfl) rfl ?_
      rw [Lantern.jump_encode, lword_encode]
      split_ifs <;> rfl
    | blt =>
      cases hp
      refine runs_setLantern_eq h (by simp only [rowOf, exec]; rfl) rfl ?_
      rw [Lantern.jump_encode, lword_encode]
      simp only [BitVec.slt, decide_eq_true_eq]
      split_ifs <;> rfl
    | _ => simp [branchTo] at hp
  · rintro rfl
    refine runs_runOp h rfl rfl ?_
    rw [Lantern.jump_encode, lword_encode]
    dsimp only
    rw [Dev.lantern_setLantern, if_pos rfl]
    exact ⟨(Lantern.gr_setG ..).trans (if_pos rfl), fun r hr => (Lantern.gr_setG ..).trans (if_neg hr), rfl, onlyLantern_set s l _⟩
  · rintro rfl
    refine runs_runOp h rfl rfl ?_
    rw [lword_encode]
    exact stepsG_setLantern ..
  · rintro rfl
    refine runs_runOp h rfl rfl ?_
    rw [lword_encode]
    dsimp only
    refine ⟨?_, raised_raise (d := s.dev.setLantern l.val x.next) rfl _, ?_, ?_, fun k hk => ?_⟩
    · rw [Dev.lantern_raise, Dev.lantern_setLantern, if_pos rfl]
      rfl
    · exact (keeps_setLantern s l.val _).trans (keeps_raise s _ _)
    · rw [Dev.raise_grid]
      rfl
    · rw [Dev.lantern_raise, Dev.lantern_setLantern, if_neg hk]
  · rintro rfl
    refine runs_onDev h.1 (exec_halt l s) ?_
    rw [Dev.haltRow_at h rfl]
    refine ⟨?_, onlyLantern_set s l _⟩
    rw [Dev.lantern_setLantern, if_pos rfl]
    rfl

end Sys2Proof.Machine
end

section
/-! Frames of the named operations: which parts of the package each may change, and how frames are put together. -/
namespace Sys2Proof.Machine

/-- From `d` to `e` no part of the package has changed but those listed, in whatever machine. -/
def Dev.Within (ps : List Part) (d e : Dev) : Prop := ∀ s : State, Keeps ps { s with dev := d } { s with dev := e }

section
variable {ps qs : List Part} {d e f : Dev}

theorem Dev.within_refl (d : Dev) : d.Within [] d := fun _ => keeps_refl _ _

theorem Dev.Within.trans (h : d.Within ps e) (h' : e.Within qs f) : d.Within (ps ++ qs) f := fun s => (h s).trans (h' s)

theorem Dev.Within.mono (h : d.Within ps e) (hps : ps ⊆ qs) : d.Within qs e := fun s => (h s).mono hps

theorem Dev.Within.ite {c : Prop} [Decidable c] (h : d.Within ps e) (h' : d.Within qs f) : d.Within (ps ++ qs) (if c then e else f) := by
  split
  · exact h.mono (List.subset_append_left _ _)
  · exact h'.mono (List.subset_append_right _ _)

theorem Dev.within_foldl {β : Type} {g : Dev → β → Dev} (hg : ∀ (d : Dev) x, d.Within ps (g d x)) (xs : List β) (d : Dev) :
    d.Within ps (xs.foldl g d) := by
  induction xs generalizing d with
  | nil => exact d.within_refl.mono (List.nil_subset _)
  | cons x xs ih => exact ((hg d x).trans (ih _)).mono (List.append_subset.mpr ⟨List.Subset.refl _, List.Subset.refl _⟩)

end

/-- A frame of the whole machine goes on with one of the package. -/
theorem Keeps.within {ps qs : List Part} {s t : State} {e : Dev} (h : Keeps ps s t) (h' : t.dev.Within qs e) :
    Keeps (ps ++ qs) s { t with dev := e } := h.trans (h' t)

/-- What has changed of a machine whose package alone has. -/
theorem Dev.Within.keeps {ps : List Part} {s : State} {e : Dev} (h : s.dev.Within ps e) : Keeps ps s { s with dev := e } := h s

/-- A part that is not among those that may have changed. -/
theorem Dev.Within.part {ps : List Part} {d e : Dev} (h : d.Within ps e) (p : Part) (hp : p ∉ .lines :: ps) :
    p.same { State.reset with dev := d } { State.reset with dev := e } := h State.reset p hp

/-! ### Single parts -/

section
variable (d : Dev)

theorem Dev.within_prompter (x : Prompter) : d.Within [.prompter] { d with prompter := x } := by
  intro s p hp
  cases p with
  | prompter | lines => simp at hp
  | _ => rfl

theorem Dev.within_stage (x : Stage) : d.Within [.stage] { d with stage := x } := by
  intro s p hp
  cases p with
  | stage | lines => simp at hp
  | _ => rfl

theorem Dev.within_dim (x : Dim) : d.Within [.dim] { d with dim := x } := fun s => keeps_dim s d x

theorem Dev.within_usy (x : Usy) : d.Within [.usy] { d with usy := x } := by
  intro s p hp
  cases p with
  | usy | lines => simp at hp
  | _ => rfl

theorem Dev.within_mems (x : Mems) : d.Within [.mems] { d with mems := x } := by
  intro s p hp
  cases p with
  | mems | lines => simp at hp
  | _ => rfl

theorem Dev.within_fab (x : Fab) : d.Within [.fab] { d with fab := x } := by
  intro s p hp
  cases p with
  | fab | lines => simp at hp
  | _ => rfl

theorem Dev.within_grid (x : Grid) : d.Within [.grid] { d with grid := x } := by
  intro s p hp
  cases p with
  | grid | lines => simp at hp
  | _ => rfl

theorem Dev.within_colls (x : List Collective) : d.Within [.colls] { d with colls := x } := by
  intro s p hp
  cases p with
  | colls | lines => simp at hp
  | _ => rfl

theorem Dev.within_hck (x : Hck) : d.Within [.hck] { d with hck := x } := by
  intro s p hp
  cases p with
  | hck | lines => simp at hp
  | _ => rfl

theorem Dev.within_cast (x : Cast) : d.Within [.cast] { d with cast := x } := by
  intro s p hp
  cases p with
  | cast | lines => simp at hp
  | _ => rfl

theorem Dev.within_hif (x : Hif) : d.Within [.hif] { d with hif := x } := by
  intro s p hp
  cases p with
  | hif | lines => simp at hp
  | _ => rfl

theorem Dev.within_spt (x : Spt) : d.Within [.spt] { d with spt := x } := by
  intro s p hp
  cases p with
  | spt | lines => simp at hp
  | _ => rfl

theorem Dev.within_setQueue (q : Nat) (xs : List Transfer) : d.Within [.xfers] (d.setQueue q xs) := by
  intro s p hp
  cases p with
  | xfers | lines => simp at hp
  | _ => rfl

theorem Dev.within_takeFree : d.Within [.free] d.takeFree.2 := by
  intro s p hp
  cases p with
  | free | lines => simp at hp
  | _ => rfl

theorem Dev.within_pulse (n : Nat) : d.Within [] (d.pulse n) := by
  intro s p hp
  cases p with
  | lines => simp at hp
  | _ => rfl

theorem Dev.within_wideAdd (off n : Nat) : d.Within [.wide] (d.wideAdd off n) := by
  intro s p hp
  cases p with
  | wide | lines => simp at hp
  | _ => rfl

theorem Dev.within_emit (o : Out) : d.Within [.outbox] (d.emit o) := by
  intro s p hp
  cases p with
  | outbox | lines => simp at hp
  | _ => rfl

theorem Dev.within_setReg (off : Nat) (v : W32) : d.Within [.regs] (d.setReg off v) := (d.regsTo_setReg off v).keeps

theorem Dev.within_setFld (off hi lo n : Nat) : d.Within [.regs] (d.setFld off hi lo n) := d.within_setReg _ _

theorem Dev.within_setBit (off i : Nat) : d.Within [.regs] (d.setBit off i) := d.within_setReg _ _

theorem Dev.within_clrBit (off i : Nat) : d.Within [.regs] (d.clrBit off i) := d.within_setReg _ _

theorem Dev.within_addReg (off n : Nat) : d.Within [.regs] (d.addReg off n) := d.within_setReg _ _

theorem Dev.within_count (off : Nat) : d.Within [.regs] (d.count off) := d.within_setReg _ _

theorem Dev.within_setReg64 (off v : Nat) : d.Within [.regs] (d.setReg64 off v) :=
  ((d.within_setReg _ _).trans (Dev.within_setReg _ _ _)).mono (by decide)

theorem Dev.within_raise (src : Nat) : d.Within raising (d.raise src) := fun s => keeps_raise s d src

theorem Dev.within_flagRaise (off i src : Nat) : d.Within (.regs :: raising) (d.flagRaise off i src) :=
  (d.within_setBit off i).trans (Dev.within_raise _ src)

theorem Dev.within_setPort (p : Nat) (x : Port) : d.Within [.fab] (d.setPort p x) := d.within_fab _

theorem Dev.within_setLantern (l : Nat) (x : Lantern) : d.Within [.grid] (d.setLantern l x) := d.within_grid _

theorem Dev.within_setCounter (n : Nat) (c : Counter) : d.Within [.prompter] (d.setCounter n c) := d.within_prompter _

/-! ### Frames sent -/

theorem Dev.within_transmit (p : Nat) (f : TxFrame) (seq : Nat) (nak : Bool) : d.Within [.outbox, .wide] (d.transmit p f seq nak) :=
  ((d.within_emit _).trans (Dev.within_wideAdd _ _ _)).mono (by decide)

theorem Dev.within_sendPlain (p : Nat) (f : TxFrame) : d.Within [.outbox, .wide] (d.sendPlain p f) :=
  ((d.within_transmit p f 0 false).ite d.within_refl).mono (by decide)

theorem Dev.within_sendCredit (p n : Nat) : d.Within [.fab, .outbox, .wide] (d.sendCredit p n) :=
  ((d.within_transmit p _ 0 false).ite (d.within_setPort p _)).mono (by decide)

/-- What frames that enter a port's window may change. -/
def sending : List Part := [.fab, .usy, .regs, .wide, .outbox]

theorem Dev.within_leaveBuffer (f : TxFrame) : d.Within sending (d.leaveBuffer f) := by
  rw [Dev.leaveBuffer]
  cases f.origin with
  | none => exact (d.within_refl).mono (by decide)
  | some q => exact ((d.within_sendCredit q _)).mono (by decide)

theorem Dev.within_pump (n p : Nat) : d.Within sending (Dev.pump n d p) := by
  induction n generalizing d with
  | zero => exact (d.within_refl).mono (by decide)
  | succ n ih =>
    rw [Dev.pump]
    dsimp only
    cases (d.port p).txq with
    | nil => exact (d.within_refl).mono (by decide)
    | cons f fs =>
      exact (Dev.Within.ite ((((d.within_transmit p f _ false).trans (Dev.within_setPort _ p _)).trans
        (Dev.within_leaveBuffer _ f)).trans (ih _)) d.within_refl).mono (by decide)

theorem Dev.within_pumpLog (n : Nat) : d.Within sending (Dev.pumpLog n d) := by
  induction n generalizing d with
  | zero => exact (d.within_refl).mono (by decide)
  | succ n ih =>
    rw [Dev.pumpLog]
    cases d.usy.logq with
    | nil => exact (d.within_refl).mono (by decide)
    | cons r rs =>
      exact (Dev.Within.ite ((((((d.within_usy _).trans (Dev.within_setPort _ 16 _)).trans (Dev.within_pump _ 1 16)).trans
        (Dev.within_setReg _ _ _)).trans (Dev.within_wideAdd _ _ _)).trans (ih _)) d.within_refl).mono (by decide)

theorem Dev.within_pumpAll (p : Nat) : d.Within sending (d.pumpAll p) :=
  (Dev.Within.ite ((d.within_pump _ p).trans (Dev.within_pumpLog _ _)) (d.within_pump _ p)).mono (by decide)

theorem Dev.within_enqueue (p : Nat) (f : TxFrame) : d.Within sending (d.enqueue p f) :=
  ((d.within_setPort p _).trans (Dev.within_pumpAll _ p)).mono (by decide)

theorem Dev.within_sendRouted (f : TxFrame) : d.Within sending (d.sendRouted f) := by
  rw [Dev.sendRouted]
  cases d.routePort f.dst with
  | none => exact ((d.within_fab _)).mono (by decide)
  | some p => exact (d.within_enqueue p f).mono (by decide)

theorem Dev.within_sendHeartbeat : d.Within sending d.sendHeartbeat :=
  (Dev.Within.ite (((d.within_usy _).trans (Dev.within_pulse _ 171)).trans (Dev.within_sendPlain _ 16 _)) d.within_refl).mono (by decide)

theorem Dev.within_enterUsy (st : Nat) : d.Within sending (d.enterUsy st) :=
  (d.within_refl.ite ((d.within_setFld _ 2 0 st).trans (Dev.within_sendHeartbeat _))).mono (by decide)

/-! ### Errors of memories -/

/-- What an uncorrectable error may change. -/
def failing : List Part := sending ++ raising

theorem Dev.within_enterFailing : d.Within failing d.enterFailing :=
  (Dev.Within.ite ((d.within_enterUsy 2).trans (Dev.within_raise _ 73)) d.within_refl).mono (by decide)

theorem Dev.within_uncorrectable (c : MemCode) (k : Nat) : d.Within failing (d.uncorrectable c k) := by
  have hinfo (e : Dev) (off off' v' : Nat) (v : W32) := (e.within_setReg off v).trans (Dev.within_setReg64 _ off' v')
  exact (((((d.within_count _).trans ((Dev.within_refl _).ite (hinfo _ _ _ _ _))).trans (Dev.within_flagRaise _ _ 2 192)).trans
    ((Dev.within_enterFailing _).ite (Dev.within_refl _))).trans (Dev.within_usy _ _)).mono (by decide)

theorem Dev.within_readErrors (c : MemCode) (k n : Nat) : d.Within failing (d.readErrors c k n).2 :=
  (Dev.within_foldl (fun d _ => d.within_uncorrectable c _) _ d).mono (by decide)

theorem Dev.within_store (c : MemCode) (k : Nat) (bs : List Byte) : d.Within (.mems :: failing) (d.store c k bs).2 := by
  rw [Dev.store]
  split
  · exact ((d.within_mems _)).mono (by decide)
  · exact ((d.within_mems _).trans (Dev.within_foldl (fun d _ => d.within_uncorrectable c _) _ _)).mono (by decide)

/-- What reads that find errors may change. -/
def meeting : List Part := .mems :: .wide :: .regs :: raising

theorem Dev.within_correctedError (off : Nat) : d.Within meeting (d.correctedError off) := by
  have hcount := (d.within_wideAdd off 1).trans (Dev.within_pulse _ 164)
  exact (Dev.Within.ite (hcount.trans (Dev.within_flagRaise _ _ 3 193)) hcount).mono (by decide)

theorem Dev.within_meet (i : Ident) (f : Found) : d.Within meeting (d.meet i f) := by
  rw [Dev.meet]
  cases memKey i f.mem f.unit.val f.addr.toNat with
  | none => exact (d.within_refl).mono (by decide)
  | some k =>
    refine d.within_refl.ite ?_
    cases f.finding with
    | clean => exact (d.within_refl).mono (by decide)
    | corrected =>
      exact (Dev.Within.ite ((d.within_mems _).trans (Dev.within_correctedError _ _)) (d.within_correctedError _)).mono (by decide)
    | uncorrectable => exact ((d.within_mems _)).mono (by decide)

theorem Dev.within_meets (i : Ident) (fs : List Found) : d.Within meeting (d.meets i fs) :=
  (Dev.within_foldl (fun d f => d.within_meet i f) fs d).mono (by decide)

end

end Sys2Proof.Machine
end

section
/-! Loads, stores and faults of the lanterns (R246, R248, R250): bytes of words, the checks of an access, and O5 to O7. -/
namespace Sys2Proof.Machine

/-! ### Bytes -/

theorem drop_memBytes (m : Memory) (a n k : Nat) : (memBytes m a n).drop k = memBytes m (a + k) (n - k) := by
  induction k generalizing a n with
  | zero => simp
  | succ k ih =>
    cases n with
    | zero => simp [memBytes]
    | succ n =>
      rw [memBytes, List.drop_succ_cons, ih, Nat.add_sub_add_right, Nat.add_assoc, Nat.add_comm 1 k]

theorem take_memBytes (m : Memory) (a : Nat) {n k : Nat} (h : k ≤ n) : (memBytes m a n).take k = memBytes m a k := by
  induction k generalizing a n with
  | zero => simp [memBytes]
  | succ k ih =>
    cases n with
    | zero => omega
    | succ n => rw [memBytes, memBytes, List.take_succ_cons, ih (a + 1) (by omega)]

/-- A field of bytes that were read is a read at its place. -/
theorem field_memBytes (m : Memory) (a : Nat) {n off len : Nat} (h : off + len ≤ n) :
    field (memBytes m a n) off len = leNat (memBytes m (a + off) len) := by
  rw [field, drop_memBytes, take_memBytes _ _ (by omega)]

/-- Four bytes of memory as a number, lowest first. -/
theorem leNat_memBytes_four (m : Memory) (a : Nat) :
    leNat (memBytes m a 4) = (memByte m a).toNat + 2 ^ 8 * (memByte m (a + 1)).toNat + 2 ^ 16 * (memByte m (a + 2)).toNat +
      2 ^ 24 * (memByte m (a + 3)).toNat := by
  simp only [memBytes, leNat, Nat.add_assoc, Nat.reduceAdd]
  omega

theorem getD_leBytes (n v k : Nat) (h : k < n) : (leBytes n v).getD k 0 = BitVec.ofNat 8 (v / 256 ^ k) := by
  induction n generalizing v k with
  | zero => omega
  | succ n ih =>
    cases k with
    | zero => simp [leBytes]
    | succ k => rw [leBytes, List.getD_cons_succ, ih _ _ (by omega), Nat.div_div_eq_div_mul, Nat.pow_succ']

@[simp] theorem leBytes_length (n v : Nat) : (leBytes n v).length = n := by
  induction n generalizing v with
  | zero => rfl
  | succ n ih => simp [leBytes, ih]

/-- Byte `k` of a word. -/
theorem getD_leBytes_word (n : Nat) (v : W32) {k : Nat} (h : k < n) : (leBytes n v.toNat).getD k 0 = v.extractLsb' (8 * k) 8 := by
  rw [getD_leBytes _ _ _ h]
  apply BitVec.eq_of_toNat_eq
  rw [BitVec.toNat_ofNat, BitVec.extractLsb'_toNat, Nat.shiftRight_eq_div_pow, Nat.pow_mul]

/-- Byte `k` of words laid side by side. -/
theorem getD_flatMap_words (vs : List W32) {k : Nat} (h : k < 4 * vs.length) :
    (vs.flatMap (fun v => leBytes 4 v.toNat)).getD k 0 = (vs.getD (k / 4) 0).extractLsb' (8 * (k % 4)) 8 := by
  induction vs generalizing k with
  | nil => simp at h
  | cons v vs ih =>
    rw [List.flatMap_cons]
    by_cases hk : k < 4
    · rw [List.getD_append _ _ _ _ (by simpa using hk), getD_leBytes_word _ _ hk, Nat.div_eq_of_lt hk, Nat.mod_eq_of_lt hk]
      rfl
    · obtain ⟨j, rfl⟩ : ∃ j, k = j + 4 := ⟨k - 4, by omega⟩
      rw [List.getD_append_right _ _ _ _ (by simp), leBytes_length, Nat.add_sub_cancel, ih (by simp at h; omega)]
      simp

theorem length_flatMap_words (vs : List W32) : (vs.flatMap (fun v => leBytes 4 v.toNat)).length = 4 * vs.length := by
  induction vs with
  | nil => rfl
  | cons v vs ih => simp [ih]; omega

/-! ### Accesses -/

section
variable {s : State} {l : Fin 256} {w : LInst} {n : Nat}

theorem Lantern.addr_encode (x : Lantern) (w : LInst) : x.addr (lword (encodeLantern w)) = addressOf x w := by
  rw [lword_encode]; rfl

/-- What the row of a load or a store makes of its access: the vector register's check, the address's checks, the act. -/
def Dev.guarded (d : Dev) (l n r a : Nat) (act : Dev) : Dev :=
  if n = 64 then d.vecOk l [r] (d.dataAccess l a n act) else d.dataAccess l a n act

theorem Dev.dataAccess_of_ok (d : Dev) (l : Nat) {a n : Nat} (act : Dev) (halign : a % n = 0) (hin : a + n ≤ 0x10000) :
    d.dataAccess l a n act = act := by
  rw [Dev.dataAccess, if_neg (by simpa using halign), if_neg (by omega)]

/-- The fault of an access that fails a check (R248). -/
theorem Dev.guarded_of_bad (d : Dev) (l : Nat) {r a code : Nat} (act : Dev)
    (h : (n = 64 ∧ 8 ≤ r ∧ code = 1) ∨ ((n = 64 → r < 8) ∧ a % n ≠ 0 ∧ code = 2) ∨
      ((n = 64 → r < 8) ∧ a % n = 0 ∧ 0x10000 < a + n ∧ code = 3)) :
    d.guarded l n r a act = d.lanternFault l code := by
  have hvec (e : Dev) (hr : n = 64 → r < 8) : (if n = 64 then d.vecOk l [r] e else e) = e := by
    split
    next hn => exact Dev.vecOk_of_lt _ _ _ (hr hn)
    next => rfl
  rw [Dev.guarded]
  rcases h with ⟨rfl, hr, rfl⟩ | ⟨hr, ha, rfl⟩ | ⟨hr, ha, hout, rfl⟩
  · rw [if_pos rfl, Dev.vecOk, if_neg (by simpa using hr)]
  · rw [hvec _ hr, Dev.dataAccess, if_pos ha]
  · rw [hvec _ hr, Dev.dataAccess, if_neg (by simpa using ha), if_pos hout]

/-- Every load and store is a row that guards its access. -/
theorem runs_access {P : State → Prop} (h : LanternAt s l w) (hn : accessOf w.op = some n)
    (hp : ∀ act, P { s with dev := s.dev.guarded l.val n w.a.toNat (addressOf (s.dev.lantern l.val) w) act }) :
    Runs (rowOf l w.op) s P := by
  obtain ⟨op, a, b, c, imm⟩ := w
  cases op with
  | ld | st | ldb | stb | vld | vst =>
    cases hn
    refine runs_runOp h rfl rfl ?_
    rw [Lantern.addr_encode, lword_encode]
    exact hp _
  | _ => simp [accessOf] at hn

end

/-! ### Loads -/

/-- Settles O5: past its checks a load reads what memory holds. -/
theorem lanternLoad : Obligations.LanternLoad := by
  unfold Obligations.LanternLoad
  rintro s l ⟨op, ra, rb, rc, imm⟩ n h hn x a ⟨halign, hin, hvec⟩ herr byte word
  have hword (off : Nat) : word off = BitVec.ofNat 32 (leNat (memBytes s.dev.mems.ldata (65536 * l.val + a + off) 4)) := by
    rw [leNat_memBytes_four]
    rfl
  refine ⟨?_, ?_, ?_⟩ <;> rintro rfl <;> cases hn
  · refine runs_runOp h rfl rfl ?_
    rw [Lantern.addr_encode, Dev.dataAccess_of_ok _ _ _ halign hin, Dev.loadData_of_no_error _ herr, lword_encode, hword]
    exact stepsG_setLantern s l ra _
  · refine runs_runOp h rfl rfl ?_
    rw [Lantern.addr_encode, Dev.dataAccess_of_ok _ _ _ halign hin, Dev.loadData_of_no_error _ herr, lword_encode]
    exact stepsG_setLantern s l ra _
  · have hread : ∀ i, i < 16 → ((List.range 16).map (fun j =>
        BitVec.ofNat 32 (field (memBytes s.dev.mems.ldata (65536 * l.val + a) 64) (4 * j) 4))).getD i 0 = word (4 * i) := by
      intro i hi
      rw [getD_map_range _ _ hi, field_memBytes _ _ (by omega), hword]
    refine runs_setLantern (P := fun y => StepsV x y ra (fun i => word (4 * i))) h rfl rfl ?_ (stepsV_setV_next hread)
    rw [Lantern.addr_encode, Dev.dataAccess_of_ok _ _ _ halign hin, Dev.loadData_of_no_error _ herr, lword_encode]
    exact Dev.vecOk_of_lt _ _ _ (hvec rfl)

/-! ### Stores -/

theorem Dev.storeData_of_clean (d : Dev) (l a : Nat) (bs : List Byte) (x : Lantern) (hroute : a + bs.length ≤ d.routeArea)
    (herr : d.mems.errors = []) :
    d.storeData l a bs x =
      ({ d with mems := { d.mems with ldata := memPuts d.mems.ldata (65536 * l + a) bs } } : Dev).setLantern l x.next := by
  rw [Nat.mul_comm, Dev.storeData, if_neg (by omega), Dev.store, herr]
  rfl

/-- `n` bytes have been written at `a` of the lantern's data memory, and no other byte of any memory; the lantern steps on. -/
def Stored (s : State) (l : Fin 256) (a n : Nat) (byte : Nat → Byte) (t : State) : Prop :=
  let x := s.dev.lantern l.val
  t.dev.lantern l.val = { x with pc := x.pc + 1 } ∧ (∀ k, k ≠ l.val → t.dev.lantern k = s.dev.lantern k) ∧
    (∀ k, k < n → memByte t.dev.mems.ldata (65536 * l.val + a + k) = byte k) ∧
    (∀ b, b < 65536 * l.val + a ∨ 65536 * l.val + a + n ≤ b → memByte t.dev.mems.ldata b = memByte s.dev.mems.ldata b) ∧
    t.dev.mems = { s.dev.mems with ldata := t.dev.mems.ldata } ∧
    t.dev.grid = { s.dev.grid with lanterns := t.dev.grid.lanterns } ∧ Keeps [.grid, .mems] s t

theorem stored_storeData (s : State) (l : Fin 256) {a : Nat} {bs : List Byte} {byte : Nat → Byte} (hroute : a + bs.length ≤ s.dev.routeArea)
    (herr : s.dev.mems.errors = []) (hbyte : ∀ k, k < bs.length → bs.getD k 0 = byte k) :
    Stored s l a bs.length byte { s with dev := s.dev.storeData l.val a bs (s.dev.lantern l.val) } := by
  rw [s.dev.storeData_of_clean _ _ _ _ hroute herr]
  refine ⟨?_, fun k hk => ?_, fun k hk => ?_, fun b hb => ?_, rfl, rfl, fun p hp => ?_⟩
  · rw [Dev.lantern_setLantern, if_pos rfl]; rfl
  · rw [Dev.lantern_setLantern, if_neg hk]; rfl
  · refine (memByte_memPuts ..).trans ((if_pos (by omega)).trans ?_)
    rw [Nat.add_sub_cancel_left, hbyte k hk]
  · exact (memByte_memPuts ..).trans (if_neg (by omega))
  · cases p with
    | grid | mems | lines => simp at hp
    | _ => rfl

/-- A store of `bs` whose row passes its checks. -/
theorem runs_store {s : State} {l : Fin 256} {w : LInst} {c : Instr} {op a n : Nat} {bs : List Byte} {byte : Nat → Byte}
    {act : Dev → Lantern → LWord → Dev} (h : LanternAt s l w) (hc : exec c s = onDev (fun _ d => d.runOp l.val op act) s)
    (hop : op = w.op.code.toNat)
    (hact : act s.dev (s.dev.lantern l.val) (lword (encodeLantern w)) = s.dev.storeData l.val a bs (s.dev.lantern l.val))
    (hlen : bs.length = n) (hroute : a + n ≤ s.dev.routeArea) (herr : s.dev.mems.errors = [])
    (hbyte : ∀ k, k < n → bs.getD k 0 = byte k) : Runs c s (Stored s l a n byte) := by
  subst hlen
  refine runs_runOp h hc hop ?_
  rw [hact]
  exact stored_storeData s l hroute herr hbyte

/-- Settles O6: past its checks a store writes the bytes of its register. -/
theorem lanternStore : Obligations.LanternStore := by
  unfold Obligations.LanternStore
  rintro s l ⟨op, ra, rb, rc, imm⟩ n h hn x a ⟨halign, hin, hvec⟩ hroute herr hop value
  rcases hop with rfl | rfl | rfl <;> cases hn
  · refine runs_store (bs := leBytes 4 (x.gr ra.toNat).toNat) h rfl rfl ?_ (leBytes_length ..) hroute herr fun k hk => ?_
    · rw [Lantern.addr_encode, Dev.dataAccess_of_ok _ _ _ halign hin, lword_encode]
    · rw [getD_leBytes_word _ _ hk, Nat.mod_eq_of_lt hk]
      rfl
  · refine runs_store (bs := leBytes 1 (x.gr ra.toNat).toNat) h rfl rfl ?_ (leBytes_length ..) hroute herr fun k hk => ?_
    · rw [Lantern.addr_encode, Dev.dataAccess_of_ok _ _ _ halign hin, lword_encode]
    · rw [getD_leBytes_word _ _ hk, Nat.mod_eq_of_lt (by omega)]
      rfl
  · refine runs_store (bs := ((List.range 16).map (x.lane ra.toNat)).flatMap (fun v => leBytes 4 v.toNat)) h rfl rfl ?_
      (by rw [length_flatMap_words]; rfl) hroute herr fun k hk => ?_
    · rw [Lantern.addr_encode, Dev.dataAccess_of_ok _ _ _ halign hin, lword_encode]
      exact Dev.vecOk_of_lt _ _ _ (hvec rfl)
    · rw [getD_flatMap_words _ (by simpa using hk), getD_map_range _ _ (by omega)]
      rfl

/-! ### Faults -/

/-- LGR_LFAULT of a fault: the lantern, the code and the PC (R248). -/
def lfaultWord (l code pc : Nat) : W32 := BitVec.ofNat 32 (l + code * 2 ^ 8 + pc * 2 ^ 12 + 2 ^ 31)

/-- The package with the lantern's fault recorded, unless one stands (R248). -/
def Dev.lfaultNoted (d : Dev) (l code : Nat) : Dev :=
  if d.bit Reg.lgrLfault 31 then d
  else d.setReg Reg.lgrLfault (lfaultWord l code (d.lantern l).pc.toNat)

theorem Dev.lanternFault_eq (d : Dev) (l code : Nat) :
    d.lanternFault l code = ((d.lfaultNoted l code).setLantern l { d.lantern l with running := false, bad := true }).raise 136 := rfl

theorem keeps_lfaultNoted (s : State) (l code : Nat) : Keeps [.regs] s { s with dev := s.dev.lfaultNoted l code } :=
  (s.dev.within_refl.ite (s.dev.within_setReg _ _)) s

theorem Dev.lantern_setReg (d : Dev) (off : Nat) (v : W32) (k : Nat) : (d.setReg off v).lantern k = d.lantern k := rfl

theorem Dev.lantern_lfaultNoted (d : Dev) (l code k : Nat) : (d.lfaultNoted l code).lantern k = d.lantern k := by
  rw [Dev.lfaultNoted]
  split
  · rfl
  · exact Dev.lantern_setReg ..

theorem Dev.reg_setLantern (d : Dev) (l : Nat) (x : Lantern) (off : Nat) : (d.setLantern l x).reg off = d.reg off := rfl

theorem Dev.reg_lanternFault {d : Dev} (l code off : Nat) (h : d.bit Reg.lgrLfault 31 = false) :
    (d.lanternFault l code).reg off =
      if off = Reg.lgrLfault then lfaultWord l code (d.lantern l).pc.toNat else d.reg off := by
  rw [Dev.lanternFault_eq, Dev.reg_raise, Dev.reg_setLantern, Dev.lfaultNoted, h, if_neg Bool.false_ne_true, Dev.reg_setReg]

theorem lfaultWord_fields {l code pc : Nat} (hl : l < 256) (hcode : code < 16) (hpc : pc < 2048) :
    let v := (lfaultWord l code pc).toNat
    bits v 0 8 = l ∧ bits v 8 4 = code ∧ bits v 12 11 = pc ∧ v.testBit 31 = true := by
  simp only [lfaultWord, BitVec.toNat_ofNat, bits, Nat.shiftRight_eq_div_pow, Nat.testBit_eq_decide_div_mod_eq, decide_eq_true_eq]
  omega

/-- Settles O7: each failed check is the fault of its code. -/
theorem lanternFault : Obligations.LanternFault := by
  unfold Obligations.LanternFault
  intro s l w n code h hn x a hbad
  refine runs_access h hn fun act => ?_
  rw [Dev.guarded_of_bad _ _ _ hbad]
  have hkeep := keeps_lfaultNoted s l.val code
  have hcode : code < 16 := by omega
  refine ⟨?_, fun k hk => ?_, fun h31 => ?_, fun h31 => ?_, raised_raise ?_ _, ?_⟩
  · rw [Dev.lanternFault_eq, Dev.lantern_raise, Dev.lantern_setLantern, if_pos rfl]
  · rw [Dev.lanternFault_eq, Dev.lantern_raise, Dev.lantern_setLantern, if_neg hk, Dev.lantern_lfaultNoted]
  · simp [Dev.lanternFault_eq, Dev.lfaultNoted, h31]
  · obtain ⟨hl, hc, hp, hv⟩ := lfaultWord_fields l.isLt hcode x.pc.isLt
    simp only [KeepsRegs, Dev.fld, Dev.bit, BitVec.getLsbD, Dev.reg_lanternFault _ _ _ h31, if_true]
    exact ⟨hl, hc, hp, hv, fun off hoff => if_neg (by simpa using hoff)⟩
  · exact hkeep .arrivals (by simp)
  · exact ((hkeep.trans (keeps_setLantern _ _ _)).trans (keeps_raise s _ 136)).mono (by simp [raising])

end Sys2Proof.Machine
end

section
/-! The issue of a cue (R143, R152, R191): what its ledger entries, its phase at the Dimmer and the token that falls due leave as it
was, and O9 to O11. -/
namespace Sys2Proof.Machine

/-! ### What a phase leaves alone -/

/-- A register that a phase's begin or end may write: the phase's own, DIM_STATUS, DIM_OP_CHANGES. -/
def phaseReg (off : Nat) : Prop := 0x1C01000 ≤ off ∨ off = Reg.dimStatus ∨ off = Reg.dimOpChanges

/-- Only the Dimmer's state, its registers and free values differ. -/
def Dev.DimOnly (d e : Dev) : Prop :=
  d.Within [.dim, .regs, .free] e ∧ ∀ off, ¬phaseReg off → e.reg off = d.reg off

section
variable {d e f : Dev}

theorem Dev.dimOnly_refl (d : Dev) : d.DimOnly d := ⟨d.within_refl.mono (by decide), fun _ _ => rfl⟩

theorem Dev.DimOnly.trans (h : d.DimOnly e) (h' : e.DimOnly f) : d.DimOnly f :=
  ⟨(h.1.trans h'.1).mono (by decide), fun off hoff => (h'.2 off hoff).trans (h.2 off hoff)⟩

theorem Dev.DimOnly.ite {c : Prop} [Decidable c] (h : d.DimOnly e) (h' : d.DimOnly f) : d.DimOnly (if c then e else f) := by
  split <;> assumption

theorem Dev.dimOnly_setFld (d : Dev) {off : Nat} (hi lo n : Nat) (h : phaseReg off) : d.DimOnly (d.setFld off hi lo n) :=
  ⟨(d.within_setFld off hi lo n).mono (by decide), fun x hx => d.reg_setFld_other hi lo n (fun hx' => hx (hx' ▸ h))⟩

theorem Dev.dimOnly_count (d : Dev) {off : Nat} (h : phaseReg off) : d.DimOnly (d.count off) :=
  ⟨(d.within_count off).mono (by decide), fun x hx => d.reg_count_other (fun hx' => hx (hx' ▸ h))⟩

theorem Dev.dimOnly_pulse (d : Dev) (n : Nat) : d.DimOnly (d.pulse n) :=
  ⟨(d.within_pulse n).mono (by decide), fun _ _ => rfl⟩

theorem Dev.dimOnly_dim (d : Dev) (x : Dim) : d.DimOnly { d with dim := x } :=
  ⟨(d.within_dim x).mono (by decide), fun _ _ => rfl⟩

theorem Dev.dimOnly_takeFree (d : Dev) : d.DimOnly d.takeFree.2 := ⟨d.within_takeFree.mono (by decide), fun _ _ => rfl⟩

end

theorem phaseReg_dimPhaseA (p : Nat) : phaseReg (Reg.dimPhaseA p) := Or.inl (Nat.le_add_right _ _)

theorem phaseReg_dimPhaseB (p : Nat) : phaseReg (Reg.dimPhaseB p) := Or.inl (by rw [Reg.dimPhaseB]; omega)

theorem phaseReg_dimStatus : phaseReg Reg.dimStatus := Or.inr (Or.inl rfl)

theorem phaseReg_dimOpChanges : phaseReg Reg.dimOpChanges := Or.inr (Or.inr rfl)

theorem not_phaseReg_of_lt {off : Nat} (h : off < 0x1C00000) : ¬phaseReg off := by
  simp only [phaseReg, Reg.dimStatus, Reg.dimOpChanges]
  omega

theorem Dev.dimOnly_setOp (d : Dev) (op : Nat) : d.DimOnly (d.setOp op) :=
  (d.dimOnly_refl).ite (((d.dimOnly_setFld _ _ _ phaseReg_dimStatus).trans (Dev.dimOnly_count _ phaseReg_dimOpChanges)).trans (Dev.dimOnly_pulse _ _))

theorem Dev.dimOnly_choosePoint (d : Dev) : d.DimOnly d.choosePoint := (d.dimOnly_setOp _).ite d.dimOnly_refl

theorem Dev.dimOnly_setB (d : Dev) (b : Nat) : d.DimOnly (d.setB b) :=
  (d.dimOnly_takeFree.trans (Dev.dimOnly_setFld _ 14 9 b phaseReg_dimStatus)).trans (Dev.dimOnly_dim _ _)

theorem Dev.dimOnly_endOccurrence (d : Dev) (p : Nat) : d.DimOnly (d.endOccurrence p) := by
  have hA (e : Dev) (hi lo n : Nat) := e.dimOnly_setFld hi lo n (phaseReg_dimPhaseA p)
  have hB (e : Dev) (hi lo n : Nat) := e.dimOnly_setFld hi lo n (phaseReg_dimPhaseB p)
  refine d.dimOnly_refl.ite ?_
  cases d.dim.peak with
  | some u => exact Dev.DimOnly.ite ((((hA ..).trans (Dev.dimOnly_takeFree _)).trans (hB ..)).trans (hA ..)) (hA ..)
  | none =>
    exact (d.dimOnly_takeFree).trans
      (Dev.DimOnly.ite ((((hA ..).trans (Dev.dimOnly_takeFree _)).trans (hB ..)).trans (hA ..)) (hA ..))

theorem Dev.dimOnly_phaseCue (d : Dev) (i : Ident) (p : Nat) : d.DimOnly (d.phaseCue i p) := by
  refine d.dimOnly_refl.ite ?_
  exact (((((d.dimOnly_endOccurrence _).trans (Dev.dimOnly_dim _ _)).trans (Dev.dimOnly_setFld _ 23 8 _ (phaseReg_dimPhaseB p))).trans
    (Dev.dimOnly_setB _ _)).trans (Dev.dimOnly_choosePoint _))

/-! ### Ledger entries -/

theorem Dev.counter_setCounter (d : Dev) (n k : Nat) (c : Counter) : (d.setCounter n c).counter k = if k = n then c else d.counter k :=
  tabGet_tabSet ..

/-- The ledger entry of a cue's draw (R152). -/
def owedEntry (w : Nat) (l : Nat × Nat) : Owed := { draw := l.2, grid := gridMark w, coll := collMark w }

/-- One ledger list takes its entry. -/
def Dev.oweOne (d : Dev) (w : Nat) (l : Nat × Nat) : Dev :=
  d.setCounter l.1 { d.counter l.1 with ledger := (d.counter l.1).ledger ++ [owedEntry w l] }

/-- Only counters and the largest ledger differ. -/
def Dev.CountersTo (d e : Dev) : Prop :=
  e = { d with prompter := { d.prompter with counters := e.prompter.counters, peak := e.prompter.peak } }

theorem Dev.CountersTo.trans {d e f : Dev} (h : d.CountersTo e) (h' : e.CountersTo f) : d.CountersTo f := by
  unfold Dev.CountersTo at *
  rw [h', h]

theorem Dev.countersTo_foldl {β : Type} {f : Dev → β → Dev} (hf : ∀ (d : Dev) x, d.CountersTo (f d x)) (xs : List β) (d : Dev) :
    d.CountersTo (xs.foldl f d) := by
  induction xs generalizing d with
  | nil => rfl
  | cons x xs ih => exact (hf d x).trans (ih _)

theorem Dev.countersTo_owe (d : Dev) (w : Nat) (desc : List Byte) : d.CountersTo (d.owe w desc) :=
  Dev.CountersTo.trans (d.countersTo_foldl (f := fun d l => d.oweOne w l) (fun _ _ => rfl) (cueLists w desc)) rfl

theorem Dev.ledger_foldl_oweOne (w : Nat) (ls : List (Nat × Nat)) (d : Dev) (n : Nat) :
    ((ls.foldl (fun d l => d.oweOne w l) d).counter n).ledger =
      (d.counter n).ledger ++ (ls.filter (fun l => l.1 == n)).map (owedEntry w) := by
  induction ls generalizing d with
  | nil => simp
  | cons l ls ih =>
    rw [List.foldl_cons, ih, Dev.oweOne, Dev.counter_setCounter, List.filter_cons]
    by_cases h : n = l.1
    · simp [h]
    · simp [h, Ne.symm h]

/-! ### The package as a cue issues -/

section
variable (s : State) (w : Nat) (desc : List Byte)

theorem dimOnly_issuing : (s.dev.owe w desc).DimOnly (issuing s w desc) :=
  (Dev.dimOnly_phaseCue _ s.ident (cuePhase w)).trans (Dev.dimOnly_pulse _ 0)

theorem keeps_issuing : Keeps issueParts s { s with dev := issuing s w desc } := by
  have howe : Keeps [.prompter] s { s with dev := s.dev.owe w desc } := by
    rw [s.dev.countersTo_owe w desc]
    exact s.dev.within_prompter _ s
  exact (howe.trans ((dimOnly_issuing s w desc).1 s)).mono (List.Subset.refl _)

/-- Only counters and the largest ledger of the Prompter have changed. -/
theorem prompter_issuing : (issuing s w desc).prompter =
    { s.dev.prompter with counters := (issuing s w desc).prompter.counters, peak := (issuing s w desc).prompter.peak } := by
  have hdim : (issuing s w desc).prompter = (s.dev.owe w desc).prompter := (dimOnly_issuing s w desc).1 s .prompter (by simp)
  rw [hdim]
  exact congrArg Dev.prompter (s.dev.countersTo_owe w desc)

theorem pc_issuing : (issuing s w desc).prompter.pc = s.dev.prompter.pc := by rw [prompter_issuing]

theorem loops_issuing : (issuing s w desc).prompter.loops = s.dev.prompter.loops := by rw [prompter_issuing]

theorem stageQueue_issuing : (issuing s w desc).prompter.stageQueue = s.dev.prompter.stageQueue := by rw [prompter_issuing]

theorem digests_issuing : (issuing s w desc).prompter.digests = s.dev.prompter.digests := by rw [prompter_issuing]

theorem reg_issuing {off : Nat} (h : ¬phaseReg off) : (issuing s w desc).reg off = s.dev.reg off := by
  rw [(dimOnly_issuing s w desc).2 off h, s.dev.countersTo_owe w desc]
  rfl

theorem digOn_issuing : (issuing s w desc).digOn = s.dev.digOn := by
  rw [Dev.digOn, Dev.digOn, Dev.bit, Dev.bit, reg_issuing s w desc (not_phaseReg_of_lt (by decide)),
    reg_issuing s w desc (not_phaseReg_of_lt (by decide))]
  rfl

theorem owes_issuing : Owes s w desc { s with dev := issuing s w desc } := by
  intro n
  have hdim : (issuing s w desc).prompter = (s.dev.owe w desc).prompter := (dimOnly_issuing s w desc).1 s .prompter (by simp)
  have hcounter : (issuing s w desc).counter n = (s.dev.owe w desc).counter n := by rw [Dev.counter, hdim, Dev.counter]
  rw [hcounter]
  exact s.dev.ledger_foldl_oweOne w (cueLists w desc) n

end

/-! ### The token that falls due -/

/-- One token more on a counter, its event line apart. -/
def Dev.tokenPosted (d : Dev) (n : Nat) (err bounds : Bool) : Dev :=
  let c := d.counter n
  d.setCounter n { c with count := (c.count + 1) % 65536, err := c.err || err, bounds := c.bounds || bounds }

/-- The pulse of a token's event line, where it has one. -/
def Dev.tokenPulse (d : Dev) (n : Nat) : Dev := match tokenLine n with | some l => d.pulse l | none => d

theorem Dev.tokenPulse_eq (d : Dev) (n : Nat) : d.tokenPulse n = { d with lines := (d.tokenPulse n).lines } := by
  rw [Dev.tokenPulse]
  cases tokenLine n <;> rfl

theorem Dev.postToken_halted {d : Dev} (n : Nat) (err bounds : Bool) (h : d.halted = true) : d.postToken n err bounds = d := by
  rw [Dev.postToken, if_pos h]

theorem Dev.postToken_running {d : Dev} (n : Nat) (err bounds : Bool) (h : d.halted = false) :
    d.postToken n err bounds = (d.tokenPosted n err bounds).tokenPulse n := by
  rw [Dev.postToken, if_neg (by simp [h]), Dev.tokenPulse]
  cases tokenLine n <;> rfl

theorem Dev.within_tokenPulse (d : Dev) (n : Nat) : d.Within [] (d.tokenPulse n) := by
  rw [Dev.tokenPulse]
  cases tokenLine n with
  | none => exact d.within_refl
  | some l => exact d.within_pulse l

theorem Dev.within_postToken (d : Dev) (n : Nat) (err bounds : Bool) : d.Within [.prompter] (d.postToken n err bounds) := by
  cases h : d.halted with
  | true => rw [Dev.postToken_halted _ _ _ h]; exact d.within_refl.mono (by decide)
  | false =>
    rw [Dev.postToken_running _ _ _ h]
    exact ((d.within_setCounter n _).trans (Dev.within_tokenPulse _ n)).mono (by decide)

/-- Posting a token changes counters alone of the Prompter, and no ledger list. -/
theorem Dev.prompter_postToken (d : Dev) (n : Nat) (err bounds : Bool) :
    (d.postToken n err bounds).prompter = { d.prompter with counters := (d.postToken n err bounds).prompter.counters } := by
  cases h : d.halted with
  | true => rw [Dev.postToken_halted _ _ _ h]
  | false => rw [Dev.postToken_running _ _ _ h, Dev.tokenPulse_eq]; rfl

/-- What a counter holds after a token has been posted to a running Prompter (R151, R153). -/
theorem Dev.counter_postToken {d : Dev} (n k : Nat) (err bounds : Bool) (h : d.halted = false) :
    (d.postToken n err bounds).counter k =
      if k = n then { d.counter n with count := ((d.counter n).count + 1) % 65536, err := (d.counter n).err || err
                                       bounds := (d.counter n).bounds || bounds } else d.counter k := by
  rw [Dev.postToken_running _ _ _ h, Dev.tokenPulse_eq]
  exact d.counter_setCounter n k _

theorem Dev.ledger_postToken (d : Dev) (n k : Nat) (err bounds : Bool) :
    ((d.postToken n err bounds).counter k).ledger = (d.counter k).ledger := by
  cases h : d.halted with
  | true => rw [Dev.postToken_halted _ _ _ h]
  | false => rw [Dev.counter_postToken _ _ _ _ h]; split <;> simp_all

theorem Dev.within_post121 (d : Dev) : d.Within [.prompter] d.post121 :=
  (Dev.Within.ite ((d.within_prompter _).trans (Dev.within_postToken _ 121 false false)) d.within_refl).mono (by decide)

theorem Dev.prompter_post121 (d : Dev) :
    d.post121.prompter = { d.prompter with counters := d.post121.prompter.counters, due121 := false } := by
  rw [Dev.post121]
  cases h : d.prompter.due121 with
  | true => rw [if_pos rfl, Dev.prompter_postToken]
  | false =>
    rw [if_neg Bool.false_ne_true]
    simp [← h]

theorem Dev.ledger_post121 (d : Dev) (n : Nat) : (d.post121.counter n).ledger = (d.counter n).ledger := by
  rw [Dev.post121]
  split
  · exact Dev.ledger_postToken ..
  · rfl

theorem Dev.post121_of_none {d : Dev} (h : d.prompter.due121 = false) : d.post121 = d := by
  rw [Dev.post121, h, if_neg Bool.false_ne_true]

/-! ### A row that issues its cue -/

section
variable {s : State} {w : Nat} {desc : List Byte}

/-- A row whose cue is at PC and passes its check acts on the package as the cue issues. -/
theorem runs_issue {c : Instr} {mine : Nat → Bool} {act : Ident → Cue → Dev → Dev} {P : State → Prop} (h : CueAt s w desc)
    (hc : exec c s = onDev (fun i d => d.issue i mine (act i)) s) (hm : mine (cueHere s) = true)
    (hp : P { s with dev := (act s.ident (cueChecked s w desc) (issuing s w desc)).post121 }) : Runs c s P := by
  refine runs_onDev h.1 hc ?_
  rw [Dev.issue_at h mine _ hm]
  exact hp

/-- The cue has retired, whatever else its issue did. -/
theorem movedOn_retire {d : Dev} (hpc : d.prompter.pc = s.dev.prompter.pc) (hloops : d.prompter.loops = s.dev.prompter.loops) :
    MovedOn s { s with dev := d.retire.post121 } := by
  have hafter : d.prompter.after = s.dev.prompter.after := by rw [Prompter.after, Prompter.after, hpc, hloops]
  rw [MovedOn, ← hafter]
  dsimp only
  rw [Dev.prompter_post121]
  exact ⟨rfl, rfl⟩

theorem owes_retire {d : Dev} (h : ∀ n, d.counter n = (issuing s w desc).counter n) : Owes s w desc { s with dev := d.retire.post121 } := by
  intro n
  refine (d.retire.ledger_post121 n).trans (Eq.trans ?_ (owes_issuing s w desc n))
  exact congrArg Counter.ledger (h n)

theorem Dev.within_retire (d : Dev) : d.Within [.prompter] d.retire.post121 := ((d.within_prompter _).trans d.retire.within_post121).mono (by decide)

end

/-! ### Stage cues -/

/-- An entry that is not ready at the front holds the others back (R188). -/
theorem Dev.digFlushAll_of_waiting {d : Dev} (h : ∀ e ∈ d.prompter.digests.head?, e.value = none) : d.digFlushAll = d := by
  rw [Dev.digFlushAll]
  cases hds : d.prompter.digests with
  | nil => rfl
  | cons e es =>
    have he : e.value = none := h e (by simp [hds])
    rw [List.length_cons, Dev.digFlush, hds]
    simp only [he]

section
variable {s : State} {w : Nat} {desc : List Byte}

/-- The checked cue waits for the Stage, its word as `w'`; the Prompter has moved on. -/
def Queued (s : State) (w : Nat) (desc : List Byte) (w' : Nat) (t : State) : Prop :=
  t.dev.prompter.stageQueue = s.dev.prompter.stageQueue ++ [{ cueChecked s w desc with word := w' }] ∧ MovedOn s t ∧ Owes s w desc t

/-- A Stage cue enters the queue and retires. -/
def Dev.stageQueued (d : Dev) (c : Cue) : Dev :=
  ({ d with prompter := { d.prompter with stageQueue := d.prompter.stageQueue ++ [c] } }).retire

/-- The word with which a Stage cue enters the queue: a scene's DIGEST flag is dropped where the digest unit is off (R422). -/
def Dev.queuedWord (d : Dev) (w : Nat) : Nat :=
  if cueClass w == .scene && bitAt w 25 && !d.digOn then putBits w 25 1 0 else w

/-- The digest entry of a scene that waits for its value (R188). -/
def Dev.sceneEntry (d : Dev) (c : Cue) (w : Nat) : DigestEntry := ringEntry c none (d.stageRows w c.desc) 0 (sceneOp w c.desc).n

theorem Dev.enqueueStage_of_flag {d : Dev} {c : Cue} {w : Nat} (hw : d.queuedWord c.word = w)
    (hflag : (cueClass w == .scene && bitAt w 25) = true) :
    d.enqueueStage c = (d.digQueue (d.sceneEntry c w)).stageQueued { c with word := w } := by
  subst hw
  exact congrArg (fun e : Dev => e.stageQueued _) (if_pos hflag)

theorem Dev.enqueueStage_of_plain {d : Dev} {c : Cue} {w : Nat} (hw : d.queuedWord c.word = w)
    (hflag : (cueClass w == .scene && bitAt w 25) = false) : d.enqueueStage c = d.stageQueued { c with word := w } := by
  subst hw
  exact congrArg (fun e : Dev => e.stageQueued _) (if_neg (ne_true_of_eq_false hflag))

/-- What a Stage cue's issue leaves once its digest entry, if it has one, is queued. -/
theorem queued_retire {d : Dev} (w' : Nat) (ds : List DigestEntry)
    (h : d = { issuing s w desc with prompter := { (issuing s w desc).prompter with digests := ds } }) :
    let e := (d.stageQueued { cueChecked s w desc with word := w' }).post121
    Queued s w desc w' { s with dev := e } ∧ e.prompter.digests = ds ∧ Keeps issueParts s { s with dev := e } := by
  subst h
  refine ⟨⟨?_, movedOn_retire (pc_issuing s w desc) (loops_issuing s w desc), owes_retire fun n => rfl⟩, ?_, ?_⟩
  · dsimp only
    rw [Dev.prompter_post121, ← stageQueue_issuing s w desc]
    rfl
  · dsimp only
    rw [Dev.prompter_post121]
    rfl
  · exact ((keeps_issuing s w desc).within ((((issuing s w desc).within_prompter _).trans (Dev.within_prompter _ _)).trans
      (Dev.within_retire _))).mono (by decide)

/-- A Stage cue that queues no digest entry. -/
theorem queued_plain {w' : Nat} (hw : (issuing s w desc).queuedWord w = w') (hnone : (cueClass w' == .scene && bitAt w' 25) = false) :
    let e := ((issuing s w desc).enqueueStage (cueChecked s w desc)).post121
    Queued s w desc w' { s with dev := e } ∧ e.prompter.digests = s.dev.prompter.digests ∧ Keeps issueParts s { s with dev := e } := by
  rw [Dev.enqueueStage_of_plain hw hnone, ← digests_issuing s w desc]
  exact queued_retire w' _ rfl

/-- A flagged scene with the digest unit on queues its entry too. -/
theorem queued_digest (hclass : cueClass w = .scene) (hflag : bitAt w 25 = true) (hon : s.dev.digOn = true)
    (hwait : ∀ e ∈ s.dev.prompter.digests.head?, e.value = none) :
    let e := ((issuing s w desc).enqueueStage (cueChecked s w desc)).post121
    Queued s w desc w { s with dev := e } ∧ Keeps issueParts s { s with dev := e } ∧
      ∃ x : DigestEntry, e.prompter.digests = s.dev.prompter.digests ++ [x] ∧ x.value = none ∧ x.kind = 0 ∧
        x.pc = s.dev.prompter.pc.toNat ∧ x.seq = (s.dev.reg Reg.stgStepSeq).toNat := by
  have hqueue : (issuing s w desc).digQueue ((issuing s w desc).sceneEntry (cueChecked s w desc) w) = { issuing s w desc with
      prompter := { (issuing s w desc).prompter with
        digests := s.dev.prompter.digests ++ [(issuing s w desc).sceneEntry (cueChecked s w desc) w] } } := by
    rw [Dev.digQueue, digests_issuing]
    refine Dev.digFlushAll_of_waiting fun e he => ?_
    dsimp only at he
    cases hds : s.dev.prompter.digests with
    | nil => rw [hds] at he; cases he; rfl
    | cons y ys => rw [hds] at he; exact hwait e (by rw [hds]; exact he)
  have hword : (issuing s w desc).queuedWord w = w := by
    rw [Dev.queuedWord, digOn_issuing, hon, Bool.not_true, Bool.and_false, if_neg Bool.false_ne_true]
  obtain ⟨hq, hds, hk⟩ := queued_retire (w := w) (desc := desc) w _ hqueue
  rw [Dev.enqueueStage_of_flag (c := cueChecked s w desc) hword (by rw [hclass, hflag]; rfl)]
  exact ⟨hq, hk, _, hds, rfl, rfl, rfl, rfl⟩

theorem Dev.within_digWrite (d : Dev) (e : DigestEntry) (v : W64) : d.Within (.mems :: failing) (d.digWrite e v) := by
  have hput : d.Within (.mems :: failing) (((d.store .hbm (d.digBase + 32 * d.fld Reg.stgDigWr 19 0) (d.digEntry e v)).2).setFld
      Reg.stgDigWr 19 0 ((d.fld Reg.stgDigWr 19 0 + 1) % d.digSize)) :=
    ((d.within_store _ _ _).trans (Dev.within_setFld _ _ _ _ _)).mono (by decide)
  exact (d.within_refl.ite (Dev.Within.ite (hput.trans (Dev.within_flagRaise _ _ 1 67)) hput)).mono (by decide)

theorem isClass_here {c : CueClass} (hhere : cueClass w = cueClass (cueHere s)) (hc : cueClass w = c) : isClass c (cueHere s) = true := by
  simp [isClass, ← hhere, hc]

/-- Settles O9: the checked cue goes to the end of the Stage queue, its flag as the digest unit allows. -/
theorem stageCuesIssue : Obligations.StageCuesIssue := by
  unfold Obligations.StageCuesIssue
  intro s w desc h hhere d queued
  have plain {c : Instr} {k : CueClass} (w' : Nat) (hc : exec c s =
      onDev (fun i d => d.issue i (isClass k) (fun c d => d.enqueueStage c)) s) (hk : cueClass w = k)
      (hw : (issuing s w desc).queuedWord w = w')
      (hnone : (cueClass w' == .scene && bitAt w' 25) = false) :
      Runs c s (fun t => queued w' t ∧ t.dev.prompter.digests = d.prompter.digests ∧ Keeps issueParts s t) :=
    runs_issue h hc (isClass_here hhere hk) (queued_plain hw hnone)
  refine ⟨fun hk => ?_, fun hk => ?_, fun hk hflag => ?_, fun hk hflag hoff => ?_, fun hk hflag hon hwait => ?_⟩
  · exact plain w rfl hk (by simp [Dev.queuedWord, hk]) (by simp [hk])
  · exact plain w rfl hk (by simp [Dev.queuedWord, hk]) (by simp [hk])
  · exact plain w rfl hk (by simp [Dev.queuedWord, hflag]) (by simp [hflag])
  · refine plain (putBits w 25 1 0) rfl hk ?_ ?_
    · rw [Dev.queuedWord, digOn_issuing, if_pos (by rw [hk, hflag, hoff]; rfl)]
    · simp [bitAt, testBit_putBits]
  · exact runs_issue (act := fun _ c d => d.enqueueStage c) h rfl (isClass_here hhere hk) (queued_digest hk hflag hon hwait)

/-! ### NOP, EVENT, HINT, LOOP -/

theorem movedOn_issued (w : Nat) (desc : List Byte) {d : Dev} (hp : d.prompter = (issuing s w desc).prompter) : MovedOn s { s with dev := d.retire.post121 } :=
  movedOn_retire (by rw [hp, pc_issuing]) (by rw [hp, loops_issuing])

/-- An issued cue that retires changes what every issue may beside what its own act does. -/
theorem keeps_issued {d : Dev} {ps qs : List Part} (h : (issuing s w desc).Within ps d) (hqs : issueParts ++ ps ⊆ qs) :
    Keeps qs s { s with dev := d.retire.post121 } :=
  (((keeps_issuing s w desc).within h).within (Dev.within_retire _)).mono
    (List.append_subset.mpr ⟨hqs, List.Subset.trans (by decide) (List.Subset.trans (List.subset_append_left _ _) hqs)⟩)

theorem Raised.congr {src : Nat} {t u : State} (h : Raised src s t) (hu : u.dev.arrivals = t.dev.arrivals) : Raised src s u := by
  have hcount : ∀ x, u.dev.arrivalCount x = t.dev.arrivalCount x := fun x => by rw [Dev.arrivalCount, hu, Dev.arrivalCount]
  exact ⟨(hcount src).trans h.1, fun x hx => (hcount x).trans (h.2 x hx)⟩

/-- A HINT changes the Dimmer alone (R448). -/
theorem Dev.dimOnly_hintCue (d : Dev) (op demand lead : Nat) : d.DimOnly (d.hintCue op demand lead) :=
  d.dimOnly_refl.ite ((d.dimOnly_dim _).trans (Dev.dimOnly_choosePoint _))

/-- The HINT in force and its pre-arms are the same. -/
def Dev.HintKept (d e : Dev) : Prop := e.dim.hint = d.dim.hint ∧ e.dim.prearm = d.dim.prearm

theorem Dev.hintKept_refl (d : Dev) : d.HintKept d := ⟨rfl, rfl⟩

theorem Dev.HintKept.trans {d e f : Dev} (h : d.HintKept e) (h' : e.HintKept f) : d.HintKept f :=
  ⟨h'.1.trans h.1, h'.2.trans h.2⟩

theorem Dev.HintKept.ite {d e f : Dev} {c : Prop} [Decidable c] (h : d.HintKept e) (h' : d.HintKept f) :
    d.HintKept (if c then e else f) := by
  split <;> assumption

theorem Dev.hintKept_setFld (d : Dev) (off hi lo n : Nat) : d.HintKept (d.setFld off hi lo n) := ⟨rfl, rfl⟩

theorem Dev.hintKept_takeFree (d : Dev) : d.HintKept d.takeFree.2 := ⟨rfl, rfl⟩

theorem Dev.hintKept_dim (d : Dev) {x : Dim} (hh : x.hint = d.dim.hint) (hp : x.prearm = d.dim.prearm) :
    d.HintKept { d with dim := x } := ⟨hh, hp⟩

theorem Dev.hintKept_setB (d : Dev) (b : Nat) : d.HintKept (d.setB b) :=
  (d.hintKept_takeFree.trans (Dev.hintKept_setFld _ _ 14 9 b)).trans (Dev.hintKept_dim _ (by rfl) (by rfl))

theorem Dev.hintKept_choosePoint (d : Dev) : d.HintKept d.choosePoint :=
  Dev.HintKept.ite (d.hintKept_refl.ite ⟨rfl, rfl⟩) d.hintKept_refl

theorem Dev.hintKept_endOccurrence (d : Dev) (p : Nat) : d.HintKept (d.endOccurrence p) := by
  have hset (e : Dev) (off hi lo n : Nat) := e.hintKept_setFld off hi lo n
  refine d.hintKept_refl.ite ?_
  cases d.dim.peak with
  | some u => exact Dev.HintKept.ite ((((hset ..).trans (Dev.hintKept_takeFree _)).trans (hset ..)).trans (hset ..)) (hset ..)
  | none =>
    exact (d.hintKept_takeFree).trans
      (Dev.HintKept.ite ((((hset ..).trans (Dev.hintKept_takeFree _)).trans (hset ..)).trans (hset ..)) (hset ..))

theorem Dev.hintKept_phaseCue (d : Dev) (i : Ident) (p : Nat) : d.HintKept (d.phaseCue i p) := by
  refine d.hintKept_refl.ite ?_
  exact ((((d.hintKept_endOccurrence _).trans (Dev.hintKept_dim _ (by rfl) (by rfl))).trans (Dev.hintKept_setFld _ _ 23 8 _)).trans
    (Dev.hintKept_setB _ _)).trans (Dev.hintKept_choosePoint _)

theorem hint_issuing : (issuing s w desc).dim.hint = s.dev.dim.hint ∧ (issuing s w desc).dim.prearm = s.dev.dim.prearm := by
  have howe : (s.dev.owe w desc).dim = s.dev.dim := by rw [s.dev.countersTo_owe w desc]
  rw [← howe]
  exact (s.dev.owe w desc).hintKept_phaseCue s.ident (cuePhase w)

/-- What an issued HINT leaves of the HINT in force and the pre-arms (R448). -/
theorem Dev.hint_hintCue (d : Dev) (op demand lead : Nat) :
    (d.fld Reg.dimCtrl 1 0 < 2 → d.HintKept (d.hintCue op demand lead)) ∧
    (2 ≤ d.fld Reg.dimCtrl 1 0 → (d.hintCue op demand lead).dim.hint = (if op = 7 then none else some op) ∧
      (d.hintCue op demand lead).dim.prearm = if demand = 0 then d.dim.prearm else d.dim.prearm ++ [(lead, demand)]) := by
  rw [Dev.hintCue]
  refine ⟨fun h => ?_, fun h => ?_⟩
  · rw [if_pos h]
    exact d.hintKept_refl
  · rw [if_neg (Nat.not_lt.mpr h)]
    exact Dev.hintKept_choosePoint _

/-- Settles O10: each issues, does its own small act and retires. -/
theorem simpleCuesIssue : Obligations.SimpleCuesIssue := by
  unfold Obligations.SimpleCuesIssue
  intro s w desc h hhere hfunc d
  refine ⟨fun hk => ?_, fun hk hf => ?_, fun hk => ?_, fun hk => ?_⟩
  · exact runs_issue (act := fun _ _ d => d.retire) h rfl (isClass_here hhere hk)
      ⟨movedOn_issued w desc rfl, keeps_issued (Dev.within_refl _) (by decide)⟩
  · have hmine : (cueClass (cueHere s) == .sync && decide (4 ≤ cueFunc (cueHere s))) = true := by
      simp [← hhere, ← hfunc, hk, hf]
    refine runs_issue (act := fun _ c d => (d.raise (96 + bits c.word 56 4)).retire) h rfl hmine 
      ⟨movedOn_issued w desc (by simp), ?_, ?_⟩
    · have hkept : (issuing s w desc).arrivals = s.dev.arrivals := keeps_issuing s w desc .arrivals (by simp [issueParts])
      exact (raised_raise hkept (96 + bits w 56 4)).congr (Dev.within_retire _ s .arrivals (by simp))
    · exact keeps_issued (Dev.within_raise _ _) (by decide)
  · have hdim (x : Dev) : x.retire.post121.dim = x.dim := x.within_retire s .dim (by simp)
    have hctrl : (issuing s w desc).fld Reg.dimCtrl 1 0 = d.fld Reg.dimCtrl 1 0 :=
      Dev.fld_congr (reg_issuing s w desc (by simp [phaseReg, Reg.dimCtrl, Reg.dimStatus, Reg.dimOpChanges])) 1 0
    obtain ⟨hoff, hon⟩ := (issuing s w desc).hint_hintCue (bits w 32 3) (bits w 36 7) (bits w 44 16)
    have hfirst := hint_issuing (s := s) (w := w) (desc := desc)
    refine runs_issue (act := fun _ c d => (d.hintCue (bits c.word 32 3) (bits c.word 36 7) (bits c.word 44 16)).retire) h rfl
      (isClass_here hhere hk) ⟨movedOn_issued w desc ?_, keeps_issued (Dev.dimOnly_hintCue _ _ _ _).1 (by decide), ?_⟩
    · exact (Dev.dimOnly_hintCue _ _ _ _).1 s .prompter (by simp)
    · dsimp only
      rw [hdim, ← hctrl, ← hfirst.1, ← hfirst.2]
      exact ⟨hoff, hon⟩
  · refine runs_issue (act := fun _ c d => d.openLoop c) h rfl (isClass_here hhere hk) ⟨?_, ?_, ?_⟩
    · exact ((keeps_issuing s w desc).within (((issuing s w desc).within_prompter _).trans (Dev.within_post121 _))).mono (by decide)
    · dsimp only
      rw [Dev.prompter_post121]
      exact (BitVec.ofNat_add ..).trans (congrArg (· + 1) (BitVec.ofNat_toNat ..))
    · dsimp only
      rw [Dev.prompter_post121]
      exact congrArg (· ++ _) (loops_issuing s w desc)

/-- Settles O11: the mark is ready at once, so it is written unless an entry before it waits. -/
theorem digestMark : Obligations.DigestMark := by
  unfold Obligations.DigestMark
  intro s w desc h hk hhere d e
  have hmark (e' : Dev) (he : (if (issuing s w desc).digOn then (issuing s w desc).digQueue e else issuing s w desc) = e')
      (P : State → Prop) (hp : P { s with dev := e'.retire.post121 }) : Runs .digest s P :=
    runs_issue (act := fun _ c d => d.mark c) h rfl (by simp [isClass, hhere]) (by subst he; exact hp)
  have hds := digests_issuing s w desc
  refine ⟨fun hoff => ?_, fun hon hwait => ?_, fun hon hnil => ?_⟩
  · refine hmark (issuing s w desc) ?_ _ ⟨movedOn_issued w desc rfl, ?_, keeps_issued (Dev.within_refl _) (by decide)⟩
    · rw [digOn_issuing, hoff, if_neg Bool.false_ne_true]
    · dsimp only
      rw [Dev.prompter_post121]
      exact hds
  · obtain ⟨x, xs, hxs, hx⟩ := hwait
    refine hmark { issuing s w desc with prompter := { (issuing s w desc).prompter with digests := d.prompter.digests ++ [e] } } ?_ _
      ⟨movedOn_retire (pc_issuing s w desc) (loops_issuing s w desc), ?_, keeps_issued (Dev.within_prompter _ _) (by decide)⟩
    · rw [digOn_issuing, hon, if_pos rfl, Dev.digQueue, hds]
      refine Dev.digFlushAll_of_waiting fun y hy => ?_
      rw [hxs] at hy
      cases hy
      exact hx
    · dsimp only
      rw [Dev.prompter_post121]
      rfl
  · refine hmark ((issuing s w desc).digWrite e (BitVec.ofNat 64 (bits w 32 32))) ?_ _ ⟨movedOn_issued w desc ?_, rfl⟩
    · have hpop : ({ issuing s w desc with prompter := { (issuing s w desc).prompter with digests := [] } } : Dev) = issuing s w desc := by
        rw [← hnil, ← hds]
      rw [digOn_issuing, hon, if_pos rfl, Dev.digQueue, hds, hnil]
      exact congrArg (fun x : Dev => x.digWrite e (BitVec.ofNat 64 (bits w 32 32))) hpop
    · exact Dev.within_digWrite _ _ _ s .prompter (by decide)

end

end Sys2Proof.Machine
end

section
/-! Cues that fail their check, and what a fault of the Prompter leaves (R147, R148, R194, R197): O12 and O13. -/
namespace Sys2Proof.Machine

/-! ### The check -/

/-- The fault codes of R148, as the check tries them. -/
def checkCodes : List Nat := [0x01, 0x02, 0x03, 0x12, 0x30, 0x31, 0x60]

theorem Dev.checkFails_sublist (d : Dev) (i : Ident) (w : Nat) (desc : List Byte) : (d.checkFails i w desc).Sublist checkCodes :=
  (List.filter_sublist).map Prod.fst

/-- The codes of the failed checks ascend. -/
theorem Dev.checkFails_ascend {d : Dev} {i : Ident} {w code : Nat} {desc : List Byte} {codes : List Nat}
    (h : d.checkFails i w desc = code :: codes) : ∀ c ∈ codes, code < c := by
  have hsorted : checkCodes.Pairwise (· < ·) := by decide
  have := hsorted.sublist (d.checkFails_sublist i w desc)
  rw [h] at this
  exact (List.pairwise_cons.mp this).1

/-- A reserved opcode fails the first check. -/
theorem Dev.checkFails_illegal (d : Dev) (i : Ident) {w : Nat} (desc : List Byte) (h : cueClass w = .illegal) :
    (d.checkFails i w desc).head? = some 1 := by
  simp [Dev.checkFails, h]

section
variable {s : State} {w code : Nat} {codes : List Nat}

/-- A row whose cue is at PC and fails its check faults with the first code. -/
theorem Dev.issue_of_fails {mine : Nat → Bool} {act : Cue → Dev → Dev} (hmay : s.dev.mayIssue = true)
    (hword : s.dev.errorsIn .cue (16 * s.dev.prompter.pc.toNat) 16 = []) (hindexed : s.dev.indexedCue (cueHere s) = some w)
    (hdesc : descInStore w = true) (herr : s.dev.errorsIn .cue (64 * cueDesc w) (64 * (cueClass w).units) = [])
    (hfails : s.dev.checkFails s.ident w (memBytes s.dev.mems.cue (64 * cueDesc w) (64 * (cueClass w).units)) = code :: codes)
    (hmine : mine (cueHere s) = true)
    (hroom : ((cueClass (cueHere s)).stage && decide (4 ≤ s.dev.prompter.stageQueue.length)) = false) :
    s.dev.issue s.ident mine act = (s.dev.cueFault code).post121 := by
  have hhere : s.dev.cueWord s.dev.prompter.pc.toNat = cueHere s := rfl
  have hcheck : s.dev.check s.ident = (none, s.dev.cueFault code) := by
    simp only [Dev.check, Dev.readErrors_none hword, hhere, hindexed, hdesc, Dev.readErrors_none herr, Dev.load, Mems.get, hfails]
    rfl
  rw [Dev.issue, hhere]
  simp only [hmay, hmine, hroom, hcheck]
  rfl

end

/-- Settles O12: the check stops at the first code of the list, which ascends. -/
theorem checkFaults : Obligations.CheckFaults := by
  unfold Obligations.CheckFaults
  intro s w code codes d n hon hmay hword hindexed hdesc herr hfails
  have row {c : Instr} {k : CueClass} {act : Ident → Cue → Dev → Dev} (hc : exec c s = onDev (fun i d => d.issue i (isClass k) (act i)) s)
      (hk : isClass k (cueHere s) = true) (hroom : k.stage = true → d.prompter.stageQueue.length < 4) :
      Runs c s (fun t => t = { s with dev := (d.cueFault code).post121 }) := by
    refine runs_onDev hon hc ?_
    have hclass : cueClass (cueHere s) = k := by simpa [isClass] using hk
    rw [Dev.issue_of_fails hmay hword hindexed hdesc herr hfails hk]
    rw [hclass]
    cases hs : k.stage with
    | false => rfl
    | true => simpa using hroom hs
  refine ⟨Dev.checkFails_ascend hfails, fun hill => ?_, fun hk => ?_, fun hk => ?_, fun hk => ?_, fun hk hroom => ?_⟩
  · have := d.checkFails_illegal s.ident (memBytes d.mems.cue (64 * cueDesc w) n) hill
    rw [hfails] at this
    simpa using this
  · exact row (act := fun _ _ d => d.retire) rfl hk (by simp [CueClass.stage])
  · exact row (act := fun _ _ d => d.retire) rfl hk (by simp [CueClass.stage])
  · exact row (act := fun _ c d => d.startWait c) rfl hk (by simp [CueClass.stage])
  · exact row (act := fun _ c d => d.enqueueStage c) rfl hk (fun _ => hroom)

/-! ### A fault -/

theorem Dev.within_countReplayFault (d : Dev) : d.Within [.cast] d.countReplayFault := ((d.within_cast _).ite d.within_refl).mono (by decide)

theorem Dev.ahead_countReplayFault (d : Dev) : d.countReplayFault.cast.ahead = d.cast.ahead := by
  rw [Dev.countReplayFault]
  split <;> rfl

theorem Dev.within_writeFault (d : Dev) (code : Nat) (inScene : Bool) (tile : Nat) (multi : Bool) (pc : BitVec 18) :
    d.Within [.regs] (d.writeFault code inScene tile multi pc) :=
  (((d.within_setReg _ _).trans (Dev.within_setReg _ _ _)).trans (Dev.within_setReg _ _ _)).mono (by decide)

theorem Dev.reg_writeFault (d : Dev) (code : Nat) (inScene : Bool) (tile : Nat) (multi : Bool) (pc : BitVec 18) :
    let e := d.writeFault code inScene tile multi pc
    e.reg Reg.stgFaultCode = BitVec.ofNat 32 (code + b2n inScene * 256) ∧
      e.reg Reg.stgFaultTile = BitVec.ofNat 32 (tile + b2n multi * 512) ∧ e.reg Reg.stgFaultPc = pc.setWidth 32 := by
  refine ⟨?_, ?_, Dev.reg_setReg_same ..⟩
  · exact (Dev.reg_setReg_other _ _ (by decide)).trans ((Dev.reg_setReg_other _ _ (by decide)).trans (Dev.reg_setReg_same ..))
  · exact (Dev.reg_setReg_other _ _ (by decide)).trans (Dev.reg_setReg_same ..)

/-- The Prompter as a halt leaves it (R197). -/
def Prompter.stopped (p : Prompter) : Prompter :=
  { p with run := .halted, wait := none, counters := [], loops := [], stageQueue := [], digests := [], due121 := false }

/-- What a halt may change. -/
def haltParts : List Part := [.prompter, .colls, .hck, .slots, .stage]

theorem Dev.within_goDark (d : Dev) : d.Within [.stage] d.goDark := d.within_stage _

theorem Dev.within_slots (d : Dev) (x : Tab Slot) : d.Within [.slots] { d with slots := x } := by
  intro s p hp
  cases p with
  | slots | lines => simp at hp
  | _ => rfl

/-- A halt: the Prompter stops, its collectives, its CURTAIN and the counts of the step go, and the Stage ends its cue or darkens. -/
theorem Dev.haltPrompter_eq (d : Dev) : ∃ x : Stage, d.haltPrompter = { ({ d with
    prompter := d.prompter.stopped, colls := [], hck := { d.hck with curtain := none } } : Dev).dropCounts with stage := x } := by
  rw [Dev.haltPrompter]
  dsimp only
  split
  · exact ⟨_, rfl⟩
  · exact ⟨_, rfl⟩

theorem Dev.within_haltPrompter (d : Dev) : d.Within haltParts d.haltPrompter := by
  obtain ⟨x, hx⟩ := d.haltPrompter_eq
  rw [hx]
  exact (((((d.within_prompter d.prompter.stopped).trans (Dev.within_colls _ [])).trans (Dev.within_hck _ _)).trans
    (Dev.within_slots _ _)).trans (Dev.within_stage _ x)).mono (by decide)

theorem Dev.prompter_haltPrompter (d : Dev) : d.haltPrompter.prompter = d.prompter.stopped := by
  obtain ⟨x, hx⟩ := d.haltPrompter_eq
  rw [hx]
  rfl

theorem Dev.flushTransfers_of_empty {d : Dev} (h : d.xfers = []) : d.flushTransfers = d := by
  have hnone (qs : List Nat) : qs.foldl (fun d q => (d.queue q).foldl (fun d x => (d.runMove x).2) d) d = d := by
    induction qs with
    | nil => rfl
    | cons q qs ih =>
      have hq : d.queue q = [] := by rw [Dev.queue, h]; rfl
      rw [List.foldl_cons, hq]
      exact ih
  rw [Dev.flushTransfers, hnone, h, List.filter_nil, ← h]

theorem Dev.dropAhead_of_none {d : Dev} (h : d.cast.ahead = none) : d.dropAhead = d := by
  rw [Dev.dropAhead, h]

/-- A fault of a Prompter that runs, with no transfer in flight and no manifest formed ahead. -/
theorem Dev.promptFault_plain {d : Dev} (code : Nat) (inScene : Bool) (tile : Nat) (multi : Bool) (pc : BitVec 18)
    (hrun : d.halted = false) (hxfers : d.xfers = []) (hahead : d.cast.ahead = none) :
    d.promptFault code inScene tile multi pc =
      ((d.countReplayFault.writeFault code inScene tile multi pc).haltPrompter).raise 64 := by
  have hkeep : (d.countReplayFault).Within (.regs :: haltParts) (d.countReplayFault.writeFault code inScene tile multi pc).haltPrompter :=
    (Dev.within_writeFault _ code inScene tile multi pc).trans (Dev.within_haltPrompter _)
  have hxs : (d.countReplayFault.writeFault code inScene tile multi pc).haltPrompter.xfers = d.xfers :=
    (hkeep.part .xfers (by decide)).trans (d.within_countReplayFault.part .xfers (by decide))
  have hcast : (d.countReplayFault.writeFault code inScene tile multi pc).haltPrompter.cast = d.countReplayFault.cast := hkeep.part .cast (by decide)
  rw [Dev.promptFault, if_neg (by simp [hrun]), Dev.flushTransfers_of_empty (hxs.trans hxfers),
    Dev.dropAhead_of_none (by rw [hcast, Dev.ahead_countReplayFault, hahead])]

/-- Settles O13: with nothing in flight a fault records itself and halts the Prompter. -/
theorem promptFaultRecords : Obligations.PromptFaultRecords := by
  unfold Obligations.PromptFaultRecords
  intro d code hrun hcode hxfers hahead e
  have he : e = _ := Dev.promptFault_plain code false 0x1FF false d.prompter.pc hrun hxfers hahead
  clear_value e
  subst he
  have hcount := d.within_countReplayFault
  have hwrite := Dev.within_writeFault d.countReplayFault code false 0x1FF false d.prompter.pc
  have hhalt := Dev.within_haltPrompter (d.countReplayFault.writeFault code false 0x1FF false d.prompter.pc)
  have hprompter : (d.countReplayFault.writeFault code false 0x1FF false d.prompter.pc).prompter = d.prompter :=
    (hwrite.part .prompter (by decide)).trans (hcount.part .prompter (by decide))
  have hstopped := (Dev.prompter_haltPrompter _).trans (congrArg Prompter.stopped hprompter)
  obtain ⟨hfault, -, hpc⟩ := d.countReplayFault.reg_writeFault code false 0x1FF false d.prompter.pc
  have hreg (off : Nat) := Dev.reg_congr (hhalt.part .regs (by decide)) off
  have harr : (d.countReplayFault.writeFault code false 0x1FF false d.prompter.pc).haltPrompter.arrivals = d.arrivals :=
    (hhalt.part .arrivals (by decide)).trans ((hwrite.part .arrivals (by decide)).trans (hcount.part .arrivals (by decide)))
  simp only [Dev.halted, Dev.raise_prompter, hstopped, Dev.reg_raise, hreg, hfault, hpc]
  refine ⟨rfl, rfl, rfl, rfl, rfl, ?_, trivial, ?_, ?_, rfl⟩
  · rfl
  · rw [Dev.arrivalCount_raise, if_pos rfl, Dev.arrivalCount, harr, Dev.arrivalCount]
  · rw [Dev.raise_mems]
    exact (hhalt.part .mems (by decide)).trans ((hwrite.part .mems (by decide)).trans (hcount.part .mems (by decide)))

end Sys2Proof.Machine
end

section
/-! Transfers, waits and collectives as cues begin and end them (R156, R173, R176, R184, R387): O14 to O19. -/
namespace Sys2Proof.Machine

/-! ### MOVE -/

theorem Dev.queue_setQueue (d : Dev) (q k : Nat) (xs : List Transfer) : (d.setQueue q xs).queue k = if k = q then xs else d.queue k :=
  tabGet_tabSet ..

section
variable {s : State} {w : Nat} {desc : List Byte}

theorem queue_issuing (k : Nat) : (issuing s w desc).queue k = s.dev.queue k := by
  have hxfers : (issuing s w desc).xfers = s.dev.xfers := keeps_issuing s w desc .xfers (by decide)
  rw [Dev.queue, hxfers, Dev.queue]

/-- A transfer begins: it stands last in its queue. -/
theorem runs_startMove {c : Instr} {mine : Nat → Bool} (h : CueAt s w desc)
    (hc : exec c s = onDev (fun i d => d.issue i mine (fun c d => d.startMove c)) s) (hm : mine (cueHere s) = true) :
    Runs c s (fun t =>
      t.dev.queue (moveQueue w) = s.dev.queue (moveQueue w) ++
        [{ cue := cueChecked s w desc, rows := (issuing s w desc).rowCount (moveOp desc).msel (moveOp desc).rows, index := 0, got := 0
           err := false }] ∧
      (∀ k, k ≠ moveQueue w → t.dev.queue k = s.dev.queue k) ∧ MovedOn s t ∧ Keeps (.xfers :: issueParts) s t) := by
  refine runs_issue (act := fun _ c d => d.startMove c) h hc hm ?_
  let x : Transfer := { cue := cueChecked s w desc, rows := (issuing s w desc).rowCount (moveOp desc).msel (moveOp desc).rows
                        index := 0, got := 0, err := false }
  have hstart : (issuing s w desc).startMove (cueChecked s w desc) =
      ((issuing s w desc).setQueue (moveQueue w) ((issuing s w desc).queue (moveQueue w) ++ [x])).retire := rfl
  have hqueue (d : Dev) (k : Nat) : d.retire.post121.queue k = d.queue k := by
    rw [Dev.queue, d.within_retire.part .xfers (by decide), Dev.queue]
  rw [hstart]
  refine ⟨?_, fun k hk => ?_, movedOn_issued w desc rfl, keeps_issued (Dev.within_setQueue _ _ _) (by decide)⟩
  · rw [hqueue, Dev.queue_setQueue, if_pos rfl, queue_issuing]
  · rw [hqueue, Dev.queue_setQueue, if_neg hk, queue_issuing]

end

/-- Settles O14: each mode begins its transfer. -/
theorem movesBegin : Obligations.MovesBegin := by
  unfold Obligations.MovesBegin
  intro s w desc h d m q c hc hmine
  simp only [List.mem_cons, List.not_mem_nil, or_false] at hc
  rcases hc with rfl | rfl | rfl | rfl
  · exact runs_startMove h rfl (by rw [hmine]; rfl)
  · exact runs_startMove h rfl hmine
  · exact runs_startMove h rfl hmine
  · exact runs_startMove h rfl hmine

/-- Settles O15: each begins as the next of its queue. -/
theorem fabricMovesBegin : Obligations.FabricMovesBegin := by
  unfold Obligations.FabricMovesBegin
  intro s w desc h d m q next counted x sk
  exact ⟨fun hm => runs_issue (act := fun _ c d => d.startSend c) h rfl hm rfl,
    fun hm => runs_issue (act := fun _ c d => d.startReceive c) h rfl hm rfl⟩

/-! ### WAIT -/

theorem Dev.within_startWait (d : Dev) (c : Cue) : d.Within [.prompter, .dim] (d.startWait c) := by
  intro s p hp
  cases p with
  | prompter | dim | lines => simp at hp
  | _ => rfl

theorem runs_wait {s : State} {w : Nat} {desc : List Byte} (h : CueAt s w desc) (hm : isClass .wait (cueHere s) = true) :
    Runs .wait s (fun t => t.dev.prompter.wait = some { ctr := cueCtr w, count := bits w 40 7 } ∧
      t.dev.prompter.pc = s.dev.prompter.pc ∧ t.dev.prompter.loops = s.dev.prompter.loops ∧ Keeps issueParts s t) := by
  refine runs_issue (act := fun _ c d => d.startWait c) h rfl hm ?_
  refine ⟨?_, ?_, ?_, 
    ((keeps_issuing s w desc).within ((Dev.within_startWait _ (cueChecked s w desc)).trans (Dev.within_post121 _))).mono (by decide)⟩
  · dsimp only
    rw [Dev.prompter_post121]
    rfl
  · dsimp only
    rw [Dev.prompter_post121]
    exact pc_issuing s w desc
  · dsimp only
    rw [Dev.prompter_post121]
    exact loops_issuing s w desc

/-- The counter of a WAIT after it has taken its tokens (R156). -/
def Counter.waited (c : Counter) (x : WaitCue) : Counter :=
  { c with count := c.count - x.count, ledger := if x.ctr < 120 then c.ledger.drop x.count else c.ledger }

/-- A stalled WAIT that holds its tokens, none of them an error. -/
theorem Dev.waitRetire_of_good {d : Dev} {x : WaitCue} (hwait : d.prompter.wait = some x) (hhalt : d.halting = false)
    (hcount : x.count ≤ (d.counter x.ctr).count) (herr : (d.counter x.ctr).err = false) :
    let e := (d.setCounter x.ctr ((d.counter x.ctr).waited x)).retire
    d.waitRetire = if x.ctr = 120 then e.manifestTaken else e := by
  rw [Dev.waitRetire, hwait]
  simp only [Counter.waited, hhalt, herr, decide_eq_false (Nat.not_lt.mpr hcount), Bool.or_self, Bool.false_eq_true, if_false]

theorem Dev.waitRetire_of_error {d : Dev} {x : WaitCue} (hwait : d.prompter.wait = some x) (hhalt : d.halting = false)
    (hcount : x.count ≤ (d.counter x.ctr).count) (herr : (d.counter x.ctr).err = true) :
    d.waitRetire = d.cueFault (if (d.counter x.ctr).bounds then 0x03 else 0x11) := by
  rw [Dev.waitRetire, hwait]
  simp only [hhalt, herr, decide_eq_false (Nat.not_lt.mpr hcount), Bool.or_self, Bool.false_eq_true, if_false, if_true]

/-- The manifest may be read; the results of a step without emit rows may fall due (R158, R275). -/
theorem Dev.manifestTaken_eq (d : Dev) : ∃ b x, d.manifestTaken =
    { d with prompter := { d.prompter with manifestRead := true, due121 := b }, cast := x } := by
  rw [Dev.manifestTaken]
  split
  · exact ⟨_, _, rfl⟩
  · exact ⟨_, _, rfl⟩

theorem Dev.within_manifestTaken (d : Dev) : d.Within [.prompter, .cast] d.manifestTaken := by
  obtain ⟨b, x, he⟩ := d.manifestTaken_eq
  rw [he]
  intro s p hp
  cases p with
  | prompter | cast | lines => simp at hp
  | _ => rfl

theorem runs_waitRetire {s : State} {x : WaitCue} (hon : On s) (hwait : s.dev.prompter.wait = some x) (hhalt : s.dev.halting = false)
    (hcount : x.count ≤ (s.dev.counter x.ctr).count) (herr : (s.dev.counter x.ctr).err = false) :
    Runs .waitRetire s (fun t => t.dev.counter x.ctr = (s.dev.counter x.ctr).waited x ∧
      (∀ n, n ≠ x.ctr → t.dev.counter n = s.dev.counter n) ∧ MovedOn s t ∧
      (x.ctr = 120 → t.dev.prompter.manifestRead = true) ∧ Keeps [.prompter, .cast] s t) := by
  refine runs_onDev hon (f := fun _ d => d.waitRetire) rfl ?_
  rw [Dev.waitRetire_of_good hwait hhalt hcount herr]
  have hcounter (n : Nat) := s.dev.counter_setCounter x.ctr n ((s.dev.counter x.ctr).waited x)
  have hsame : (s.dev.counter x.ctr).waited x = (s.dev.setCounter x.ctr ((s.dev.counter x.ctr).waited x)).counter x.ctr :=
    ((hcounter x.ctr).trans (if_pos rfl)).symm
  have hframe : s.dev.Within [.prompter, .cast] (s.dev.setCounter x.ctr ((s.dev.counter x.ctr).waited x)).retire :=
    ((s.dev.within_setCounter _ _).trans (Dev.within_prompter _ _)).mono (by decide)
  split
  · next h120 =>
    have htaken := ((hframe.trans (Dev.within_manifestTaken _)).mono (qs := [.prompter, .cast]) (by decide)).keeps
    obtain ⟨b, y, he⟩ := ((s.dev.setCounter x.ctr ((s.dev.counter x.ctr).waited x)).retire).manifestTaken_eq
    rw [he] at htaken ⊢
    exact ⟨hsame.symm, fun n hn => (hcounter n).trans (if_neg hn), ⟨rfl, rfl⟩, fun _ => rfl, htaken⟩
  · next h120 =>
    exact ⟨hsame.symm, fun n hn => (hcounter n).trans (if_neg hn), ⟨rfl, rfl⟩, fun h => absurd h h120, hframe.keeps⟩

/-- Settles O16: a WAIT stalls as it issues, and ends by its tokens, an error among them, or its limit. -/
theorem waitStallsAndRetires : Obligations.WaitStallsAndRetires := by
  unfold Obligations.WaitStallsAndRetires
  refine ⟨fun s w desc h hm => runs_wait h hm, ?_, ?_⟩
  · intro s x hon hwait hhalt c hcount
    refine ⟨fun herr => ?_, fun herr => ?_⟩
    · obtain ⟨t, ht, hcounter, hrest⟩ := runs_waitRetire hon hwait hhalt hcount herr
      exact ⟨t, ht, by rw [hcounter]; rfl, by rw [hcounter]; rfl, hrest⟩
    · refine runs_onDev hon (f := fun _ d => d.waitRetire) rfl ?_
      rw [Dev.waitRetire_of_error hwait hhalt hcount herr]
  · intro s x hon hwait hctr hlim hcount
    refine ⟨_, ?_, rfl⟩
    change execWaitLimitExpiry s = _
    rw [execWaitLimitExpiry, onDev_on hon]
    simp only [hwait]
    rw [if_neg (by simp [hctr, hlim, hcount])]

/-! ### Collectives -/

theorem Dev.red_of_group {d : Dev} {c : Cue} {g : Group} (h : d.group (redOp c.desc).group = some g) :
    d.red c = (((d.startRed g c (d.stageRows c.word c.desc)).retire).lossCheck).offerFrames := by
  rw [Dev.red, h]

theorem Dev.barrier_of_group {d : Dev} {c : Cue} {g : Group} (h : d.group (syncGroup c.word) = some g) :
    d.barrier c = (((d.startBarrier g c).retire).lossCheck).offerFrames := by
  rw [Dev.barrier, h]

/-- The package whose CURTAIN has issued: dark, its Prompter stalled (R184, R410). -/
def Dev.curtainWaits (d : Dev) (c : Cue) : Dev :=
  let k := syncGroup c.word
  let n := cueCount d.prompter.curtainCount k + 1
  { d.goDark with
    prompter := { d.prompter with run := .curtain, curtainGroup := k, curtainCount := tabSet (fun _ => 0) d.prompter.curtainCount k n }
    hck := { d.hck with
      curtain := some { group := k, ccnt := n, init := d.prompter.run == .init, arms := [], fall := none, late := false } } }

theorem Dev.curtain_of_member {d : Dev} {c : Cue} {g : Group} (h : d.group (syncGroup c.word) = some g) (hrank : g.rank ≠ 0) :
    d.curtain c = (((d.curtainWaits c).sendCurtain (g.members.getD 0 0)
      (curtainPayload 1 (syncGroup c.word) (cueCount d.prompter.curtainCount (syncGroup c.word) + 1) 0 g.rank)).lossCheck).offerFrames := by
  rw [Dev.curtain, h]
  simp only [if_neg hrank]
  rfl

/-- Settles O17: the row acts on the package as the cue issues. -/
theorem collectivesIssue : Obligations.CollectivesIssue := by
  unfold Obligations.CollectivesIssue
  intro s w desc h d c
  refine ⟨fun g hg hm => ?_, fun g hg hm => ?_, fun g hg hrank hm => ?_⟩
  · refine runs_issue (act := fun _ c d => d.red c) h rfl hm ?_
    rw [Dev.red_of_group (c := cueChecked s w desc) hg]
    rfl
  · refine runs_issue (act := fun _ c d => d.barrier c) h rfl hm ?_
    rw [Dev.barrier_of_group (c := cueChecked s w desc) hg]
  · refine runs_issue (act := fun _ c d => d.curtain c) h rfl hm ?_
    rw [Dev.curtain_of_member (c := cueChecked s w desc) hg hrank]
    rfl

/-! ### A collective opens -/

theorem Dev.within_sendBuffer (d : Dev) (g : Group) (group op cseq : Nat) (bs : List Byte) :
    d.Within sending (d.sendBuffer g group op cseq bs) :=
  Dev.within_foldl (fun d _ => Dev.within_foldl (fun d _ => d.within_sendRouted _) _ d) _ d

/-- What reading a RED's contribution may change. -/
def redParts : List Part := .free :: failing

/-- Errors met one after another. -/
theorem Dev.within_foldl_snd {ps : List Part} {α β : Type} {g : α × Dev → β → α × Dev} (hg : ∀ (a : α × Dev) x, a.2.Within ps (g a x).2)
    (xs : List β) (a : α × Dev) : a.2.Within ps (xs.foldl g a).2 := by
  induction xs generalizing a with
  | nil => exact a.2.within_refl.mono (List.nil_subset _)
  | cons x xs ih => exact ((hg a x).trans (ih _)).mono (List.append_subset.mpr ⟨List.Subset.refl _, List.Subset.refl _⟩)

theorem Dev.within_redBuffer (d : Dev) (r : RedOp) (rows : Nat) : d.Within redParts (d.redBuffer r rows).2.2 := by
  rw [Dev.redBuffer]
  split
  · exact d.within_refl.mono (by decide)
  split
  · exact d.within_refl.mono (by decide)
  dsimp only
  generalize hfold : (setBits 512 r.tiles).foldl _ (false, d) = acc
  have hreads : d.Within failing acc.2 := by
    rw [← hfold]
    refine Dev.within_foldl_snd (fun a t => ?_) _ (false, d)
    refine Dev.within_foldl_snd (fun b s => ?_) _ a
    exact Dev.within_readErrors b.2 .tile _ _
  have hfree := hreads.trans (Dev.within_takeFree _)
  exact (hfree.ite ((hfree.trans (Dev.within_wideAdd _ _ _)).trans (Dev.within_setBit _ _ _))).mono (by decide)

/-- The collective that opens stands last, with its group's next count and one piece. -/
def Opened (d : Dev) (g : Group) (c : Cue) (group : Nat) (e : Dev) : Prop :=
  (∃ x : Collective, e.colls = d.colls ++ [x] ∧ x.ctr = cueCtr c.word ∧ x.group = group ∧
    x.cseq = tabGet (fun _ => 0) d.prompter.collCount group + 1 ∧ ∃ bs, x.pieces = [(g.rank, 0, bs)]) ∧
  tabGet (fun _ => 0) e.prompter.collCount group = tabGet (fun _ => 0) d.prompter.collCount group + 1

theorem Opened.within {d : Dev} {g : Group} {c : Cue} {group : Nat} {e f : Dev} (h : Opened d g c group e) (hf : e.Within sending f) :
    Opened d g c group f := by
  obtain ⟨⟨x, hx, hrest⟩, hcount⟩ := h
  exact ⟨⟨x, (hf.part .colls (by decide)).trans hx, hrest⟩, (congrArg (fun p : Prompter => tabGet _ p.collCount group) (hf.part .prompter (by decide))).trans hcount⟩

theorem opened_startBarrier (d : Dev) (g : Group) (c : Cue) : Opened d g c (syncGroup c.word) (d.startBarrier g c) := by
  refine Opened.within (e := { (d.nextColl (syncGroup c.word)).2 with colls := d.colls ++ [_] }) ?_ (Dev.within_sendBuffer _ g _ 15 _ [])
  exact ⟨⟨_, rfl, rfl, rfl, rfl, _, rfl⟩, by simp [Dev.nextColl]⟩

theorem opened_startRed (d : Dev) (g : Group) (c : Cue) (rows : Nat) : Opened d g c (redOp c.desc).group (d.startRed g c rows) := by
  have hbuf := Dev.within_redBuffer (d.nextColl (redOp c.desc).group).2 (redOp c.desc) rows
  have hcolls : ((d.nextColl (redOp c.desc).group).2.redBuffer (redOp c.desc) rows).2.2.colls = d.colls := hbuf.part .colls (by decide)
  have hcount : tabGet (fun _ => 0) ((d.nextColl (redOp c.desc).group).2.redBuffer (redOp c.desc) rows).2.2.prompter.collCount
      (redOp c.desc).group = tabGet (fun _ => 0) d.prompter.collCount (redOp c.desc).group + 1 := by
    rw [hbuf.part .prompter (by decide)]
    simp [Dev.nextColl]
  have hopen (x : Collective) (hx : x.ctr = cueCtr c.word ∧ x.group = (redOp c.desc).group ∧
      x.cseq = tabGet (fun _ => 0) d.prompter.collCount (redOp c.desc).group + 1 ∧ ∃ bs, x.pieces = [(g.rank, 0, bs)]) :
      Opened d g c (redOp c.desc).group { ((d.nextColl (redOp c.desc).group).2.redBuffer (redOp c.desc) rows).2.2 with
        colls := ((d.nextColl (redOp c.desc).group).2.redBuffer (redOp c.desc) rows).2.2.colls ++ [x] } :=
    ⟨⟨x, by rw [hcolls], hx⟩, hcount⟩
  rw [Dev.startRed]
  dsimp only
  split
  · exact hopen _ ⟨rfl, rfl, rfl, _, rfl⟩
  · exact (hopen _ ⟨rfl, rfl, rfl, _, rfl⟩).within (Dev.within_sendBuffer _ g _ _ _ _)

/-- Settles O18. -/
theorem collectiveOpens : Obligations.CollectiveOpens := by
  unfold Obligations.CollectiveOpens
  exact fun d g c rows => ⟨opened_startRed d g c rows, opened_startBarrier d g c⟩

/-! ### A collective completes -/

/-- A token posted to a running Prompter, the rest of the package as it was. -/
theorem counters_postToken {d : Dev} (n : Nat) (err : Bool) (hrun : d.halted = false) :
    let e := d.postToken n err false
    (e.counter n).count = ((d.counter n).count + 1) % 65536 ∧ (e.counter n).err = ((d.counter n).err || err) ∧
      ∀ k, k ≠ n → e.counter k = d.counter k := by
  refine ⟨?_, ?_, fun k hk => ?_⟩
  · rw [Dev.counter_postToken n n err false hrun, if_pos rfl]
  · rw [Dev.counter_postToken n n err false hrun, if_pos rfl]
  · rw [Dev.counter_postToken n k err false hrun, if_neg hk]

/-- Settles O19. -/
theorem collectivesComplete : Obligations.CollectivesComplete := by
  unfold Obligations.CollectivesComplete
  intro s ctr hon d
  refine ⟨fun x g hready => ?_, fun x g hready hrun => ?_, fun hlim hcolls => ?_⟩
  · refine ⟨_, ?_, rfl⟩
    change execRedComplete ctr s = _
    rw [execRedComplete, onDev_on hon]
    simp only [show s.dev.readyColl ctr.val false = some (x, g) from hready]
    rfl
  · have hexec : exec (.barrierComplete ctr) s = .next { s with dev := d.finishBarrier x } := by
      change execBarrierComplete ctr s = _
      rw [execBarrierComplete, onDev_on hon]
      simp only [show s.dev.readyColl ctr.val true = some (x, g) from hready]
      rfl
    obtain ⟨hcount, herr, hother⟩ := counters_postToken
      (d := { d with colls := d.colls.filter (fun y => !(y.group == x.group && y.cseq == x.cseq)) }) x.ctr false hrun
    refine ⟨_, hexec, ?_, hcount, herr.trans (Bool.or_false _), hother, ?_⟩
    · exact (Dev.within_postToken _ x.ctr false false).part .colls (by decide)
    · exact (((d.within_colls _).trans (Dev.within_postToken _ x.ctr false false)).mono (by decide)).keeps
  · refine ⟨_, ?_, rfl⟩
    change execCollectiveTimeout s = _
    rw [execCollectiveTimeout, onDev_on hon, if_pos (by simp [d, hlim, hcolls] )]

end Sys2Proof.Machine
end

section
/-! GRID cues as they issue and end (R180, R236, R239, R240, R247, R253): O20 and O21. -/
namespace Sys2Proof.Machine

section
variable {s : State} {w : Nat} {desc : List Byte}

theorem grid_issuing : (issuing s w desc).grid = s.dev.grid := keeps_issuing s w desc .grid (by decide)

theorem Dev.retire_grid (d : Dev) : d.retire.post121.grid = d.grid := d.within_retire.part .grid (by decide)

/-- A START of no row issues: its run awaits its token (R160). -/
theorem gridEmpty_issued :
    let t := { s with dev := ((((issuing s w desc).pulse 96).gridEmpty w).retire).post121 }
    MovedOn s t ∧ Keeps (.grid :: issueParts) s t ∧ t.dev.grid = { s.dev.grid with
      runs := s.dev.grid.runs ++ [{ region := gridRegion w, ctr := cueCtr w, std := true, bad := false }] } := by
  refine ⟨movedOn_issued w desc rfl, keeps_issued ((Dev.within_pulse _ 96).trans (Dev.within_grid _ _)) (by decide), ?_⟩
  dsimp only
  rw [Dev.retire_grid, ← grid_issuing (w := w) (desc := desc)]
  rfl

theorem Dev.startStandard_of_empty {d : Dev} {i : Ident} {c : Cue} (h : d.noGridRows c.word = true) :
    d.startStandard i c = ((d.pulse 96).gridEmpty c.word).retire := congrArg Dev.retire (if_pos h)

theorem Dev.startStandard_of_rows {d : Dev} {i : Ident} {c : Cue} (h : d.noGridRows c.word = false) :
    d.startStandard i c = ((d.pulse 96).gridStandard i c.word).retire := congrArg Dev.retire (if_neg (ne_true_of_eq_false h))

theorem Dev.startImage_of_empty {d : Dev} {c : Cue} (h : d.noGridRows c.word = true) :
    d.startImage c = ((d.pulse 96).gridEmpty c.word).retire := congrArg Dev.retire (if_pos h)

theorem Dev.startImage_of_rows {d : Dev} {c : Cue} {g : GridProg} (h : d.noGridRows c.word = false)
    (hg : d.grid.progs.find? (fun g => g.code == gridProg c.word) = some g) :
    d.startImage c = ((d.pulse 96).gridImage c.word g).retire := by
  refine congrArg Dev.retire ((if_neg (ne_true_of_eq_false h)).trans ?_)
  simp only [Dev.pulse_grid, hg]

/-- GRID_START meets a START of an image program. -/
theorem runs_gridStart {P : State → Prop} (h : CueAt s w desc) (hclass : cueClass (cueHere s) = .grid)
    (hfunc : cueFunc (cueHere s) = 0) (hprog : 5 ≤ gridProg (cueHere s))
    (hp : P { s with dev := ((issuing s w desc).startImage (cueChecked s w desc)).post121 }) : Runs .gridStart s P := by
  refine runs_issue (act := fun _ c d => d.startImage c) h rfl ?_ hp
  have hnot (k : Nat) (hk : k < 5) : isStart k (cueHere s) = false := by
    rw [isStart, beq_false_of_ne (by omega : gridProg (cueHere s) ≠ k), Bool.and_false]
  rw [hnot 1 (by decide), hnot 2 (by decide), hnot 3 (by decide), hnot 4 (by decide), hclass, hfunc]
  rfl

/-- The row of a standard program meets its START. -/
theorem runs_standard {p : Nat} {P : State → Prop} (h : CueAt s w desc) (hstart : isStart p (cueHere s) = true)
    (hp : p ∈ [1, 2, 3, 4]) (hact : P { s with dev := ((issuing s w desc).startStandard s.ident (cueChecked s w desc)).post121 }) :
    Runs (startRow p) s P := by
  simp only [List.mem_cons, List.not_mem_nil, or_false] at hp
  rcases hp with rfl | rfl | rfl | rfl
  all_goals exact runs_issue (act := fun i c d => d.startStandard i c) h rfl hstart hact

theorem startRow_of_image {p : Nat} (h : 5 ≤ p) : startRow p = .gridStart := by
  obtain ⟨k, rfl⟩ : ∃ k, p = k + 5 := ⟨p - 5, by omega⟩
  rfl

/-- The lanterns that a START starts leave the runs as they are. -/
theorem Dev.runs_foldl_setLantern (f : Nat → Nat × Lantern) (ks : List Nat) (d : Dev) :
    (ks.foldl (fun d k => d.setLantern (f k).1 (f k).2) d).grid.runs = d.grid.runs := by
  induction ks generalizing d with
  | nil => rfl
  | cons k ks ih => exact (ih _).trans rfl

/-- The run of an image program stands last. -/
theorem Dev.runs_gridImage (d : Dev) (w : Nat) (g : GridProg) :
    (d.gridImage w g).grid.runs = d.grid.runs ++ [{ region := gridRegion w, ctr := cueCtr w, std := false, bad := false }] := by
  have hrows : (d.gridRows w).2.grid = d.grid := by
    rw [Dev.gridRows]
    split <;> rfl
  rw [← hrows]
  exact congrArg (· ++ _) (Dev.runs_foldl_setLantern (fun k => (((d.gridRows w).2.grid.members (gridRegion w)).getD k 0, _)) _ _)

end

/-- Settles O20: a START runs its program or, with no row selected, nothing; a CHANGEOVER keeps what it changes to. -/
theorem gridCuesIssue : Obligations.GridCuesIssue := by
  unfold Obligations.GridCuesIssue
  intro s w desc h hprog d
  refine ⟨fun p hstart hnone hp => ?_, fun p hstart hrows hp => ?_, fun g hge hclass hfunc hrows hg => ?_, fun hclass hfunc => ?_⟩
  · obtain ⟨hclass, hfunc, hp'⟩ : cueClass (cueHere s) = .grid ∧ cueFunc (cueHere s) = 0 ∧ gridProg (cueHere s) = p := by
      simpa [isStart, and_assoc] using hstart
    rcases hp with hstd | himage
    · refine runs_standard h hstart (by simp; omega) ?_
      rw [Dev.startStandard_of_empty (c := cueChecked s w desc) hnone]
      exact gridEmpty_issued
    · rw [startRow_of_image (by omega)]
      refine runs_gridStart h hclass hfunc (by omega) ?_
      rw [Dev.startImage_of_empty (c := cueChecked s w desc) hnone]
      exact gridEmpty_issued
  · refine runs_standard h hstart hp ?_
    rw [Dev.startStandard_of_rows (c := cueChecked s w desc) hrows]
    rfl
  · refine runs_gridStart h hclass hfunc (hprog ▸ hge) ?_
    rw [Dev.startImage_of_rows (c := cueChecked s w desc) hrows hg]
    refine ⟨?_, rfl⟩
    dsimp only
    rw [Dev.retire_grid, Dev.runs_gridImage, Dev.pulse_grid, grid_issuing]
    rfl
  · refine runs_issue (act := fun _ c d => d.startChange c) h rfl (by rw [hclass, hfunc]; rfl) ?_
    have hmems : (issuing s w desc).mems = s.dev.mems := keeps_issuing s w desc .mems (by decide)
    have hgrid := grid_issuing (s := s) (w := w) (desc := desc)
    let e : Dev := { issuing s w desc with grid := { (issuing s w desc).grid with change := some {
        config := gridConfig w, ctr := cueCtr w, start := (issuing s w desc).grid.cycle
        records := (issuing s w desc).configRecords (gridConfig w), barrier := none } } }
    have he : (issuing s w desc).startChange (cueChecked s w desc) = (e.setBit Reg.lgrStatus 16).retire := rfl
    rw [he]
    refine ⟨movedOn_issued w desc rfl, ?_, ?_, 
      keeps_issued ((Dev.within_grid _ _).trans (Dev.within_setBit _ _ _)) (by decide)⟩
    · dsimp only
      rw [Dev.retire_grid]
      simp only [Dev.setBit_grid, e, hgrid, Dev.configRecords, hmems]
    · have hreg (x : Dev) := Dev.bit_congr (Dev.reg_congr (x.within_retire.part .regs (by decide)) Reg.lgrStatus) 16
      exact (hreg _).trans (Dev.bit_setBit_same _ _ (by decide))

/-! ### The Grid's completions -/

/-- Settles O21. -/
theorem gridCompletes : Obligations.GridCompletes := by
  unfold Obligations.GridCompletes
  intro s hon d
  refine ⟨fun region r hfind hdone hrun => ?_, fun c hc hready hnext => ?_, fun c hc hready => ?_⟩
  · have hexec : exec (.gridProgramDone region) s = .next { s with dev := d.gridDone r } := by
      change execGridProgramDone region s = _
      rw [execGridProgramDone, onDev_on hon]
      simp only [show s.dev.grid.runs.find? (fun r => r.region == region.val) = some r from hfind]
      rw [if_pos (by simpa using hdone)]
    obtain ⟨hcount, herr, hother⟩ := counters_postToken
      (d := { d with grid := { d.grid with runs := d.grid.runs.filter (fun x => x.region != r.region) } }) r.ctr
      (r.bad || (!r.std && (d.grid.members r.region).any (fun l => (d.lantern l).bad))) hrun
    refine ⟨_, hexec, ?_, hcount, herr, hother, ?_⟩
    · exact (Dev.within_postToken _ r.ctr _ false).part .grid (by decide)
    · exact ((((d.within_grid _).trans (Dev.within_postToken _ r.ctr _ false)).trans (Dev.within_pulse _ 97)).mono (by decide)).keeps
  · refine ⟨_, ?_, rfl⟩
    change execChangeoverSwap s = _
    rw [execChangeoverSwap, onDev_on hon]
    simp only [show s.dev.grid.change = some c from hc]
    rw [if_pos (by rw [hready, hnext]; rfl)]
  · refine ⟨_, ?_, rfl⟩
    change execChangeoverTimeout s = _
    rw [execChangeoverTimeout, onDev_on hon]
    simp only [show s.dev.grid.change = some c from hc]
    rw [if_neg (ne_true_of_eq_false hready)]
    rfl

end Sys2Proof.Machine
end

section
/-! The end of a section (R144, R183, R199): O22. -/
namespace Sys2Proof.Machine

/-! ### What the slots' commit leaves alone -/

/-- What waits for a formation or a commit. -/
def Hif.waits (x : Hif) : List Command × List Submission := (x.cmds, x.energy)

theorem Dev.waits_msix (d : Dev) (v : Nat) : (d.msix v).hif.waits = d.hif.waits := by
  unfold Dev.msix
  repeat' split
  all_goals rfl

theorem Dev.waits_raise (d : Dev) (src : Nat) : (d.raise src).hif.waits = d.hif.waits := by
  have hdeliver (e : Dev) : (e.deliverHost src).hif.waits = e.hif.waits := by
    rw [Dev.deliverHost]
    split
    · exact e.waits_msix _
    · rfl
  rw [Dev.raise, hdeliver, Dev.wakeFor_hif]
  split <;> rfl

/-- Slots, counters and sources have changed, QST_STATUS of the registers alone, and nothing that waits. -/
def Dev.SlotsOnly (d e : Dev) : Prop :=
  d.Within (.slots :: .wide :: .regs :: raising) e ∧ (∀ off, off ≠ Reg.qstStatus → e.reg off = d.reg off) ∧ e.hif.waits = d.hif.waits

section
variable {d e f : Dev}

theorem Dev.SlotsOnly.trans (h : d.SlotsOnly e) (h' : e.SlotsOnly f) : d.SlotsOnly f :=
  ⟨(h.1.trans h'.1).mono (by decide), fun off hoff => (h'.2.1 off hoff).trans (h.2.1 off hoff), h'.2.2.trans h.2.2⟩

theorem Dev.slotsOnly_refl (d : Dev) : d.SlotsOnly d := ⟨d.within_refl.mono (by decide), fun _ _ => rfl, rfl⟩

theorem Dev.slotsOnly_setSlot (d : Dev) (n : Nat) (x : Slot) : d.SlotsOnly (d.setSlot n x) :=
  ⟨(d.within_slots _).mono (by decide), fun _ _ => rfl, rfl⟩

theorem Dev.slotsOnly_wideAdd (d : Dev) (off n : Nat) : d.SlotsOnly (d.wideAdd off n) :=
  ⟨(d.within_wideAdd off n).mono (by decide), fun _ _ => rfl, rfl⟩

theorem Dev.slotsOnly_setFld (d : Dev) (hi lo n : Nat) : d.SlotsOnly (d.setFld Reg.qstStatus hi lo n) :=
  ⟨(d.within_setFld _ hi lo n).mono (by decide), fun _ hoff => d.reg_setFld_other hi lo n hoff, rfl⟩

theorem Dev.slotsOnly_flagRaise (d : Dev) (i src : Nat) : d.SlotsOnly (d.flagRaise Reg.qstStatus i src) :=
  ⟨(d.within_flagRaise _ i src).mono (by decide), fun off hoff => (Dev.reg_raise _ src off).trans (d.reg_setBit_other i hoff), Dev.waits_raise _ src⟩

theorem Dev.slotsOnly_foldl {β : Type} {g : Dev → β → Dev} (hg : ∀ (d : Dev) x, d.SlotsOnly (g d x)) (xs : List β) (d : Dev) :
    d.SlotsOnly (xs.foldl g d) := by
  induction xs generalizing d with
  | nil => exact d.slotsOnly_refl
  | cons x xs ih => exact (hg d x).trans (ih _)

end

theorem Dev.SlotsOnly.ite {d e f : Dev} {c : Prop} [Decidable c] (h : d.SlotsOnly e) (h' : d.SlotsOnly f) :
    d.SlotsOnly (if c then e else f) := by
  split <;> assumption

theorem Dev.slotsOnly_applySlots (d : Dev) : d.SlotsOnly d.applySlots := by
  have hcounts (n m : Nat) := ((d.slotsOnly_foldl (fun d n => d.slotsOnly_setSlot n (d.commitOne n).1) (List.range 256)).trans
    (Dev.slotsOnly_wideAdd _ Reg.qstEscOvf n)).trans (Dev.slotsOnly_wideAdd _ Reg.qstInvalid m)
  have hover (n m : Nat) := (hcounts n m).ite (c := n = 0) ((hcounts n m).trans (Dev.slotsOnly_flagRaise _ 2 121))
  rw [Dev.applySlots]
  split
  · exact ((hover _ _).trans (Dev.slotsOnly_setFld _ 15 8 _)).trans (Dev.slotsOnly_flagRaise _ 1 120)
  · exact hover _ _

/-! ### A section begins -/

/-- Nothing waits for the end of a step: no Cast Table, command, energy reading, second context or token due. -/
def Dev.plain (d : Dev) : Prop :=
  d.cast.geom = none ∧ d.hif.cmds = [] ∧ d.hif.energy = [] ∧ d.twoContexts = false ∧ d.prompter.ndStep = false ∧
    d.prompter.due121 = false

/-- The step section begins at `pc` (R144). -/
def Prompter.begins (p : Prompter) (pc : BitVec 18) : Prop :=
  p.run = .step ∧ p.loops = [] ∧ p.wait = none ∧ p.manifestRead = false ∧ p.pc = pc

/-- Where nothing waits and a step runs, nothing more happens at its end (R343, R353). -/
theorem Dev.settleAt_of_step {d : Dev} (i : Ident) (between : Bool) (hcmds : d.hif.cmds = []) (hrun : d.prompter.run = .step)
    (hwait : d.prompter.wait = none) : d.settleAt i between = d := by
  have hsteps : d.stepRuns = true := by simp [Dev.stepRuns, hrun, hwait]
  rw [Dev.settleAt, hcmds]
  simp [hsteps]

/-- The package as its step section begins. -/
def Dev.sectionBegun (d : Dev) : Dev :=
  { d.stepStarts with prompter := { d.stepStarts.prompter with run := .step, pc := BitVec.ofNat 18 (d.reg Reg.stgEntryStep).toNat } }

theorem Dev.begins_sectionBegun (d : Dev) :
    d.sectionBegun.prompter.begins (BitVec.ofNat 18 (d.reg Reg.stgEntryStep).toNat) := ⟨rfl, rfl, rfl, rfl, rfl⟩

theorem Dev.within_sectionBegun (d : Dev) : d.Within [.prompter] d.sectionBegun := d.within_prompter _

theorem Dev.nextSection_of_one {d : Dev} (h : d.twoContexts = false) : d.nextSection = d.sectionBegun :=
  if_neg (ne_true_of_eq_false h)

/-- A section that begins where nothing waits and no token falls due. -/
theorem Dev.sectionBegun_settled {d : Dev} (i : Ident) (between : Bool) (hcmds : d.hif.cmds = []) (hdue : d.prompter.due121 = false) :
    (d.sectionBegun.settleAt i between).post121 = d.sectionBegun := by
  rw [Dev.settleAt_of_step (d := d.sectionBegun) i between hcmds rfl rfl, Dev.post121_of_none (d := d.sectionBegun) hdue]

/-! ### STEP_END -/

/-- The counts of a plain step that commits: STG_STEP_SEQ, and STG_OPT_STEP where the cue says so (R183). -/
def Dev.stepCounted (d : Dev) (opt : Bool) : Dev :=
  let e := d.applySlots.setReg Reg.stgStepSeq (BitVec.ofNat 32 ((d.applySlots.reg Reg.stgStepSeq).toNat + 1))
  if opt then e.setReg Reg.stgOptStep (e.reg Reg.stgOptStep + 1) else e

theorem Dev.reg_stepCounted (d : Dev) (opt : Bool) :
    (d.stepCounted opt).reg Reg.stgStepSeq = d.reg Reg.stgStepSeq + 1 ∧
    (d.stepCounted opt).reg Reg.stgOptStep = (if opt then d.reg Reg.stgOptStep + 1 else d.reg Reg.stgOptStep) ∧
    ∀ off, off ≠ Reg.stgStepSeq → off ≠ Reg.stgOptStep → off ≠ Reg.qstStatus → (d.stepCounted opt).reg off = d.reg off := by
  have hslots {off : Nat} (hoff : off ≠ Reg.qstStatus) : d.applySlots.reg off = d.reg off := d.slotsOnly_applySlots.2.1 off hoff
  have hseq : BitVec.ofNat 32 ((d.applySlots.reg Reg.stgStepSeq).toNat + 1) = d.reg Reg.stgStepSeq + 1 := by
    rw [hslots (by decide), BitVec.ofNat_add, BitVec.ofNat_toNat, BitVec.setWidth_eq]
    rfl
  have hopt : Reg.stgOptStep ≠ Reg.stgStepSeq := by decide
  rw [Dev.stepCounted, hseq, ← hslots (show Reg.stgOptStep ≠ Reg.qstStatus by decide)]
  cases opt with
  | false =>
    simp only [Bool.false_eq_true, if_false, Dev.reg_setReg, if_true, if_neg hopt, true_and]
    exact fun off h1 _ h3 => (if_neg h1).trans (hslots h3)
  | true =>
    simp only [if_true, Dev.reg_setReg, if_neg hopt, if_neg hopt.symm, true_and]
    exact fun off h1 h2 h3 => (if_neg h2).trans ((if_neg h1).trans (hslots h3))

theorem Dev.slotsKept_stepCounted (d : Dev) (opt : Bool) :
    d.Within (.slots :: .wide :: .regs :: raising) (d.stepCounted opt) ∧ (d.stepCounted opt).hif.waits = d.hif.waits := by
  obtain ⟨hframe, -, hwaits⟩ := d.slotsOnly_applySlots
  have hset := hframe.trans (Dev.within_setReg d.applySlots Reg.stgStepSeq (BitVec.ofNat 32 ((d.applySlots.reg Reg.stgStepSeq).toNat + 1)))
  refine ⟨((hset.trans (Dev.within_setReg _ _ _)).ite hset).mono (by decide), ?_⟩
  rw [Dev.stepCounted]
  split <;> simpa only [Dev.setReg_hif] using hwaits

/-- What a plain step's commit leaves before the next section begins. -/
def Dev.plainCommitted (d : Dev) (opt : Bool) : Dev := (((d.stepCounted opt).addJobs []).pulse 3).commitEnergy

theorem Dev.plainCommitted_eq {d : Dev} (opt : Bool) (h : d.hif.energy = []) :
    let e := ((d.stepCounted opt).addJobs []).pulse 3
    d.plainCommitted opt = { e with hif := { e.hif with energy := [] } } := by
  have henergy : (((d.stepCounted opt).addJobs []).pulse 3).hif.energy = [] :=
    (congrArg Prod.snd (d.slotsKept_stepCounted opt).2).trans h
  rw [Dev.plainCommitted, Dev.commitEnergy, henergy]
  rfl

/-- What a plain commit leaves: registers as counted, the Prompter, the Cast Table and the commands as they were. -/
theorem Dev.plainCommitted_spec {d : Dev} (opt : Bool) (h : d.hif.energy = []) :
    (d.plainCommitted opt).regs = (d.stepCounted opt).regs ∧ (d.plainCommitted opt).prompter = d.prompter ∧
      (d.plainCommitted opt).hif.cmds = d.hif.cmds := by
  obtain ⟨hframe, hwaits⟩ := d.slotsKept_stepCounted opt
  rw [Dev.plainCommitted_eq opt h]
  exact ⟨rfl, hframe.part .prompter (by decide), congrArg Prod.fst hwaits⟩

theorem Dev.stepCommits_eq {d : Dev} (i : Ident) (opt : Bool) (hgeom : d.cast.geom = none) (hnd : d.prompter.ndStep = false) :
    d.stepCommits i opt = ((d.plainCommitted opt).nextSection).settleCommit i := by
  have hcast : d.applySlots.cast.geom = none := (congrArg Cast.geom (d.slotsOnly_applySlots.1.part .cast (by decide))).trans hgeom
  have hprompter : d.applySlots.prompter.ndStep = false := (congrArg Prompter.ndStep (d.slotsOnly_applySlots.1.part .prompter (by decide))).trans hnd
  rw [Dev.stepCommits]
  simp only [hcast, Option.isSome_none, Bool.false_eq_true, if_false]
  refine congrArg (fun e : Dev => ((e.pulse 3).commitEnergy.nextSection).settleCommit i) (if_neg ?_)
  cases opt with
  | false => exact ne_true_of_eq_false hprompter
  | true => exact ne_true_of_eq_false hprompter

theorem Dev.stepCommits_of_plain {d : Dev} (i : Ident) (opt : Bool) (h : d.plain) :
    (d.stepCommits i opt).post121 = (d.plainCommitted opt).sectionBegun := by
  obtain ⟨hgeom, hcmds, henergy, htwo, hnd, hdue⟩ := h
  obtain ⟨hregs, hprompter, hcmds'⟩ := d.plainCommitted_spec opt henergy
  have htwo' : (d.plainCommitted opt).twoContexts = false := by
    rw [← htwo]
    exact Dev.bit_congr ((Dev.reg_congr hregs _).trans ((d.reg_stepCounted opt).2.2 Reg.usyStatus (by decide) (by decide) (by decide))) 8
  rw [d.stepCommits_eq i opt hgeom hnd, Dev.nextSection_of_one htwo']
  exact Dev.sectionBegun_settled i true (hcmds'.trans hcmds) ((congrArg Prompter.due121 hprompter).trans hdue)

theorem plain_issuing {s : State} (w : Nat) (desc : List Byte) (h : s.dev.plain) : (issuing s w desc).plain := by
  obtain ⟨hgeom, hcmds, henergy, htwo, hnd, hdue⟩ := h
  have hk := keeps_issuing s w desc
  have hcast : (issuing s w desc).cast = s.dev.cast := hk .cast (by decide)
  have hhif : (issuing s w desc).hif = s.dev.hif := hk .hif (by decide)
  refine ⟨hcast ▸ hgeom, hhif ▸ hcmds, hhif ▸ henergy, ?_, ?_, ?_⟩
  · rw [← htwo]
    exact Dev.bit_congr (reg_issuing s w desc (not_phaseReg_of_lt (by decide))) 8
  · rw [prompter_issuing]
    exact hnd
  · rw [prompter_issuing]
    exact hdue

/-- Settles O22: STEP_END runs the commit, which in a plain module only counts; INIT_END begins the step section alone. -/
theorem sectionsEnd : Obligations.SectionsEnd := by
  unfold Obligations.SectionsEnd
  intro s w desc h d plain begins
  have hentry {x : Dev} (hx : x.reg Reg.stgEntryStep = d.reg Reg.stgEntryStep) :
      BitVec.ofNat 18 (x.reg Reg.stgEntryStep).toNat = BitVec.ofNat 18 (d.reg Reg.stgEntryStep).toNat := by rw [hx]
  have hreg {off : Nat} (hoff : off < 0x1C00000) : (issuing s w desc).reg off = d.reg off := reg_issuing s w desc (not_phaseReg_of_lt hoff)
  have stepEnd {P : State → Prop} (hsync : isSync 0 (cueHere s) = true) (hcommit : d.mayCommit = true)
      (hp : P { s with dev := ((issuing s w desc).commitStep s.ident (bitAt w 25)).post121 }) : Runs .stepEnd s P := by
    refine runs_onDev h.1 (f := fun i d => d.issue i (fun w => isSync 0 w && d.stepEndDue i w) (fun c d => d.commitStep i (bitAt c.word 25))) rfl ?_
    rw [Dev.issue_at h _ _ (by simp [hsync, Dev.stepEndDue, show s.dev.mayCommit = true from hcommit])]
    exact hp
  refine ⟨fun hsync hcommit => stepEnd hsync hcommit rfl, fun hsync hcommit hpass => ?_, fun hsync hplain => ?_, fun hsync hplain => ?_,
    fun hsync => ?_⟩
  · obtain ⟨hon, hmay, hstage, herr, -⟩ := h
    refine runs_onDev hon (f := fun i d => d.issue i (fun w => isSync 0 w && d.stepEndDue i w) (fun c d => d.commitStep i (bitAt c.word 25))) rfl ?_
    have hdue : s.dev.stepEndDue s.ident (s.dev.cueWord s.dev.prompter.pc.toNat) = false := by
      rw [Dev.stepEndDue, show s.dev.mayCommit = false from hcommit, herr]
      simpa [cueHere] using hpass
    rw [Dev.issue, if_pos (by simp [hdue])]
  · have hgeom : d.cast.geom = none := hplain.1
    have hp := plain_issuing w desc hplain
    refine stepEnd hsync (by rw [Dev.mayCommit, hgeom]; rfl) ?_
    have hcommit : (issuing s w desc).commitStep s.ident (bitAt w 25) = (issuing s w desc).stepCommits s.ident (bitAt w 25) := by
      rw [Dev.commitStep, hp.1]
      rfl
    rw [hcommit, Dev.stepCommits_of_plain _ _ hp]
    obtain ⟨hregs, -, -⟩ := Dev.plainCommitted_spec (d := issuing s w desc) (bitAt w 25) hp.2.2.1
    obtain ⟨hseq, hopt, hother⟩ := (issuing s w desc).reg_stepCounted (bitAt w 25)
    rw [hreg (by decide)] at hseq hopt
    refine ⟨?_, (Dev.reg_congr hregs _).trans hseq, (Dev.reg_congr hregs _).trans hopt⟩
    have hb := ((issuing s w desc).plainCommitted (bitAt w 25)).begins_sectionBegun
    rw [hentry ((Dev.reg_congr hregs _).trans ((hother _ (by decide) (by decide) (by decide)).trans (hreg (by decide))))] at hb
    exact hb
  · obtain ⟨-, hcmds, -, -, -, hdue⟩ := plain_issuing w desc hplain
    refine runs_issue (act := fun i _ d => d.initEnd.settle i) h rfl hsync ?_
    have hend : (((issuing s w desc).initEnd).settle s.ident).post121 = (issuing s w desc).sectionBegun :=
      Dev.sectionBegun_settled s.ident false hcmds hdue
    rw [hend]
    have hb := (issuing s w desc).begins_sectionBegun
    rw [hentry (hreg (by decide))] at hb
    exact ⟨hb, hreg (by decide), ((keeps_issuing s w desc).within (Dev.within_sectionBegun _)).mono (by decide)⟩
  · exact runs_issue (act := fun i _ d => d.initEnd.settle i) h rfl hsync rfl

end Sys2Proof.Machine
end

section
/-! The Stage and its boundaries, and the end of transfers (R62, R66, R67, R145, R153, R175): O23 to O25. -/
namespace Sys2Proof.Machine

/-! ### Starting -/

/-- What the Dimmer writes when it takes an operating point (R443). -/
def pointRegs : List Nat := [Reg.dimStatus, Reg.dimOpChanges]

theorem Dev.within_setOp (d : Dev) (op : Nat) : d.Within [.regs] (d.setOp op) :=
  (d.within_refl.ite (((d.within_setFld _ 2 0 op).trans (Dev.within_count _ _)).trans (Dev.within_pulse _ 9))).mono (by decide)

theorem Dev.within_choosePoint (d : Dev) : d.Within [.regs] d.choosePoint := ((d.within_setOp _).ite d.within_refl).mono (by decide)

theorem Dev.reg_setOp_other (d : Dev) (op : Nat) {off : Nat} (h : off ∉ pointRegs) : (d.setOp op).reg off = d.reg off := by
  simp only [pointRegs, List.mem_cons, List.not_mem_nil, or_false, not_or] at h
  rw [Dev.setOp]
  split
  · rfl
  · exact (Dev.reg_count_other _ h.2).trans (Dev.reg_setFld_other _ _ _ _ h.1)

theorem Dev.reg_choosePoint_other (d : Dev) {off : Nat} (h : off ∉ pointRegs) : d.choosePoint.reg off = d.reg off := by
  rw [Dev.choosePoint]
  split
  · exact d.reg_setOp_other _ h
  · rfl

theorem Dev.within_prompter_stage (d : Dev) (x : Prompter) (y : Stage) : d.Within [.stage, .prompter] { d with prompter := x, stage := y } := by
  intro s p hp
  cases p with
  | prompter | stage | lines => simp at hp
  | _ => rfl

/-- The head of the queue starts, the rest waits. -/
theorem Dev.startHead_of_cons {d : Dev} {c : Cue} {cs : List Cue} (i : Ident) (h : d.prompter.stageQueue = c :: cs) :
    let m := d.choosePoint.pulse 1
    d.startHead i = { m with prompter := { d.prompter with stageQueue := cs }, stage := { d.stage with running := some (m.running i c) } } := by
  have hframe := d.within_choosePoint.trans (Dev.within_pulse _ 1)
  have hprompter : (d.choosePoint.pulse 1).prompter = d.prompter := hframe.part .prompter (by decide)
  have hstage : (d.choosePoint.pulse 1).stage = d.stage := hframe.part .stage (by decide)
  rw [Dev.startHead, h, ← hprompter, ← hstage]

section
variable {s : State} {c : Cue} {cs : List Cue} (hon : On s) (hqueue : s.dev.prompter.stageQueue = c :: cs)
include hon hqueue

theorem does_stageCueStart (hidle : s.dev.stage.running = none) (hlit : s.dev.stage.power = .lit) (fs : List Found) :
    let m := (s.dev.meets s.ident fs).choosePoint.pulse 1
    Does (.stageCueStart fs) s { m with
      prompter := { s.dev.prompter with stageQueue := cs }, stage := { s.dev.stage with running := some (m.running s.ident c) } } := by
  have hmeets := s.dev.within_meets s.ident fs
  have hprompter : (s.dev.meets s.ident fs).prompter = s.dev.prompter := hmeets.part .prompter (by decide)
  have hstage : (s.dev.meets s.ident fs).stage = s.dev.stage := hmeets.part .stage (by decide)
  have hstart := (s.dev.meets s.ident fs).startHead_of_cons s.ident (hprompter ▸ hqueue)
  rw [hprompter, hstage] at hstart
  dsimp only
  rw [← hstart, Does]
  change execStageCueStart fs s = _
  rw [execStageCueStart, onDev_on hon]
  simp only [hidle, hqueue, hlit, Option.isSome_none, List.isEmpty_cons, Bool.or_self, Bool.false_eq_true, if_false]

/-- An idle Stage that is not lit begins to rise, or notes that it must. -/
theorem runs_stageCueStart_rise (hidle : s.dev.stage.running = none) (hdark : s.dev.stage.power ≠ .lit) (fs : List Found) :
    Runs (.stageCueStart fs) s (fun t => t = { s with dev := s.dev.rampUp }) := by
  refine ⟨_, ?_, rfl⟩
  change execStageCueStart fs s = _
  rw [execStageCueStart, onDev_on hon]
  simp only [hidle, hqueue, Option.isSome_none, List.isEmpty_cons, Bool.or_self, Bool.false_eq_true, if_false]

/-- At the end of the ramp-up the first cue begins (R67). -/
theorem runs_rampUpDone (hup : s.dev.stage.power = .rampUp) :
    Runs .rampUpDone s (fun t => t.dev.stage.power = .lit ∧ t.dev.stage.wake = s.dev.stage.wake ∧
      (∃ r, t.dev.stage.running = some r ∧ r.cue = c ∧ r.cut = false) ∧ t.dev.prompter = { s.dev.prompter with stageQueue := cs } ∧
      KeepsRegs pointRegs s t ∧ Keeps [.stage, .prompter, .regs] s t) := by
  refine runs_onDev hon (f := fun i d =>
    if d.stage.power = .rampUp then ({ d with stage := { d.stage with power := .lit } }).startHead i else d) rfl ?_
  rw [if_pos hup, Dev.startHead_of_cons (d := { s.dev with stage := { s.dev.stage with power := .lit } }) s.ident hqueue]
  refine ⟨rfl, rfl, ⟨_, rfl, rfl, rfl⟩, rfl, fun off hoff => ?_, ?_⟩
  · exact Dev.reg_choosePoint_other { s.dev with stage := { s.dev.stage with power := .lit } } hoff
  · exact (((((s.dev.within_stage _).trans (Dev.within_choosePoint _)).trans
      (Dev.within_pulse _ 1)).trans (Dev.within_prompter_stage _ _ _)).mono (by decide)).keeps

end

/-- Settles O23. -/
theorem stageLightsAndStarts : Obligations.StageLightsAndStarts := by
  unfold Obligations.StageLightsAndStarts
  intro s hon d
  refine ⟨fun c cs hqueue => ⟨fun hidle hlit fs => does_stageCueStart hon hqueue hidle hlit fs, fun hidle hdark fs => ?_,
    fun hidle hdown fs => ?_, fun hup => ?_⟩, fun hdown => ?_, fun hset hidle hempty hlit => ?_⟩
  · obtain ⟨t, ht, rfl⟩ := runs_stageCueStart_rise hon hqueue hidle (by rw [show s.dev.stage.power = _ from hdark]; decide) fs
    have hrise : s.dev.rampUp = { s.dev with stage := { s.dev.stage with power := .rampUp } } := by
      rw [Dev.rampUp, show s.dev.stage.power = _ from hdark]
    rw [hrise] at ht
    exact ⟨_, ht, rfl, (s.dev.within_stage _).keeps⟩
  · obtain ⟨t, ht, rfl⟩ := runs_stageCueStart_rise hon hqueue hidle (by rw [show s.dev.stage.power = _ from hdown]; decide) fs
    have hnote : s.dev.rampUp = { s.dev with stage := { s.dev.stage with wake := true } } := by
      rw [Dev.rampUp, show s.dev.stage.power = _ from hdown]
    rw [hnote] at ht
    exact ⟨_, ht, rfl, (s.dev.within_stage _).keeps⟩
  · exact runs_rampUpDone hon hqueue hup
  · refine runs_onDev hon (f := fun _ d => if d.stage.power = .rampDown then
        { d with stage := { d.stage with power := if d.stage.wake || !d.prompter.stageQueue.isEmpty then .rampUp else .dark, wake := false } }
      else d) rfl ?_
    rw [if_pos hdown]
    refine ⟨?_, rfl, (s.dev.within_stage _).keeps⟩
    simp [d]
  · refine runs_onDev hon (f := fun _ d =>
      if d.fld Reg.stgCtrl 15 4 != 0 && d.stage.running.isNone && d.prompter.stageQueue.isEmpty && d.stage.power == .lit then d.goDark
      else d) rfl ?_
    rw [if_pos (by rw [bne_iff_ne.mpr hset, hidle, hempty, hlit]; rfl)]
    refine ⟨?_, (s.dev.within_goDark).keeps⟩
    rw [Dev.goDark, show s.dev.stage.power = _ from hlit]

/-! ### Transfers -/

theorem Dev.transferDone_of_mover {d : Dev} {q : Nat} {x : Transfer} {xs : List Transfer} (hq : q < 48) (h : d.queue q = x :: xs) :
    d.transferDone q = (((d.setQueue q xs).runMove x).2).postToken q ((d.setQueue q xs).runMove x).1.1 ((d.setQueue q xs).runMove x).1.2 := by
  rw [Dev.transferDone, h]
  exact if_pos hq

theorem Dev.transferDone_of_fabric {d : Dev} {q : Nat} {x : Transfer} {xs : List Transfer} (h : d.queue q = x :: xs)
    (hdone : (48 ≤ q ∧ q < 56 ∧ x.got = x.total) ∨ (56 ≤ q ∧ d.sendPending x = false)) :
    d.transferDone q = (d.setQueue q xs).postToken q x.err false := by
  rw [Dev.transferDone, h]
  have hq : ¬q < 48 := by omega
  have hready : (decide (q < 56) && x.got != x.total || decide (56 ≤ q) && d.sendPending x) = false := by
    rcases hdone with ⟨h1, h2, h3⟩ | ⟨h1, h2⟩
    · simp [h3, h2]
    · simp [h2, Nat.not_lt.mpr h1]
  simp only [if_neg hq]
  exact if_neg (ne_true_of_eq_false hready)

/-- Settles O25: the oldest transfer ends and its token posts. -/
theorem transfersComplete : Obligations.TransfersComplete := by
  unfold Obligations.TransfersComplete
  intro s q fs x xs hon hqueue d rest
  have hexec : exec (.transferComplete q fs) s = .next { s with dev :=
      (if q.val < 48 && !(d.queue q.val).isEmpty then d.meets s.ident fs else d).transferDone q.val } := by
    change execTransferComplete q fs s = _
    rw [execTransferComplete, onDev_on hon]
  refine ⟨fun hq => ?_, fun hdone hrun => ?_⟩
  · have hmeets : (d.meets s.ident fs).queue q.val = x :: xs := by
      rw [Dev.queue, (d.within_meets s.ident fs).part .xfers (by decide)]
      exact hqueue
    refine ⟨_, hexec, ?_⟩
    rw [if_pos (by simp [hq, d, hqueue]), Dev.transferDone_of_mover hq hmeets]
  · have hq : ¬q.val < 48 := by omega
    rw [if_neg (by simp [hq]), Dev.transferDone_of_fabric hqueue hdone] at hexec
    have hpost := Dev.within_postToken (d.setQueue q.val xs) q.val x.err false
    have hqueues (k : Nat) : ((d.setQueue q.val xs).postToken q.val x.err false).queue k = if k = q.val then xs else d.queue k := by
      rw [Dev.queue, hpost.part .xfers (by decide)]
      exact d.queue_setQueue q.val k xs
    obtain ⟨hcount, herr, hother⟩ := counters_postToken (d := d.setQueue q.val xs) q.val x.err hrun
    exact ⟨_, hexec, (hqueues _).trans (if_pos rfl), fun k hk => (hqueues k).trans (if_neg hk), hcount, herr, hother,
      (((d.within_setQueue _ _).trans hpost).mono (by decide)).keeps⟩

/-! ### The scene boundary -/

theorem Dev.within_pend (d : Dev) (x : Tab Buffered) : d.Within [.pend] { d with pend := x } := by
  intro s p hp
  cases p with
  | pend | lines => simp at hp
  | _ => rfl

theorem Dev.within_free (d : Dev) (n : Nat) : d.Within [.free] { d with free := n } := by
  intro s p hp
  cases p with
  | free | lines => simp at hp
  | _ => rfl

theorem Dev.within_countMet (d : Dev) (found : List Detection) : d.Within [.wide, .regs] (d.countMet found) := by
  have hcount := d.within_refl.ite (c := (found.filter (fun x => x.code == 0x22 || x.code == countedOnly)).length = 0)
    (d.within_wideAdd Reg.stgSatCount (found.filter (fun x => x.code == 0x22 || x.code == countedOnly)).length)
  have hclamp := (hcount.trans (Dev.within_setBit _ Reg.stgStatus 8)).ite (c := found.any (fun x => x.code == 0x22)) hcount
  exact ((hclamp.trans (Dev.within_count _ Reg.qstSeqMismatch)).ite (c := found.any (fun x => x.code == 0x20)) hclamp).mono (by decide)

theorem Dev.within_addCounts (d : Dev) (i : Ident) (r : Running) : d.Within [.slots] (d.addCounts i r) :=
  ((d.within_slots _).ite d.within_refl).mono (by decide)

theorem Dev.within_digConfigured (d : Dev) : d.Within [.regs] d.digConfigured :=
  (((d.within_setReg _ _).trans (Dev.within_setReg _ _ _)).trans (Dev.within_setFld _ _ _ _ _)).mono (by decide)

theorem Dev.within_applyOne (d : Dev) (off : Nat) (b : Buffered) : d.Within [.regs, .dim] (d.applyOne off b) :=
  ((d.within_setReg off _).trans ((Dev.within_digConfigured _).ite ((Dev.within_setReg _ _ _).ite
    ((Dev.within_dim _ _).ite (Dev.within_refl _))))).mono (by decide)

theorem Dev.within_applyPend (d : Dev) (p : Block → Bool) : d.Within [.pend, .regs, .dim] (d.applyPend p) := by
  have hone (xs : Tab Buffered) (e : Dev) := Dev.within_foldl (g := fun (d : Dev) (x : Nat × Buffered) => d.applyOne x.1 x.2)
    (fun d x => d.within_applyOne x.1 x.2) xs e
  exact ((d.within_pend (d.pend.filter (fun e => !p (blockOf e.1)))).trans (hone (d.pend.filter (fun e => p (blockOf e.1))) _)).mono
    (by decide)

theorem Dev.within_dimBoundary (d : Dev) : d.Within [.regs, .dim] d.dimBoundary := by
  have hfixed (on : Bool) : d.Within [.regs, .dim] { d.setFld Reg.dimStatus 3 3 (b2n on) with dim := { d.dim with fixedNext := none } } :=
    ((d.within_setFld _ _ _ _).trans (Dev.within_dim _ _)).mono (by decide)
  rw [Dev.dimBoundary]
  cases d.dim.fixedNext with
  | none => exact (d.within_setOp _).mono (by decide)
  | some on => exact ((hfixed on).trans (Dev.within_setOp _ _)).mono (by decide)

/-- The Prompter but for its digest entries. -/
def Prompter.rest (p : Prompter) : Prompter := { p with digests := [] }

/-- Ready digest entries may have left for a memory without recorded errors: the Stage, the rest of the Prompter and tile store are
as they were. -/
def Dev.Flushed (d e : Dev) : Prop :=
  e.stage = d.stage ∧ e.prompter.rest = d.prompter.rest ∧ e.mems.tile = d.mems.tile ∧ e.mems.errors = []

theorem Dev.Flushed.trans {d e f : Dev} (h : d.Flushed e) (h' : e.Flushed f) : d.Flushed f :=
  ⟨h'.1.trans h.1, h'.2.1.trans h.2.1, h'.2.2.1.trans h.2.2.1, h'.2.2.2⟩

theorem Dev.Flushed.within {ps : List Part} {d e f : Dev} (h : d.Flushed e) (h' : e.Within ps f)
    (hps : ∀ p ∈ [Part.stage, .prompter, .mems], p ∉ .lines :: ps) : d.Flushed f := by
  have hmems : f.mems = e.mems := h'.part .mems (hps _ (by decide))
  refine h.trans ⟨h'.part .stage (hps _ (by decide)), ?_, congrArg Mems.tile hmems, hmems ▸ h.2.2.2⟩
  rw [h'.part .prompter (hps _ (by decide))]

theorem Dev.flushed_of_digests {d : Dev} (herr : d.mems.errors = []) (ds : List DigestEntry) :
    d.Flushed { d with prompter := { d.prompter with digests := ds } } := ⟨rfl, rfl, rfl, herr⟩

theorem Dev.flushed_store {d : Dev} (herr : d.mems.errors = []) (a : Nat) (bs : List Byte) : d.Flushed (d.store .hbm a bs).2 := by
  rw [Dev.store, herr]
  exact ⟨rfl, rfl, rfl, herr⟩

theorem Dev.flushed_digWrite {d : Dev} (herr : d.mems.errors = []) (e : DigestEntry) (v : W64) : d.Flushed (d.digWrite e v) := by
  have hput : d.Flushed (((d.store .hbm (d.digBase + 32 * d.fld Reg.stgDigWr 19 0) (d.digEntry e v)).2).setFld
      Reg.stgDigWr 19 0 ((d.fld Reg.stgDigWr 19 0 + 1) % d.digSize)) :=
    (Dev.flushed_store herr _ _).within (Dev.within_setFld _ _ _ _ _) (by decide)
  rw [Dev.digWrite]
  split
  · exact ⟨rfl, rfl, rfl, herr⟩
  · dsimp only
    split
    · exact hput.within (Dev.within_flagRaise _ _ 1 67) (by decide)
    · exact hput

theorem Dev.flushed_digFlush (n : Nat) {d : Dev} (herr : d.mems.errors = []) : d.Flushed (Dev.digFlush n d) := by
  induction n generalizing d with
  | zero => exact ⟨rfl, rfl, rfl, herr⟩
  | succ n ih =>
    rw [Dev.digFlush]
    cases d.prompter.digests with
    | nil => exact ⟨rfl, rfl, rfl, herr⟩
    | cons e es =>
      dsimp only
      cases e.value with
      | none => exact ⟨rfl, rfl, rfl, herr⟩
      | some v =>
        have hpop := Dev.flushed_of_digests herr es
        have hwrite := hpop.trans (Dev.flushed_digWrite hpop.2.2.2 e v)
        exact hwrite.trans (ih hwrite.2.2.2)

theorem Dev.flushed_digestScene {d : Dev} (herr : d.mems.errors = []) (r : Running) (v : Option W64) : d.Flushed (d.digestScene r v) := by
  rw [Dev.digestScene]
  split
  · have hds := Dev.flushed_of_digests herr (digResolve v d.prompter.digests)
    rw [Dev.digDone, Dev.digFlushAll]
    exact hds.trans (Dev.flushed_digFlush _ hds.2.2.2)
  · exact ⟨rfl, rfl, rfl, herr⟩

/-- The package whose running cue has met no error, its counts taken and its writes landed, before its digest and its token. -/
def Dev.landed (d : Dev) (i : Ident) (r : Running) (tile : Memory) : Dev :=
  let e := (d.countFound i r).addCounts i r
  { e with free := e.free + 1, mems := { e.mems with tile := tile } }

theorem Dev.landed_spec (d : Dev) (i : Ident) (r : Running) (tile : Memory) :
    (d.landed i r tile).stage = d.stage ∧ (d.landed i r tile).prompter = d.prompter ∧
      (d.landed i r tile).mems = { d.mems with tile := tile } := by
  have hcounts := (d.within_countMet (d.stageFound i r)).trans (Dev.within_addCounts _ i r)
  exact ⟨hcounts.part .stage (by decide), hcounts.part .prompter (by decide),
    congrArg (fun m : Mems => { m with tile := tile }) (hcounts.part .mems (by decide))⟩

/-- A cue without an error lands what it wrote, gives its digest and posts its token (R62). -/
theorem Dev.boundaryGood_of_clean {d : Dev} (i : Ident) (r : Running) (herr : d.mems.errors = []) :
    d.boundaryGood i r [] = ((d.landed i r (d.stageMem i r none).1).digestScene r (some (d.digestValue i r))).postToken
      (cueCtr r.cue.word) false false := by
  have hnone : ((d.countFound i r).addCounts i r).mems.errors = [] :=
    (congrArg Mems.errors (d.landed_spec i r []).2.2).trans herr
  have hland (e : Dev) (he : e.mems.errors = []) (new : Memory × List (Nat × Nat)) :
      e.landTile new = (false, { e with mems := { e.mems with tile := new.1 } }) := by
    rw [Dev.landTile, he]
    rfl
  rw [Dev.boundaryGood]
  simp only [List.isEmpty_nil, if_true]
  rw [hland { (d.countFound i r).addCounts i r with free := ((d.countFound i r).addCounts i r).free + 1 } hnone]
  rfl

/-- What follows a cue at its boundary (R34, R506): buffered writes, and the Dimmer's choice. -/
def Dev.boundaryEnd (e : Dev) : Dev :=
  ({ e.applyPend sceneBlocks with dim := { (e.applyPend sceneBlocks).dim with afterCurtain := false } }).dimBoundary.post121

/-- Where no token falls due, the Stage, the memories and the Prompter stay as the cue left them. -/
theorem Dev.boundaryEnd_spec {e : Dev} (hdue : e.prompter.due121 = false) :
    e.boundaryEnd.stage = e.stage ∧ e.boundaryEnd.mems = e.mems ∧ e.boundaryEnd.prompter = e.prompter := by
  have hframe := ((e.within_applyPend sceneBlocks).trans
    (Dev.within_dim _ { (e.applyPend sceneBlocks).dim with afterCurtain := false })).trans (Dev.within_dimBoundary _)
  have hprompter := hframe.part .prompter (by decide)
  rw [Dev.boundaryEnd, Dev.post121_of_none ((congrArg Prompter.due121 hprompter).trans hdue)]
  exact ⟨hframe.part .stage (by decide), hframe.part .mems (by decide), hprompter⟩

/-- A cue that ends well leaves a package that posts its token: no cue runs, its writes have landed, the Prompter has changed in digest
entries alone. -/
theorem Dev.boundaryGood_posts {d : Dev} (i : Ident) (r : Running) (herr : d.mems.errors = []) : ∃ x : Dev,
    d.boundaryGood i r [] = x.postToken (cueCtr r.cue.word) false false ∧ x.stage = d.stage ∧ x.prompter.rest = d.prompter.rest ∧
      x.mems.tile = (d.stageMem i r none).1 := by
  obtain ⟨hstage, hprompter, hmems⟩ := d.landed_spec i r (d.stageMem i r none).1
  obtain ⟨hstage', hprompter', htile', -⟩ := Dev.flushed_digestScene (d := d.landed i r (d.stageMem i r none).1)
    ((congrArg Mems.errors hmems).trans herr) r (some (d.digestValue i r))
  exact ⟨_, Dev.boundaryGood_of_clean i r herr, hstage'.trans hstage, hprompter'.trans (congrArg Prompter.rest hprompter),
    htile'.trans (congrArg Mems.tile hmems)⟩

/-- What a token at the boundary leaves where none falls due besides. -/
theorem Dev.boundaryEnd_postToken {d x : Dev} (n : Nat) (hsame : x.prompter.rest = d.prompter.rest) (hrun : d.halted = false)
    (hdue : d.prompter.due121 = false) :
    let e := (x.postToken n false false).boundaryEnd
    e.stage = x.stage ∧ e.mems = x.mems ∧ (e.counter n).count = ((d.counter n).count + 1) % 65536 ∧
      (e.counter n).err = (d.counter n).err ∧ ∀ k, k ≠ n → e.counter k = d.counter k := by
  have hpost := x.within_postToken n false false
  have hrun' := congrArg Prompter.run hsame
  have hdue' := congrArg Prompter.due121 hsame
  have hcounters := congrArg Prompter.counters hsame
  have hhalted : x.halted = false := (congrArg (· == PrompterState.halted) hrun').trans hrun
  have hcounter (k : Nat) : x.counter k = d.counter k := congrArg (tabGet _ · k) hcounters
  obtain ⟨hs, hm, hp⟩ := Dev.boundaryEnd_spec (e := x.postToken n false false) (by rw [Dev.prompter_postToken]; exact hdue'.trans hdue)
  have hfinal (k : Nat) : (x.postToken n false false).boundaryEnd.counter k = (x.postToken n false false).counter k := by
    rw [Dev.counter, hp, Dev.counter]
  obtain ⟨hcount, herror, hother⟩ := counters_postToken n false hhalted
  refine ⟨hs.trans (hpost.part .stage (by decide)), hm.trans (hpost.part .mems (by decide)), ?_, ?_, fun k hk => ?_⟩
  · rw [hfinal, hcount, hcounter]
  · rw [hfinal, herror, hcounter, Bool.or_false]
  · rw [hfinal, hother k hk, hcounter]

/-- The Stage has ended its cue, whose boundary pulses its line. -/
def Dev.cueEnded (d : Dev) : Dev := ({ d with stage := { d.stage with running := none } }).pulse 2

theorem Dev.sceneBoundary_of_clean {d : Dev} (i : Ident) {r : Running} (hcut : r.cut = false) (hclean : d.detections i r = [])
    (hreads : d.stageErrors i r = []) : d.sceneBoundary i r = (d.cueEnded.boundaryGood i r []).boundaryEnd := by
  rw [Dev.sceneBoundary, hcut, hclean, hreads]
  rfl

/-- Settles O24: the three ends of a cue; a good one lands its writes, then its token posts. -/
theorem sceneBoundaryEndsCue : Obligations.SceneBoundaryEndsCue := by
  unfold Obligations.SceneBoundaryEndsCue
  intro s r hon hrunning hdue d idle ends
  have hexec : exec .sceneBoundary s = .next { s with dev := d.sceneBoundary s.ident r } := by
    change execSceneBoundary s = _
    rw [execSceneBoundary, onDev_on hon]
    simp only [hrunning]
    rfl
  refine ⟨fun hcut herr hclean hrun hreads => ⟨_, hexec, ?_⟩, fun x hcut hfirst => ⟨_, hexec, ?_⟩, fun hcut => ⟨_, hexec, ?_⟩⟩
  · obtain ⟨x, hgood, hstage, hsame, htile⟩ := Dev.boundaryGood_posts (d := d.cueEnded) s.ident r herr
    obtain ⟨hs, hm, hcounters⟩ := Dev.boundaryEnd_postToken (cueCtr r.cue.word) hsame hrun hdue
    rw [Dev.sceneBoundary_of_clean s.ident hcut hclean hreads, hgood]
    exact ⟨congrArg Stage.running (hs.trans hstage), (congrArg Mems.tile hm).trans htile, hcounters⟩
  · rw [Dev.sceneBoundary, hcut]
    simp only [hfirst]
    rfl
  · rw [Dev.sceneBoundary, hcut]
    rfl

end Sys2Proof.Machine
end

section
/-! Bubbles, Flickers, pre-arms and the control period (R434, R437, R438, R441, R444, R448): O26 and O27. -/
namespace Sys2Proof.Machine

/-! ### What moves b -/

theorem Dev.within_setB (d : Dev) (b : Nat) : d.Within [.regs, .dim, .free] (d.setB b) :=
  ((d.within_takeFree.trans (Dev.within_setFld _ Reg.dimStatus 14 9 b)).trans (Dev.within_dim _ _)).mono (by decide)

/-- A change of b moves the accumulator too, by a free count. -/
theorem Dev.setB_eq (d : Dev) (b : Nat) : ∃ n, d.setB b = { d.takeFree.2.setFld Reg.dimStatus 14 9 b with dim := { d.dim with acc := n } } :=
  ⟨_, rfl⟩

theorem Dev.regs_setB (d : Dev) (b : Nat) : (d.setB b).regs = (d.takeFree.2.setFld Reg.dimStatus 14 9 b).regs := by
  obtain ⟨n, h⟩ := d.setB_eq b
  rw [h]

theorem Dev.bubbleB_setB (d : Dev) {b : Nat} (hb : b < 64) : (d.setB b).bubbleB = b := by
  have hset := Dev.fld_setFld_same (d := d.takeFree.2) Reg.dimStatus b (hi := 14) (lo := 9) (by decide)
  rw [Dev.bubbleB, Dev.fld_congr (Dev.reg_congr (d.regs_setB b) _), hset]
  exact Nat.mod_eq_of_lt hb

theorem Dev.reg_setB_other (d : Dev) (b : Nat) {off : Nat} (h : off ≠ Reg.dimStatus) : (d.setB b).reg off = d.reg off :=
  (Dev.reg_congr (d.regs_setB b) off).trans (Dev.reg_setFld_other (d := d.takeFree.2) 14 9 b h)

theorem bits_lt (v lo len : Nat) : bits v lo len < 2 ^ len := by
  rw [bits]
  exact Nat.mod_lt _ (Nat.two_pow_pos len)

theorem Dev.bubbleB_lt (d : Dev) : d.bubbleB < 64 := bits_lt _ 9 6

theorem Dev.bMax_lt (d : Dev) : d.bMax < 64 := lt_of_le_of_lt (Nat.min_le_left _ _) (by decide)

/-! ### Bubbles and Flickers -/

theorem Dev.bubble_counted {d : Dev} (hb : d.bubbleB ≠ 0) (hramp : d.ramping = false) (hfixed : d.fixedMode = false)
    (hburst : d.dim.burst = false) :
    d.bubble = (({ d with dim := { d.dim with acc := nextOverflow d.dim.acc d.bubbleB } } : Dev).wideAdd Reg.dimBubbles 1).pulse 6 := by
  have hnone : (d.ramping || d.fixedMode || d.dim.burst) = false := by rw [hramp, hfixed, hburst]; rfl
  rw [Dev.bubble, if_neg hb]
  exact if_neg (ne_true_of_eq_false hnone)

theorem Dev.bubble_dropped {d : Dev} (hb : d.bubbleB ≠ 0) (hany : d.ramping = true ∨ d.fixedMode = true ∨ d.dim.burst = true) :
    d.bubble = { d with dim := { d.dim with acc := nextOverflow d.dim.acc d.bubbleB } } := by
  have hone : (d.ramping || d.fixedMode || d.dim.burst) = true := by simpa only [Bool.or_eq_true, or_assoc] using hany
  rw [Dev.bubble, if_neg hb]
  exact if_pos hone

/-- A Flicker is counted and flagged (R441). -/
def Dev.flickered (d : Dev) : Dev := (d.count Reg.dimFlickers).flagRaise Reg.dimStatus 16 352

theorem Dev.within_flickered (d : Dev) : d.Within (.regs :: raising) d.flickered :=
  ((d.within_count _).trans (Dev.within_flagRaise _ _ 16 352)).mono (by decide)

theorem Dev.reg_flickered_other (d : Dev) {off : Nat} (hc : off ≠ Reg.dimFlickers) (hs : off ≠ Reg.dimStatus) :
    d.flickered.reg off = d.reg off :=
  (Dev.reg_raise _ 352 off).trans ((Dev.reg_setBit_other _ 16 hs).trans (d.reg_count_other hc))

theorem Dev.reg_flickered_count (d : Dev) :
    d.flickered.reg Reg.dimFlickers = BitVec.ofNat 32 (min ((d.reg Reg.dimFlickers).toNat + 1) 0xFFFFFFFF) :=
  (Dev.reg_raise _ 352 _).trans ((Dev.reg_setBit_other _ 16 (by decide)).trans (d.reg_count_same _))

theorem Dev.bit_flickered (d : Dev) : d.flickered.bit Reg.dimStatus 16 = true :=
  (Dev.bit_congr (Dev.reg_raise _ 352 _) 16).trans (Dev.bit_setBit_same _ _ (by decide))

theorem Dev.bit_setBit_apart (d : Dev) (off : Nat) {i j : Nat} (hi : i < 32) (h : j ≠ i) : (d.setBit off i).bit off j = d.bit off j := by
  rw [Dev.setBit, d.bit_setFld off 1 j ⟨Nat.le_refl _, hi⟩, if_neg (by omega)]

theorem Dev.fixedMode_flickered (d : Dev) : d.flickered.fixedMode = d.fixedMode :=
  (Dev.bit_congr (Dev.reg_raise _ 352 _) 3).trans ((Dev.bit_setBit_apart _ _ (by decide) (by decide)).trans
    (Dev.bit_congr (d.reg_count_other (by decide)) 3))

/-- What a Flicker does by the Stage's power (R441). -/
theorem Dev.flicker_rampUp {d : Dev} (h : d.stage.power = .rampUp) : d.flicker = d.flickered.count Reg.stgRampPauses := by
  have hpower : d.flickered.stage.power = .rampUp := (congrArg Stage.power (d.within_flickered.part .stage (by decide))).trans h
  rw [Dev.flicker]
  exact (congrArg (fun p : StagePower => match p with
    | .rampUp => d.flickered.count Reg.stgRampPauses
    | .rampDown => d.flickered
    | _ => d.flickered.flickerBurst) hpower)

theorem Dev.flicker_steady {d : Dev} (h : d.stage.power = .lit ∨ d.stage.power = .dark) : d.flicker = d.flickered.flickerBurst := by
  have hpower : d.flickered.stage.power = d.stage.power := congrArg Stage.power (d.within_flickered.part .stage (by decide))
  rw [← hpower] at h
  rw [Dev.flicker]
  rcases h with h | h
  · exact (congrArg (fun p : StagePower => match p with
      | .rampUp => d.flickered.count Reg.stgRampPauses
      | .rampDown => d.flickered
      | _ => d.flickered.flickerBurst) h)
  · exact (congrArg (fun p : StagePower => match p with
      | .rampUp => d.flickered.count Reg.stgRampPauses
      | .rampDown => d.flickered
      | _ => d.flickered.flickerBurst) h)

theorem raised_flickered (s : State) : Raised 352 s { s with dev := s.dev.flickered } :=
  raised_raise ((Dev.setBit_arrivals ..).trans (Dev.count_arrivals ..)) 352

/-- A burst of 8 bubbles begins (R441). -/
theorem Dev.flickerBurst_begins {d : Dev} (hburst : d.dim.burst = false) (hfixed : d.fixedMode = false) :
    d.Within [.wide, .dim] d.flickerBurst ∧ d.flickerBurst.dim = { d.dim with burst := true } ∧
      d.flickerBurst.wideGet Reg.dimBubbles = d.wideGet Reg.dimBubbles + 8 := by
  have heq : d.flickerBurst = { (d.pulse 6).wideAdd Reg.dimBubbles 8 with dim := { d.dim with burst := true } } := by
    have hnot : ¬({ (d.pulse 6).wideAdd Reg.dimBubbles 8 with dim := { d.dim with burst := true } } : Dev).fixedMode = true :=
      ne_true_of_eq_false hfixed
    rw [Dev.flickerBurst, if_neg (by simp [hburst])]
    exact if_neg hnot
  rw [heq]
  exact ⟨(((d.within_pulse 6).trans (Dev.within_wideAdd _ _ 8)).trans (Dev.within_dim _ _)).mono (by decide), rfl,
    Dev.wideGet_wideAdd_same ..⟩

/-! ### Pre-arms -/

/-- The least of a list's distances. -/
theorem foldl_min_le (xs : List (Nat × Nat)) (m : Nat) :
    xs.foldl (fun m y => min m y.1) m ≤ m ∧ ∀ y ∈ xs, xs.foldl (fun m y => min m y.1) m ≤ y.1 := by
  induction xs generalizing m with
  | nil => exact ⟨Nat.le_refl m, by simp⟩
  | cons x xs ih =>
    obtain ⟨hm, hall⟩ := ih (min m x.1)
    refine ⟨hm.trans (Nat.min_le_left _ _), fun y hy => ?_⟩
    rcases List.mem_cons.mp hy with rfl | hy
    · exact hm.trans (Nat.min_le_right _ _)
    · exact hall y hy

theorem foldl_min_mem (xs : List (Nat × Nat)) (m : Nat) :
    xs.foldl (fun m y => min m y.1) m = m ∨ ∃ y ∈ xs, y.1 = xs.foldl (fun m y => min m y.1) m := by
  induction xs generalizing m with
  | nil => exact Or.inl rfl
  | cons x xs ih =>
    rw [List.foldl_cons]
    rcases ih (min m x.1) with h | ⟨y, hy, h⟩
    · rcases Nat.le_total m x.1 with hle | hle
      · exact Or.inl (h.trans (Nat.min_eq_left hle))
      · exact Or.inr ⟨x, List.mem_cons_self, (h.trans (Nat.min_eq_right hle)).symm⟩
    · exact Or.inr ⟨y, List.mem_cons_of_mem _ hy, h⟩

/-- The pre-arm that falls due first has the least distance; the others come nearer by it. -/
theorem firstDue_of_ne_nil {ps : List (Nat × Nat)} (h : ps ≠ []) :
    ∃ k x, (k, x) ∈ ps ∧ (∀ p ∈ ps, k ≤ p.1) ∧ firstDue ps = some (x, nearer k (ps.erase (k, x))) := by
  cases ps with
  | nil => exact absurd rfl h
  | cons x xs =>
    let k := (x :: xs).foldl (fun m y => min m y.1) x.1
    have hmem : ∃ y ∈ x :: xs, y.1 = k := by
      rcases foldl_min_mem (x :: xs) x.1 with h | h
      · exact ⟨x, List.mem_cons_self, h.symm⟩
      · exact h
    obtain ⟨y, hy⟩ : ∃ y, (x :: xs).find? (fun y => y.1 == k) = some y := by
      rw [← Option.isSome_iff_exists, List.find?_isSome]
      obtain ⟨y, hy, hk⟩ := hmem
      exact ⟨y, hy, by simpa using hk⟩
    have hk : y.1 = k := by simpa using List.find?_some hy
    have hpair : y = (k, y.2) := by rw [← hk]
    refine ⟨k, y.2, hpair ▸ List.mem_of_find?_eq_some hy, (foldl_min_le (x :: xs) x.1).2, ?_⟩
    rw [firstDue]
    change some (((List.find? (fun y => y.1 == k) (x :: xs)).getD x).2, nearer k ((x :: xs).erase ((List.find? (fun y => y.1 == k)
      (x :: xs)).getD x))) = _
    rw [hy, Option.getD_some, ← hpair]

/-- Settles O26. -/
theorem bubblesAndFlickers : Obligations.BubblesAndFlickers := by
  unfold Obligations.BubblesAndFlickers
  intro s hon d
  refine ⟨fun hb hramp hfixed hburst => ?_, fun hb hany => ?_, fun hup => ?_, fun hlit hburst hfixed => ?_, fun hburst => ?_,
    fun ps hps hne => ?_⟩
  · refine runs_onDev hon (f := fun _ d => d.bubble) rfl ?_
    rw [Dev.bubble_counted hb hramp hfixed hburst]
    exact ⟨Dev.wideGet_wideAdd_same .., rfl,
      (((d.within_dim _).trans (Dev.within_wideAdd _ _ 1)).trans (Dev.within_pulse _ 6)).keeps⟩
  · refine runs_onDev hon (f := fun _ d => d.bubble) rfl ?_
    rw [Dev.bubble_dropped hb hany]
    exact ⟨rfl, (d.within_dim _).keeps⟩
  · refine runs_onDev hon (f := fun _ d => d.flicker) rfl ?_
    rw [Dev.flicker_rampUp hup]
    refine ⟨(raised_flickered s).congr ((Dev.within_count d.flickered _).part .arrivals (by decide)), ?_, ?_, ?_, fun off hoff => ?_, ?_⟩
    · exact (Dev.bit_congr (Dev.reg_count_other _ (by decide)) 16).trans d.bit_flickered
    · exact (Dev.reg_count_other _ (by decide)).trans d.reg_flickered_count
    · exact (Dev.reg_count_same _ _).trans (by rw [d.reg_flickered_other (by decide) (by decide)])
    · simp only [List.mem_cons, List.not_mem_nil, or_false, not_or] at hoff
      exact (Dev.reg_count_other _ hoff.2.2).trans (d.reg_flickered_other hoff.2.1 hoff.1)
    · exact ((d.within_flickered.trans (Dev.within_count _ _)).mono (by decide)).keeps
  · have hflickered := d.within_flickered
    have hdim : d.flickered.dim = d.dim := hflickered.part .dim (by decide)
    have hwide : d.flickered.wideGet Reg.dimBubbles = d.wideGet Reg.dimBubbles :=
      congrArg (tabGet (fun _ => 0) · Reg.dimBubbles) (hflickered.part .wide (by decide))
    obtain ⟨hframe, hdim', hwide'⟩ := Dev.flickerBurst_begins (d := d.flickered) (by rw [hdim]; exact hburst)
      (d.fixedMode_flickered.trans hfixed)
    have hreg (off : Nat) := Dev.reg_congr (hframe.part .regs (by decide)) off
    refine runs_onDev hon (f := fun _ d => d.flicker) rfl ?_
    rw [Dev.flicker_steady hlit]
    refine ⟨(raised_flickered s).congr (hframe.part .arrivals (by decide)), (Dev.bit_congr (hreg _) 16).trans d.bit_flickered,
      hdim'.trans (by rw [hdim]), hwide'.trans (by rw [hwide]), fun off hoff => ?_, ((hflickered.trans hframe).mono (by decide)).keeps⟩
    simp only [List.mem_cons, List.not_mem_nil, or_false, not_or] at hoff
    exact (hreg off).trans (d.reg_flickered_other hoff.2 hoff.1)
  · refine runs_onDev hon (f := fun _ d => if d.dim.burst then
        ({ d with dim := { d.dim with burst := false } }).setB (max d.bubbleB (d.fld Reg.dimFlicker 13 8)) else d) rfl ?_
    rw [if_pos hburst]
    refine ⟨rfl, Dev.bubbleB_setB _ (Nat.max_lt.mpr ⟨d.bubbleB_lt, bits_lt _ 8 6⟩), fun off hoff => ?_, ?_⟩
    · exact Dev.reg_setB_other _ _ (by simpa using hoff)
    · exact (((d.within_dim _).trans (Dev.within_setB _ _)).mono (by decide)).keeps
  · obtain ⟨k, x, hmem, hleast, hfirst⟩ := firstDue_of_ne_nil hne
    refine ⟨k, x, hmem, hleast, runs_onDev hon (f := fun i d => match firstDue d.dim.prearm with
      | none => d
      | some (x, xs) => ({ d with dim := { d.dim with prearm := xs } }).setB (d.prearmed i (16 * x))) rfl ?_⟩
    have hdue : firstDue s.dev.dim.prearm = some (x, nearer k (ps.erase (k, x))) := by
      rw [← hfirst, ← hps]
    simp only [hdue]
    refine ⟨rfl, Dev.bubbleB_setB _ (lt_of_le_of_lt (Nat.min_le_left _ _) d.bMax_lt), fun off hoff => ?_, ?_⟩
    · exact Dev.reg_setB_other _ _ (by simpa using hoff)
    · exact (((d.within_dim _).trans (Dev.within_setB _ _)).mono (by decide)).keeps

end Sys2Proof.Machine
end

section
/-! The control period of the Dimmer (R433, R434, R437): O27. -/
namespace Sys2Proof.Machine

/-- The estimate, the cap, b and the Dimmer's registers but DIM_STATUS and DIM_OP_CHANGES are the same. -/
def Dev.LawKept (d e : Dev) : Prop :=
  (∀ off, Reg.dimCtrl ≤ off → off ≠ Reg.dimStatus → off ≠ Reg.dimOpChanges → e.reg off = d.reg off) ∧ e.bubbleB = d.bubbleB ∧
    (e.dim.estSum, e.dim.estCount, e.dim.cap) = (d.dim.estSum, d.dim.estCount, d.dim.cap) ∧ e.pend = d.pend

section
variable {d e f : Dev}

theorem Dev.lawKept_refl (d : Dev) : d.LawKept d := ⟨fun _ _ _ _ => rfl, rfl, rfl, rfl⟩

theorem Dev.LawKept.trans (h : d.LawKept e) (h' : e.LawKept f) : d.LawKept f :=
  ⟨fun off h1 h2 h3 => (h'.1 off h1 h2 h3).trans (h.1 off h1 h2 h3), h'.2.1.trans h.2.1, h'.2.2.1.trans h.2.2.1, h'.2.2.2.trans h.2.2.2⟩

theorem Dev.LawKept.ite {c : Prop} [Decidable c] (h : d.LawKept e) (h' : d.LawKept f) : d.LawKept (if c then e else f) := by
  split <;> assumption

theorem Dev.lawKept_setFld (d : Dev) {hi lo : Nat} (n : Nat) (h : lo ≤ hi ∧ hi < 32) (h' : hi < 9 ∨ 14 < lo) :
    d.LawKept (d.setFld Reg.dimStatus hi lo n) :=
  ⟨fun _ _ h2 _ => d.reg_setFld_other _ _ _ h2, d.fld_setFld_apart _ _ h (by omega) (by decide), rfl, rfl⟩

/-- A command that leaves the Dimmer's registers, its state and the buffered writes. -/
theorem Dev.lawKept_of_regs (hreg : ∀ off, Reg.dimCtrl ≤ off → e.reg off = d.reg off) (hdim : e.dim = d.dim) (hpend : e.pend = d.pend) :
    d.LawKept e := ⟨fun off h _ _ => hreg off h, Dev.fld_congr (hreg _ (by decide)) 14 9, by rw [hdim], hpend⟩

theorem Dev.lawKept_raise (d : Dev) (src : Nat) : d.LawKept (d.raise src) :=
  Dev.lawKept_of_regs (fun off _ => d.reg_raise src off) (by simp) (by simp)

theorem Dev.lawKept_conflict (d : Dev) (code : Nat) : d.LawKept (d.conflict code) := by
  refine Dev.lawKept_of_regs (fun off h => d.reg_conflict_of_dim code h) (by simp) ?_
  rw [Dev.conflict]
  simp [apply_ite Dev.pend, Dev.takeFree]

theorem Dev.lawKept_dim (d : Dev) (x : Dim) (h : (x.estSum, x.estCount, x.cap) = (d.dim.estSum, d.dim.estCount, d.dim.cap)) :
    d.LawKept { d with dim := x } := ⟨fun _ _ _ _ => rfl, rfl, h, rfl⟩

theorem Dev.lawKept_powerFloor (d : Dev) (b : Nat) : d.LawKept (d.powerFloor b) := by
  have hdim (hi lo : Nat) : d.LawKept { d with dim := { d.dim with atMax := hi, atZero := lo } } := d.lawKept_dim _ rfl
  have hset (n hi lo : Nat) : d.LawKept { d.setFld Reg.dimStatus 8 6 n with dim := { d.dim with atMax := hi, atZero := lo } } :=
    (d.lawKept_setFld n (by decide) (by decide)).trans (Dev.lawKept_dim _ { d.dim with atMax := hi, atZero := lo } rfl)
  rw [Dev.powerFloor]
  generalize (if b = d.bMax then d.dim.atMax + 1 else 0) = hi
  generalize (if b = 0 then d.dim.atZero + 1 else 0) = lo
  dsimp only
  split
  · exact hset _ _ _
  · split
    · exact hset _ _ _
    · exact hdim _ _

theorem Dev.lawKept_fixedBroken (d : Dev) : d.LawKept d.fixedBroken := by
  have hclear : d.LawKept { d.clrBit Reg.dimStatus 3 with dim := { d.dim with fixedNext := none } } :=
    (d.lawKept_setFld (hi := 3) (lo := 3) 0 (by decide) (by decide)).trans (Dev.lawKept_dim _ { d.dim with fixedNext := none } rfl)
  exact ((hclear.trans (Dev.lawKept_conflict _ 1)).trans (Dev.lawKept_setFld _ (hi := 15) (lo := 15) 1 (by decide) (by decide))).trans
    (Dev.lawKept_raise _ 353)

theorem Dev.lawKept_setOp (d : Dev) (op : Nat) : d.LawKept (d.setOp op) := by
  have hcount (e : Dev) : e.LawKept (e.count Reg.dimOpChanges) :=
    ⟨fun _ _ _ h => e.reg_count_other h, Dev.fld_congr (e.reg_count_other (by decide)) 14 9, rfl, rfl⟩
  exact d.lawKept_refl.ite ((d.lawKept_setFld op (by decide) (by decide)).trans (hcount _))

theorem Dev.lawKept_dimBoundary (d : Dev) : d.LawKept d.dimBoundary := by
  rw [Dev.dimBoundary]
  cases d.dim.fixedNext with
  | none => exact d.lawKept_setOp _
  | some on =>
    exact ((d.lawKept_setFld (b2n on) (by decide) (by decide)).trans
      (Dev.lawKept_dim _ { d.dim with fixedNext := none } (by rfl))).trans (Dev.lawKept_setOp _ _)

end

/-- A quotient whose rounding is free is rounded down or up (R436). -/
theorem Dev.freeQuot_cases (d : Dev) (num den : Nat) :
    (d.freeQuot num den).1 = num / den ∨ ((d.freeQuot num den).1 = num / den + 1 ∧ num % den ≠ 0) := by
  rw [Dev.freeQuot]
  split
  · exact Or.inl rfl
  · next h =>
    dsimp only [Dev.takeFree]
    rcases Nat.mod_two_eq_zero_or_one (Config.freeWord d.free).toNat with h0 | h1
    · exact Or.inl (by rw [h0]; rfl)
    · exact Or.inr ⟨by rw [h1], h⟩

/-- With no buffered write waiting none takes effect. -/
theorem Dev.applyPend_of_none {d : Dev} (h : d.pend = []) (p : Block → Bool) : d.applyPend p = d := by
  rw [Dev.applyPend, h]
  simp only [List.filter_nil, List.foldl_nil]
  rw [← h]

/-- Only free values have been taken. -/
theorem Dev.estimate_of_lt (d : Dev) {n : Nat} (h : n < 65536) : d.estimate n = (n, d) := if_pos h

theorem Dev.estimate_eq (d : Dev) (n : Nat) : (d.estimate n).2 = { d with free := (d.estimate n).2.free } := by
  rw [Dev.estimate]
  split <;> rfl

/-- The estimate recorded. -/
def Dev.estimated (d : Dev) (e u : Nat) : Dev :=
  let x := d.setFld Reg.dimEst 15 0 e
  { x with dim := { x.dim with
    estSum := x.dim.estSum + e, estCount := x.dim.estCount + 1
    peak := some (match x.dim.peak with | some p => max p u | none => u) } }

theorem Dev.regs_estimated (d : Dev) (e u : Nat) : (d.estimated e u).regs = (d.setFld Reg.dimEst 15 0 e).regs := by rw [Dev.estimated]

theorem Dev.dim_estimated (d : Dev) (e u : Nat) :
    (d.estimated e u).dim.estSum = d.dim.estSum + e ∧ (d.estimated e u).dim.estCount = d.dim.estCount + 1 := by
  rw [Dev.estimated]
  exact ⟨rfl, rfl⟩

theorem Dev.within_estimated (d : Dev) (e u : Nat) : d.Within [.regs, .dim] (d.estimated e u) :=
  ((d.within_setFld Reg.dimEst 15 0 e).trans (Dev.within_dim _ _)).mono (by decide)

/-- The estimate recorded, then b moved. -/
def Dev.periodLaw (d : Dev) (i : Ident) (b dem c e u : Nat) : Dev :=
  (d.estimated e u).setB (bubbleLaw b (d.estimated e u).bMax dem c i.stageDraw)

/-- What follows the law within the period (R443, R444, R445). -/
def Dev.periodEnd (d : Dev) (b dem c : Nat) : Dev :=
  let d := if d.fixedMode then (if c * 16 < dem then d.fixedBroken else d) else d.powerFloor b
  let d := (d.applyPend (fun x => x == .dim)).takeCap
  if d.stage.running.isNone then d.dimBoundary else d

theorem Dev.controlPeriod_eq {d d1 d2 d3 : Dev} {stage other st e su : Nat} (i : Ident)
    (hq : d.freeQuot (stage * d.fld Reg.dimGain 15 0) 4096 = (st, d1)) (he : d1.estimate (128 + st + other) = (e, d2))
    (hu : d2.freeQuot (st * 64) (64 - d.bubbleB) = (su, d3)) :
    d.controlPeriod i stage other =
      (d3.periodLaw i d.bubbleB (d3.demand e) d3.capC e (128 + su + other)).periodEnd d.bubbleB (d3.demand e) d3.capC := by
  rw [Dev.controlPeriod]
  rw [hq]
  dsimp -zeta only
  rw [he]
  dsimp -zeta only
  rw [hu]
  rfl

/-- The period's end leaves the estimate, b and the Dimmer's registers; the cap is that of the next period (R433). -/
theorem Dev.periodEnd_spec {d : Dev} (b dem c : Nat) (hpend : d.pend = []) :
    (∀ off, Reg.dimCtrl ≤ off → off ≠ Reg.dimStatus → off ≠ Reg.dimOpChanges → (d.periodEnd b dem c).reg off = d.reg off) ∧
      (d.periodEnd b dem c).bubbleB = d.bubbleB ∧ (d.periodEnd b dem c).dim.estSum = d.dim.estSum ∧
      (d.periodEnd b dem c).dim.estCount = d.dim.estCount ∧
      (d.periodEnd b dem c).dim.cap = min (d.fld Reg.dimCap 6 0) (d.fld Reg.dimTcap 6 0) := by
  have hmode : d.LawKept (if d.fixedMode then (if c * 16 < dem then d.fixedBroken else d) else d.powerFloor b) :=
    (d.lawKept_fixedBroken.ite d.lawKept_refl).ite (d.lawKept_powerFloor b)
  rw [Dev.periodEnd]
  generalize (if d.fixedMode then (if c * 16 < dem then d.fixedBroken else d) else d.powerFloor b) = m at hmode
  obtain ⟨hreg, hb, hdim, hp⟩ := hmode
  have hsum : m.dim.estSum = d.dim.estSum := congrArg (·.1) hdim
  have hcount : m.dim.estCount = d.dim.estCount := congrArg (·.2.1) hdim
  have hcap : m.takeCap.dim.cap = min (d.fld Reg.dimCap 6 0) (d.fld Reg.dimTcap 6 0) := by
    rw [← Dev.fld_congr (hreg Reg.dimCap (by decide) (by decide) (by decide)),
      ← Dev.fld_congr (hreg Reg.dimTcap (by decide) (by decide) (by decide))]
    rfl
  obtain ⟨hreg', hb', hdim', -⟩ := (m.takeCap.lawKept_dimBoundary).ite (c := m.takeCap.stage.running.isNone = true) m.takeCap.lawKept_refl
  rw [Dev.applyPend_of_none (hp.trans hpend)]
  exact ⟨fun off h1 h2 h3 => (hreg' off h1 h2 h3).trans (hreg off h1 h2 h3), hb'.trans hb, (congrArg (·.1) hdim').trans hsum,
    (congrArg (·.2.1) hdim').trans hcount, (congrArg (·.2.2) hdim').trans hcap⟩

theorem bubbleLaw_lt {b bmax : Nat} (hb : b < 64) (hmax : bmax < 64) (dem c draw : Nat) : bubbleLaw b bmax dem c draw < 64 := by
  rw [bubbleLaw]
  split
  · exact lt_of_le_of_lt (Nat.min_le_left _ _) hmax
  · exact lt_of_le_of_lt (Nat.sub_le _ _) hb

theorem Dev.reg_estimated_other (d : Dev) (e u : Nat) {off : Nat} (h : off ≠ Reg.dimEst) : (d.estimated e u).reg off = d.reg off :=
  (Dev.reg_congr (d.regs_estimated e u) off).trans (d.reg_setFld_other 15 0 e h)

theorem Dev.reg_periodLaw_other (d : Dev) (i : Ident) (b dem c e u : Nat) {off : Nat} (hs : off ≠ Reg.dimStatus) (h : off ≠ Reg.dimEst) :
    (d.periodLaw i b dem c e u).reg off = d.reg off :=
  (Dev.reg_setB_other _ _ hs).trans (d.reg_estimated_other e u h)

/-- What the law leaves: the estimate recorded and summed, b moved. -/
theorem Dev.periodLaw_spec (d : Dev) (i : Ident) {b e : Nat} (dem c u : Nat) (hb : b < 64) (he : e < 65536) :
    (d.periodLaw i b dem c e u).fld Reg.dimEst 15 0 = e ∧ (d.periodLaw i b dem c e u).dim.estSum = d.dim.estSum + e ∧
      (d.periodLaw i b dem c e u).dim.estCount = d.dim.estCount + 1 ∧
      (d.periodLaw i b dem c e u).bubbleB = bubbleLaw b d.bMax dem c i.stageDraw := by
  have hmax : (d.estimated e u).bMax = d.bMax :=
    congrArg (min 56) (Dev.fld_congr (d.reg_estimated_other e u (off := Reg.dimLimits) (by decide)) 5 0)
  have hest : (d.periodLaw i b dem c e u).reg Reg.dimEst = (d.setFld Reg.dimEst 15 0 e).reg Reg.dimEst :=
    (Dev.reg_setB_other _ _ (by decide)).trans (Dev.reg_congr (d.regs_estimated e u) _)
  obtain ⟨hsum, hcount⟩ := d.dim_estimated e u
  refine ⟨?_, hsum, hcount, ?_⟩
  · rw [Dev.fld_congr hest, d.fld_setFld_same _ _ (by decide)]
    exact Nat.mod_eq_of_lt he
  · rw [← hmax]
    exact Dev.bubbleB_setB _ (bubbleLaw_lt hb (Dev.bMax_lt _) _ _ _)

/-- Settles O27: the law moves b by the estimate of the period; what follows leaves b and the estimate. -/
theorem controlPeriodLaw : Obligations.ControlPeriodLaw := by
  unfold Obligations.ControlPeriodLaw
  intro s stage other hon hpend d n
  have hq := d.freeQuot_cases n 4096
  have hd1 := d.freeQuot_eq n 4096
  generalize hst : d.freeQuot n 4096 = q at hq hd1
  obtain ⟨st, d1⟩ := q
  have hd2 := d1.estimate_eq (128 + st + other.toNat)
  generalize he : d1.estimate (128 + st + other.toNat) = a at hd2
  obtain ⟨e, d2⟩ := a
  have hd3 := d2.freeQuot_eq (st * 64) (64 - d.bubbleB)
  generalize hu : d2.freeQuot (st * 64) (64 - d.bubbleB) = r at hd3
  obtain ⟨su, d3⟩ := r
  have hfree : d3 = { d with free := d3.free } := by
    dsimp only at hd1 hd2 hd3
    rw [hd3, hd2, hd1]
  refine runs_onDev hon (f := fun i d => d.controlPeriod i stage.toNat other.toNat) rfl ?_
  rw [Dev.controlPeriod_eq s.ident hst he hu]
  have hfld (off hi lo : Nat) : d3.fld off hi lo = d.fld off hi lo := by rw [hfree]; rfl
  have hb3 : d3.bMax = d.bMax := congrArg (min 56) (hfld ..)
  have hframe := ((d3.within_estimated e (128 + su + other.toNat)).trans (Dev.within_setB _
    (bubbleLaw d.bubbleB (d3.estimated e (128 + su + other.toNat)).bMax (d3.demand e) d3.capC s.ident.stageDraw)))
  obtain ⟨hreg, hb, hsum, hcount, hcap⟩ := Dev.periodEnd_spec (d := d3.periodLaw s.ident d.bubbleB (d3.demand e) d3.capC e
    (128 + su + other.toNat)) d.bubbleB (d3.demand e) d3.capC
      ((hframe.part .pend (by decide)).trans ((congrArg Dev.pend hfree).trans hpend))
  have hcaps {off : Nat} (h1 : off ≠ Reg.dimStatus) (h2 : off ≠ Reg.dimEst) := (Dev.fld_congr (d3.reg_periodLaw_other s.ident d.bubbleB
    (d3.demand e) d3.capC e (128 + su + other.toNat) h1 h2) 6 0).trans (hfld off 6 0)
  rw [hcaps (by decide) (by decide), hcaps (by decide) (by decide)] at hcap
  refine ⟨hcap, st, hq, fun hlt => ?_⟩
  obtain ⟨rfl, -⟩ : 128 + st + other.toNat = e ∧ d1 = d2 := by
    rw [d1.estimate_of_lt hlt] at he
    exact Prod.mk.injEq .. ▸ he
  obtain ⟨hest, hsum', hcount', hb'⟩ := d3.periodLaw_spec s.ident (d3.demand (128 + st + other.toNat)) d3.capC (128 + su + other.toNat)
    d.bubbleB_lt hlt
  have hdemand : d3.demand (128 + st + other.toNat) = d.demand (128 + st + other.toNat) := by rw [hfree]; rfl
  have hdim : d3.dim = d.dim := by rw [hfree]
  refine ⟨(Dev.fld_congr (hreg _ (by decide) (by decide) (by decide)) 15 0).trans hest, hsum.trans (hsum'.trans (by rw [hdim])),
    hcount.trans (hcount'.trans (by rw [hdim])), (hb.trans hb').trans ?_⟩
  rw [hb3, hdemand, Dev.capC, hdim, Dev.capC]

end Sys2Proof.Machine
end

section
/-! Power, resets, boot, SMBus and flash (R504, R530, R545 to R550, R539): O36, O38 to O41. -/
namespace Sys2Proof.Machine

/-- Settles O36. -/
theorem resetState : Obligations.ResetState := by
  unfold Obligations.ResetState
  have hsound : State.reset.sound := ⟨by decide, by decide, by decide, by decide⟩
  refine ⟨hsound, Mems.reset_wf, rfl, fun off => rfl, rfl, rfl, fun n => ⟨rfl, rfl⟩, rfl, rfl, fun x => rfl, fun l => rfl, rfl,
    fun x => rfl, fun q => rfl, ?_, ?_, ?_⟩
  · rw [State.readBar0_topIdent]
    decide
  · decide
  · decide

/-! ### Power -/

theorem State.railsOff_lost (s : State) (p : Power) : let t := s.railsOff p
    (s.board.power = .on → t.dev = s.dev.afterReset 0) ∧ (s.board.power ≠ .on → t.dev = s.dev) ∧
      t.pending = s.pending ∧ t.ident = s.ident ∧ t.fuses = s.fuses ∧ t.flash = s.flash :=
  ⟨fun h => if_pos h, fun h => if_neg h, rfl, rfl, rfl, rfl⟩

/-- MOD_EN rises: the package powers up from standby alone, and not while FAULT_OFF is latched (R546, R547). -/
theorem execModEnRise_up {s : State} (hen : s.board.modEn = false) (hp : s.board.power = .standby) (hf : s.board.faultOff = false) :
    let up : State := { s with board := { s.board with power := .on, modEn := true }, dev := s.dev.afterReset 0 }
    exec .modEnRise s = .next (if s.board.perst then up else up.boot) := by
  have hgo : (s.board.power == .standby && !s.board.faultOff) = true := by rw [hp, hf]; rfl
  change execModEnRise s = _
  rw [execModEnRise, if_neg (by simp [hen])]
  exact if_pos hgo

theorem execModEnRise_stay {s : State} (hen : s.board.modEn = false) (h : s.board.power ≠ .standby ∨ s.board.faultOff = true) :
    exec .modEnRise s = .next { s with board := { s.board with modEn := true } } := by
  have hgo : ¬(s.board.power == .standby && !s.board.faultOff) = true := by
    rcases h with h | h
    · simp [h]
    · simp [h]
  change execModEnRise s = _
  rw [execModEnRise, if_neg (by simp [hen])]
  exact if_neg hgo

/-- Settles O38. -/
theorem boardPower : Obligations.BoardPower := by
  unfold Obligations.BoardPower
  intro s b lost board up
  refine ⟨fun hen => ?_, fun hen hp hf hperst => ?_, fun hen hp hf hperst => ?_, fun hen h => ⟨_, execModEnRise_stay hen h, rfl⟩,
    ⟨s.inputFault, rfl, s.railsOff_lost .off, rfl⟩, fun vin h1 h2 => ⟨_, ?_, rfl⟩, fun vin h => ⟨_, ?_, rfl⟩, 
    fun vin h => ⟨s.inputFault, ?_, s.railsOff_lost .off, rfl⟩,
    ⟨_, rfl, rfl⟩, fun x hx => ⟨_, ?_, rfl⟩⟩
  · have hexec : exec .modEnFall s = .next (let t := if s.board.power = .on then s.railsOff .standby else s
        { t with board := { t.board with modEn := false, faultOff := false } }) := if_pos hen
    by_cases hon : s.board.power = .on
    · rw [if_pos hon] at hexec
      refine ⟨_, hexec, s.railsOff_lost .standby, ?_⟩
      rw [if_pos hon]
      rfl
    · rw [if_neg hon] at hexec
      refine ⟨_, hexec, ⟨fun h => absurd h hon, fun _ => rfl, rfl, rfl, rfl, rfl⟩, ?_⟩
      rw [if_neg hon]
  · exact ⟨_, (execModEnRise_up hen hp hf).trans (by rw [hperst]; rfl), rfl⟩
  · exact ⟨_, (execModEnRise_up hen hp hf).trans (by rw [hperst]; rfl), rfl⟩
  · exact if_pos (by simp [h1, h2])
  · exact if_neg (by omega)
  · exact if_pos h
  · exact congrArg Host.Outcome.next (if_neg hx)

/-! ### Resets and boot -/

theorem Dev.reg_afterReset (d : Dev) (c off : Nat) : (d.afterReset c).reg off =
    if c = 2 ∧ off = Reg.hifLink then d.reg Reg.hifLink else if off = Reg.topReset then BitVec.ofNat 32 c else regReset off := by
  have htop : (Dev.reset.setReg Reg.topReset (BitVec.ofNat 32 c)).reg off =
      if off = Reg.topReset then BitVec.ofNat 32 c else regReset off := Dev.reg_setReg ..
  by_cases hc : c = 2
  · have hreg : (d.afterReset c).regs = ((Dev.reset.setReg Reg.topReset (BitVec.ofNat 32 c)).setReg Reg.hifLink (d.reg Reg.hifLink)).regs := by
      rw [Dev.afterReset, if_pos hc]
    rw [Dev.reg_congr hreg, Dev.reg_setReg, htop]
    simp [hc]
  · have hreg : (d.afterReset c).regs = (Dev.reset.setReg Reg.topReset (BitVec.ofNat 32 c)).regs := by
      rw [Dev.afterReset, if_neg hc]
    rw [Dev.reg_congr hreg, htop]
    simp [hc]

/-- A reset empties the package but for what lies outside it and the repair candidates (R504, R320). -/
theorem Dev.afterReset_parts (d : Dev) (c : Nat) : (d.afterReset c).prompter = Prompter.reset ∧ (d.afterReset c).stage = Stage.reset ∧
    (d.afterReset c).cast.entries = [] ∧ (d.afterReset c).hif = Hif.reset ∧ (d.afterReset c).arrivals = [] ∧
    (d.afterReset c).mems = { Mems.reset with host := d.mems.host, repair := if c = 0 then [] else d.repairs } := by
  rw [Dev.afterReset]
  dsimp only
  split
  · exact ⟨rfl, rfl, rfl, rfl, rfl, rfl⟩
  · exact ⟨rfl, rfl, rfl, rfl, rfl, rfl⟩

theorem Fuses.verify_lt (x : Fuses) (m : Manifest) : x.verify m < 16 := by
  rw [Fuses.verify]
  repeat' split
  all_goals decide

/-- With no slot that verifies, boot ends in RECOVERY with both reasons (R533). -/
theorem State.boot_of_unverified {s : State} (ha : s.fuses.verify (readManifest s.flash 0) ≠ 0)
    (hb : s.fuses.verify (readManifest s.flash slotB) ≠ 0) : s.boot =
      ((s.reason (readManifest s.flash 0) (s.fuses.verify (readManifest s.flash 0))).reason (readManifest s.flash slotB)
        (s.fuses.verify (readManifest s.flash slotB))).recover := by
  have hnone (a b : Manifest × Nat) (ha : a.2 ≠ 0) (hb : b.2 ≠ 0) : ([a, b].filter (fun x => x.2 == 0)).map Prod.fst = [] := by
    simp [ha, hb]
  rw [State.boot]
  split
  · rw [hnone _ _ ha hb]
    rfl
  · rw [hnone _ _ hb ha]
    rfl

theorem Dev.within_freeBytes (n : Nat) (d : Dev) : d.Within [.free] (Dev.freeBytes n d).2 := by
  induction n generalizing d with
  | zero => exact d.within_refl.mono (by decide)
  | succ n ih => exact ((d.within_takeFree).trans (ih _)).mono (by decide)

/-- What RECOVERY leaves, whatever went before. -/
theorem State.recover_spec (s : State) : s.recover.dev.boot.stage = .recovery ∧ s.recover.dev.regs = (s.dev.setBit Reg.secStatus 4).regs ∧
    s.recover.fuses = s.fuses ∧ s.recover.flash = s.flash := by
  have hfree := Dev.within_freeBytes 12 s.dev
  have hregs : (Dev.freeBytes 12 s.dev).2.regs = s.dev.regs := hfree.part .regs (by decide)
  rw [State.recover]
  generalize Dev.freeBytes 12 s.dev = x at hregs
  obtain ⟨rom, d⟩ := x
  refine ⟨rfl, ?_, rfl, rfl⟩
  dsimp only at hregs ⊢
  rw [Dev.setBit, Dev.setFld, Dev.setReg, hregs, Dev.reg_congr hregs, Dev.setBit, Dev.setFld, Dev.setReg]

theorem State.reason_first (s : State) (r : Nat) : s.reason (readManifest s.flash 0) r =
    { s with dev := s.dev.setFld Reg.secStatus 11 8 r } := by
  have hbase : 0 ≠ slotB := by decide
  rw [State.reason]
  exact congrArg (fun d : Dev => ({ s with dev := d } : State)) (if_neg hbase)

theorem State.reason_second (s : State) (f : Tab Byte) (r : Nat) : s.reason (readManifest f slotB) r =
    { s with dev := s.dev.setFld Reg.secStatus 15 12 r } := by
  rw [State.reason]
  exact congrArg (fun d : Dev => ({ s with dev := d } : State)) (if_pos rfl)

/-- The two reasons of SEC_STATUS and its RECOVERY bit, as boot sets them. -/
theorem Dev.secStatus_reasons (d : Dev) {a b : Nat} (ha : a < 16) (hb : b < 16) :
    let e := ((d.setFld Reg.secStatus 11 8 a).setFld Reg.secStatus 15 12 b).setBit Reg.secStatus 4
    e.bit Reg.secStatus 4 = true ∧ e.fld Reg.secStatus 11 8 = a ∧ e.fld Reg.secStatus 15 12 = b := by
  refine ⟨Dev.bit_setBit_same _ _ (by decide), ?_, ?_⟩
  · rw [Dev.setBit, Dev.fld_setFld_apart _ _ _ (by decide) (by decide) (by decide),
      Dev.fld_setFld_apart _ _ _ (by decide) (by decide) (by decide), Dev.fld_setFld_same _ _ _ (by decide)]
    exact Nat.mod_eq_of_lt ha
  · rw [Dev.setBit, Dev.fld_setFld_apart _ _ _ (by decide) (by decide) (by decide), Dev.fld_setFld_same _ _ _ (by decide)]
    exact Nat.mod_eq_of_lt hb

theorem Dev.bootDone_spec (d : Dev) : d.bootDone.boot.stage = .done ∧ d.bootDone.bit Reg.secStatus 5 = true := by
  refine ⟨congrArg Boot.stage (Dev.raise_boot _ 424), (Dev.bit_congr (Dev.reg_raise _ 424 _) 5).trans ?_⟩
  exact (Dev.bit_setReg_other (d := d.takeFree.2.setBit Reg.secStatus 5) _ _ (by decide)).trans (Dev.bit_setBit_same _ _ (by decide))

theorem exec_perstAssert {s : State} (hon : On s) :
    exec .perstAssert s = .next { s with board := { s.board with perst := true }, dev := s.dev.afterReset 1 } := by
  change execPerstAssert s = _
  rw [execPerstAssert, if_pos (show s.board.power = .on from hon)]

theorem exec_perstRelease {s : State} (hon : On s) (hperst : s.board.perst = true) :
    exec .perstRelease s = .next (State.boot { s with board := { s.board with perst := false } }) := by
  have hgo : (s.board.perst && s.board.power == .on) = true := by rw [hperst, show s.board.power = .on from hon]; rfl
  change execPerstRelease s = _
  rw [execPerstRelease]
  exact congrArg Host.Outcome.next (if_pos hgo)

/-- Settles O39. -/
theorem resetsAndBoot : Obligations.ResetsAndBoot := by
  unfold Obligations.ResetsAndBoot
  refine ⟨?_, fun s hon => ⟨_, exec_perstAssert hon, rfl, rfl, rfl, rfl⟩, fun s hon hperst => ⟨_, exec_perstRelease hon hperst, rfl⟩,
    fun s hon hperst => ⟨_, if_pos ⟨hon, by rw [hperst]; rfl⟩, rfl⟩, ?_, fun s hon hstage => ?_⟩
  · intro d c r
    refine ⟨fun off htop hlink => ?_, fun hc => ?_, ?_, d.afterReset_parts c⟩
    · rw [Dev.reg_afterReset, if_neg hlink, if_neg htop]
    · rw [Dev.reg_afterReset, if_pos ⟨hc, rfl⟩]
    · rw [Dev.reg_afterReset, if_neg (fun h => absurd h.2 (by decide)), if_pos rfl]
  · intro s a b hon hperst ha hb
    refine ⟨_, exec_perstRelease hon hperst, ?_⟩
    rw [State.boot_of_unverified (s := { s with board := { s.board with perst := false } }) ha hb, State.reason_first, State.reason_second]
    obtain ⟨hstage, hregs, hfuses, hflash⟩ := State.recover_spec { s with
      board := { s.board with perst := false }
      dev := (s.dev.setFld Reg.secStatus 11 8 a).setFld Reg.secStatus 15 12 b }
    obtain ⟨hbit, hfa, hfb⟩ := s.dev.secStatus_reasons (s.fuses.verify_lt (readManifest s.flash 0)) (s.fuses.verify_lt (readManifest s.flash slotB))
    have hreg (off : Nat) := Dev.reg_congr hregs off
    exact ⟨hstage, (Dev.bit_congr (hreg _) 4).trans hbit, (Dev.fld_congr (hreg _) 11 8).trans hfa, (Dev.fld_congr (hreg _) 15 12).trans hfb,
      hfuses, hflash⟩
  · refine runs_onDev hon (f := fun i d => if d.boot.stage = .autoload then
      ((d.tryLoad i d.boot.autoload d.boot.autoload.length).2).bootDone else d) rfl ?_
    rw [if_pos hstage]
    dsimp only
    exact ⟨rfl, (s.dev.tryLoad s.ident s.dev.boot.autoload s.dev.boot.autoload.length).2.bootDone_spec⟩

/-! ### SMBus -/

/-- The status byte shows its seven flags, lowest first (Table 19-6). -/
theorem getLsbD_flags : ∀ a b c d e f g : Bool,
    let x : Byte := BitVec.ofNat 8 (b2n a + 2 * b2n b + 4 * b2n c + 8 * b2n d + 16 * b2n e + 32 * b2n f + 64 * b2n g)
    x.getLsbD 0 = a ∧ x.getLsbD 1 = b ∧ x.getLsbD 2 = c ∧ x.getLsbD 3 = d ∧ x.getLsbD 4 = e ∧ x.getLsbD 5 = f ∧ x.getLsbD 6 = g ∧
      x.getLsbD 7 = false := by
  decide

theorem length_padTo (n : Nat) (bs : List Byte) : (padTo n bs).length = n := by
  simp [padTo]

theorem leBytes_three (v : W32) : leBytes 3 v.toNat = [v.setWidth 8, v.extractLsb' 8 8, v.extractLsb' 16 8] := by
  have hbyte (lo : Nat) : BitVec.ofNat 8 (v.toNat / 2 ^ lo) = v.extractLsb' lo 8 := by
    apply BitVec.eq_of_toNat_eq
    simp [Nat.shiftRight_eq_div_pow]
  rw [leBytes, leBytes, leBytes, leBytes, Nat.div_div_eq_div_mul, ← hbyte 8, ← hbyte 16]
  rw [BitVec.ofNat_toNat]
  rfl

theorem exec_temps (s : State) (outlet : Byte) : exec (.temps outlet) s =
    .next (smbusAnswer ((if s.board.power = .on then leBytes 3 (s.dev.reg Reg.dimTemp).toNat else [0, 0, 0]) ++ [outlet]) s) := rfl

theorem exec_energy (s : State) : exec .energy s =
    .next (smbusAnswer (leBytes 8 (if s.board.power = .on then (s.dev.wideGet Reg.dimEnergy).toNat else 0)) s) := rfl

/-- Settles O40. -/
theorem smbusAnswers : Obligations.SmbusAnswers := by
  unfold Obligations.SmbusAnswers
  intro s replies on
  refine ⟨⟨BitVec.ofNat 8 s.statusByte, rfl, getLsbD_flags ..⟩, fun r => ⟨rfl, rfl, rfl⟩, fun outlet => ⟨fun hon => ?_, fun hoff => ?_⟩,
    fun hon => ?_, fun hoff => ?_, ⟨_, rfl, ?_⟩⟩
  · refine (exec_temps s outlet).trans ?_
    rw [if_pos (show s.board.power = .on from hon), leBytes_three]
    rfl
  · refine (exec_temps s outlet).trans ?_
    rw [if_neg hoff]
    rfl
  · refine (exec_energy s).trans ?_
    rw [if_pos (show s.board.power = .on from hon)]
    rfl
  · refine (exec_energy s).trans ?_
    rw [if_neg hoff]
    rfl
  · have hpart := length_padTo 16 s.fuses.partNumber
    have hserial := length_padTo 8 s.fuses.serial
    have hrest : (padTo 16 s.fuses.partNumber ++ padTo 8 s.fuses.serial ++ leBytes 1 s.ident.grade.toNat ++ [s.ident.stepping] ++
        List.replicate 6 0).drop 24 = leBytes 1 s.ident.grade.toNat ++ s.ident.stepping :: List.replicate 6 0 := by
      rw [List.append_assoc, List.append_assoc, List.drop_left' (by rw [List.length_append, hpart, hserial])]
      rfl
    refine ⟨?_, ?_, ?_, ?_⟩
    · rw [List.append_assoc, List.append_assoc, List.append_assoc, List.take_left' hpart]
    · rw [List.append_assoc, List.append_assoc, List.append_assoc, List.drop_left' hpart, List.take_left' hserial]
    · rw [List.getD_eq_getElem?_getD, ← Nat.add_zero 24, ← List.getElem?_drop, hrest]
      exact BitVec.ofNat_toNat ..
    · rw [show 25 = 24 + 1 from rfl, ← List.drop_drop, hrest]
      rfl

end Sys2Proof.Machine
end

section
/-! The flash commands and their end (R539): O41. -/
namespace Sys2Proof.Machine

/-! ### Flash bytes -/

theorem tabGet_flashWrite (t : Tab Byte) (a : Nat) (bs : List Byte) (k : Nat) : tabGet flashDflt (flashWrite t a bs) k =
    if a ≤ k ∧ k < a + bs.length then bs.getD (k - a) 0 else tabGet flashDflt t k := by
  induction bs generalizing t a with
  | nil => rw [flashWrite, if_neg (by simp)]
  | cons b bs ih =>
    rw [flashWrite, ih, tabGet_tabSet, List.length_cons]
    rcases Nat.lt_trichotomy k a with h | rfl | h
    · rw [if_neg (by omega), if_neg (by omega), if_neg (by omega)]
    · rw [if_neg (by omega), if_pos rfl, if_pos (by omega), Nat.sub_self, List.getD_cons_zero]
    · obtain ⟨j, rfl⟩ : ∃ j, k = a + 1 + j := ⟨k - (a + 1), by omega⟩
      rw [show a + 1 + j - (a + 1) = j by omega, show a + 1 + j - a = j + 1 by omega, List.getD_cons_succ]
      by_cases hj : j < bs.length
      · rw [if_pos (by omega), if_pos (by omega)]
      · rw [if_neg (by omega), if_neg (by omega), if_neg (by omega)]

theorem length_freeBytes (n : Nat) (d : Dev) : (Dev.freeBytes n d).1.length = 4 * n := by
  induction n generalizing d with
  | zero => rfl
  | succ n ih =>
    rw [Dev.freeBytes]
    have := ih d.takeFree.2
    simp only [List.length_append, leBytes_length, Dev.takeFree] at this ⊢
    omega

theorem length_flashRead (t : Tab Byte) (a n : Nat) : (flashRead t a n).length = n := by
  induction n generalizing a with
  | zero => rfl
  | succ n ih => rw [flashRead, List.length_cons, ih]

/-! ### Bytes in registers -/

theorem Dev.regsTo_putRegBytes (d : Dev) (off : Nat) (bs : List Byte) : d.RegsTo (d.putRegBytes off bs) := by
  rw [Dev.putRegBytes]
  generalize List.range (bs.length / 4) = xs
  induction xs generalizing d with
  | nil => rfl
  | cons x xs ih => exact (d.regsTo_setReg _ _).trans (ih _)

theorem Dev.reg_putRegBytes (d : Dev) (off : Nat) (bs : List Byte) (x : Nat) :
    (∀ i < bs.length / 4, x = off + 4 * i → (d.putRegBytes off bs).reg x = BitVec.ofNat 32 (field bs (4 * i) 4)) ∧
      ((∀ i < bs.length / 4, x ≠ off + 4 * i) → (d.putRegBytes off bs).reg x = d.reg x) := by
  rw [Dev.putRegBytes]
  generalize bs.length / 4 = n
  induction n with
  | zero => exact ⟨by simp, fun _ => rfl⟩
  | succ n ih =>
    rw [List.range_succ, List.foldl_append, List.foldl_cons, List.foldl_nil]
    refine ⟨fun i hi hx => ?_, fun hx => ?_⟩
    · by_cases hin : i = n
      · subst hin
        rw [hx, Dev.reg_setReg_same]
      · rw [Dev.reg_setReg_other _ _ (by omega)]
        exact ih.1 i (by omega) hx
    · rw [Dev.reg_setReg_other _ _ (hx n (by omega))]
      exact ih.2 fun i hi => hx i (by omega)

/-! ### A command starts -/

theorem Dev.within_flashOp (d : Dev) (x : Option FlashCommand) : d.Within [.flashOp] { d with flashOp := x } := by
  intro s p hp
  cases p with
  | flashOp | lines => simp at hp
  | _ => rfl

/-- The address is misaligned, or a write would touch the slot that booted (R539). -/
def Dev.flashBad (d : Dev) (op : FlashOp) (a : Nat) : Prop :=
  a % (if op = .erase then 65536 else 256) ≠ 0 ∨ (op ≠ .read ∧ d.inBootedSlot a = true)

theorem Dev.flashBad_iff (d : Dev) (op : FlashOp) (a : Nat) :
    d.flashBad op a ↔ ((if op = .erase then a % 65536 != 0 else a % 256 != 0) || (op != .read && d.inBootedSlot a)) = true := by
  cases op <;> simp [Dev.flashBad]

theorem Dev.flashStart_of_busy {d : Dev} (op : FlashOp) (h : d.flashOp ≠ none) : d.flashStart op = d :=
  if_pos (Option.isSome_iff_ne_none.mpr h)

theorem Dev.flashStart_of_bad {d : Dev} {op : FlashOp} (h : d.flashOp = none) (hbad : d.flashBad op (d.fld Reg.secFlashAddr 27 0)) :
    d.flashStart op = d.setFld Reg.secFlashStat 2 1 1 := by
  rw [Dev.flashStart, h]
  exact if_pos ((d.flashBad_iff op _).mp hbad)

theorem Dev.flashStart_of_good {d : Dev} {op : FlashOp} (h : d.flashOp = none) (hgood : ¬d.flashBad op (d.fld Reg.secFlashAddr 27 0)) :
    d.flashStart op = { d.setBit Reg.secFlashStat 0 with
      flashOp := some { op := op, addr := d.fld Reg.secFlashAddr 27 0, data := d.regBytes (Reg.secFlashBuf 0) 64 } } := by
  rw [Dev.flashStart, h]
  exact if_neg fun hb => hgood ((d.flashBad_iff op _).mpr hb)

/-- The row of each operation. -/
theorem flashStarts {s : State} {c : Instr} {op : FlashOp} (hon : On s) (hc : exec c s = onDev (fun _ d => d.flashStart op) s) :
    (s.dev.flashOp ≠ none → Runs c s (fun t => t = s)) ∧
    (s.dev.flashOp = none → s.dev.flashBad op (s.dev.fld Reg.secFlashAddr 27 0) →
      Runs c s (fun t => t.dev.fld Reg.secFlashStat 2 1 = 1 ∧ KeepsRegs [Reg.secFlashStat] s t ∧ Keeps [.regs] s t)) ∧
    (s.dev.flashOp = none → ¬s.dev.flashBad op (s.dev.fld Reg.secFlashAddr 27 0) →
      Runs c s (fun t => t.dev.bit Reg.secFlashStat 0 = true ∧
        t.dev.flashOp = some { op := op, addr := s.dev.fld Reg.secFlashAddr 27 0, data := s.dev.regBytes (Reg.secFlashBuf 0) 64 } ∧
        KeepsRegs [Reg.secFlashStat] s t ∧ Keeps [.regs, .flashOp] s t)) := by
  refine ⟨fun hbusy => runs_onDev hon hc ?_, fun hidle hbad => runs_onDev hon hc ?_, fun hidle hgood => runs_onDev hon hc ?_⟩
  · rw [Dev.flashStart_of_busy op hbusy]
  · rw [Dev.flashStart_of_bad hidle hbad]
    exact ⟨Dev.fld_setFld_same _ _ _ (by decide), fun off hoff => Dev.reg_setFld_other _ _ _ _ (by simpa using hoff),
      (s.dev.within_setFld _ _ _ _).keeps⟩
  · rw [Dev.flashStart_of_good hidle hgood]
    exact ⟨s.dev.bit_setBit_same _ (by decide), rfl, fun off hoff => s.dev.reg_setBit_other _ (by simpa using hoff),
      ((s.dev.within_setBit _ _).trans (Dev.within_flashOp _ _)).keeps⟩

/-! ### A command ends -/

theorem State.lifecycleGo_of_none {s : State} (h : s.dev.lc = none) : s.lifecycleGo = s := by
  rw [State.lifecycleGo, h]

/-- The package of a command that has ended with status `n`. -/
def Dev.flashEnded (d : Dev) (n : Nat) : Dev := ({ d with flashOp := none }).setReg Reg.secFlashStat (BitVec.ofNat 32 n)

theorem Dev.within_flashEnded (d : Dev) (n : Nat) : d.Within [.flashOp, .regs] (d.flashEnded n) :=
  (d.within_flashOp none).trans (Dev.within_setReg _ _ _)

/-- What a command with bytes `bs` leaves, with no lifecycle change waiting. -/
def State.flashLeft (s : State) (c : FlashCommand) (bs : List Byte) (d : Dev) (n : Nat) : State :=
  match c.op with
  | .read => { s with dev := ((d.flashEnded n).putRegBytes (Reg.secFlashBuf 0) bs).raise 427 }
  | _ => { s with flash := flashWrite s.flash c.addr bs, dev := (d.flashEnded n).raise 427 }

/-- The bytes of a command that ends well. -/
def FlashCommand.bytes (c : FlashCommand) (f : Tab Byte) : List Byte :=
  match c.op with
  | .read => flashRead f c.addr 256
  | .program => c.data
  | .erase => List.replicate 65536 0xFF

theorem State.flashLeft_lc {s : State} {c : FlashCommand} {bs : List Byte} {d : Dev} {n : Nat} (h : d.lc = none) :
    (s.flashLeft c bs d n).dev.lc = none := by
  have hend : (d.flashEnded n).lc = none := ((d.within_flashEnded n).part .lc (by decide)).trans h
  have hput : ((d.flashEnded n).putRegBytes (Reg.secFlashBuf 0) bs).lc = none := by
    rw [Dev.regsTo_putRegBytes (d.flashEnded n)]
    exact hend
  rw [State.flashLeft]
  split
  · exact (Dev.raise_lc _ 427).trans hput
  · exact (Dev.raise_lc _ 427).trans hend

theorem State.flashDone_good {s : State} {c : FlashCommand} (h : s.dev.flashOp = some c) (hlc : s.dev.lc = none) :
    s.flashDone false = s.flashLeft c (c.bytes s.flash) s.dev 0 := by
  rw [← State.lifecycleGo_of_none (State.flashLeft_lc hlc), State.flashDone, h]
  cases hop : c.op with
  | read => simp only [State.flashLeft, FlashCommand.bytes, hop]; rfl
  | program => simp only [State.flashLeft, FlashCommand.bytes, hop]; rfl
  | erase => simp only [State.flashLeft, FlashCommand.bytes, hop]; rfl

/-- The words of a command's span, whose bytes a failed one leaves free. -/
def FlashCommand.words (c : FlashCommand) : Nat := if c.op = .erase then 16384 else 64

theorem State.flashDone_bad {s : State} {c : FlashCommand} (h : s.dev.flashOp = some c) (hlc : s.dev.lc = none) :
    s.flashDone true = s.flashLeft c (Dev.freeBytes c.words s.dev).1 (Dev.freeBytes c.words s.dev).2 4 := by
  have hwords : (if c.op = .erase then 65536 else 256) / 4 = c.words := by
    rw [FlashCommand.words]
    split <;> rfl
  have hlc' : (Dev.freeBytes c.words s.dev).2.lc = none := ((Dev.within_freeBytes _ s.dev).part .lc (by decide)).trans hlc
  rw [← State.lifecycleGo_of_none (State.flashLeft_lc hlc'), State.flashDone, h]
  simp only [hwords]
  generalize Dev.freeBytes c.words s.dev = out
  obtain ⟨bs, d⟩ := out
  cases hop : c.op with
  | read => simp only [State.flashLeft, hop]; rfl
  | program => simp only [State.flashLeft, hop]; rfl
  | erase => simp only [State.flashLeft, hop]; rfl

/-- The command is over, its status stands, source 427 is raised (R539). -/
def FlashEnds (n : Nat) (s t : State) : Prop :=
  t.dev.flashOp = none ∧ t.dev.reg Reg.secFlashStat = BitVec.ofNat 32 n ∧ Raised 427 s t

theorem Dev.reg_flashEnded (d : Dev) (n : Nat) : (d.flashEnded n).reg Reg.secFlashStat = BitVec.ofNat 32 n := Dev.reg_setReg_same ..

theorem flashEnds_flashLeft {s : State} (c : FlashCommand) (bs : List Byte) {d : Dev} (n : Nat) (harr : d.arrivals = s.dev.arrivals) :
    FlashEnds n s (s.flashLeft c bs d n) := by
  have harr' : (d.flashEnded n).arrivals = s.dev.arrivals := ((d.within_flashEnded n).part .arrivals (by decide)).trans harr
  have hput := Dev.regsTo_putRegBytes (d.flashEnded n) (Reg.secFlashBuf 0) bs
  have hstat : ((d.flashEnded n).putRegBytes (Reg.secFlashBuf 0) bs).reg Reg.secFlashStat = BitVec.ofNat 32 n :=
    ((Dev.reg_putRegBytes _ _ bs _).2 fun i _ => by simp only [Reg.secFlashStat, Reg.secFlashBuf]; omega).trans (d.reg_flashEnded n)
  have hop : (d.flashEnded n).flashOp = none := rfl
  rw [State.flashLeft]
  split
  · refine ⟨(Dev.raise_flashOp _ 427).trans ?_, (Dev.reg_raise _ 427 _).trans hstat, raised_raise (hput.arrivals.trans harr') 427⟩
    rw [hput]
    exact hop
  · exact ⟨(Dev.raise_flashOp _ 427).trans hop, (Dev.reg_raise _ 427 _).trans (d.reg_flashEnded n), raised_raise harr' 427⟩

/-- A command that writes flash leaves its bytes at its address, and nothing else changed. -/
theorem flashLeft_writes {s : State} {c : FlashCommand} (bs : List Byte) (n : Nat) (hop : c.op ≠ .read) :
    (s.flashLeft c bs s.dev n).flash = flashWrite s.flash c.addr bs ∧
      Keeps (.flash :: .flashOp :: .regs :: raising) s (s.flashLeft c bs s.dev n) := by
  have hleft : s.flashLeft c bs s.dev n = { s with flash := flashWrite s.flash c.addr bs, dev := (s.dev.flashEnded n).raise 427 } := by
    rw [State.flashLeft]
    split
    · next h => exact absurd h hop
    · rfl
  have hflash : Keeps [.flash] s { s with flash := flashWrite s.flash c.addr bs } := by
    intro p hp
    cases p with
    | flash | lines => simp at hp
    | _ => rfl
  rw [hleft]
  exact ⟨rfl, (hflash.within ((s.dev.within_flashEnded n).trans (Dev.within_raise _ 427))).mono (by decide)⟩

theorem flashLeft_frame {s : State} (c : FlashCommand) {bs : List Byte} (d : Dev) (n : Nat) {m k : Nat} (hlen : bs.length = m)
    (hk : k < c.addr ∨ c.addr + m ≤ k) : tabGet flashDflt (s.flashLeft c bs d n).flash k = tabGet flashDflt s.flash k := by
  rw [State.flashLeft]
  split
  · rfl
  · exact (tabGet_flashWrite ..).trans (if_neg (by omega))

/-- A read leaves the page in SEC_FLASH_BUF. -/
theorem flashLeft_reads {s : State} {c : FlashCommand} {bs : List Byte} {d : Dev} (n : Nat) (hop : c.op = .read) (hlen : bs.length = 256) :
    (s.flashLeft c bs d n).flash = s.flash ∧
      ∀ i, i < 64 → (s.flashLeft c bs d n).dev.reg (Reg.secFlashBuf i) = BitVec.ofNat 32 (field bs (4 * i) 4) := by
  simp only [State.flashLeft, hop]
  exact ⟨trivial, fun i hi => (Dev.reg_raise _ 427 _).trans ((Dev.reg_putRegBytes _ _ bs _).1 i (by omega) rfl)⟩

/-- Settles O41. -/
theorem flashCommands : Obligations.FlashCommands := by
  unfold Obligations.FlashCommands
  refine ⟨fun s m hon => ?_, fun s c hon hop hlc => ?_⟩
  · intro d a c hc
    simp only [List.mem_cons, List.not_mem_nil, or_false] at hc
    rcases hc with rfl | rfl | rfl
    · exact flashStarts hon rfl
    · exact flashStarts hon rfl
    · exact flashStarts hon rfl
  · have done {err : Bool} {t : State} {P : State → Prop} (hd : s.flashDone err = t) (hP : P t) : Runs (.flashCommandDone err) s P :=
      runs_onPower s hon (f := fun s => s.flashDone err) rfl (by rw [hd]; exact hP)
    have hgood := State.flashDone_good hop hlc
    intro byte ends
    refine ⟨fun hread => done hgood ⟨flashEnds_flashLeft c _ 0 rfl, ?_⟩, fun hprog hlen => done hgood ⟨flashEnds_flashLeft c _ 0 rfl, ?_⟩,
      fun herase => done hgood ⟨flashEnds_flashLeft c _ 0 rfl, ?_⟩, done (State.flashDone_bad hop hlc) ⟨flashEnds_flashLeft c _ 4 ?_, fun k hk => ?_⟩⟩
    · have hb : c.bytes s.flash = flashRead s.flash c.addr 256 := by rw [FlashCommand.bytes, hread]
      rw [hb]
      exact flashLeft_reads 0 hread (length_flashRead ..)
    · have hb : c.bytes s.flash = c.data := by rw [FlashCommand.bytes, hprog]
      rw [hb]
      obtain ⟨hflash, hkeeps⟩ := flashLeft_writes (s := s) (c := c) c.data 0 (by rw [hprog]; decide)
      refine ⟨fun k hk => ?_, fun k hk => flashLeft_frame c s.dev 0 hlen hk, hkeeps⟩
      dsimp only [byte]
      rw [hflash, tabGet_flashWrite, if_pos (by omega), Nat.add_sub_cancel_left]
    · have hb : c.bytes s.flash = List.replicate 65536 0xFF := by rw [FlashCommand.bytes, herase]
      rw [hb]
      have hlen : (List.replicate 65536 (0xFF : Byte)).length = 65536 := List.length_replicate
      generalize hbs : List.replicate 65536 (0xFF : Byte) = bs at hlen
      obtain ⟨hflash, hkeeps⟩ := flashLeft_writes (s := s) (c := c) bs 0 (by rw [herase]; decide)
      refine ⟨fun k h1 h2 => ?_, fun k hk => flashLeft_frame c s.dev 0 hlen hk, hkeeps⟩
      dsimp only [byte]
      rw [hflash, tabGet_flashWrite, if_pos (by omega), ← hbs, List.getD_replicate _ (by omega)]
    · exact (Dev.within_freeBytes _ s.dev).part .arrivals (by decide)
    · refine flashLeft_frame c _ 4 (m := 4 * c.words) (length_freeBytes ..) ?_
      have hwords : 4 * c.words = if c.op = .erase then 65536 else 256 := by
        rw [FlashCommand.words]
        split <;> rfl
      rw [hwords]
      exact hk

end Sys2Proof.Machine
end

section
/-! The end of a Strike (R320, R323 to R325, R535): O42. -/
namespace Sys2Proof.Machine

/-- A table without the entries whose keys `p` refuses. -/
theorem tabGet_filter {α : Type} (dflt : Nat → α) (t : Tab α) (p : Nat → Bool) (k : Nat) :
    tabGet dflt (t.filter (fun e => p e.1)) k = if p k then tabGet dflt t k else dflt k := by
  induction t with
  | nil => simp [tabGet]
  | cons e t ih =>
    obtain ⟨j, v⟩ := e
    by_cases hj : j = k
    · subst hj
      by_cases hp : p j = true
      · simp [hp, tabGet]
      · simp only [Bool.not_eq_true] at hp
        simp [hp, ih]
    · by_cases hp : p j = true
      · simp [hp, tabGet, hj, ih]
      · simp only [Bool.not_eq_true] at hp
        simp [hp, tabGet, hj, ih]

theorem Dev.within_setPair (d : Dev) (q : Nat) (p : Pair) : d.Within [.hif] (d.setPair q p) := d.within_hif _

theorem Dev.within_dropHeldTokens (d : Dev) : d.Within [.hif] d.dropHeldTokens :=
  Dev.within_foldl (g := fun (d : Dev) q => if (d.pair q).held.any isTokenData then
      d.setPair q { d.pair q with held := (d.pair q).held.filter (fun e => !isTokenData e) } else d)
    (fun d q => ((d.within_setPair q _).ite d.within_refl).mono (by decide)) (List.range 64) d

theorem Dev.within_strike (d : Dev) (x : Option StrikeFor) : d.Within [.strike] { d with strike := x } := by
  intro s p hp
  cases p with
  | strike | lines => simp at hp
  | _ => rfl

/-- What a Strike leaves (R323, R325). -/
theorem Dev.struck_spec (d : Dev) :
    d.struck.mems = { Mems.reset with
      host := d.mems.host, progSize := d.mems.progSize, twinSize := d.mems.twinSize, repair := d.repairs
      hbm := d.struck.mems.hbm, errors := d.struck.mems.errors } ∧
    (∀ a, memByte d.struck.mems.hbm a = if d.bootRecord a then memByte d.mems.hbm a else 0) ∧
    (∀ e ∈ d.struck.mems.errors, e ∈ d.mems.errors ∧ e.1 = .hbm ∧ d.bootRecord (64 * e.2) = true) ∧
    d.struck.cast = Cast.reset ∧ d.struck.grid.lanterns = [] ∧ d.struck.grid.progs = [] ∧ d.struck.bit Reg.stgImgLoad 8 = false := by
  refine ⟨rfl, fun a => tabGet_filter memDflt d.mems.hbm d.bootRecord a, fun e he => ?_, rfl, rfl, rfl, ?_⟩
  · obtain ⟨hmem, hp⟩ := List.mem_filter.mp he
    obtain ⟨hc, hr⟩ := Bool.and_eq_true_iff.mp hp
    exact ⟨hmem, by simpa using hc, hr⟩
  · exact (Dev.bit_congr (Dev.reg_congr (show d.struck.regs = (d.clrBit Reg.stgImgLoad 8).regs from rfl) _) 8).trans
      (d.bit_clrBit_same _ (by decide))

theorem Dev.within_struck (d : Dev) : d.Within [.regs, .mems, .cast, .grid, .usy, .hif] d.struck := by
  intro s p hp
  cases p with
  | regs | mems | cast | grid | usy | hif | lines => simp at hp
  | _ => rfl

/-- The Strike's end is recorded (R324). -/
def Dev.strikeRecorded (d : Dev) (us : W32) : Dev :=
  let d := ((d.clrBit Reg.memStatus 0).setBit Reg.memStatus 1).setReg Reg.memStrikeTime us
  ({ d with strike := none }).raise 194

/-- The lifecycle change that the Strike was for is over (R535). -/
def Dev.lifecycleEnded (d : Dev) (why : StrikeFor) : Dev := if why = .lifecycle then (d.clrBit Reg.secStatus 6).raise 426 else d

/-- What follows the Strike's zeroing: its end recorded, the host told, a lifecycle change over. -/
def Dev.strikeOver (d : Dev) (us : W32) (why : StrikeFor) : Dev := ((d.strikeRecorded us).setBit Reg.hifStatus 0).lifecycleEnded why

theorem Dev.within_strikeRecorded (d : Dev) (us : W32) : d.Within (.regs :: .strike :: raising) (d.strikeRecorded us) :=
  (((((d.within_clrBit _ 0).trans (Dev.within_setBit _ _ 1)).trans (Dev.within_setReg _ _ us)).trans (Dev.within_strike _ none)).trans
    (Dev.within_raise _ 194)).mono (by decide)

theorem Dev.within_lifecycleEnded (d : Dev) (why : StrikeFor) : d.Within (.regs :: raising) (d.lifecycleEnded why) :=
  ((((d.within_clrBit _ 6).trans (Dev.within_raise _ 426)).ite d.within_refl)).mono (by decide)

theorem Dev.within_strikeOver (d : Dev) (us : W32) (why : StrikeFor) : d.Within (.regs :: .strike :: raising) (d.strikeOver us why) :=
  (((d.within_strikeRecorded us).trans (Dev.within_setBit _ _ 0)).trans (Dev.within_lifecycleEnded _ why)).mono (by decide)

theorem Dev.reg_strikeRecorded (d : Dev) (us : W32) (off : Nat) : (d.strikeRecorded us).reg off =
    (((d.clrBit Reg.memStatus 0).setBit Reg.memStatus 1).setReg Reg.memStrikeTime us).reg off := Dev.reg_raise _ 194 off

theorem Dev.reg_lifecycleEnded (d : Dev) (why : StrikeFor) {off : Nat} (h : off ≠ Reg.secStatus) : (d.lifecycleEnded why).reg off = d.reg off := by
  rw [Dev.lifecycleEnded]
  split
  · exact (Dev.reg_raise _ 426 off).trans (Dev.reg_clrBit_other _ _ h)
  · rfl

theorem Dev.strike_strikeOver (d : Dev) (us : W32) (why : StrikeFor) : (d.strikeOver us why).strike = none := by
  have hrec : (d.strikeRecorded us).strike = none := Dev.raise_strike _ 194
  exact ((((Dev.within_setBit _ _ 0).trans (Dev.within_lifecycleEnded _ why)).part .strike (by decide))).trans hrec

/-- The registers of a Strike that is over. -/
theorem Dev.regs_strikeOver (d : Dev) (us : W32) (why : StrikeFor) : let e := d.strikeOver us why
    e.reg Reg.memStrikeTime = us ∧ e.bit Reg.memStatus 0 = false ∧ e.bit Reg.memStatus 1 = true ∧ e.bit Reg.hifStatus 0 = true ∧
      e.reg Reg.stgImgLoad = d.reg Reg.stgImgLoad := by
  have hreg {off : Nat} (h : off ≠ Reg.secStatus) (h' : off ≠ Reg.hifStatus) : (d.strikeOver us why).reg off =
      (((d.clrBit Reg.memStatus 0).setBit Reg.memStatus 1).setReg Reg.memStrikeTime us).reg off :=
    (Dev.reg_lifecycleEnded _ why h).trans ((Dev.reg_setBit_other _ 0 h').trans (d.reg_strikeRecorded us off))
  have hstat (i : Nat) : (d.strikeOver us why).bit Reg.memStatus i = ((d.clrBit Reg.memStatus 0).setBit Reg.memStatus 1).bit Reg.memStatus i :=
    Dev.bit_congr ((hreg (by decide) (by decide)).trans (Dev.reg_setReg_other _ _ (by decide))) i
  refine ⟨(hreg (by decide) (by decide)).trans (Dev.reg_setReg_same ..), ?_, ?_, ?_, ?_⟩
  · rw [hstat, Dev.bit_setBit_apart _ _ (by decide) (by decide), Dev.bit_clrBit_same _ _ (by decide)]
  · rw [hstat, Dev.bit_setBit_same _ _ (by decide)]
  · exact (Dev.bit_congr (Dev.reg_lifecycleEnded _ why (by decide)) 0).trans (Dev.bit_setBit_same _ _ (by decide))
  · exact (hreg (by decide) (by decide)).trans ((Dev.reg_setReg_other _ _ (by decide)).trans
      ((Dev.reg_setBit_other _ 1 (by decide)).trans (Dev.reg_clrBit_other _ 0 (by decide))))

theorem Dev.arrivalCount_strikeRecorded (d : Dev) (us : W32) (x : Nat) :
    (d.strikeRecorded us).arrivalCount x = if x = 194 then min 255 (d.arrivalCount 194 + 1) else d.arrivalCount x := by
  rw [Dev.strikeRecorded, Dev.arrivalCount_raise]
  simp only [Dev.arrivalCount, Dev.setReg_arrivals, Dev.setBit_arrivals, Dev.clrBit_arrivals]

theorem Dev.arrivalCount_lifecycleEnded (d : Dev) (why : StrikeFor) (x : Nat) : (d.lifecycleEnded why).arrivalCount x =
    if why = .lifecycle ∧ x = 426 then min 255 (d.arrivalCount 426 + 1) else d.arrivalCount x := by
  have hclr (y : Nat) : (d.clrBit Reg.secStatus 6).arrivalCount y = d.arrivalCount y := by
    simp only [Dev.arrivalCount, Dev.clrBit_arrivals]
  rw [Dev.lifecycleEnded]
  by_cases h : why = .lifecycle
  · rw [if_pos h, Dev.arrivalCount_raise, hclr, hclr]
    simp only [h, true_and]
  · rw [if_neg h, if_neg fun h' => h h'.1]

/-- What a Strike raises (R324, R535). -/
theorem Dev.arrivals_strikeOver (d : Dev) (us : W32) (why : StrikeFor) :
    (d.strikeOver us why).arrivalCount 194 = min 255 (d.arrivalCount 194 + 1) ∧ (why = .lifecycle →
      (d.strikeOver us why).bit Reg.secStatus 6 = false ∧ (d.strikeOver us why).arrivalCount 426 = min 255 (d.arrivalCount 426 + 1)) := by
  have hrec (x : Nat) : ((d.strikeRecorded us).setBit Reg.hifStatus 0).arrivalCount x =
      if x = 194 then min 255 (d.arrivalCount 194 + 1) else d.arrivalCount x := by
    rw [← d.arrivalCount_strikeRecorded us x]
    simp only [Dev.arrivalCount, Dev.setBit_arrivals]
  refine ⟨?_, fun h => ⟨?_, ?_⟩⟩
  · rw [Dev.strikeOver, Dev.arrivalCount_lifecycleEnded, if_neg (fun h => absurd h.2 (by decide)), hrec, if_pos rfl]
  · rw [Dev.strikeOver, Dev.lifecycleEnded, if_pos h]
    exact (Dev.bit_congr (Dev.reg_raise _ 426 _) 6).trans (Dev.bit_clrBit_same _ _ (by decide))
  · rw [Dev.strikeOver, Dev.arrivalCount_lifecycleEnded, if_pos ⟨h, rfl⟩, hrec, if_neg (by decide)]

theorem State.lifecycleGo_of_burned {s : State} (h : ∀ c, s.dev.lc = some c → c.burned = true) : s.lifecycleGo = s := by
  rw [State.lifecycleGo]
  cases hlc : s.dev.lc with
  | none => rfl
  | some c =>
    dsimp only
    rw [h c hlc]
    rfl

theorem State.strikeDone_eq {s : State} {why : StrikeFor} (us : W32) (h : s.dev.strike = some why)
    (hlc : ∀ c, s.dev.lc = some c → c.burned = true) :
    s.strikeDone us = { s with dev := ((if why = .wipe then s.dev.dropHeldTokens else s.dev).struck).strikeOver us why } := by
  have hkept : (((if why = .wipe then s.dev.dropHeldTokens else s.dev).struck).strikeOver us why).lc = s.dev.lc :=
    ((((s.dev.within_dropHeldTokens.ite s.dev.within_refl).trans (Dev.within_struck _)).trans
      (Dev.within_strikeOver _ us why)).part .lc (by decide))
  rw [← State.lifecycleGo_of_burned (s := { s with
    dev := ((if why = .wipe then s.dev.dropHeldTokens else s.dev).struck).strikeOver us why }) (by rw [hkept]; exact hlc)]
  rw [State.strikeDone, h]
  rfl

/-- Settles O42. -/
theorem strikeZeroes : Obligations.StrikeZeroes := by
  unfold Obligations.StrikeZeroes
  intro s us why hon hstrike hlc
  refine runs_onPower s hon (f := fun s => s.strikeDone us) rfl ?_
  dsimp only
  rw [State.strikeDone_eq us hstrike hlc]
  have hdrop : s.dev.Within [.hif] (if why = .wipe then s.dev.dropHeldTokens else s.dev) :=
    (s.dev.within_dropHeldTokens.ite s.dev.within_refl).mono (by decide)
  generalize (if why = .wipe then s.dev.dropHeldTokens else s.dev) = d at hdrop
  have hmems : d.mems = s.dev.mems := hdrop.part .mems (by decide)
  have hrecord (a : Nat) : d.bootRecord a = s.dev.bootRecord a := by
    rw [Dev.bootRecord, Dev.bootRecord, Dev.reg64, Dev.reg64, Dev.reg_congr (hdrop.part .regs (by decide)),
      Dev.reg_congr (hdrop.part .regs (by decide))]
  have hover := d.struck.within_strikeOver us why
  have hm : (d.struck.strikeOver us why).mems = d.struck.mems := hover.part .mems (by decide)
  have hgrid : (d.struck.strikeOver us why).grid = d.struck.grid := hover.part .grid (by decide)
  have harr (x : Nat) : d.struck.arrivalCount x = s.dev.arrivalCount x := by
    rw [Dev.arrivalCount, d.within_struck.part .arrivals (by decide), hdrop.part .arrivals (by decide), Dev.arrivalCount]
  obtain ⟨hmem, hbyte, herr, hcast, hlanterns, hprogs, himg⟩ := d.struck_spec
  obtain ⟨htime, hrun, hdone, hhost, himage⟩ := d.struck.regs_strikeOver us why
  obtain ⟨hended, hlife⟩ := d.struck.arrivals_strikeOver us why
  dsimp only
  rw [hm, hgrid]
  simp only [hmems, Dev.repairs, hrecord, harr] at hmem hbyte herr hended hlife
  exact ⟨hmem, hbyte, herr, (hover.part .cast (by decide)).trans hcast, hlanterns, hprogs, d.struck.strike_strikeOver us why, htime, hrun,
    hdone, hhost, (Dev.bit_congr himage 8).trans himg, hended, hlife, rfl, rfl⟩

end Sys2Proof.Machine
end

section
/-! Complement pairs that take effect (R316, R325, R349, R432, R508, R529, R535, R551): O30. -/
namespace Sys2Proof.Machine

section
variable {s : State} {m : Master} {a : Nat} {v : W32}

theorem State.rwcPair_applied (h : s.dev.openPair m = none) (hok : s.rwcPermits a v = true) :
    s.rwcPair m a v (~~~v) = State.rwcApply { s with dev := s.dev.closePair m } a v := by
  rw [State.rwcPair, State.rwcSecond]
  dsimp only
  rw [Dev.pairSecond_complement _ (s.dev.openPair_pairFirst m a v), s.dev.closePair_pairFirst h a v]
  exact if_pos hok

/-- The row of a pair whose value is permitted. -/
theorem runs_applied {c : Instr} {t : State} {P : State → Prop} (hon : On s) (h : s.dev.openPair m = none)
    (hc : exec c s = onPower (fun s => s.rwcPair m a v (~~~v)) s) (hok : s.rwcPermits a v = true)
    (ht : State.rwcApply { s with dev := s.dev.closePair m } a v = t) (hP : P t) : Runs c s P :=
  runs_onPower s hon hc (by rw [State.rwcPair_applied h hok, ht]; exact hP)

end

theorem Dev.within_pairs (d : Dev) (ps : List (Master × Nat × W32)) : d.Within [.pairs] { d with pairs := ps } := by
  intro s p hp
  cases p with
  | pairs | lines => simp at hp
  | _ => rfl

/-- Bits taken from `v` under a mask. -/
theorem and_merge (x v m : W32) : ((x &&& ~~~m) ||| (v &&& m)) &&& m = v &&& m := by
  ext i
  simp only [BitVec.getElem_and, BitVec.getElem_or, BitVec.getElem_not]
  cases m[i] <;> simp

/-- A buffered write waits with its bits (R18, R506). -/
theorem Dev.pend_writeLater (d : Dev) (off : Nat) {mask : W32} (v : W32) (h : mask ≠ 0) :
    (tabGet Buffered.none (d.writeLater off mask v).pend off).value &&& mask = v &&& mask ∧
      (tabGet Buffered.none (d.writeLater off mask v).pend off).mask &&& mask = mask := by
  rw [Dev.writeLater, if_neg h]
  dsimp only
  rw [tabGet_tabSet_same]
  refine ⟨and_merge _ v mask, ?_⟩
  rw [BitVec.and_comm]
  ext i
  simp only [BitVec.getElem_and, BitVec.getElem_or]
  cases mask[i] <;> simp

theorem Dev.within_writeLater (d : Dev) (off : Nat) (mask v : W32) : d.Within [.pend] (d.writeLater off mask v) :=
  (d.within_refl.ite (d.within_pend _)).mono (by decide)

theorem bits_zero (n len : Nat) : bits n 0 len = n % 2 ^ len := by
  rw [bits, Nat.shiftRight_zero]

theorem secVovr_ne : ∀ r : Fin 4, Reg.secVovr r.val ∉
    [Reg.dimCap, Reg.memRefreshOvr, Reg.hifCurtain, Reg.memWipe, Reg.secLcReq, Reg.secSvnBurn, Reg.secKeyRevoke] ∧
    Reg.secVovr 0 ≤ Reg.secVovr r.val := by
  decide

/-! ### What each pair does -/

section
variable (s : State) (v : W32)

theorem State.rwcApply_dimCap : s.rwcApply Reg.dimCap v = { s with dev := s.dev.writeLater Reg.dimCap 0x7F v } := by
  rw [State.rwcApply, if_pos rfl]

theorem State.rwcApply_memRefreshOvr : s.rwcApply Reg.memRefreshOvr v = { s with dev := s.dev.setFld Reg.memRefreshOvr 1 0 (v.toNat % 4) } := by
  rw [State.rwcApply, if_neg (by decide), if_pos rfl, bits_zero]
  rfl

theorem State.rwcApply_secVovr (r : Fin 4) :
    s.rwcApply (Reg.secVovr r.val) v = { s with dev := s.dev.setFld (Reg.secVovr r.val) 7 0 (v.toNat % 256) } := by
  obtain ⟨hne, hle⟩ := secVovr_ne r
  simp only [List.mem_cons, List.not_mem_nil, or_false, not_or] at hne
  obtain ⟨h1, h2, h3, h4, h5, h6, h7⟩ := hne
  rw [State.rwcApply, if_neg h1, if_neg h2, if_neg h3, if_neg h4, if_neg h5, if_neg h6, if_neg h7, if_pos hle, bits_zero]
  rfl

theorem State.rwcApply_hifCurtain (h : v.getLsbD 0 = true) : s.rwcApply Reg.hifCurtain v = { s with dev := s.dev.curtainHalt s.ident } := by
  rw [State.rwcApply, if_neg (by decide), if_neg (by decide), if_pos rfl]
  exact if_pos h

theorem State.rwcApply_memWipe (h : v.getLsbD 0 = true) : s.rwcApply Reg.memWipe v = { s with dev := s.dev.wipe s.ident } := by
  rw [State.rwcApply, if_neg (by decide), if_neg (by decide), if_neg (by decide), if_pos rfl]
  exact if_pos h

theorem State.rwcApply_secLcReq : s.rwcApply Reg.secLcReq v = s.lifecycleRequest (v.toNat % 4) := by
  rw [State.rwcApply, if_neg (by decide), if_neg (by decide), if_neg (by decide), if_neg (by decide), if_pos rfl, bits_zero]
  rfl

theorem State.rwcApply_secSvnBurn : s.rwcApply Reg.secSvnBurn v = s.svnBurn (v.toNat % 128) := by
  rw [State.rwcApply, if_neg (by decide), if_neg (by decide), if_neg (by decide), if_neg (by decide), if_neg (by decide), if_pos rfl,
    bits_zero]
  rfl

theorem State.rwcApply_secKeyRevoke : s.rwcApply Reg.secKeyRevoke v = s.keyRevoke (v.setWidth 4) := by
  rw [State.rwcApply, if_neg (by decide), if_neg (by decide), if_neg (by decide), if_neg (by decide), if_neg (by decide),
    if_neg (by decide), if_pos rfl]

theorem State.rwcPermits_plain {a : Nat} (h : a = Reg.hifCurtain ∨ a = Reg.memWipe) : s.rwcPermits a v = true := by
  rcases h with rfl | rfl <;>
  rw [State.rwcPermits, if_neg (by decide), if_neg (by decide), if_neg (by decide), if_neg (by decide), if_neg (by decide),
    if_neg (by decide)]

end

/-- Fuses burn and a source is raised, with the masters' slots changed. -/
theorem keeps_burn (s : State) (m : Master) (x : Fuses) (src : Nat) :
    Keeps (.fuses :: .pairs :: raising) s { s with fuses := x, dev := (s.dev.closePair m).raise src } := by
  have hfuses : Keeps [.fuses] s { s with fuses := x } := by
    intro p hp
    cases p with
    | fuses | lines => simp at hp
    | _ => rfl
  exact (hfuses.within ((s.dev.within_pairs _).trans (Dev.within_raise (s.dev.closePair m) src))).mono (by decide)

/-- Settles O30: the pair's value reaches `rwcApply` with the master's slot emptied. -/
theorem complementPairApplied : Obligations.ComplementPairApplied := by
  unfold Obligations.ComplementPairApplied
  intro s m v hon hopen ok base
  have hpairs := s.dev.within_pairs (s.dev.pairs.filter (fun p => p.1 != m))
  refine ⟨fun hok => ?_, fun hok => ?_, fun r hok => ?_, fun hok hlt => ?_, fun hok hne => ?_, fun hbit => ?_, fun hbit hnone => ?_, fun hok => ?_⟩
  · refine runs_applied hon hopen rfl hok (State.rwcApply_dimCap _ v) ?_
    have hlater := Dev.within_writeLater (s.dev.closePair m) Reg.dimCap 0x7F v
    exact ⟨fun off => Dev.reg_congr (hlater.part .regs (by decide)) off, ((hpairs.trans hlater).mono (by decide)).keeps,
      Dev.pend_writeLater _ _ v (by decide)⟩
  · refine runs_applied hon hopen rfl hok (State.rwcApply_memRefreshOvr _ v) ?_
    refine ⟨(Dev.fld_setFld_same _ _ _ (by decide)).trans (Nat.mod_mod _ _), fun off hoff => ?_,
      ((hpairs.trans (Dev.within_setFld _ Reg.memRefreshOvr 1 0 _)).mono (by decide)).keeps⟩
    exact (s.dev.closePair m).reg_setFld_other _ _ _ (by simpa using hoff)
  · refine runs_applied hon hopen rfl hok (State.rwcApply_secVovr _ v r) ?_
    refine ⟨(Dev.fld_setFld_same _ _ _ (by decide)).trans (Nat.mod_mod _ _), fun off hoff => ?_,
      ((hpairs.trans (Dev.within_setFld _ (Reg.secVovr r.val) 7 0 _)).mono (by decide)).keeps⟩
    exact (s.dev.closePair m).reg_setFld_other _ _ _ (by simpa using hoff)
  · refine runs_applied hon hopen rfl hok ((State.rwcApply_secSvnBurn _ v).trans (if_pos hlt)) ⟨rfl, ?_, keeps_burn s m _ 428⟩
    exact raised_raise (s := s) (d := s.dev.closePair m) rfl 428
  · refine runs_applied hon hopen rfl hok ((State.rwcApply_secKeyRevoke _ v).trans (if_neg hne)) ⟨rfl, ?_, keeps_burn s m _ 429⟩
    exact raised_raise (s := s) (d := s.dev.closePair m) rfl 429
  · exact runs_applied hon hopen rfl (s.rwcPermits_plain v (Or.inl rfl)) (State.rwcApply_hifCurtain _ v hbit) rfl
  · refine runs_applied hon hopen rfl (s.rwcPermits_plain v (Or.inr rfl)) (State.rwcApply_memWipe _ v hbit) ?_
    have hidle : ¬(s.dev.closePair m).strike.isSome = true := by simp [Dev.closePair, hnone]
    dsimp only
    rw [Dev.wipe, if_neg hidle]
    rfl
  · exact runs_applied hon hopen rfl hok (State.rwcApply_secLcReq _ v) rfl

end Sys2Proof.Machine
end

section
/-! Frames of registers: which registers an operation may change, and how frames are put together. -/
namespace Sys2Proof.Machine

/-- From `d` to `e` no register reads otherwise but those listed. -/
def Dev.RegsWithin (offs : List Nat) (d e : Dev) : Prop := ∀ off, off ∉ offs → e.reg off = d.reg off

section
variable {offs offs' : List Nat} {d e f : Dev}

theorem Dev.regsWithin_refl (d : Dev) : d.RegsWithin [] d := fun _ _ => rfl

theorem Dev.RegsWithin.trans (h : d.RegsWithin offs e) (h' : e.RegsWithin offs' f) : d.RegsWithin (offs ++ offs') f := by
  intro off hoff
  rw [List.mem_append, not_or] at hoff
  exact (h' off hoff.2).trans (h off hoff.1)

theorem Dev.RegsWithin.mono (h : d.RegsWithin offs e) (hsub : offs ⊆ offs') : d.RegsWithin offs' e :=
  fun off hoff => h off fun hmem => hoff (hsub hmem)

theorem Dev.RegsWithin.ite {c : Prop} [Decidable c] (h : d.RegsWithin offs e) (h' : d.RegsWithin offs' f) :
    d.RegsWithin (offs ++ offs') (if c then e else f) := by
  split
  · exact h.mono (List.subset_append_left _ _)
  · exact h'.mono (List.subset_append_right _ _)

/-- What changes no register. -/
theorem Dev.Within.regsWithin {ps : List Part} (h : d.Within ps e) (hp : Part.regs ∉ .lines :: ps) : d.RegsWithin [] e :=
  fun off _ => Dev.reg_congr (h.part .regs hp) off

/-- What a machine's registers keep whose package alone has changed. -/
theorem Dev.RegsWithin.keepsRegs {s : State} (h : s.dev.RegsWithin offs e) : KeepsRegs offs s { s with dev := e } := h

end

section
variable (d : Dev) (off : Nat)

theorem Dev.regsWithin_setReg (v : W32) : d.RegsWithin [off] (d.setReg off v) :=
  fun _ h => Dev.reg_setReg_other _ _ (List.ne_of_not_mem_cons h)

theorem Dev.regsWithin_setFld (hi lo n : Nat) : d.RegsWithin [off] (d.setFld off hi lo n) := d.regsWithin_setReg off _

theorem Dev.regsWithin_setBit (i : Nat) : d.RegsWithin [off] (d.setBit off i) := d.regsWithin_setReg off _

theorem Dev.regsWithin_clrBit (i : Nat) : d.RegsWithin [off] (d.clrBit off i) := d.regsWithin_setReg off _

theorem Dev.regsWithin_count : d.RegsWithin [off] (d.count off) := d.regsWithin_setReg off _

theorem Dev.regsWithin_raise (src : Nat) : d.RegsWithin [] (d.raise src) := (d.within_raise src).regsWithin (by decide)

theorem Dev.regsWithin_flagRaise (i src : Nat) : d.RegsWithin [off] (d.flagRaise off i src) :=
  (d.regsWithin_setBit off i).trans (Dev.regsWithin_raise _ src)

theorem Dev.bit_flagRaise_same {i : Nat} (src : Nat) (h : i < 32) : (d.flagRaise off i src).bit off i = true :=
  (Dev.bit_congr (Dev.reg_raise _ src off) i).trans (d.bit_setBit_same off h)

end

theorem raised_flagRaise {s : State} {d : Dev} (h : d.arrivals = s.dev.arrivals) (off i src : Nat) :
    Raised src s { s with dev := d.flagRaise off i src } :=
  raised_raise ((Dev.setBit_arrivals ..).trans h) src

/-- A count and a flag whose source is raised with it. -/
theorem Dev.within_count_flagRaise (d : Dev) (cnt off i src : Nat) : d.Within (.regs :: raising) ((d.count cnt).flagRaise off i src) :=
  ((d.within_count cnt).trans (Dev.within_flagRaise _ off i src)).mono (by decide)

theorem Dev.regsWithin_count_flagRaise (d : Dev) (cnt off i src : Nat) :
    d.RegsWithin [cnt, off] ((d.count cnt).flagRaise off i src) :=
  (d.regsWithin_count cnt).trans (Dev.regsWithin_flagRaise _ off i src)

end Sys2Proof.Machine
end

section
/-! Writes of registers (R18, R503, R506, R509): O31. -/
namespace Sys2Proof.Machine

/-! ### Buffered writes that wait -/

theorem mem_tabSet {α : Type} [DecidableEq α] {dflt : Nat → α} (t : Tab α) (k : Nat) (v : α) {e : Nat × α}
    (h : e ∈ tabSet dflt t k v) : e.1 = k ∨ e ∈ t := by
  rw [tabSet] at h
  split at h
  · exact Or.inr ((tabDel_sub t k).subset h)
  · exact (mem_tabIns t k v h).imp_left (congrArg Prod.fst)

/-- Writes whose boundary has not come stay as they are. -/
theorem Dev.applyPend_of_waiting {d : Dev} {p : Block → Bool} (h : ∀ e ∈ d.pend, p (blockOf e.1) = false) : d.applyPend p = d := by
  have hnone : d.pend.filter (fun e => p (blockOf e.1)) = [] := by
    rw [List.filter_eq_nil_iff]
    exact fun e he => ne_true_of_eq_false (h e he)
  have hall : d.pend.filter (fun e => !p (blockOf e.1)) = d.pend := by
    rw [List.filter_eq_self]
    exact fun e he => by rw [h e he]; rfl
  rw [Dev.applyPend, hnone, hall]
  rfl

/-! ### A write by access type -/

/-- A register written by its access types alone (R18), its RWB bits waiting. -/
def Written (s : State) (v : W32) (a : Nat) (r : RegRow) (t : State) : Prop :=
  t.dev.reg a = (((s.dev.reg a &&& ~~~r.rw) ||| (v &&& r.rw)) &&& ~~~(v &&& r.w1c)) ∧ KeepsRegs [a] s t ∧
  (r.rwb ≠ 0 → (tabGet Buffered.none t.dev.pend a).value &&& r.rwb = v &&& r.rwb ∧
    (tabGet Buffered.none t.dev.pend a).mask &&& r.rwb = r.rwb) ∧ Keeps [.regs, .pend] s t

section
variable {s : State} {v : W32} {a : Nat} {r : RegRow}

theorem Dev.plainWrite_waiting {d : Dev} (hrow : regRow a = some r) (hpend : ∀ e ∈ d.pend, d.boundaryNow (blockOf e.1) = false)
    (hblock : d.boundaryNow (blockOf a) = false ∨ r.rwb = 0) : d.plainWrite a v = (d.writeNow r a v).writeLater a r.rwb v := by
  rw [Dev.plainWrite, hrow]
  refine Dev.applyPend_of_waiting fun e he => ?_
  by_cases hmask : r.rwb = 0
  · rw [Dev.writeLater, if_pos hmask] at he
    exact hpend e he
  · rw [Dev.writeLater, if_neg hmask] at he
    rcases mem_tabSet d.pend a _ he with h | h
    · rw [h]
      exact hblock.resolve_right hmask
    · exact hpend e h

theorem written_writeLater : Written s v a r { s with dev := (s.dev.writeNow r a v).writeLater a r.rwb v } := by
  have hnow : s.dev.Within [.regs] (s.dev.writeNow r a v) := s.dev.within_setReg _ _
  have hlater := (s.dev.writeNow r a v).within_writeLater a r.rwb v
  have hreg (off : Nat) : ((s.dev.writeNow r a v).writeLater a r.rwb v).reg off = (s.dev.writeNow r a v).reg off :=
    Dev.reg_congr (hlater.part .regs (by decide)) off
  refine ⟨(hreg a).trans (Dev.reg_setReg_same ..), fun off hoff => (hreg off).trans (Dev.reg_setReg_other _ _ (by simpa using hoff)),
    fun hmask => Dev.pend_writeLater _ a v hmask, (hnow.trans hlater).keeps⟩

/-- A row that writes a register by its access types. -/
theorem runs_plainWrite {c : Instr} (hc : exec c s = .next { s with dev := s.dev.plainWrite a v }) (hrow : regRow a = some r)
    (hpend : ∀ e ∈ s.dev.pend, s.dev.boundaryNow (blockOf e.1) = false)
    (hblock : s.dev.boundaryNow (blockOf a) = false ∨ r.rwb = 0) : Runs c s (Written s v a r) := by
  rw [Dev.plainWrite_waiting hrow hpend hblock] at hc
  exact ⟨_, hc, written_writeLater⟩

end

/-- A register of a block without meanings of its own is written by its access types. -/
theorem Dev.writeReg_plain (d : Dev) (i : Ident) (lc : Lifecycle) (v : W32) {a : Nat}
    (h : blockOf a ∈ [Block.top, .stg, .lgr, .mem, .hck, .dim]) : d.writeReg i lc a v = d.plainWrite a v := by
  simp only [List.mem_cons, List.not_mem_nil, or_false] at h
  rw [Dev.writeReg]
  rcases h with h | h | h | h | h | h <;> rw [h]

theorem exec_registerWrite_ok (s : State) {m : Master} {off : BitVec 26} (v : W32) {be : BitVec 4} (hon : On s) (h : m ≠ .host ∨ be = 0xF) :
    exec (.registerWrite m off v be) s = .next (s.writeBar0 m off.toNat v) := by
  have hok : ¬(m = .host ∧ be ≠ 0xF) := by
    rintro ⟨h1, h2⟩
    exact h.elim (fun h => h h1) h2
  change execRegisterWrite m off v be s = _
  rw [execRegisterWrite, onPower, if_pos (show s.board.power = .on from hon), if_neg hok]

/-! ### A bad access -/

section
variable (d : Dev) (m : Master) (off : Nat)

/-- A discarded write is recorded, if none was (R503). -/
def Dev.badRecorded : Dev := if d.bit Reg.cfgStatus 4 then d else d.setReg Reg.cfgBadInfo (BitVec.ofNat 32 (off + masterNum m * 2 ^ 26))

theorem Dev.badAccess_eq : d.badAccess m off = ((d.badRecorded m off).count Reg.cfgBadCount).flagRaise Reg.cfgStatus 4 418 := rfl

theorem Dev.within_badRecorded : d.Within [.regs] (d.badRecorded m off) := (d.within_refl.ite (d.within_setReg _ _)).mono (by decide)

theorem Dev.regsWithin_badAccess : d.RegsWithin [Reg.cfgBadInfo, Reg.cfgBadCount, Reg.cfgStatus] (d.badAccess m off) := by
  rw [Dev.badAccess_eq]
  exact ((d.regsWithin_refl.ite (d.regsWithin_setReg _ _)).trans (Dev.regsWithin_count_flagRaise _ _ _ 4 418)).mono (by decide)

theorem Dev.within_badAccess : d.Within (.regs :: raising) (d.badAccess m off) := by
  rw [Dev.badAccess_eq]
  exact ((d.within_badRecorded m off).trans (Dev.within_count_flagRaise _ _ _ 4 418)).mono (by decide)

theorem Dev.reg_badRecorded_other {x : Nat} (h : x ≠ Reg.cfgBadInfo) : (d.badRecorded m off).reg x = d.reg x := by
  rw [Dev.badRecorded]
  split
  · rfl
  · exact d.reg_setReg_other _ h

theorem Dev.reg_badAccess {x : Nat} (h : x ≠ Reg.cfgStatus) : (d.badAccess m off).reg x = ((d.badRecorded m off).count Reg.cfgBadCount).reg x := by
  rw [Dev.badAccess_eq]
  exact (Dev.reg_raise _ 418 x).trans (Dev.reg_setBit_other _ 4 h)

end

theorem raised_badAccess (s : State) (m : Master) (off : Nat) : Raised 418 s { s with dev := s.dev.badAccess m off } := by
  rw [Dev.badAccess_eq, Dev.flagRaise]
  exact raised_raise ((Dev.setBit_arrivals ..).trans ((Dev.count_arrivals ..).trans
    ((s.dev.within_badRecorded m off).part .arrivals (by decide)))) 418

/-- A master's slot filled leaves the others'. -/
theorem Dev.openPair_pairFirst_other {d : Dev} {m k : Master} (h : d.openPair m = none) (a : Nat) (v : W32) (hk : k ≠ m) :
    (d.pairFirst m a v).openPair k = d.openPair k := by
  rw [d.pairFirst_of_none h]
  have hfind : (d.pairs.filter (fun p => p.1 != m)).find? (fun p => p.1 == k) = d.pairs.find? (fun p => p.1 == k) := by
    rw [List.find?_filter]
    congr 1
    funext p
    by_cases hp : p.1 = k
    · simp [hp, hk]
    · simp [hp]
  have hnew : List.find? (fun p : Master × Nat × W32 => p.1 == k) [(m, a, v)] = none := by simp [Ne.symm hk]
  simp only [Dev.openPair, Dev.closePair, List.find?_append, hfind, hnew, Option.or_none]

/-- A write that the CONFIG block discards (R503). -/
def Discarded (s : State) (m : Master) (off : Nat) (t : State) : Prop :=
  t.dev.reg Reg.cfgBadCount = BitVec.ofNat 32 (min ((s.dev.reg Reg.cfgBadCount).toNat + 1) 0xFFFFFFFF) ∧ Raised 418 s t ∧
    (s.dev.bit Reg.cfgStatus 4 = false → t.dev.reg Reg.cfgBadInfo = BitVec.ofNat 32 (off + masterNum m * 2 ^ 26)) ∧
    KeepsRegs [Reg.cfgBadCount, Reg.cfgBadInfo, Reg.cfgStatus] s t ∧ Keeps (.regs :: raising) s t

theorem discarded_badAccess (s : State) (m : Master) (off : Nat) : Discarded s m off { s with dev := s.dev.badAccess m off } := by
  dsimp only [Discarded]
  refine ⟨?_, raised_badAccess s m off, fun hclear => ?_, ((s.dev.regsWithin_badAccess m off).mono (by decide)).keepsRegs,
    (s.dev.within_badAccess m off).keeps⟩
  · exact (s.dev.reg_badAccess m off (by decide)).trans
      ((Dev.reg_count_same _ _).trans (by rw [s.dev.reg_badRecorded_other m off (by decide)]))
  · refine (s.dev.reg_badAccess m off (by decide)).trans ((Dev.reg_count_other _ (by decide)).trans ?_)
    rw [Dev.badRecorded, if_neg (ne_true_of_eq_false hclear), Dev.reg_setReg_same]

/-- Settles O31. -/
theorem registerWrites : Obligations.RegisterWrites := by
  unfold Obligations.RegisterWrites
  intro s m v hon hpend d written
  refine ⟨fun off be r hbe hrow hblock hA hA4 hplain => ?_, fun r hrow => ?_, fun off r hdig hrow hrun => ?_, fun off be hm hbe => ?_,
    fun off hopen hA => ?_, ?_⟩
  · refine runs_plainWrite ?_ hrow hpend hblock
    rw [exec_registerWrite_ok s v hon hbe, State.writeBar0]
    simp only [hA, hA4, Bool.and_false, Bool.false_eq_true, if_false]
    rw [Dev.writeReg_plain _ _ _ _ hplain]
  · have hexec : exec (.dimFixed m v) s = .next { s with dev := d.plainWrite Reg.dimFixed v } :=
      onDev_on hon (fun _ d => d.plainWrite Reg.dimFixed v)
    exact runs_plainWrite hexec hrow hpend (Or.inl rfl)
  · have hblock : blockOf (canonOff off.toNat) = .stg := by
      simp only [digRegister, Bool.or_eq_true, beq_iff_eq] at hdig
      rcases hdig with (h | h) | h <;> rw [h] <;> decide
    have hexec : exec (.digestRingConfig m off v) s = .next { s with dev := d.plainWrite (canonOff off.toNat) v } := by
      refine (onDev_on hon (fun _ d => if digRegister (canonOff off.toNat) then d.plainWrite (canonOff off.toNat) v else d)).trans ?_
      rw [if_pos hdig]
    refine runs_plainWrite hexec hrow hpend (Or.inl ?_)
    rw [hblock, Dev.boundaryNow, Option.isNone_eq_false_iff.mpr (Option.isSome_iff_ne_none.mpr hrun)]
    rfl
  · have hexec : exec (.registerWrite m off v be) s = .next { s with dev := d.badAccess m (off.toNat / 4 * 4) } := by
      change execRegisterWrite m off v be s = _
      rw [execRegisterWrite, onPower, if_pos (show s.board.power = .on from hon), if_pos ⟨hm, hbe⟩]
    exact ⟨_, hexec, discarded_badAccess s m _⟩
  · have hexec : exec (.registerWrite m off v 0xF) s = .next { s with dev := d.pairFirst m (canonOff off.toNat) v } := by
      rw [exec_registerWrite_ok s v hon (Or.inr rfl), State.writeBar0, if_pos hA]
    refine ⟨_, hexec, Dev.openPair_pairFirst .., fun k hk => Dev.openPair_pairFirst_other hopen _ _ hk, ?_⟩
    rw [Dev.pairFirst_of_none _ hopen]
    exact (d.within_pairs _).keeps
  · refine runs_onDev hon (f := fun _ d => d.setReg Reg.hckTimeFrac ((d.hck.time.extractLsb' 8 16).setWidth 32)) rfl ?_
    exact ⟨Dev.reg_setReg_same .., fun x hx => Dev.reg_setReg_other _ _ (by simpa using hx), (d.within_setReg _ _).keeps⟩

end Sys2Proof.Machine
end

section
/-! Stores, host writes, captures and the Strike keep every memory in its canonical form: O37. -/
namespace Sys2Proof.Machine

/-- From `d` to `e` memories in their canonical form stay so. -/
structure Dev.KeepsForm (d e : Dev) : Prop where
  wf : d.mems.wf = true → e.mems.wf = true

section
variable {d e f : Dev}

theorem Dev.keepsForm_refl (d : Dev) : d.KeepsForm d := ⟨id⟩

theorem Dev.KeepsForm.trans (h : d.KeepsForm e) (h' : e.KeepsForm f) : d.KeepsForm f := ⟨h'.wf ∘ h.wf⟩

theorem Dev.KeepsForm.ite {c : Prop} [Decidable c] (h : d.KeepsForm e) (h' : d.KeepsForm f) : d.KeepsForm (if c then e else f) := by
  split
  · exact h
  · exact h'

/-- What changes no memory. -/
theorem Dev.Within.keepsForm {ps : List Part} (h : d.Within ps e) (hp : Part.mems ∉ .lines :: ps) : d.KeepsForm e := by
  refine ⟨fun hd => ?_⟩
  rw [show e.mems = d.mems from h.part .mems hp]
  exact hd

theorem Dev.keepsForm_foldl {β : Type} {g : Dev → β → Dev} (hg : ∀ (d : Dev) x, d.KeepsForm (g d x)) (xs : List β) (d : Dev) :
    d.KeepsForm (xs.foldl g d) := by
  induction xs generalizing d with
  | nil => exact d.keepsForm_refl
  | cons x xs ih => exact (hg d x).trans (ih _)

end

section
variable (d : Dev)

theorem Dev.keepsForm_store (c : MemCode) (k : Nat) (bs : List Byte) : d.KeepsForm (d.store c k bs).2 :=
  ⟨fun h => Dev.store_wf h c k bs⟩

theorem Dev.keepsForm_hbmWrite (a : Nat) (bs : List Byte) : d.KeepsForm (d.hbmWrite a bs).2 := ⟨fun h => Dev.hbmWrite_wf h a bs⟩

/-! ### Stores of the lanterns -/

theorem Dev.within_lanternFault (l code : Nat) : d.Within (.regs :: .grid :: raising) (d.lanternFault l code) :=
  (((d.within_refl.ite (d.within_setReg _ _)).trans (Dev.within_setLantern _ l _)).trans (Dev.within_raise _ 136)).mono (by decide)

theorem Dev.within_lanternLost (l : Nat) : d.Within [.grid] (d.lanternLost l) := d.within_setLantern l _

theorem Dev.keepsForm_storeData (l a : Nat) (bs : List Byte) (x : Lantern) : d.KeepsForm (d.storeData l a bs x) :=
  (((d.within_raise 137).trans (Dev.within_setLantern _ l _)).keepsForm (by decide)).ite
    ((d.keepsForm_store .ldata _ bs).trans
      (((Dev.within_lanternLost _ l).keepsForm (by decide)).ite ((Dev.within_setLantern _ l _).keepsForm (by decide))))

theorem Dev.keepsForm_dataAccess (l a n : Nat) {act : Dev} (h : d.KeepsForm act) : d.KeepsForm (d.dataAccess l a n act) :=
  ((d.within_lanternFault l 2).keepsForm (by decide)).ite (((d.within_lanternFault l 3).keepsForm (by decide)).ite h)

theorem Dev.keepsForm_vecOk (l : Nat) (rs : List Nat) {act : Dev} (h : d.KeepsForm act) : d.KeepsForm (d.vecOk l rs act) :=
  h.ite ((d.within_lanternFault l 1).keepsForm (by decide))

theorem Dev.keepsForm_runOp (l op : Nat) {act : Dev → Lantern → LWord → Dev} (h : ∀ x w, d.KeepsForm (act d x w)) :
    d.KeepsForm (d.runOp l op act) := (h _ _).ite d.keepsForm_refl

/-! ### Host writes and scrub reads -/

theorem Dev.within_hostRefused : d.Within (.regs :: raising) d.hostRefused :=
  ((d.within_count _).trans (Dev.within_flagRaise _ _ 4 196)).mono (by decide)

theorem Dev.within_aerLogged (c : Bool) : d.Within (.hif :: raising) (d.aerLogged c) :=
  (((d.within_hif _).trans (Dev.within_emit _ _)).trans (Dev.within_raise _ _)).mono (by decide)

theorem Dev.keepsForm_bar2Write (i : Ident) (off : Nat) (bs : List Byte) : d.KeepsForm (d.bar2Write i off bs) := by
  have hend (e : Dev) (b : Bool) : e.KeepsForm (if b then e.aerInternal else e) :=
    ((e.within_aerLogged false).keepsForm (by decide)).ite e.keepsForm_refl
  rw [Dev.bar2Write]
  cases d.reaches i (d.aperture off) bs.length with
  | none => exact d.within_hostRefused.keepsForm (by decide)
  | some r =>
    obtain ⟨c, k⟩ := r
    by_cases hc : c = .hbm
    · simp only [hc, if_true]
      exact (d.keepsForm_hbmWrite k bs).trans (hend _ _)
    · simp only [hc, if_false]
      exact (d.keepsForm_store c k bs).trans (hend _ _)

/-- What a scrub read finds changes no byte. -/
theorem Dev.keepsForm_correctedError (off : Nat) : d.KeepsForm (d.correctedError off) := by
  have hcount := (d.within_wideAdd off 1).trans (Dev.within_pulse _ 164)
  exact ((hcount.trans (Dev.within_flagRaise _ _ 3 193)).keepsForm (by decide)).ite (hcount.keepsForm (by decide))

theorem Dev.keepsForm_countRow (a : Nat) : d.KeepsForm (d.countRow a) := ⟨id⟩

theorem Dev.keepsForm_newPass : d.KeepsForm d.newPass := ⟨id⟩

theorem Dev.keepsForm_errors (es : List (MemCode × Nat)) : d.KeepsForm { d with mems := { d.mems with errors := es } } := ⟨id⟩

theorem Dev.keepsForm_uncorrectable (c : MemCode) (k : Nat) : d.KeepsForm (d.uncorrectable c k) :=
  (d.within_uncorrectable c k).keepsForm (by decide)

theorem Dev.keepsForm_scrub (c : MemCode) (k : Nat) (f : Finding) : d.KeepsForm (d.scrub c k f) := by
  rw [Dev.scrub.eq_def]
  dsimp only
  have hpass : d.KeepsForm (if (c == .hbm && k / memUnit c == 0) = true then d.newPass else d) :=
    d.keepsForm_newPass.ite d.keepsForm_refl
  refine hpass.trans ?_
  generalize (if (c == .hbm && k / memUnit c == 0) = true then d.newPass else d) = e
  refine (e.keepsForm_uncorrectable c _).ite ?_
  cases f with
  | clean => exact e.keepsForm_refl
  | corrected => exact ((e.keepsForm_countRow k).trans (Dev.keepsForm_correctedError _ _)).ite (e.keepsForm_correctedError _)
  | uncorrectable => exact (e.keepsForm_errors _).trans (Dev.keepsForm_uncorrectable _ c _)

/-! ### Captures -/

theorem Dev.within_setSptState (n : Nat) : d.Within [.regs] (d.setSptState n) := d.within_setFld _ 2 0 n

theorem Dev.within_sptDone : d.Within (.regs :: raising) d.sptDone := (d.within_setSptState 3).trans (Dev.within_raise _ 385)

theorem Dev.within_recordBegins : d.Within [] d.recordBegins := by
  intro s p hp
  cases p with
  | lines => simp at hp
  | _ => rfl

theorem Dev.within_latestCodes (codes : BitVec 40) : d.Within [.free, .regs] (d.latestCodes codes) := by
  refine (Dev.within_foldl (ps := [.free, .regs]) (fun d i => ?_) (List.range 4) d).mono (by decide)
  dsimp only
  split
  · exact (d.within_setFld _ 25 16 _).mono (by decide)
  · exact d.within_takeFree.trans (Dev.within_setFld _ _ 25 16 _)

theorem Dev.within_afterRecord : d.Within (.spt :: .regs :: raising) d.afterRecord := by
  have hdone (x : Spt) : d.Within (.spt :: .regs :: raising)
      (if ({ d with spt := x } : Dev).spt.post = 0 then ({ d with spt := x } : Dev).sptDone else { d with spt := x }) :=
    (((d.within_spt x).trans (Dev.within_sptDone _)).ite (d.within_spt x)).mono (by decide)
  exact ((hdone _).ite ((hdone _).ite d.within_refl)).mono (by decide)

theorem Dev.keepsForm_putRecord (bs : List Byte) : d.KeepsForm (d.putRecord bs) :=
  (d.keepsForm_store .capt _ bs).trans (((Dev.within_spt _ _).trans (Dev.within_setReg _ _ _)).keepsForm (by decide))

theorem Dev.keepsForm_streamRecord (ev : W64) (codes : BitVec 40) (sync : BitVec 4) : d.KeepsForm (d.streamRecord ev codes sync) := by
  refine Dev.KeepsForm.ite ?_ ?_
  · exact (d.keepsForm_putRecord _).trans
      ((((Dev.within_spt _ _).trans (Dev.within_setSptState _ 4)).trans (Dev.within_flagRaise _ _ 7 386)).keepsForm (by decide))
  · exact (d.keepsForm_store .hbm _ _).trans (((Dev.within_setReg _ _ _).keepsForm (by decide)).trans
      ((Dev.keepsForm_putRecord _ _).trans ((Dev.within_afterRecord _).keepsForm (by decide))))

theorem Dev.keepsForm_histAdd (code : Nat) : d.KeepsForm (d.histAdd code) := d.keepsForm_store .capt _ _

theorem Dev.keepsForm_persEnd (codes : List (BitVec 10)) : d.KeepsForm (d.persEnd codes) := by
  refine (Dev.keepsForm_foldl (g := fun d c => d.persAdd c.1 c.2.toNat) (fun d c => d.keepsForm_store .capt _ _)
    ((List.range codes.length).zip codes) d).trans ?_
  exact ((Dev.within_spt _ _).keepsForm (by decide)).trans (((Dev.within_sptDone _).keepsForm (by decide)).ite
    (((Dev.within_setFld _ _ 5 3 0).trans (Dev.within_setSptState _ 1)).keepsForm (by decide)))

end

/-! ### The Strike -/

theorem Dev.keepsForm_struck (d : Dev) : d.KeepsForm d.struck := by
  refine ⟨fun h => ?_⟩
  obtain ⟨-, -, -, -, -, hhbm, hhost, -⟩ := d.mems.wf_iff.mp h
  obtain ⟨h1, h2, h3, h4, h5, -, -, h8, h9, h10⟩ := (Mems.wf_iff _).mp Mems.reset_wf
  exact (Mems.wf_iff _).mpr ⟨h1, h2, h3, h4, h5, tabFilter_wf memDflt _ _ hhbm, hhost, h8, h9, h10⟩

theorem Dev.within_strikeStart (d : Dev) (why : StrikeFor) : d.Within [.regs, .strike] (d.strikeStart why) :=
  (((((d.within_setFld _ 2 0 0).ite d.within_refl).trans (Dev.within_setBit _ _ 0)).trans (Dev.within_clrBit _ _ 1)).trans
    (Dev.within_strike _ (some why))).mono (by decide)

theorem Dev.within_lc (d : Dev) (x : Option LcChange) : d.Within [.lc] { d with lc := x } := by
  intro s p hp
  cases p with
  | lc | lines => simp at hp
  | _ => rfl

theorem State.keepsForm_burnLifecycle (s : State) (n : Nat) : s.dev.KeepsForm (s.burnLifecycle n).dev := by
  rw [State.burnLifecycle]
  dsimp only
  split
  · exact (Dev.within_freeBytes _ _).keepsForm (by decide)
  · exact s.dev.keepsForm_refl

theorem State.keepsForm_lifecycleGo (s : State) : s.dev.KeepsForm s.lifecycleGo.dev := by
  rw [State.lifecycleGo]
  cases s.dev.lc with
  | none => exact s.dev.keepsForm_refl
  | some c =>
    dsimp only
    split
    · exact s.dev.keepsForm_refl
    · exact (s.keepsForm_burnLifecycle _).trans (((Dev.within_lc _ _).trans (Dev.within_strikeStart _ .lifecycle)).keepsForm (by decide))

theorem State.keepsForm_strikeDone (s : State) (us : W32) : s.dev.KeepsForm (s.strikeDone us).dev := by
  rw [State.strikeDone]
  cases s.dev.strike with
  | none => exact s.dev.keepsForm_refl
  | some why =>
    have hdrop : s.dev.KeepsForm (if why = .wipe then s.dev.dropHeldTokens else s.dev) :=
      (s.dev.within_dropHeldTokens.keepsForm (by decide)).ite s.dev.keepsForm_refl
    have hover := (hdrop.trans (Dev.keepsForm_struck _)).trans ((Dev.within_strikeOver _ us why).keepsForm (by decide))
    exact hover.trans (State.keepsForm_lifecycleGo { s with dev := _ })

/-! ### The rows -/

section
variable {s : State} {c : Instr}

theorem runs_onDev_wf {f : Ident → Dev → Dev} (hwf : s.dev.mems.wf = true) (hc : exec c s = onDev f s)
    (h : ∀ i (d : Dev), d.KeepsForm (f i d)) : Runs c s (fun t => t.dev.mems.wf = true) := by
  by_cases hon : On s
  · exact runs_onDev hon hc ((h _ _).wf hwf)
  · exact ⟨s, hc.trans (if_neg hon), hwf⟩

theorem runs_onPower_wf {f : State → State} (hwf : s.dev.mems.wf = true) (hc : exec c s = onPower f s)
    (h : ∀ s : State, s.dev.KeepsForm (f s).dev) : Runs c s (fun t => t.dev.mems.wf = true) := by
  by_cases hon : On s
  · exact runs_onPower s hon hc ((h _).wf hwf)
  · exact ⟨s, hc.trans (if_neg hon), hwf⟩

end

/-- A sample of a WAVE capture (R492, R495). -/
def Dev.waveSample (d : Dev) (ev : W64) (codes : BitVec 40) (sync : BitVec 4) : Dev :=
  let ev := d.eventBits ev
  let d := (d.latestCodes codes).recordBegins
  if d.sptStreaming then d.streamRecord ev codes sync else (d.putRecord (d.waveBytes ev codes sync false)).afterRecord

/-- The samples of a HIST capture (R493). -/
def Dev.histSample (d : Dev) (codes : BitVec 40) : Dev :=
  let d := d.setFld (Reg.sptSamp (d.fld Reg.sptAcc 3 0)) 25 16 (bits codes.toNat 30 10)
  if bitAt (d.fld Reg.sptAcc 11 4) (d.fld Reg.sptStatus 5 3) then
    (List.range 4).foldl (fun d i => d.histAdd (bits codes.toNat (10 * i) 10)) d
  else d

theorem exec_waveRecord (ev : W64) (codes : BitVec 40) (sync : BitVec 4) (s : State) :
    exec (.waveRecord ev codes sync) s = onDev (fun _ d => if d.sptMode = 0 && d.sptArmed then d.waveSample ev codes sync
      else if d.sptMode = 1 && d.sptState = 1 then d.histSample codes else d) s := rfl

theorem exec_scrubRead (mem : MemCode) (unit : Fin 512) (addr : BitVec 39) (f : Finding) (s : State) :
    exec (.scrubRead mem unit addr f) s = onDev (fun i d => match memKey i mem unit.val addr.toNat with
      | some k => d.scrub mem k f
      | none => d) s := rfl

theorem Dev.keepsForm_waveSample (d : Dev) (ev : W64) (codes : BitVec 40) (sync : BitVec 4) : d.KeepsForm (d.waveSample ev codes sync) := by
  refine (((d.within_latestCodes codes).trans (Dev.within_recordBegins _)).keepsForm (by decide)).trans ?_
  exact (Dev.keepsForm_streamRecord _ _ codes sync).ite
    ((Dev.keepsForm_putRecord _ _).trans ((Dev.within_afterRecord _).keepsForm (by decide)))

theorem Dev.keepsForm_histSample (d : Dev) (codes : BitVec 40) : d.KeepsForm (d.histSample codes) := by
  refine ((d.within_setFld (Reg.sptSamp (d.fld Reg.sptAcc 3 0)) 25 16 (bits codes.toNat 30 10)).keepsForm (by decide)).trans ?_
  exact (Dev.keepsForm_foldl (fun (d : Dev) i => d.keepsForm_histAdd _) (List.range 4) _).ite (Dev.keepsForm_refl _)

/-- Settles O37: each row writes memories by stores alone, and those keep the canonical form. -/
theorem memoriesStayCanonical : Obligations.MemoriesStayCanonical := by
  unfold Obligations.MemoriesStayCanonical
  intro s l off data mem unit addr f us ev codes sync means hwf c hc
  simp only [List.mem_cons, List.not_mem_nil, or_false] at hc
  rcases hc with rfl | rfl | rfl | rfl | rfl | rfl | rfl | rfl
  · exact runs_onDev_wf hwf rfl fun _ d => d.keepsForm_runOp _ _ fun _ _ => d.keepsForm_dataAccess _ _ _ (d.keepsForm_storeData _ _ _ _)
  · exact runs_onDev_wf hwf rfl fun _ d => d.keepsForm_runOp _ _ fun _ _ => d.keepsForm_dataAccess _ _ _ (d.keepsForm_storeData _ _ _ _)
  · exact runs_onDev_wf hwf rfl fun _ d => d.keepsForm_runOp _ _ fun _ _ =>
      d.keepsForm_vecOk _ _ (d.keepsForm_dataAccess _ _ _ (d.keepsForm_storeData _ _ _ _))
  · exact runs_onDev_wf hwf rfl fun i d => (d.keepsForm_bar2Write i _ _).ite d.keepsForm_refl
  · refine runs_onDev_wf hwf (exec_scrubRead mem unit addr f s) fun i d => ?_
    cases memKey i mem unit.val addr.toNat with
    | none => exact d.keepsForm_refl
    | some k => exact d.keepsForm_scrub mem k f
  · exact runs_onPower_wf hwf rfl fun s => s.keepsForm_strikeDone us
  · exact runs_onDev_wf hwf (exec_waveRecord ev codes sync s) fun _ d =>
      (d.keepsForm_waveSample ev codes sync).ite ((d.keepsForm_histSample codes).ite d.keepsForm_refl)
  · exact runs_onDev_wf hwf rfl fun _ d => (d.keepsForm_persEnd means).ite d.keepsForm_refl

end Sys2Proof.Machine
end

section
/-! The rows of the memories (R316, R319 to R322, R334): O45. -/
namespace Sys2Proof.Machine

/-! ### Temperatures of the stacks -/

/-- Registers written one after another, each at its own place. -/
theorem Dev.reg_foldl_setReg (f : Nat → Nat) (hf : ∀ i j, f i = f j → i = j) (v : Nat → W32) (ns : List Nat) (d : Dev) (n : Nat) :
    (ns.foldl (fun d n => d.setReg (f n) (v n)) d).reg (f n) = if n ∈ ns then v n else d.reg (f n) := by
  induction ns generalizing d with
  | nil => simp
  | cons j ns ih =>
    rw [List.foldl_cons, ih, Dev.reg_setReg]
    by_cases hj : n = j
    · simp [hj]
    · have hne : f n ≠ f j := fun h => hj (hf _ _ h)
      simp [hj, hne]

theorem Dev.regsWithin_foldl_setReg (f : Nat → Nat) (v : Nat → W32) (ns : List Nat) (d : Dev) :
    d.RegsWithin (ns.map f) (ns.foldl (fun d n => d.setReg (f n) (v n)) d) := by
  induction ns generalizing d with
  | nil => exact d.regsWithin_refl
  | cons n ns ih => exact (d.regsWithin_setReg (f n) (v n)).trans (ih _)

theorem Dev.wideGet_wideAdd (d : Dev) (off n x : Nat) :
    (d.wideAdd off n).wideGet x = if x = off then d.wideGet off + BitVec.ofNat 64 n else d.wideGet x := by
  rw [Dev.wideGet, Dev.wideAdd, tabGet_tabSet]
  rfl

theorem Reg.memTemp_inj (i j : Nat) (h : Reg.memTemp i = Reg.memTemp j) : i = j := by
  simp only [Reg.memTemp] at h
  omega

/-- The stacks' temperatures as a reading leaves them. -/
def Dev.tempsSet (d : Dev) (temps : W64) : Dev :=
  (List.range 8).foldl (fun d n => d.setReg (Reg.memTemp n) (BitVec.ofNat 32 (bits temps.toNat (8 * n) 8))) d

/-- The stacks' temperatures and corrections as a reading leaves them. -/
def Dev.tempsRead (d : Dev) (temps : W64) (n : W32) : Dev := (d.tempsSet temps).wideAdd Reg.memCeStack n.toNat

theorem exec_hbmTempRead (temps : W64) (n : W32) (s : State) : exec (.hbmTempRead temps n) s = onDev (fun _ d =>
    let e := d.tempsRead temps n
    if e.fld Reg.memStatus 6 5 = e.refreshRate then e else (e.setFld Reg.memStatus 6 5 e.refreshRate).raise 195) s := rfl

section
variable (d : Dev) (temps : W64) (n : W32)

theorem Dev.within_tempsSet : d.Within [.regs] (d.tempsSet temps) :=
  Dev.within_foldl (fun d n => d.within_setReg (Reg.memTemp n) _) (List.range 8) d

theorem Dev.regsWithin_tempsRead : d.RegsWithin ((List.range 8).map Reg.memTemp) (d.tempsRead temps n) :=
  ((Dev.regsWithin_foldl_setReg Reg.memTemp _ (List.range 8) d).trans ((Dev.within_wideAdd _ _ _).regsWithin (by decide))).mono
    (by rw [List.append_nil]; exact List.Subset.refl _)

theorem Dev.within_tempsRead : d.Within [.regs, .wide] (d.tempsRead temps n) :=
  ((d.within_tempsSet temps).trans (Dev.within_wideAdd _ _ _)).mono (by decide)

theorem Dev.reg_tempsRead {k : Nat} (h : k < 8) :
    (d.tempsRead temps n).reg (Reg.memTemp k) = BitVec.ofNat 32 (bits temps.toNat (8 * k) 8) := by
  have hset : (d.tempsSet temps).reg (Reg.memTemp k) = BitVec.ofNat 32 (bits temps.toNat (8 * k) 8) := by
    rw [Dev.tempsSet, Dev.reg_foldl_setReg Reg.memTemp Reg.memTemp_inj (fun n => BitVec.ofNat 32 (bits temps.toNat (8 * n) 8)),
      if_pos (List.mem_range.mpr h)]
  rw [Dev.tempsRead, Dev.reg_congr (Dev.wideAdd_regs ..), hset]

theorem Dev.wideGet_tempsRead (off : Nat) :
    (d.tempsRead temps n).wideGet off = if off = Reg.memCeStack then d.wideGet off + n.setWidth 64 else d.wideGet off := by
  have hset (x : Nat) : (d.tempsSet temps).wideGet x = d.wideGet x := by
    rw [Dev.wideGet, (d.within_tempsSet temps).part .wide (by decide), Dev.wideGet]
  have hn : BitVec.ofNat 64 n.toNat = n.setWidth 64 := BitVec.eq_of_toNat_eq (by simp)
  rw [Dev.tempsRead, Dev.wideGet_wideAdd, hset, hset, hn]
  by_cases h : off = Reg.memCeStack
  · rw [if_pos h, if_pos h, h]
  · rw [if_neg h, if_neg h]

/-- A temperature register reads as its reading. -/
theorem Dev.fld_tempsRead {k : Nat} (h : k < 8) : (d.tempsRead temps n).fld (Reg.memTemp k) 7 0 = bits temps.toNat (8 * k) 8 := by
  have hlt := bits_lt temps.toNat (8 * k) 8
  rw [Dev.fld, d.reg_tempsRead temps n h, BitVec.toNat_ofNat]
  simp only [bits, Nat.shiftRight_zero] at hlt ⊢
  omega

/-- The rate that the hottest stack or MEM_REFRESH_OVR selects (R316). -/
theorem Dev.refreshRate_tempsRead : (d.tempsRead temps n).refreshRate =
    max (rateOf ((List.range 8).foldl (fun x n => max x (bits temps.toNat (8 * n) 8)) 0)) (min 2 (d.fld Reg.memRefreshOvr 1 0)) := by
  have hhot : (List.range 8).foldl (fun t k => max t ((d.tempsRead temps n).fld (Reg.memTemp k) 7 0)) 0 =
      (List.range 8).foldl (fun x k => max x (bits temps.toNat (8 * k) 8)) 0 :=
    List.foldl_ext _ _ _ fun t k hk => by rw [d.fld_tempsRead temps n (List.mem_range.mp hk)]
  rw [Dev.refreshRate, hhot, Dev.fld_congr (d.regsWithin_tempsRead temps n Reg.memRefreshOvr (by decide))]

end

theorem rate_lt (t o : Nat) : max (rateOf t) (min 2 o) < 4 := by
  have h : rateOf t ≤ 2 := by
    rw [rateOf]
    (repeat' split) <;> decide
  omega

/-- What HBM_TEMP_READ leaves (R316, R318). -/
theorem runs_hbmTempRead {s : State} (hon : On s) (temps : W64) (n : W32) : Runs (.hbmTempRead temps n) s (fun t =>
    let hot := (List.range 8).foldl (fun x n => max x (bits temps.toNat (8 * n) 8)) 0
    let rate := max (rateOf hot) (min 2 (s.dev.fld Reg.memRefreshOvr 1 0))
    (∀ n, n < 8 → t.dev.reg (Reg.memTemp n) = BitVec.ofNat 32 (bits temps.toNat (8 * n) 8)) ∧ t.dev.fld Reg.memStatus 6 5 = rate ∧
    t.dev.wideGet Reg.memCeStack = s.dev.wideGet Reg.memCeStack + n.setWidth 64 ∧
    (∀ o, o ≠ Reg.memCeStack → t.dev.wideGet o = s.dev.wideGet o) ∧
    (s.dev.fld Reg.memStatus 6 5 ≠ rate → Raised 195 s t) ∧ (s.dev.fld Reg.memStatus 6 5 = rate → Keeps [.regs, .wide] s t) ∧
    KeepsRegs (Reg.memStatus :: (List.range 8).map Reg.memTemp) s t ∧ Keeps (.regs :: .wide :: raising) s t) := by
  refine runs_onDev hon (exec_hbmTempRead temps n s) ?_
  have hlt := rate_lt ((List.range 8).foldl (fun x n => max x (bits temps.toNat (8 * n) 8)) 0) (s.dev.fld Reg.memRefreshOvr 1 0)
  have hrate := s.dev.refreshRate_tempsRead temps n
  have hregs := s.dev.regsWithin_tempsRead temps n
  have hframe := s.dev.within_tempsRead temps n
  have htemp := fun k h => s.dev.reg_tempsRead temps n (k := k) h
  have hwide := s.dev.wideGet_tempsRead temps n
  have hfld : (s.dev.tempsRead temps n).fld Reg.memStatus 6 5 = s.dev.fld Reg.memStatus 6 5 :=
    Dev.fld_congr (hregs Reg.memStatus (by decide)) 6 5
  have hnot : ∀ k, Reg.memTemp k ≠ Reg.memStatus ∨ 8 ≤ k := by simp only [Reg.memTemp, Reg.memStatus]; omega
  dsimp only
  rw [hrate, hfld]
  generalize s.dev.tempsRead temps n = e at hregs hframe htemp hwide hfld
  generalize max (rateOf _) _ = rate at hlt
  by_cases h : s.dev.fld Reg.memStatus 6 5 = rate
  · rw [if_pos h]
    refine ⟨htemp, hfld.trans h, ?_, fun o ho => ?_, fun h' => absurd h h', fun _ => hframe.keeps, hregs.mono (List.subset_cons_self _ _),
      (hframe.mono (by decide)).keeps⟩
    · exact (hwide _).trans (if_pos rfl)
    · exact (hwide o).trans (if_neg ho)
  · rw [if_neg h]
    have hstep : e.Within (.regs :: raising) ((e.setFld Reg.memStatus 6 5 rate).raise 195) :=
      (e.within_setFld _ 6 5 rate).trans (Dev.within_raise _ 195)
    have hstepRegs : e.RegsWithin [Reg.memStatus] ((e.setFld Reg.memStatus 6 5 rate).raise 195) :=
      (e.regsWithin_setFld _ 6 5 rate).trans (Dev.regsWithin_raise _ 195)
    have hw (o : Nat) : ((e.setFld Reg.memStatus 6 5 rate).raise 195).wideGet o = e.wideGet o := by
      rw [Dev.wideGet, hstep.part .wide (by decide), Dev.wideGet]
    refine ⟨fun k hk => (hstepRegs _ ?_).trans (htemp k hk), ?_, ?_, fun o ho => ?_, fun _ => ?_, fun h' => absurd h' h, ?_, ?_⟩
    · rw [List.mem_singleton]
      exact (hnot k).resolve_right (by omega)
    · rw [Dev.fld_congr (Dev.reg_raise _ 195 _), Dev.fld_setFld_same _ _ _ (by decide)]
      exact Nat.mod_eq_of_lt hlt
    · exact (hw _).trans ((hwide _).trans (if_pos rfl))
    · exact (hw o).trans ((hwide o).trans (if_neg ho))
    · exact raised_raise ((Dev.setFld_arrivals ..).trans (hframe.part .arrivals (by decide))) 195
    · exact (hregs.trans hstepRegs).mono (by simp)
    · exact ((hframe.trans hstep).mono (by decide)).keeps

/-! ### What reads find -/

section
variable (d : Dev) (c : MemCode) (k : Nat)

/-- The first record of an uncorrectable error (R321). -/
def Dev.errorInfo (u a : Nat) : Dev :=
  if d.bit Reg.memStatus 2 then d
  else (d.setReg Reg.memUeInfo (BitVec.ofNat 32 (memNum c + u * 16))).setReg64 Reg.memUeAddr a

/-- An uncorrectable error counted, recorded and raised (R321). -/
def Dev.errorRaised : Dev :=
  ((d.count Reg.memUeCount).errorInfo c (memPlace c k).1 (memPlace c k).2).flagRaise Reg.memStatus 2 192

/-- The address of an uncorrectable error joins those of the interval (R467). -/
def Dev.errorNoted (d : Dev) (a : Nat) : Dev := { d with usy := { d.usy with errors := d.usy.errors ++ [a] } }

/-- An uncorrectable error that does not make the module FAILING (R321). -/
theorem Dev.uncorrectable_of_not_failing (h : d.errorsFailing c (memNum c * 2 ^ 64 + k) = false) :
    d.uncorrectable c k = (d.errorRaised c k).errorNoted (memNum c * 2 ^ 64 + k) := by
  have husy : (d.errorRaised c k).usy = d.usy := by
    have hinfo (e : Dev) (u a : Nat) : e.Within [.regs] (e.errorInfo c u a) :=
      (e.within_refl.ite ((e.within_setReg _ _).trans (Dev.within_setReg64 _ _ _))).mono (by decide)
    exact (((d.within_count _).trans (hinfo _ _ _)).trans (Dev.within_flagRaise _ _ 2 192)).part .usy (by decide)
  have hfail : (d.errorRaised c k).errorsFailing c (memNum c * 2 ^ 64 + k) = false := by rw [Dev.errorsFailing, husy]; exact h
  have heq : d.uncorrectable c k = Dev.errorNoted
      (if (d.errorRaised c k).errorsFailing c (memNum c * 2 ^ 64 + k) then (d.errorRaised c k).enterFailing else d.errorRaised c k)
      (memNum c * 2 ^ 64 + k) := by
    rcases hp : memPlace c k with ⟨u, a⟩
    simp only [Dev.uncorrectable, Dev.errorRaised, Dev.errorInfo, Dev.errorNoted, hp]
  rw [heq, hfail, if_neg Bool.false_ne_true]

theorem Dev.within_errorInfo (u a : Nat) : d.Within [.regs] (d.errorInfo c u a) :=
  (d.within_refl.ite ((d.within_setReg _ _).trans (Dev.within_setReg64 _ _ _))).mono (by decide)

theorem Dev.within_errorRaised : d.Within (.regs :: raising) (d.errorRaised c k) :=
  (((d.within_count _).trans (Dev.within_errorInfo _ _ _ _)).trans (Dev.within_flagRaise _ _ 2 192)).mono (by decide)

theorem Dev.within_errorNoted (a : Nat) : d.Within [.usy] (d.errorNoted a) := d.within_usy _

/-- What an uncorrectable error records (R321). -/
theorem Dev.regs_errorRaised : let e := d.errorRaised c k
    e.bit Reg.memStatus 2 = true ∧ e.reg Reg.memUeCount = BitVec.ofNat 32 (min ((d.reg Reg.memUeCount).toNat + 1) 0xFFFFFFFF) ∧
    (d.bit Reg.memStatus 2 = false → e.reg Reg.memUeInfo = BitVec.ofNat 32 (memNum c + (memPlace c k).1 * 16) ∧
      e.reg Reg.memUeAddr = BitVec.ofNat 32 (memPlace c k).2) := by
  have hflag {off : Nat} (h : off ≠ Reg.memStatus) :
      (d.errorRaised c k).reg off = ((d.count Reg.memUeCount).errorInfo c (memPlace c k).1 (memPlace c k).2).reg off :=
    Dev.regsWithin_flagRaise _ _ 2 192 off (by simpa using h)
  refine ⟨Dev.bit_flagRaise_same _ _ 192 (by decide), ?_, fun hclear => ?_⟩
  · rw [hflag (by decide), Dev.errorInfo]
    split
    · exact Dev.reg_count_same ..
    · rw [Dev.setReg64, Dev.reg_setReg_other _ _ (by decide), Dev.reg_setReg_other _ _ (by decide), Dev.reg_setReg_other _ _ (by decide),
        Dev.reg_count_same]
  · have hclear' : (d.count Reg.memUeCount).bit Reg.memStatus 2 = false := (Dev.bit_congr (Dev.reg_count_other _ (by decide)) 2).trans hclear
    rw [hflag (by decide), hflag (by decide), Dev.errorInfo, if_neg (ne_true_of_eq_false hclear'), Dev.setReg64]
    refine ⟨?_, ?_⟩
    · rw [Dev.reg_setReg_other _ _ (by decide), Dev.reg_setReg_other _ _ (by decide), Dev.reg_setReg_same]
    · rw [Dev.reg_setReg_other _ _ (by decide), Dev.reg_setReg_same]

/-- A corrected error counted where its memory counts them (R319, R320). -/
def Dev.errorCorrected : Dev := if c = .hbm then (d.countRow k).correctedError Reg.memCeHbm else d.correctedError Reg.memCeSram

/-- An uncorrectable error stays in its word (R321). -/
def Dev.errorStays : Dev := { d with mems := { d.mems with errors := d.mems.errors ++ [(c, k / memUnit c)] } }

section
variable {d : Dev} {c : MemCode} {k : Nat} (herr : (c, k / memUnit c) ∉ d.mems.errors)
include herr

/-- A scrub read of a word that holds no error, in a pass that goes on. -/
theorem Dev.scrub_of_clean (hpass : c ≠ .hbm ∨ k / memUnit c ≠ 0) : d.scrub c k .clean = d ∧
    d.scrub c k .corrected = d.errorCorrected c k ∧
    d.scrub c k .uncorrectable = (d.errorStays c k).uncorrectable c (k / memUnit c * memUnit c) := by
  have hfirst : (c == .hbm && k / memUnit c == 0) = false := by
    rw [Bool.and_eq_false_iff]
    exact hpass.imp (fun h => by simpa using h) (fun h => by simpa using h)
  have hcont : d.mems.errors.contains (c, k / memUnit c) = false := by simpa using herr
  simp only [Dev.scrub.eq_def, hfirst, Bool.false_eq_true, if_false, hcont, Dev.errorCorrected, Dev.errorStays, and_self]

/-- A read that finds something in a word that holds no error. -/
theorem Dev.meets_single {i : Ident} {unit : Fin 512} {addr : BitVec 39} (hkey : memKey i c unit.val addr.toNat = some k) :
    d.meets i [⟨c, unit, addr, .clean⟩] = d ∧ d.meets i [⟨c, unit, addr, .corrected⟩] = d.errorCorrected c k ∧
    d.meets i [⟨c, unit, addr, .uncorrectable⟩] = d.errorStays c k := by
  have hcont : d.mems.errors.contains (c, k / memUnit c) = false := by simpa using herr
  have hmeet (f : Finding) : d.meets i [⟨c, unit, addr, f⟩] = d.meet i ⟨c, unit, addr, f⟩ := rfl
  simp only [hmeet, Dev.meet, hkey, hcont, Bool.false_eq_true, if_false, Dev.errorCorrected, Dev.errorStays, and_self]

end

/-- A corrected error that reaches no threshold is counted alone (R319). -/
theorem Dev.correctedError_of_no_threshold (off : Nat) (h : d.reg Reg.memCeThresh = 0) :
    d.correctedError off = (d.wideAdd off 1).pulse 164 := by
  have hthresh : ((d.wideAdd off 1).pulse 164).reg Reg.memCeThresh = 0 := h
  rw [Dev.correctedError]
  rw [hthresh]
  rfl

end

/-- One corrected error has been counted at `off`, and of the memories at most a row's count has changed (R319, R320). -/
def Corrected (s : State) (off : Nat) (t : State) : Prop :=
  t.dev.wideGet off = s.dev.wideGet off + 1 ∧ (∀ o, o ≠ off → t.dev.wideGet o = s.dev.wideGet o) ∧
    t.dev.mems = { s.dev.mems with repair := t.dev.mems.repair } ∧ Keeps [.wide, .mems] s t

theorem corrected_correctedError {s : State} {d : Dev} (off : Nat) (h : s.dev.reg Reg.memCeThresh = 0) (hregs : d.regs = s.dev.regs)
    (hwide : d.wide = s.dev.wide) (hframe : s.dev.Within [.mems] d) (hmems : d.mems = { s.dev.mems with repair := d.mems.repair }) :
    Corrected s off { s with dev := d.correctedError off } := by
  have hget (o : Nat) : ((d.wideAdd off 1).pulse 164).wideGet o = if o = off then s.dev.wideGet off + 1 else s.dev.wideGet o := by
    refine (d.wideGet_wideAdd off 1 o).trans ?_
    simp only [Dev.wideGet, hwide]
    rfl
  rw [d.correctedError_of_no_threshold off ((Dev.reg_congr hregs _).trans h)]
  exact ⟨(hget off).trans (if_pos rfl), fun o ho => (hget o).trans (if_neg ho), hmems,
    (((hframe.trans (Dev.within_wideAdd _ off 1)).trans (Dev.within_pulse _ 164)).mono (by decide)).keeps⟩

section
variable {s : State} (hon : On s) {c : MemCode} {unit : Fin 512} {addr : BitVec 39} {k : Nat}
  (hkey : memKey s.ident c unit.val addr.toNat = some k)
include hon hkey

theorem does_scrubRead (f : Finding) : Does (.scrubRead c unit addr f) s (s.dev.scrub c k f) := by
  rw [Does, exec_scrubRead, onDev_on hon]
  rw [hkey]

variable (herr : (c, k / memUnit c) ∉ s.dev.mems.errors) (hpass : c ≠ .hbm ∨ k / memUnit c ≠ 0)
include herr hpass

/-- A scrub read that finds a corrected error, no threshold being set (R319). -/
theorem runs_scrubRead_corrected (hthresh : s.dev.reg Reg.memCeThresh = 0) :
    Runs (.scrubRead c unit addr .corrected) s (Corrected s (if c = .hbm then Reg.memCeHbm else Reg.memCeSram)) := by
  refine ⟨_, does_scrubRead hon hkey .corrected, ?_⟩
  rw [(Dev.scrub_of_clean herr hpass).2.1, Dev.errorCorrected]
  by_cases hc : c = .hbm
  · simp only [hc, if_true]
    exact corrected_correctedError (d := s.dev.countRow k) _ hthresh rfl rfl (s.dev.within_mems _) rfl
  · simp only [hc, if_false]
    exact corrected_correctedError _ hthresh rfl rfl (s.dev.within_refl.mono (by decide)) rfl

/-- A scrub read that finds an uncorrectable error which does not make the module FAILING (R321). -/
theorem runs_scrubRead_uncorrectable (u : Nat) (hu : u = k / memUnit c)
    (hfail : s.dev.errorsFailing c (memNum c * 2 ^ 64 + u * memUnit c) = false) :
    Runs (.scrubRead c unit addr .uncorrectable) s (fun t =>
      t.dev.mems = { s.dev.mems with errors := s.dev.mems.errors ++ [(c, u)] } ∧ t.dev.bit Reg.memStatus 2 = true ∧ Raised 192 s t ∧
      t.dev.reg Reg.memUeCount = BitVec.ofNat 32 (min ((s.dev.reg Reg.memUeCount).toNat + 1) 0xFFFFFFFF) ∧
      (s.dev.bit Reg.memStatus 2 = false →
        t.dev.reg Reg.memUeInfo = BitVec.ofNat 32 (memNum c + (memPlace c (u * memUnit c)).1 * 16) ∧
        t.dev.reg Reg.memUeAddr = BitVec.ofNat 32 (memPlace c (u * memUnit c)).2) ∧
      Keeps (.mems :: .regs :: .usy :: raising) s t) := by
  subst hu
  refine ⟨_, does_scrubRead hon hkey .uncorrectable, ?_⟩
  rw [(Dev.scrub_of_clean herr hpass).2.2]
  have hd : s.dev.Within [.mems] (s.dev.errorStays c k) := s.dev.within_mems _
  have hmems : (s.dev.errorStays c k).mems = { s.dev.mems with errors := s.dev.mems.errors ++ [(c, k / memUnit c)] } := rfl
  dsimp only
  generalize s.dev.errorStays c k = d at hd hmems
  have hregs := Dev.reg_congr (hd.part .regs (by decide))
  rw [Dev.errorsFailing, ← show d.usy = s.dev.usy from hd.part .usy (by decide)] at hfail
  rw [d.uncorrectable_of_not_failing _ _ hfail]
  obtain ⟨hflag, hcount, hinfo⟩ := d.regs_errorRaised c (k / memUnit c * memUnit c)
  have hraise := d.within_errorRaised c (k / memUnit c * memUnit c)
  have hraised : Raised 192 s { s with dev := d.errorRaised c (k / memUnit c * memUnit c) } := by
    refine raised_flagRaise ?_ Reg.memStatus 2 192
    exact ((d.within_count _).trans (Dev.within_errorInfo _ _ _ _)).part .arrivals (by decide) |>.trans (hd.part .arrivals (by decide))
  generalize d.errorRaised c (k / memUnit c * memUnit c) = e at hflag hcount hinfo hraise hraised
  have hnote := e.within_errorNoted (memNum c * 2 ^ 64 + k / memUnit c * memUnit c)
  refine ⟨?_, hflag, hraised.congr rfl, ?_, fun hclear => ?_, ((hd.trans (hraise.trans hnote)).mono (by decide)).keeps⟩
  · exact (hnote.part .mems (by decide)).trans ((hraise.part .mems (by decide)).trans hmems)
  · rw [← hregs]
    exact hcount
  · exact hinfo ((Dev.bit_congr (hregs _) 2).trans hclear)

end

/-! ### The host window -/

section
variable (d : Dev)

theorem Dev.get_correctedError (off : Nat) (c : MemCode) : (d.correctedError off).mems.get c = d.mems.get c := by
  have hmems : (d.correctedError off).mems = d.mems := by
    have hcount := (d.within_wideAdd off 1).trans (Dev.within_pulse _ 164)
    exact (Dev.Within.ite (hcount.trans (Dev.within_flagRaise _ _ 3 193)) hcount).part .mems (by decide)
  rw [hmems]

theorem Dev.get_meet (i : Ident) (f : Found) (c : MemCode) : (d.meet i f).mems.get c = d.mems.get c := by
  have hrepair (a : Nat) : (d.countRow a).mems.get c = d.mems.get c := by cases c <;> rfl
  have herrors (es : List (MemCode × Nat)) : ({ d.mems with errors := es } : Mems).get c = d.mems.get c := by cases c <;> rfl
  rw [Dev.meet]
  cases memKey i f.mem f.unit.val f.addr.toNat with
  | none => rfl
  | some k =>
    dsimp only
    split
    · rfl
    · cases f.finding with
      | clean => rfl
      | corrected =>
        dsimp only
        split
        · exact (Dev.get_correctedError _ _ c).trans (hrepair k)
        · exact d.get_correctedError _ c
      | uncorrectable => exact herrors _

/-- What reads find changes no byte. -/
theorem Dev.get_meets (i : Ident) (fs : List Found) (c : MemCode) : (d.meets i fs).mems.get c = d.mems.get c := by
  induction fs generalizing d with
  | nil => rfl
  | cons f fs ih => exact (ih _).trans (d.get_meet i f c)

/-- What an access of the host window may reach (R322, R334). -/
theorem Dev.reaches_ne_cast {i : Ident} {x n : Nat} {c : MemCode} {k : Nat} (h : d.reaches i x n = some (c, k)) : c ≠ .cast := by
  rintro rfl
  rw [Dev.reaches] at h
  (repeat' split at h) <;> simp at h

theorem Mems.get_put (m : Mems) {c : MemCode} (x : Memory) (h : c ≠ .cast) : (m.put c x).get c = x := by
  cases c with
  | cast => exact absurd rfl h
  | _ => rfl

theorem Mems.put_get_put (m : Mems) (c : MemCode) (x : Memory) : m.put c ((m.put c x).get c) = m.put c x := by
  cases c with
  | cast => rfl
  | _ => rfl

end

/-- A refused access of the host window (R322). -/
theorem hostRefused_refuses (s : State) : s.dev.hostRefused.bit Reg.memStatus 4 = true ∧
    Raised 196 s { s with dev := s.dev.hostRefused } ∧ s.dev.RegsWithin [Reg.memHostRefused, Reg.memStatus] s.dev.hostRefused ∧
    s.dev.Within (.regs :: raising) s.dev.hostRefused :=
  ⟨Dev.bit_flagRaise_same _ _ 196 (by decide), raised_flagRaise (Dev.count_arrivals ..) _ 4 196,
    s.dev.regsWithin_count_flagRaise _ _ 4 196, s.dev.within_count_flagRaise _ _ 4 196⟩

section
variable {s : State} (hon : On s) {off : BitVec 39}
include hon

theorem runs_bar2Read {len : BitVec 13} (fs : List Found) (hin : off.toNat + len.toNat ≤ s.dev.hif.bar2Size) :
    Does (.bar2Read off len fs) s (s.dev.bar2Read s.ident off.toNat len.toNat fs) := by
  change execBar2Read off len fs s = _
  rw [execBar2Read, onDev_on hon]
  rw [if_pos hin]

theorem runs_bar2Write {data : List Byte} (hin : off.toNat + data.length ≤ s.dev.hif.bar2Size) :
    Does (.bar2Write off data) s (s.dev.bar2Write s.ident off.toNat data) := by
  change execBar2Write off data s = _
  rw [execBar2Write, onDev_on hon]
  rw [if_pos hin]

end

theorem Dev.bar2Read_of_reaches {d : Dev} {i : Ident} {off n : Nat} {c : MemCode} {k : Nat} (fs : List Found)
    (h : d.reaches i (d.aperture off) n = some (c, k)) : d.bar2Read i off n fs =
      let r := (d.meets i fs).readErrors c k n
      if r.1 then r.2.aerInternal.emit .completerAbort else r.2.emit (.completion (r.2.load c k n)) := by
  rw [Dev.bar2Read, h]

/-- A write that meets no recorded error writes its bytes, in HBM and in a tile store alike (R321, R334). -/
theorem Dev.mems_bar2Write {d : Dev} {i : Ident} {off : Nat} {bs : List Byte} {c : MemCode} {k : Nat}
    (h : d.reaches i (d.aperture off) bs.length = some (c, k)) (herr : d.mems.errors = []) :
    (d.bar2Write i off bs).mems = d.mems.put c (memPuts (d.mems.get c) k bs) := by
  have hstore : d.store c k bs = (false, { d with mems := d.mems.put c (memPuts (d.mems.get c) k bs) }) := by
    rw [Dev.store, herr]
    rfl
  rw [Dev.bar2Write, h]
  dsimp only
  by_cases hc : c = .hbm
  · subst hc
    rw [if_pos rfl, Dev.hbmWrite, hstore]
    exact Dev.shipWrite_mems ..
  · rw [if_neg hc, hstore]
    rfl

/-- Settles O45. -/
theorem memoryRows : Obligations.MemoryRows := by
  unfold Obligations.MemoryRows
  intro s hon d
  refine ⟨fun pc => runs_onDev hon (f := fun _ d => d) rfl rfl, fun temps n => runs_hbmTempRead hon temps n,
    ?_, fun off len fs hin => ⟨fun h => ?_, fun c k h => ?_⟩,
    fun off data hin => ⟨fun h => ?_, fun c k h herr => ?_⟩⟩
  · intro c unit addr k hkey u herr hpass
    obtain ⟨hclean, hcorrected, -⟩ := Dev.scrub_of_clean herr hpass
    obtain ⟨hmclean, hmcorrected, hmstays⟩ := Dev.meets_single herr hkey
    refine ⟨⟨_, does_scrubRead hon hkey .clean, ?_⟩, (does_scrubRead hon hkey .corrected).trans ?_, hmclean, hmstays,
      fun hthresh => runs_scrubRead_corrected hon hkey herr hpass hthresh,
      fun hfail => runs_scrubRead_uncorrectable hon hkey herr hpass u rfl hfail⟩
    · rw [hclean]
    · rw [hcorrected, hmcorrected]
  · refine ⟨_, runs_bar2Read hon fs hin, ?_⟩
    obtain ⟨hflag, hraised, hregs, hframe⟩ := hostRefused_refuses s
    have heq : d.bar2Read s.ident off.toNat len.toNat fs = s.dev.hostRefused.emit .unsupported := by rw [Dev.bar2Read, h]
    rw [heq]
    generalize s.dev.hostRefused = e at hflag hraised hregs hframe
    have hemit := e.within_emit .unsupported
    exact ⟨⟨_, rfl⟩, hflag, hraised.congr rfl, (hregs.trans (hemit.regsWithin (by decide))).keepsRegs,
      ((hframe.trans hemit).mono (by decide)).keeps⟩
  · refine ⟨fun herr => ?_, fun herr => ⟨_, runs_bar2Read hon fs hin, ?_⟩⟩
    · refine (runs_bar2Read hon fs hin).trans ?_
      rw [Dev.bar2Read_of_reaches fs h, Dev.readErrors_none herr, ← d.get_meets s.ident fs c]
      rfl
    · have hhit : ((d.meets s.ident fs).readErrors c k len.toNat).1 = true := by
        rw [Dev.readErrors]
        simpa using herr
      rw [Dev.bar2Read_of_reaches fs h]
      dsimp only
      rw [hhit]
      exact ⟨_, rfl⟩
  · refine ⟨_, runs_bar2Write hon hin, ?_⟩
    obtain ⟨hflag, hraised, hregs, hframe⟩ := hostRefused_refuses s
    have heq : d.bar2Write s.ident off.toNat data = s.dev.hostRefused := by rw [Dev.bar2Write, h]
    rw [heq]
    exact ⟨hframe.part .mems (by decide), hflag, hraised, hregs.keepsRegs, hframe.keeps⟩
  · refine ⟨_, runs_bar2Write hon hin, ?_⟩
    have hmems := Dev.mems_bar2Write h herr
    have hget := Mems.get_put d.mems (memPuts (d.mems.get c) k data) (d.reaches_ne_cast h)
    dsimp only
    rw [hmems, Mems.put_get_put, hget]
    exact ⟨fun x => memByte_memPuts _ _ _ _, rfl⟩

end Sys2Proof.Machine
end

section
/-! Arming, stopping and forcing the Spotlight, and its reading (R490, R494, R497, R498): O46. -/
namespace Sys2Proof.Machine

/-! ### Completion entries -/

section
variable (d : Dev)

theorem Dev.within_msix (v : Nat) : d.Within [.hif, .outbox] (d.msix v) := fun s => keeps_msix s d v

theorem Dev.within_hostWrite (a : Nat) (bs : List Byte) : d.Within [.mems] (d.hostWrite a bs) := d.within_mems _

theorem Dev.within_cqSignal (q : Nat) : d.Within [.hif, .outbox] (d.cqSignal q) :=
  ((d.within_setPair q _).trans (Dev.within_msix _ _)).mono (by decide)

/-- What an entry of a completion queue may change. -/
def posting : List Part := [.hif, .mems, .outbox]

/-- The pair after an entry of its completion queue (R339). -/
def Dev.entryAfter (q : Nat) : Pair :=
  { d.pair q with
    cqTail := if d.cqSize q ≤ (d.pair q).cqTail + 1 then 0 else (d.pair q).cqTail + 1
    phase := if d.cqSize q ≤ (d.pair q).cqTail + 1 then !(d.pair q).phase else (d.pair q).phase
    unsignalled := (d.pair q).unsignalled + 1 }

/-- An entry written into the next slot of its queue, not yet signalled (R339). -/
def Dev.entryPlaced (q : Nat) (e : List Byte) : Dev :=
  (d.hostWrite (d.reg64 (Reg.hifQcqBase q) + 32 * (d.pair q).cqTail)
    ((e.headD 0 ||| (if (d.pair q).phase then 1 else 0)) :: e.drop 1)).setPair q (d.entryAfter q)

theorem Dev.cqWrite_eq (q : Nat) (e : List Byte) : d.cqWrite q e =
    if (d.entryPlaced q e).fld (Reg.hifQirq q) 7 0 ≤ (d.pair q).unsignalled + 1 then (d.entryPlaced q e).cqSignal q
    else d.entryPlaced q e := by
  rw [Dev.cqWrite]
  simp only [decide_eq_true_eq]
  rfl

theorem Dev.within_entryPlaced (q : Nat) (e : List Byte) : d.Within [.mems, .hif] (d.entryPlaced q e) :=
  (d.within_hostWrite _ _).trans (Dev.within_setPair _ q _)

theorem Dev.within_cqWrite (q : Nat) (e : List Byte) : d.Within posting (d.cqWrite q e) := by
  rw [Dev.cqWrite_eq]
  exact (Dev.Within.ite ((d.within_entryPlaced q e).trans (Dev.within_cqSignal _ q)) (d.within_entryPlaced q e)).mono (by decide)

theorem Dev.within_post (q : Nat) (e : List Byte) : d.Within posting (d.post q e) :=
  ((d.within_cqWrite q e).ite (d.within_setPair q _)).mono (by decide)

theorem Dev.within_complete (c : Submission) (st : Status) : d.Within posting (d.complete c st) := d.within_post _ _

theorem Dev.within_completeAll (cs : List Submission) (st : Status) : d.Within posting (d.completeAll cs st) :=
  Dev.within_foldl (fun d c => d.within_complete c st) cs d

theorem Dev.within_sptComplete (c : Submission) (st : Status) : d.Within posting (d.sptComplete c st) := d.within_post _ _

end

/-! ### The trigger -/

section
variable (d : Dev) (tfrac : Nat) (forced : Bool)

/-- The trigger's time and place, not yet counted (R487, R491). -/
def Dev.triggerPlaced : Dev :=
  let e := d.takeFree.2
  let e := e.setReg64 Reg.sptTtime (e.time48 + d.takeFree.1.toNat % 4 * 65536 + tfrac * 1024)
  e.setReg Reg.sptTpos (BitVec.ofNat 32 (e.spt.recs % 2 ^ 18 + tfrac * 2 ^ 18))

/-- The records that follow a trigger are awaited (R492). -/
def Dev.endAwaited : Dev := { d with spt := { d.spt with trig := true, forced := forced, post := d.fld Reg.sptPost 17 0 } }

/-- The trigger noted and counted, and the capture's end awaited (R487, R491). -/
def Dev.triggerNoted : Dev := ((d.triggerPlaced tfrac).count Reg.sptTriggers).endAwaited forced

/-- The pins that a trigger drives (R491). -/
def Dev.triggerPins : Dev := if d.fld Reg.sptCtrl 14 11 = 0 then d else d.emit (.syncPins (d.fld Reg.sptCtrl 14 11))

theorem Dev.sptTrigger_eq : d.sptTrigger tfrac forced =
    let e := (((d.triggerNoted tfrac forced).setSptState 2).raise 384).triggerPins
    if e.sptMode = 1 then e.sptDone else e := by
  rw [Dev.sptTrigger]
  rfl

/-- The trigger's registers (R487, R491). -/
def triggerRegs : List Nat := [Reg.sptTtime, Reg.sptTtime + 4, Reg.sptTpos, Reg.sptTriggers]

theorem Dev.within_triggerPlaced : d.Within [.free, .regs] (d.triggerPlaced tfrac) :=
  ((d.within_takeFree.trans (Dev.within_setReg64 _ _ _)).trans (Dev.within_setReg _ _ _)).mono (by decide)

theorem Dev.within_endAwaited : d.Within [.spt] (d.endAwaited forced) := d.within_spt _

theorem Dev.within_triggerNoted : d.Within [.free, .regs, .spt] (d.triggerNoted tfrac forced) :=
  (((d.within_triggerPlaced tfrac).trans (Dev.within_count _ _)).trans (Dev.within_endAwaited _ forced)).mono (by decide)

theorem Dev.regsWithin_setReg64 (off v : Nat) : d.RegsWithin [off, off + 4] (d.setReg64 off v) :=
  (d.regsWithin_setReg off _).trans (Dev.regsWithin_setReg _ _ _)

theorem Dev.regsWithin_triggerPlaced : d.RegsWithin [Reg.sptTtime, Reg.sptTtime + 4, Reg.sptTpos] (d.triggerPlaced tfrac) :=
  ((d.within_takeFree.regsWithin (by decide)).trans (Dev.regsWithin_setReg64 _ _ _)).trans (Dev.regsWithin_setReg _ _ _)

theorem Dev.regsWithin_triggerNoted : d.RegsWithin triggerRegs (d.triggerNoted tfrac forced) :=
  ((d.regsWithin_triggerPlaced tfrac).trans (Dev.regsWithin_count _ _)).trans ((Dev.within_endAwaited _ forced).regsWithin (by decide))

theorem Dev.reg_triggerNoted : (d.triggerNoted tfrac forced).reg Reg.sptTriggers =
    BitVec.ofNat 32 (min ((d.reg Reg.sptTriggers).toNat + 1) 0xFFFFFFFF) := by
  rw [Dev.triggerNoted, Dev.reg_congr ((Dev.within_endAwaited _ forced).part .regs (by decide)), Dev.reg_count_same,
    d.regsWithin_triggerPlaced tfrac _ (by decide)]

theorem Dev.spt_triggerNoted :
    (d.triggerNoted tfrac forced).spt = { d.spt with trig := true, forced := forced, post := d.fld Reg.sptPost 17 0 } := by
  have hplaced := (d.within_triggerPlaced tfrac).trans (Dev.within_count _ Reg.sptTriggers)
  have hpost := Dev.fld_congr (((d.regsWithin_triggerPlaced tfrac).trans (Dev.regsWithin_count _ Reg.sptTriggers)) Reg.sptPost (by decide)) 17 0
  rw [Dev.triggerNoted, Dev.endAwaited, hpost, show _ = d.spt from hplaced.part .spt (by decide)]

theorem Dev.within_triggerPins : d.Within [.outbox] d.triggerPins := (d.within_refl.ite (d.within_emit _)).mono (by decide)

/-- What a trigger leaves (R487 to R491): it is counted, the capture runs to its end, in HIST mode at once. -/
structure Dev.Triggered (d e : Dev) (forced : Bool) : Prop where
  state : e.sptState = if d.sptMode = 1 then 3 else 2
  flags : ∀ i, 3 ≤ i → e.bit Reg.sptStatus i = d.bit Reg.sptStatus i
  seq : e.fld Reg.sptStatus 5 3 = d.fld Reg.sptStatus 5 3
  count : e.reg Reg.sptTriggers = BitVec.ofNat 32 (min ((d.reg Reg.sptTriggers).toNat + 1) 0xFFFFFFFF)
  spt : e.spt = { d.spt with trig := true, forced := forced, post := d.fld Reg.sptPost 17 0 }
  regs : d.RegsWithin (Reg.sptStatus :: triggerRegs) e
  raised : e.arrivalCount 384 = min 255 (d.arrivalCount 384 + 1)
  quiet : ∀ x, x ≠ 384 → (d.sptMode = 1 → x ≠ 385) → e.arrivalCount x = d.arrivalCount x
  frame : d.Within (.free :: .regs :: .spt :: raising) e

theorem Dev.bit_setSptState (n : Nat) {i : Nat} (h : 3 ≤ i) : (d.setSptState n).bit Reg.sptStatus i = d.bit Reg.sptStatus i := by
  rw [Dev.setSptState, Dev.bit_setFld _ _ _ _ (by decide), if_neg (by omega)]

theorem Dev.fld_setSptState (n : Nat) : (d.setSptState n).fld Reg.sptStatus 5 3 = d.fld Reg.sptStatus 5 3 :=
  Dev.fld_setFld_apart _ _ _ (by decide) (by decide) (by decide)

theorem Dev.sptState_setSptState {n : Nat} (h : n < 8) : (d.setSptState n).sptState = n := by
  rw [Dev.sptState, Dev.setSptState, Dev.fld_setFld_same _ _ _ (by decide)]
  exact Nat.mod_eq_of_lt h

theorem Dev.regsWithin_setSptState (n : Nat) : d.RegsWithin [Reg.sptStatus] (d.setSptState n) := d.regsWithin_setFld _ 2 0 n

/-- A state entered with a source raised, and pins driven or not. -/
theorem Dev.regs_stateRaised (n src : Nat) (off : Nat) : ((d.setSptState n).raise src).reg off = (d.setSptState n).reg off :=
  Dev.reg_raise _ src off

theorem Dev.arrivalCount_stateRaised (n src x : Nat) :
    ((d.setSptState n).raise src).arrivalCount x = if x = src then min 255 (d.arrivalCount src + 1) else d.arrivalCount x := by
  rw [Dev.arrivalCount_raise]
  simp only [Dev.arrivalCount, Dev.setSptState, Dev.setFld_arrivals]

theorem Dev.within_stateRaised (n src : Nat) : d.Within (.regs :: raising) ((d.setSptState n).raise src) :=
  (d.within_setSptState n).trans (Dev.within_raise _ src)

theorem Dev.triggered_sptTrigger : d.Triggered (d.sptTrigger tfrac forced) forced := by
  have hnoted := d.regsWithin_triggerNoted tfrac forced
  have hframe := d.within_triggerNoted tfrac forced
  have hcount := d.reg_triggerNoted tfrac forced
  have hspt := d.spt_triggerNoted tfrac forced
  rw [Dev.sptTrigger_eq]
  generalize d.triggerNoted tfrac forced = e at hnoted hframe hcount hspt
  have harr (x : Nat) : e.arrivalCount x = d.arrivalCount x := by
    rw [Dev.arrivalCount, hframe.part .arrivals (by decide), Dev.arrivalCount]
  have hstat (i : Nat) : e.bit Reg.sptStatus i = d.bit Reg.sptStatus i := Dev.bit_congr (hnoted _ (by decide)) i
  have hseq : e.fld Reg.sptStatus 5 3 = d.fld Reg.sptStatus 5 3 := Dev.fld_congr (hnoted _ (by decide)) 5 3
  have hpins := ((e.setSptState 2).raise 384).within_triggerPins
  have hx := (e.within_stateRaised 2 384).trans hpins
  have hreg (off : Nat) : ((e.setSptState 2).raise 384).triggerPins.reg off = (e.setSptState 2).reg off :=
    (Dev.reg_congr (hpins.part .regs (by decide)) off).trans (e.regs_stateRaised 2 384 off)
  have hxarr (x : Nat) : ((e.setSptState 2).raise 384).triggerPins.arrivalCount x =
      if x = 384 then min 255 (d.arrivalCount 384 + 1) else d.arrivalCount x := by
    rw [← harr, ← harr, ← e.arrivalCount_stateRaised 2 384 x, Dev.arrivalCount, hpins.part .arrivals (by decide), Dev.arrivalCount]
  have hmode : ((e.setSptState 2).raise 384).triggerPins.sptMode = d.sptMode :=
    Dev.fld_congr ((hreg _).trans ((Dev.reg_setFld_other _ 2 0 2 (by decide)).trans (hnoted _ (by decide)))) 6 5
  have hregs : d.RegsWithin (Reg.sptStatus :: triggerRegs) ((e.setSptState 2).raise 384).triggerPins :=
    (hnoted.trans ((e.regsWithin_setSptState 2).trans (((Dev.regsWithin_raise _ 384).trans (hpins.regsWithin (by decide)))))).mono (by decide)
  dsimp only
  rw [hmode]
  generalize ((e.setSptState 2).raise 384).triggerPins = x at hx hreg hxarr hregs
  by_cases h : d.sptMode = 1
  · rw [if_pos h, Dev.sptDone]
    have hreg' (off : Nat) : ((x.setSptState 3).raise 385).reg off = (x.setSptState 3).reg off := x.regs_stateRaised 3 385 off
    refine ⟨?_, fun i hi => ?_, ?_, ?_, ?_, ?_, ?_, fun y hy hy' => ?_, ?_⟩
    · rw [if_pos h]
      exact (Dev.fld_congr (hreg' _) 2 0).trans (x.sptState_setSptState (by decide))
    · exact (Dev.bit_congr (hreg' _) i).trans ((x.bit_setSptState 3 hi).trans ((Dev.bit_congr (hreg _) i).trans
        ((e.bit_setSptState 2 hi).trans (hstat i))))
    · exact (Dev.fld_congr (hreg' _) 5 3).trans ((x.fld_setSptState 3).trans ((Dev.fld_congr (hreg _) 5 3).trans
        ((e.fld_setSptState 2).trans hseq)))
    · exact (hreg' _).trans ((Dev.reg_setFld_other _ 2 0 3 (by decide)).trans ((hreg _).trans
        ((Dev.reg_setFld_other _ 2 0 2 (by decide)).trans hcount)))
    · exact ((hx.trans (x.within_stateRaised 3 385)).part .spt (by decide)).trans hspt
    · exact (hregs.trans ((x.regsWithin_setSptState 3).trans (Dev.regsWithin_raise _ 385))).mono (by decide)
    · rw [x.arrivalCount_stateRaised 3 385, if_neg (by decide), hxarr, if_pos rfl]
    · rw [x.arrivalCount_stateRaised 3 385, if_neg (hy' h), hxarr, if_neg hy]
    · exact ((hframe.trans hx).trans (x.within_stateRaised 3 385)).mono (by decide)
  · rw [if_neg h]
    refine ⟨?_, fun i hi => ?_, ?_, ?_, ?_, hregs, ?_, fun y hy _ => ?_, (hframe.trans hx).mono (by decide)⟩
    · rw [if_neg h]
      exact (Dev.fld_congr (hreg _) 2 0).trans (e.sptState_setSptState (by decide))
    · exact (Dev.bit_congr (hreg _) i).trans ((e.bit_setSptState 2 hi).trans (hstat i))
    · exact (Dev.fld_congr (hreg _) 5 3).trans ((e.fld_setSptState 2).trans hseq)
    · exact (hreg _).trans ((Dev.reg_setFld_other _ 2 0 2 (by decide)).trans hcount)
    · exact (hx.part .spt (by decide)).trans hspt
    · rw [hxarr, if_pos rfl]
    · rw [hxarr, if_neg hy]

end

/-! ### ARM, STOP and FORCE -/

section
variable (d : Dev)

/-- The counts of a capture begun anew (R494). -/
def Dev.countsCleared : Dev :=
  let e := (List.range 4).foldl (fun d n => d.setReg (Reg.sptCnt n) 0) d.recordBegins
  ((e.setReg Reg.sptFill 0).setReg Reg.sptRingWr 0).setReg Reg.sptRingRd 0

/-- A capture begun anew, its buffer's counts 0 (R493, R494). -/
def Dev.captureBegun : Dev :=
  { d with
    spt := { Spt.reset with waits := d.spt.waits }
    mems := { d.mems with capt := tabClear d.mems.capt 0 (accBytes d.sptMode) } }

theorem Dev.sptArm_of_bad (h : (d.applyPend (fun b => b == .spt)).sptArmBad = true) : d.sptArm = d.setBit Reg.sptStatus 10 := by
  rw [Dev.sptArm]
  dsimp only
  rw [if_pos h]

theorem Dev.sptArm_of_ok (h : (d.applyPend (fun b => b == .spt)).sptArmBad = false) :
    d.sptArm = ((d.applyPend (fun b => b == .spt)).countsCleared.captureBegun.setFld Reg.sptStatus 5 3 0).setSptState 1 := by
  rw [Dev.sptArm]
  dsimp only
  rw [if_neg (ne_true_of_eq_false h)]
  rfl

theorem Reg.sptCnt_inj (i j : Nat) (h : Reg.sptCnt i = Reg.sptCnt j) : i = j := by
  simp only [Reg.sptCnt] at h
  omega

/-- The counter registers lie apart from the capture's. -/
theorem Reg.sptCnt_apart {n : Nat} (h : n < 4) : Reg.sptCnt n ∉ [Reg.sptFill, Reg.sptRingWr, Reg.sptRingRd, Reg.sptStatus] := by
  simp only [Reg.sptCnt, Reg.sptFill, Reg.sptRingWr, Reg.sptRingRd, Reg.sptStatus, List.mem_cons, List.not_mem_nil, or_false, not_or]
  omega

theorem Dev.within_countsCleared : d.Within [.regs] d.countsCleared :=
  ((((d.within_recordBegins.trans (Dev.within_foldl (fun d n => d.within_setReg (Reg.sptCnt n) 0) (List.range 4) _)).trans
    (Dev.within_setReg _ _ _)).trans (Dev.within_setReg _ _ _)).trans (Dev.within_setReg _ _ _)).mono (by decide)

theorem Dev.within_captureBegun : d.Within [.spt, .mems] d.captureBegun := by
  intro s p hp
  cases p with
  | spt | mems | lines => simp at hp
  | _ => rfl

theorem Dev.reg_countsCleared {n : Nat} (h : n < 4) : d.countsCleared.reg (Reg.sptCnt n) = 0 := by
  have hapart := Reg.sptCnt_apart h
  simp only [List.mem_cons, List.not_mem_nil, or_false, not_or] at hapart
  obtain ⟨hfill, hwr, hrd, -⟩ := hapart
  rw [Dev.countsCleared]
  rw [Dev.reg_setReg_other _ _ hrd, Dev.reg_setReg_other _ _ hwr, Dev.reg_setReg_other _ _ hfill,
    Dev.reg_foldl_setReg Reg.sptCnt Reg.sptCnt_inj (fun _ => 0), if_pos (List.mem_range.mpr h)]

theorem Dev.places_countsCleared :
    d.countsCleared.reg Reg.sptFill = 0 ∧ d.countsCleared.reg Reg.sptRingWr = 0 ∧ d.countsCleared.reg Reg.sptRingRd = 0 := by
  rw [Dev.countsCleared]
  refine ⟨?_, ?_, ?_⟩
  · rw [Dev.reg_setReg_other _ _ (by decide), Dev.reg_setReg_other _ _ (by decide), Dev.reg_setReg_same]
  · rw [Dev.reg_setReg_other _ _ (by decide), Dev.reg_setReg_same]
  · rw [Dev.reg_setReg_same]

/-- What an ARM leaves that is not refused (R494, R497). -/
theorem Dev.sptArm_spec (h : (d.applyPend (fun b => b == .spt)).sptArmBad = false) :
    d.sptArm.sptState = 1 ∧ d.sptArm.fld Reg.sptStatus 5 3 = 0 ∧ (∀ n, n < 4 → d.sptArm.reg (Reg.sptCnt n) = 0) ∧
      d.sptArm.reg Reg.sptFill = 0 ∧ d.sptArm.reg Reg.sptRingWr = 0 ∧ d.sptArm.reg Reg.sptRingRd = 0 ∧
      d.sptArm.spt = { Spt.reset with waits := (d.applyPend (fun b => b == .spt)).spt.waits } := by
  rw [d.sptArm_of_ok h]
  generalize d.applyPend (fun b => b == .spt) = e
  obtain ⟨hfill, hwr, hrd⟩ := e.places_countsCleared
  have hcnt := fun n h => e.reg_countsCleared (n := n) h
  have hwaits : e.countsCleared.spt = e.spt := e.within_countsCleared.part .spt (by decide)
  generalize e.countsCleared = c at hfill hwr hrd hcnt hwaits
  have hbegun := Dev.reg_congr (c.within_captureBegun.part .regs (by decide))
  have hspt : c.captureBegun.spt = { Spt.reset with waits := e.spt.waits } := by rw [← hwaits]; rfl
  generalize c.captureBegun = b at hbegun hspt
  have hreg {off : Nat} (ho : off ≠ Reg.sptStatus) : ((b.setFld Reg.sptStatus 5 3 0).setSptState 1).reg off = c.reg off :=
    (Dev.reg_setFld_other _ 2 0 1 ho).trans ((Dev.reg_setFld_other _ 5 3 0 ho).trans (hbegun off))
  refine ⟨Dev.sptState_setSptState _ (by decide), ?_, fun n hn => ?_, (hreg (by decide)).trans hfill, (hreg (by decide)).trans hwr,
    (hreg (by decide)).trans hrd, hspt⟩
  · rw [Dev.fld_setSptState, Dev.fld_setFld_same _ _ _ (by decide)]
    rfl
  · refine (hreg fun h => Reg.sptCnt_apart hn ?_).trans (hcnt n hn)
    rw [h]
    decide

/-- The trigger of a FORCE, before the commands that wait for it complete (R490). -/
def Dev.forceTaken : Dev := (((d.setBit Reg.sptStatus 6).count Reg.sptForced).raise 387).sptTrigger 0 true

/-- The FORCE commands that wait for a trigger complete (R498). -/
def Dev.forcesComplete : Dev :=
  (d.spt.waits.filter (fun c => subOp c 8 1 == 4)).foldl (fun d c => d.sptComplete c .success)
    { d with spt := { d.spt with waits := d.spt.waits.filter (fun c => subOp c 8 1 != 4) } }

theorem Dev.sptForced_of_awaited (h : d.sptState = 1) : d.sptForced = d.forceTaken.forcesComplete := by
  rw [Dev.sptForced, if_pos h]
  rfl

theorem Dev.within_forcesComplete : d.Within (.spt :: posting) d.forcesComplete :=
  ((d.within_spt _).trans (Dev.within_foldl (fun d c => d.within_sptComplete c .success) _ _)).mono (by decide)

/-- What a forced trigger leaves (R490). -/
theorem Dev.sptForced_spec (h : d.sptState = 1) : d.sptForced.sptState = (if d.sptMode = 1 then 3 else 2) ∧
    d.sptForced.bit Reg.sptStatus 6 = true ∧
    d.sptForced.reg Reg.sptForced = BitVec.ofNat 32 (min ((d.reg Reg.sptForced).toNat + 1) 0xFFFFFFFF) ∧
    d.sptForced.reg Reg.sptTriggers = BitVec.ofNat 32 (min ((d.reg Reg.sptTriggers).toNat + 1) 0xFFFFFFFF) ∧
    d.sptForced.arrivalCount 384 = min 255 (d.arrivalCount 384 + 1) ∧
    d.sptForced.arrivalCount 387 = min 255 (d.arrivalCount 387 + 1) := by
  rw [d.sptForced_of_awaited h]
  have hdone := d.forceTaken.within_forcesComplete
  have hreg := Dev.reg_congr (hdone.part .regs (by decide))
  have harr (x : Nat) : d.forceTaken.forcesComplete.arrivalCount x = d.forceTaken.arrivalCount x := by
    rw [Dev.arrivalCount, hdone.part .arrivals (by decide), Dev.arrivalCount]
  have htaken : (((d.setBit Reg.sptStatus 6).count Reg.sptForced).raise 387).Triggered d.forceTaken true := Dev.triggered_sptTrigger _ 0 true
  generalize d.forceTaken = e at hreg harr htaken
  have hx (off : Nat) : (((d.setBit Reg.sptStatus 6).count Reg.sptForced).raise 387).reg off =
      ((d.setBit Reg.sptStatus 6).count Reg.sptForced).reg off := Dev.reg_raise _ 387 off
  have hxarr (x : Nat) : (((d.setBit Reg.sptStatus 6).count Reg.sptForced).raise 387).arrivalCount x =
      if x = 387 then min 255 (d.arrivalCount 387 + 1) else d.arrivalCount x := by
    rw [Dev.arrivalCount_raise]
    simp only [Dev.arrivalCount, Dev.count_arrivals, Dev.setBit_arrivals]
  generalize (((d.setBit Reg.sptStatus 6).count Reg.sptForced).raise 387) = x at hx hxarr htaken
  have hmode : x.sptMode = d.sptMode :=
    Dev.fld_congr ((hx _).trans ((Dev.reg_count_other _ (by decide)).trans (Dev.reg_setBit_other _ 6 (by decide)))) 6 5
  refine ⟨?_, ?_, ?_, ?_, ?_, ?_⟩
  · rw [← hmode]
    exact (Dev.fld_congr (hreg _) 2 0).trans htaken.state
  · refine (Dev.bit_congr (hreg _) 6).trans ((htaken.flags 6 (by decide)).trans ?_)
    exact (Dev.bit_congr ((hx _).trans (Dev.reg_count_other _ (by decide))) 6).trans (Dev.bit_setBit_same _ _ (by decide))
  · refine (hreg _).trans ((htaken.regs _ (by decide)).trans ((hx _).trans ((Dev.reg_count_same _ _).trans ?_)))
    rw [Dev.reg_setBit_other _ 6 (by decide)]
  · rw [hreg, htaken.count, hx, Dev.reg_count_other _ (by decide), Dev.reg_setBit_other _ 6 (by decide)]
  · rw [harr, htaken.raised, hxarr, if_neg (by decide)]
  · rw [harr, htaken.quiet 387 (by decide) (fun _ => by decide), hxarr, if_pos rfl]

end

/-! ### The rows -/

section
variable (s : State)

theorem exec_sptArm_reg (m : Master) (v : W32) : exec (.sptArm (.reg m v)) s = onDev (fun _ d => d.sptCtrlWrite v) s := rfl

theorem exec_sptStop_reg (m : Master) (v : W32) : exec (.sptStop (.reg m v)) s = onDev (fun _ d => d.sptCtrlWrite v) s := rfl

theorem exec_sptForce_reg (m : Master) (v : W32) : exec (.sptForce (.reg m v)) s = onDev (fun _ d => d.sptCtrlWrite v) s := rfl

theorem exec_sptArm_cmd (c : Submission) :
    exec (.sptArm (.cmd c)) s = onDev (fun _ d => d.afterStrike c (fun d => d.sptArmCmd c)) s := rfl

theorem exec_sptStop_cmd (c : Submission) :
    exec (.sptStop (.cmd c)) s = onDev (fun _ d => d.afterStrike c (fun d => d.sptStopCmd c)) s := rfl

theorem exec_sptForce_cmd (c : Submission) :
    exec (.sptForce (.cmd c)) s = onDev (fun _ d => d.afterStrike c (fun d => d.sptForceCmd c)) s := rfl

theorem exec_spotlightRead (c : Submission) :
    exec (.spotlightRead c) s = onDev (fun _ d => d.afterStrike c (fun d => d.sptReadCmd c)) s := rfl

theorem exec_sptAutoTimeout : exec .sptAutoTimeout s = onDev (fun _ d => if d.bit Reg.sptCtrl 3 then d.sptForced else d) s := rfl

end

section
variable {s : State} (hon : On s)
include hon

theorem does_onDev {c : Instr} {f : Ident → Dev → Dev} {e : Dev} (hc : exec c s = onDev f s) (he : f s.ident s.dev = e) : Does c s e := by
  rw [Does, hc, onDev_on hon, he]

/-- A SPOTLIGHT command once the Strike is complete (Table 11-8). -/
theorem does_afterStrike {r : Instr} {c : Submission} {act : Dev → Dev} {e : Dev} (hstrike : s.dev.bit Reg.memStatus 1 = true)
    (hr : exec r s = onDev (fun _ d => d.afterStrike c act) s) (he : act s.dev = e) : Does r s e := by
  refine does_onDev hon hr ?_
  rw [Dev.afterStrike, if_pos hstrike, he]

end

theorem Dev.sptRead_of_buffer {d : Dev} {c : Submission} (hspace : subOp c 9 1 = 0) (hhost : subOp c 16 8 % 64 = 0)
    (hlen : subOp c 24 4 % 64 = 0) (harmed : d.sptArmed = false) (hin : subOp c 28 4 + subOp c 24 4 ≤ captureBytes)
    (herr : d.errorsIn .capt (subOp c 28 4) (subOp c 24 4) = []) :
    d.sptRead c = (d.hostWrite (subOp c 16 8) (memBytes d.mems.capt (subOp c 28 4) (subOp c 24 4))).sptComplete c .success := by
  have hread : d.readOpen .capt (subOp c 28 4) (subOp c 24 4) = (memBytes d.mems.capt (subOp c 28 4) (subOp c 24 4), d) := by
    rw [Dev.readOpen, Dev.readErrors_none herr]
    rfl
  have hidle : ¬(d.fld Reg.sptStatus 2 0 == 1 || d.fld Reg.sptStatus 2 0 == 2) = true := ne_true_of_eq_false harmed
  rw [Dev.sptRead]
  dsimp only
  rw [hspace, hhost, hlen, if_neg (by decide), if_pos rfl, if_neg hidle, if_neg (by omega), hread]

/-- Settles O46. -/
theorem spotlightControl : Obligations.SpotlightControl := by
  unfold Obligations.SpotlightControl
  refine ⟨fun d => ⟨d.sptArm_spec, d.sptArm_of_bad⟩, fun d => ⟨fun h => ?_, fun h => ?_⟩, fun d => ⟨fun h => ?_, d.sptForced_spec⟩,
    fun s m v hon => ⟨fun h0 h1 h2 => ?_, fun h0 h1 h2 => ?_, fun h0 h1 h2 => ?_⟩, fun s c hon hstrike => ?_, fun s hon => ⟨fun h => ?_, fun h => ?_⟩⟩
  · rw [Dev.sptStop, if_pos h]
    exact d.sptState_setSptState (by decide)
  · rw [Dev.sptStop, if_neg (ne_true_of_eq_false h)]
  · rw [Dev.sptForced, if_neg h]
  · exact does_onDev hon (exec_sptArm_reg s m v) (by simp only [Dev.sptCtrlWrite, h0, h1, h2, if_true, Bool.false_eq_true, if_false])
  · exact does_onDev hon (exec_sptStop_reg s m v) (by simp only [Dev.sptCtrlWrite, h0, h1, h2, if_true, Bool.false_eq_true, if_false])
  · exact does_onDev hon (exec_sptForce_reg s m v) (by simp only [Dev.sptCtrlWrite, h0, h1, h2, if_true, Bool.false_eq_true, if_false])
  · refine ⟨fun hok => ⟨?_, ?_, ?_⟩, fun hbad r hr => ?_, fun hok hrun hspace hhost hlen harmed hin herr => ?_, fun hok hrun => ?_⟩
    · exact does_afterStrike hon hstrike (exec_sptArm_cmd s c) (by simp [Dev.sptArmCmd, hok])
    · exact does_afterStrike hon hstrike (exec_sptStop_cmd s c) (by simp [Dev.sptStopCmd, hok])
    · exact does_afterStrike hon hstrike (exec_sptForce_cmd s c) (by simp [Dev.sptForceCmd, hok])
    · simp only [List.mem_cons, List.not_mem_nil, or_false] at hr
      rcases hr with rfl | rfl | rfl
      · exact does_afterStrike hon hstrike (exec_sptArm_cmd s c) (by simp [Dev.sptArmCmd, hbad])
      · exact does_afterStrike hon hstrike (exec_sptStop_cmd s c) (by simp [Dev.sptStopCmd, hbad])
      · exact does_afterStrike hon hstrike (exec_sptForce_cmd s c) (by simp [Dev.sptForceCmd, hbad])
    · refine does_afterStrike hon hstrike (exec_spotlightRead s c) ?_
      rw [← Dev.sptRead_of_buffer hspace hhost hlen harmed hin herr]
      simp [Dev.sptReadCmd, hok, hrun]
    · exact does_afterStrike hon hstrike (exec_spotlightRead s c) (by simp [Dev.sptReadCmd, hok, hrun])
  · exact does_onDev hon (exec_sptAutoTimeout s) (if_pos h)
  · exact does_onDev hon (exec_sptAutoTimeout s) (if_neg (ne_true_of_eq_false h))

end Sys2Proof.Machine
end

section
/-! The Spotlight's sequencer, timers and records (R484, R486, R488, R489, R492, R493): O47. -/
namespace Sys2Proof.Machine

/-! ### Timers and edges -/

theorem exec_sptTimerExpiry (n : Fin 4) (s : State) : exec (.sptTimerExpiry n) s = onDev (fun _ d =>
    if tabGet (fun _ => 0) d.spt.timers n.val = 0 then d
    else { d with spt := { d.spt with timers := tabSet (fun _ => 0) d.spt.timers n.val 0, edges := d.spt.edges ++ [4 + n.val] } }) s := rfl

theorem exec_edgeCancelled (src : BitVec 9) (s : State) : exec (.edgeCancelled src) s = onDev (fun _ d =>
    if (d.count Reg.sptRateExc).bit Reg.sptStatus 9 then d.count Reg.sptRateExc
    else (d.count Reg.sptRateExc).flagRaise Reg.sptStatus 9 388) s := rfl

section
variable {s : State} (hon : On s)
include hon

theorem runs_sptTimerExpiry (n : Fin 4) (h : tabGet (fun _ => 0) s.dev.spt.timers n.val ≠ 0) : Runs (.sptTimerExpiry n) s (fun t =>
    tabGet (fun _ => 0) t.dev.spt.timers n.val = 0 ∧ t.dev.spt.edges = s.dev.spt.edges ++ [4 + n.val] ∧ Keeps [.spt] s t) := by
  refine runs_onDev hon (exec_sptTimerExpiry n s) ?_
  dsimp only
  rw [if_neg h]
  exact ⟨by simp, rfl, (s.dev.within_spt _).keeps⟩

/-- An edge that is cancelled is counted; the first is told (R486). -/
theorem runs_edgeCancelled (src : BitVec 9) : Runs (.edgeCancelled src) s (fun t =>
    t.dev.reg Reg.sptRateExc = BitVec.ofNat 32 (min ((s.dev.reg Reg.sptRateExc).toNat + 1) 0xFFFFFFFF) ∧
    t.dev.bit Reg.sptStatus 9 = true ∧
    (s.dev.bit Reg.sptStatus 9 = false → Raised 388 s t) ∧ (s.dev.bit Reg.sptStatus 9 = true → Keeps [.regs] s t) ∧
    KeepsRegs [Reg.sptRateExc, Reg.sptStatus] s t ∧ Keeps (.regs :: raising) s t) := by
  refine runs_onDev hon (exec_edgeCancelled src s) ?_
  dsimp only
  have hbit : (s.dev.count Reg.sptRateExc).bit Reg.sptStatus 9 = s.dev.bit Reg.sptStatus 9 :=
    Dev.bit_congr (Dev.reg_count_other _ (by decide)) 9
  have hframe := s.dev.within_count Reg.sptRateExc
  have hregs := s.dev.regsWithin_count Reg.sptRateExc
  have hcount := s.dev.reg_count_same Reg.sptRateExc
  have harr := s.dev.count_arrivals Reg.sptRateExc
  generalize s.dev.count Reg.sptRateExc = e at hbit hframe hregs hcount harr
  rw [hbit]
  by_cases h : s.dev.bit Reg.sptStatus 9 = true
  · rw [if_pos h]
    exact ⟨hcount, hbit.trans h, fun h' => absurd h (ne_true_of_eq_false h'), fun _ => hframe.keeps, (hregs.mono (by decide)).keepsRegs,
      (hframe.mono (by decide)).keeps⟩
  · rw [if_neg h]
    refine ⟨?_, Dev.bit_flagRaise_same _ _ 388 (by decide), fun _ => raised_flagRaise harr _ 9 388, fun h' => absurd h' h,
      (hregs.trans (e.regsWithin_flagRaise _ 9 388)).keepsRegs, ((hframe.trans (e.within_flagRaise _ 9 388)).mono (by decide)).keeps⟩
    exact (e.regsWithin_flagRaise Reg.sptStatus 9 388 _ (by decide)).trans hcount

end

/-! ### The sequencer -/

section
variable (d : Dev)

/-- The edges that counters and timers presented are no longer there (R488). -/
def Dev.edgesDropped : Dev := { d with spt := { d.spt with edges := [] } }

theorem Dev.within_edgesDropped : d.Within [.spt] d.edgesDropped := d.within_spt _

/-- What an awaited arm without actions on counters comes to: its trigger or its next state (R488, R489). -/
def Dev.awaitedFired (w tfrac : Nat) : Dev :=
  if bitAt w 15 then d.edgesDropped.sptTrigger tfrac false else d.edgesDropped.setFld Reg.sptStatus 5 3 (bits w 12 3)

theorem setBits_zero (n : Nat) : setBits n 0 = [] := by simp [setBits]

theorem Dev.armFires_of_awaited {w : Nat} (tfrac : Nat) (h : bits w 16 12 = 0) (hstate : d.sptState = 1) :
    d.armFires w tfrac = d.awaitedFired w tfrac := by
  have hzero : bits w 20 4 = 0 ∧ bits w 16 4 = 0 ∧ bits w 24 4 = 0 := by
    simp only [bits, Nat.shiftRight_eq_div_pow] at h ⊢
    omega
  obtain ⟨hclear, hcount, htimer⟩ := hzero
  have heq : d.armFires w tfrac =
      let fire := bitAt w 15 && d.edgesDropped.sptState == 1
      let e := if fire then d.edgesDropped.sptTrigger tfrac false else d.edgesDropped
      if (d.sptState == 2) || fire then e else e.setFld Reg.sptStatus 5 3 (bits w 12 3) := by
    rw [Dev.armFires, hclear, hcount, htimer, setBits_zero]
    rfl
  have hdropped : d.edgesDropped.sptState = 1 := hstate
  rw [heq, Dev.awaitedFired]
  dsimp only
  rw [hdropped, hstate]
  cases bitAt w 15 <;> rfl

end

theorem exec_sptArmFire (arm : Bool) (tfrac : BitVec 6) (s : State) : exec (.sptArmFire arm tfrac) s = onDev (fun _ d =>
    if d.sptArmed && d.armSees (d.armReg (d.fld Reg.sptStatus 5 3) (b2n arm)) then
      d.armFires (d.armReg (d.fld Reg.sptStatus 5 3) (b2n arm))
        (if bits (d.armReg (d.fld Reg.sptStatus 5 3) (b2n arm)) 0 9 < 276 then tfrac.toNat else 0)
    else d) s := rfl

section
variable {s : State} (hon : On s) (arm : Bool) (tfrac : BitVec 6) {w : Nat} (hw : w = s.dev.armReg (s.dev.fld Reg.sptStatus 5 3) (b2n arm))
include hon hw

theorem runs_sptArmFire_idle (h : s.dev.sptArmed = false ∨ s.dev.armSees w = false) : Runs (.sptArmFire arm tfrac) s (fun t => t = s) := by
  refine runs_onDev hon (exec_sptArmFire arm tfrac s) ?_
  subst hw
  rw [if_neg (by rw [Bool.and_eq_true_iff]; rintro ⟨h1, h2⟩; exact h.elim (fun h => by simp [h] at h1) (fun h => by simp [h] at h2))]

variable (hstate : s.dev.sptState = 1) (hsees : s.dev.armSees w = true) (hplain : bits w 16 12 = 0)
include hstate hsees hplain

/-- What an arm without actions on counters does as it fires, awaited (R488, R489). -/
theorem runs_sptArmFire_plain {P : State → Prop}
    (hp : ∀ n, P { s with dev := s.dev.awaitedFired w n }) : Runs (.sptArmFire arm tfrac) s P := by
  have harmed : s.dev.sptArmed = true := by rw [Dev.sptArmed, hstate]; rfl
  refine runs_onDev hon (exec_sptArmFire arm tfrac s) ?_
  rw [← hw, harmed, hsees, if_pos (by rfl), s.dev.armFires_of_awaited _ hplain hstate]
  exact hp _

theorem runs_sptArmFire_moves (hfire : bitAt w 15 = false) : Runs (.sptArmFire arm tfrac) s (fun t =>
    t.dev.fld Reg.sptStatus 5 3 = bits w 12 3 ∧ t.dev.sptState = 1 ∧ t.dev.spt = { s.dev.spt with edges := [] } ∧
    KeepsRegs [Reg.sptStatus] s t ∧ Keeps [.regs, .spt] s t) := by
  refine runs_sptArmFire_plain hon arm tfrac hw hstate hsees hplain fun n => ?_
  rw [Dev.awaitedFired, if_neg (ne_true_of_eq_false hfire)]
  have hdrop := s.dev.within_edgesDropped
  have hset := s.dev.edgesDropped.within_setFld Reg.sptStatus 5 3 (bits w 12 3)
  refine ⟨?_, ?_, rfl, ((hdrop.regsWithin (by decide)).trans (Dev.regsWithin_setFld _ _ 5 3 _)).keepsRegs,
    ((hdrop.trans hset).mono (by decide)).keeps⟩
  · rw [Dev.fld_setFld_same _ _ _ (by decide)]
    exact Nat.mod_eq_of_lt (bits_lt ..)
  · exact (Dev.fld_setFld_apart _ _ _ (by decide) (by decide) (by decide)).trans hstate

theorem runs_sptArmFire_triggers (hfire : bitAt w 15 = true) (hmode : s.dev.sptMode ≠ 1) : Runs (.sptArmFire arm tfrac) s (fun t =>
    t.dev.sptState = 2 ∧ t.dev.fld Reg.sptStatus 5 3 = s.dev.fld Reg.sptStatus 5 3 ∧
      t.dev.spt.trig = true ∧ t.dev.spt.forced = false ∧ t.dev.spt.post = s.dev.fld Reg.sptPost 17 0 ∧ Raised 384 s t ∧
      t.dev.reg Reg.sptTriggers = BitVec.ofNat 32 (min ((s.dev.reg Reg.sptTriggers).toNat + 1) 0xFFFFFFFF)) := by
  refine runs_sptArmFire_plain hon arm tfrac hw hstate hsees hplain fun n => ?_
  rw [Dev.awaitedFired, if_pos hfire]
  have htaken := s.dev.edgesDropped.triggered_sptTrigger n false
  have hspt := htaken.spt
  generalize s.dev.edgesDropped.sptTrigger n false = e at htaken hspt
  dsimp only
  rw [hspt]
  exact ⟨htaken.state.trans (if_neg hmode), htaken.seq, rfl, rfl, rfl, ⟨htaken.raised, fun x hx => htaken.quiet x hx fun h => absurd h hmode⟩,
    htaken.count⟩

end

/-! ### Records -/

section
variable (d : Dev)

/-- The samplers' latest codes. -/
def samplerRegs : List Nat := (List.range 16).map Reg.sptSamp

theorem Dev.regsWithin_foldl {β : Type} {offs : List Nat} {g : Dev → β → Dev} (hg : ∀ (d : Dev) x, d.RegsWithin offs (g d x)) (xs : List β)
    (d : Dev) : d.RegsWithin offs (xs.foldl g d) := by
  induction xs generalizing d with
  | nil => exact fun _ _ => rfl
  | cons x xs ih => exact fun off hoff => (ih (g d x) off hoff).trans (hg d x off hoff)

/-- Codes change nothing but the captured samplers' registers. -/
theorem Dev.regsWithin_latestCodes (codes : BitVec 40) : d.RegsWithin samplerRegs (d.latestCodes codes) := by
  refine Dev.regsWithin_foldl (fun d i => ?_) (List.range 4) d
  have hsamp : Reg.sptSamp (d.fld Reg.sptCapsel (11 + 4 * i) (8 + 4 * i)) ∈ samplerRegs := by
    refine List.mem_map.mpr ⟨_, List.mem_range.mpr ?_, rfl⟩
    have h := bits_lt (d.reg Reg.sptCapsel).toNat (8 + 4 * i) (11 + 4 * i + 1 - (8 + 4 * i))
    rw [show 2 ^ (11 + 4 * i + 1 - (8 + 4 * i)) = 16 by rw [show 11 + 4 * i + 1 - (8 + 4 * i) = 4 by omega]; rfl] at h
    exact h
  have hset (e : Dev) (n : Nat) : e.RegsWithin samplerRegs (e.setFld (Reg.sptSamp (d.fld Reg.sptCapsel (11 + 4 * i) (8 + 4 * i))) 25 16 n) :=
    (e.regsWithin_setFld _ 25 16 n).mono (by simpa using hsamp)
  dsimp only
  split
  · exact hset d _
  · exact ((d.within_takeFree.regsWithin (by decide)).trans (hset _ _)).mono (by simp)

/-- The device that a record is written on: the samplers' codes latched, the next record's lines begun. -/
def Dev.sampled (codes : BitVec 40) : Dev := (d.latestCodes codes).recordBegins

theorem Dev.regsWithin_sampled (codes : BitVec 40) : d.RegsWithin samplerRegs (d.sampled codes) :=
  ((d.regsWithin_latestCodes codes).trans ((Dev.within_recordBegins _).regsWithin (by decide))).mono (by decide)

theorem Dev.within_sampled (codes : BitVec 40) : d.Within [.free, .regs] (d.sampled codes) :=
  (d.within_latestCodes codes).trans (Dev.within_recordBegins _)

/-- The capture with one record more. -/
def Dev.recordCounted : Dev :=
  ({ d with spt := { d.spt with recs := d.spt.recs + 1 } }).setReg Reg.sptFill (BitVec.ofNat 32 (min (d.spt.recs + 1) (2 ^ 18)))

/-- Bytes written to the capture buffer, which holds no error. -/
def Dev.captured (bs : List Byte) : Dev :=
  { d with mems := { d.mems with capt := memPuts d.mems.capt (16 * (d.spt.recs % 2 ^ 18)) bs } }

theorem Dev.putRecord_of_no_error (bs : List Byte) (herr : d.mems.errors = []) : d.putRecord bs = (d.captured bs).recordCounted := by
  rw [Dev.putRecord, Dev.store, herr]
  rfl

theorem Dev.within_captured (bs : List Byte) : d.Within [.mems] (d.captured bs) := d.within_mems _

theorem Dev.within_recordCounted : d.Within [.spt, .regs] d.recordCounted := (d.within_spt _).trans (Dev.within_setReg _ _ _)

theorem Dev.spt_recordCounted : d.recordCounted.spt = { d.spt with recs := d.spt.recs + 1 } := rfl

/-- A WAVE record takes the state of the sequencer and its trigger's mark from the capture. -/
theorem Dev.waveBytes_congr {d e : Dev} (hspt : e.spt = d.spt) (hstat : e.reg Reg.sptStatus = d.reg Reg.sptStatus) (ev : W64)
    (codes : BitVec 40) (sync : BitVec 4) (ovf : Bool) : e.waveBytes ev codes sync ovf = d.waveBytes ev codes sync ovf := by
  rw [Dev.waveBytes, Dev.waveBytes, hspt, Dev.fld_congr hstat]

theorem Dev.length_waveBytes (ev : W64) (codes : BitVec 40) (sync : BitVec 4) (ovf : Bool) :
    (d.waveBytes ev codes sync ovf).length = 16 := by
  simp [Dev.waveBytes]

theorem Dev.sptStreaming_congr {d e : Dev} (hspt : e.spt = d.spt) (hctrl : e.reg Reg.sptCtrl = d.reg Reg.sptCtrl)
    (hstat : e.reg Reg.sptStatus = d.reg Reg.sptStatus) : e.sptStreaming = d.sptStreaming := by
  rw [Dev.sptStreaming, Dev.sptStreaming, hspt, Dev.bit_congr hctrl, Dev.fld_congr hctrl, Dev.fld_congr hstat]

end

/-- A record of 16 bytes has been written to the capture buffer and counted (R492). -/
def Recorded (s : State) (bs : List Byte) (t : State) : Prop :=
  let a := 16 * (s.dev.spt.recs % 2 ^ 18)
  (∀ x, memByte t.dev.mems.capt x = if a ≤ x ∧ x < a + 16 then bs.getD (x - a) 0 else memByte s.dev.mems.capt x) ∧
    t.dev.mems = { s.dev.mems with capt := t.dev.mems.capt } ∧ t.dev.spt.recs = s.dev.spt.recs + 1 ∧
    t.dev.reg Reg.sptFill = BitVec.ofNat 32 (min (s.dev.spt.recs + 1) (2 ^ 18))

/-- The package after a record, before the capture's end is looked for. -/
structure Dev.RecordPut (d e : Dev) (bs : List Byte) : Prop where
  capt : e.mems = { d.mems with capt := memPuts d.mems.capt (16 * (d.spt.recs % 2 ^ 18)) bs }
  spt : e.spt = { d.spt with recs := d.spt.recs + 1 }
  fill : e.reg Reg.sptFill = BitVec.ofNat 32 (min (d.spt.recs + 1) (2 ^ 18))
  state : e.sptState = d.sptState
  arrivals : e.arrivals = d.arrivals

section
variable {d : Dev} (ev : W64) (codes : BitVec 40) (sync : BitVec 4) (herr : d.mems.errors = [])
include herr

theorem Dev.recordPut_sampled (bs : List Byte) : d.RecordPut ((d.sampled codes).putRecord bs) bs := by
  have hregs := d.regsWithin_sampled codes
  have hframe := d.within_sampled codes
  have hmems : (d.sampled codes).mems = d.mems := hframe.part .mems (by decide)
  have hspt : (d.sampled codes).spt = d.spt := hframe.part .spt (by decide)
  have harr : (d.sampled codes).arrivals = d.arrivals := hframe.part .arrivals (by decide)
  generalize d.sampled codes = x at hregs hframe hmems hspt harr
  rw [x.putRecord_of_no_error bs (by rw [hmems]; exact herr)]
  have hx := x.within_captured bs
  have hxspt : (x.captured bs).spt = d.spt := hspt
  have hxmems : (x.captured bs).mems = { d.mems with capt := memPuts d.mems.capt (16 * (d.spt.recs % 2 ^ 18)) bs } := by
    rw [← hmems, ← hspt]
    rfl
  generalize x.captured bs = y at hx hxspt hxmems
  have hy := y.within_recordCounted
  refine ⟨(hy.part .mems (by decide)).trans hxmems, by rw [y.spt_recordCounted, hxspt], ?_, ?_, ?_⟩
  · rw [Dev.recordCounted, Dev.reg_setReg_same, hxspt]
  · refine Dev.fld_congr ((Dev.reg_setReg_other _ _ (by decide)).trans ?_) 2 0
    exact (Dev.reg_congr (hx.part .regs (by decide)) _).trans (hregs _ (by decide))
  · exact (hy.part .arrivals (by decide)).trans ((hx.part .arrivals (by decide)).trans harr)

variable (hstream : d.sptStreaming = false)
include hstream

/-- A sample of a capture that does not stream: its record put, and the capture's end looked for. -/
theorem Dev.waveSample_of_plain : ∃ e, d.RecordPut e (d.waveBytes (d.eventBits ev) codes sync false) ∧
    d.waveSample ev codes sync = e.afterRecord := by
  have hregs := d.regsWithin_sampled codes
  have hspt : (d.sampled codes).spt = d.spt := (d.within_sampled codes).part .spt (by decide)
  have hbytes := Dev.waveBytes_congr hspt (hregs Reg.sptStatus (by decide)) (d.eventBits ev) codes sync false
  have hs := Dev.sptStreaming_congr hspt (hregs Reg.sptCtrl (by decide)) (hregs Reg.sptStatus (by decide))
  refine ⟨_, Dev.recordPut_sampled codes herr _, ?_⟩
  have heq : d.waveSample ev codes sync = if (d.sampled codes).sptStreaming then (d.sampled codes).streamRecord (d.eventBits ev) codes sync
      else ((d.sampled codes).putRecord ((d.sampled codes).waveBytes (d.eventBits ev) codes sync false)).afterRecord := rfl
  rw [heq, hs, hstream, if_neg Bool.false_ne_true, hbytes]

end

/-- The end of a capture's records (R492): `e` is the package with the record put. -/
theorem Dev.afterRecord_cases {e : Dev} :
    (e.spt.trig = false → e.sptState = 1 → e.afterRecord = e) ∧
    (e.spt.trig = true → 0 < e.spt.post → e.afterRecord = { e with spt := { e.spt with trig := false } }) ∧
    (e.spt.trig = false → e.sptState = 2 → 1 < e.spt.post → e.afterRecord = { e with spt := { e.spt with post := e.spt.post - 1 } }) ∧
    (e.spt.trig = false → e.sptState = 2 → e.spt.post = 1 →
      e.afterRecord = ({ e with spt := { e.spt with post := e.spt.post - 1 } } : Dev).sptDone) := by
  refine ⟨fun h hs => ?_, fun h hp => ?_, fun h hs hp => ?_, fun h hs hp => ?_⟩
  · rw [Dev.afterRecord, h, if_neg Bool.false_ne_true, hs, if_neg (by decide)]
  · rw [Dev.afterRecord, h, if_pos rfl]
    dsimp only
    rw [if_neg (by omega)]
  · rw [Dev.afterRecord, h, if_neg Bool.false_ne_true, hs, if_pos rfl]
    dsimp only
    rw [if_neg (by omega)]
  · rw [Dev.afterRecord, h, if_neg Bool.false_ne_true, hs, if_pos rfl]
    dsimp only
    rw [if_pos (by omega)]

section
variable {s : State} {bs : List Byte} {e : Dev} (hput : s.dev.RecordPut e bs) (hlen : bs.length = 16)
include hput hlen

/-- A record put is one recorded, whatever the trigger's mark and the awaited records become. -/
theorem recorded_of_put {e' : Dev} (hmems : e'.mems = e.mems) (hrecs : e'.spt.recs = e.spt.recs)
    (hfill : e'.reg Reg.sptFill = e.reg Reg.sptFill) : Recorded s bs { s with dev := e' } := by
  dsimp only [Recorded]
  rw [hmems, hrecs, hfill, hput.capt, hput.spt, hput.fill]
  exact ⟨fun x => by rw [memByte_memPuts, hlen], rfl, rfl, rfl⟩

end

section
variable {s : State} (hon : On s) (ev : W64) (codes : BitVec 40) (sync : BitVec 4) (hmode : s.dev.sptMode = 0)
  (hstream : s.dev.sptStreaming = false) (herr : s.dev.mems.errors = [])
include hon hmode hstream herr

/-- A record of an armed WAVE capture that does not stream. -/
theorem runs_waveRecord {P : State → Prop} (harmed : s.dev.sptArmed = true)
    (hp : ∀ e, s.dev.RecordPut e (s.dev.waveBytes (s.dev.eventBits ev) codes sync false) → P { s with dev := e.afterRecord }) :
    Runs (.waveRecord ev codes sync) s P := by
  obtain ⟨e, hput, heq⟩ := Dev.waveSample_of_plain ev codes sync herr hstream
  refine runs_onDev hon (exec_waveRecord ev codes sync s) ?_
  rw [if_pos (by rw [hmode, harmed]; rfl), heq]
  exact hp e hput

end

/-- What records leave of a capture that is armed (R492). -/
theorem waveRecords {s : State} (hon : On s) (ev : W64) (codes : BitVec 40) (sync : BitVec 4) (hmode : s.dev.sptMode = 0)
    (hstream : s.dev.sptStreaming = false) (herr : s.dev.mems.errors = []) :
    let d := s.dev
    let recorded := Recorded s (d.waveBytes (d.eventBits ev) codes sync false)
    (d.sptState = 1 → d.spt.trig = false → Runs (.waveRecord ev codes sync) s (fun t => recorded t ∧ t.dev.sptState = 1)) ∧
    (d.sptState = 2 → d.spt.trig = true → 0 < d.spt.post → Runs (.waveRecord ev codes sync) s (fun t =>
      recorded t ∧ t.dev.sptState = 2 ∧ t.dev.spt.trig = false ∧ t.dev.spt.post = d.spt.post)) ∧
    (d.sptState = 2 → d.spt.trig = false → 1 < d.spt.post → Runs (.waveRecord ev codes sync) s (fun t =>
      recorded t ∧ t.dev.sptState = 2 ∧ t.dev.spt.post = d.spt.post - 1)) ∧
    (d.sptState = 2 → d.spt.trig = false → d.spt.post = 1 → Runs (.waveRecord ev codes sync) s (fun t =>
      recorded t ∧ t.dev.sptState = 3 ∧ Raised 385 s t)) := by
  have hlen := s.dev.length_waveBytes (s.dev.eventBits ev) codes sync false
  refine ⟨fun hstate htrig => ?_, fun hstate htrig hpost => ?_, fun hstate htrig hpost => ?_, fun hstate htrig hpost => ?_⟩ <;>
    refine runs_waveRecord hon ev codes sync hmode hstream herr (by rw [Dev.sptArmed, hstate]; rfl) fun e hput => ?_
  · rw [Dev.afterRecord_cases.1 (by rw [hput.spt]; exact htrig) (hput.state.trans hstate)]
    exact ⟨recorded_of_put hput hlen rfl rfl rfl, hput.state.trans hstate⟩
  · rw [Dev.afterRecord_cases.2.1 (by rw [hput.spt]; exact htrig) (by rw [hput.spt]; exact hpost)]
    refine ⟨recorded_of_put hput hlen rfl rfl rfl, hput.state.trans hstate, rfl, ?_⟩
    dsimp only
    rw [hput.spt]
  · rw [Dev.afterRecord_cases.2.2.1 (by rw [hput.spt]; exact htrig) (hput.state.trans hstate) (by rw [hput.spt]; exact hpost)]
    refine ⟨recorded_of_put hput hlen rfl rfl rfl, hput.state.trans hstate, ?_⟩
    dsimp only
    rw [hput.spt]
  · rw [Dev.afterRecord_cases.2.2.2 (by rw [hput.spt]; exact htrig) (hput.state.trans hstate) (by rw [hput.spt]; exact hpost), Dev.sptDone]
    have hframe := Dev.within_spt e { e.spt with post := e.spt.post - 1 }
    generalize hx : ({ e with spt := { e.spt with post := e.spt.post - 1 } } : Dev) = x at hframe
    have hrecs : x.spt.recs = e.spt.recs := by rw [← hx]
    have hdone := x.within_stateRaised 3 385
    refine ⟨recorded_of_put hput hlen ?_ ?_ ?_, ?_, raised_raise ?_ 385⟩
    · exact (hframe.trans hdone).part .mems (by decide)
    · rw [show ((x.setSptState 3).raise 385).spt = x.spt from hdone.part .spt (by decide), hrecs]
    · exact (x.regs_stateRaised 3 385 _).trans ((Dev.reg_setFld_other _ 2 0 3 (by decide)).trans
        (Dev.reg_congr (hframe.part .regs (by decide)) _))
    · exact (Dev.fld_congr (x.regs_stateRaised 3 385 _) 2 0).trans (x.sptState_setSptState (by decide))
    · exact ((hframe.trans (x.within_setSptState 3)).part .arrivals (by decide)).trans hput.arrivals

/-! ### Acquisitions -/

section
variable (d : Dev)

/-- The registers that an uncorrectable error may change (R321, R467). -/
def errorRegs : List Nat := [Reg.memUeCount, Reg.memUeInfo, Reg.memUeAddr, Reg.memUeAddr + 4, Reg.memStatus, Reg.usyStatus]

theorem Dev.regsWithin_enterUsy (st : Nat) : d.RegsWithin [Reg.usyStatus] (d.enterUsy st) := by
  have hbeat (e : Dev) : e.RegsWithin [] e.sendHeartbeat :=
    (Dev.Within.ite (((e.within_usy _).trans (Dev.within_pulse _ 171)).trans (Dev.within_sendPlain _ 16 _)) e.within_refl).regsWithin (by decide)
  exact (d.regsWithin_refl.ite ((d.regsWithin_setFld _ 2 0 st).trans (hbeat _))).mono (by decide)

theorem Dev.regsWithin_enterFailing : d.RegsWithin [Reg.usyStatus] d.enterFailing :=
  (((d.regsWithin_enterUsy 2).trans (Dev.regsWithin_raise _ 73)).ite d.regsWithin_refl).mono (by decide)

theorem Dev.regsWithin_uncorrectable (c : MemCode) (k : Nat) : d.RegsWithin errorRegs (d.uncorrectable c k) := by
  have hinfo (e : Dev) (u a : Nat) : e.RegsWithin [Reg.memUeInfo, Reg.memUeAddr, Reg.memUeAddr + 4] (e.errorInfo c u a) :=
    (e.regsWithin_refl.ite ((e.regsWithin_setReg _ _).trans (Dev.regsWithin_setReg64 _ _ _))).mono (by decide)
  exact (((((d.regsWithin_count _).trans (hinfo _ _ _)).trans (Dev.regsWithin_flagRaise _ _ 2 192)).trans
    ((Dev.regsWithin_enterFailing _).ite (Dev.regsWithin_refl _))).trans ((Dev.within_usy _ _).regsWithin (by decide))).mono (by decide)

theorem Dev.regsWithin_store (c : MemCode) (k : Nat) (bs : List Byte) : d.RegsWithin errorRegs (d.store c k bs).2 := by
  rw [Dev.store]
  split
  · exact ((d.within_mems _).regsWithin (by decide)).mono (by decide)
  · exact (((d.within_mems _).regsWithin (by decide)).trans
      (Dev.regsWithin_foldl (fun d _ => d.regsWithin_uncorrectable c _) _ _)).mono (by decide)

/-- The columns' mean codes counted (R493). -/
def Dev.codesCounted (codes : List (BitVec 10)) : Dev :=
  ((List.range codes.length).zip codes).foldl (fun d c => d.persAdd c.1 c.2.toNat) d

/-- An acquisition counted, none taken (R489). -/
def Dev.acquired : Dev := { d with spt := { d.spt with acqs := d.spt.acqs + 1, trig := false } }

theorem Dev.persEnd_eq (codes : List (BitVec 10)) : d.persEnd codes =
    if max 1 ((d.codesCounted codes).acquired.fld Reg.sptAcc 31 20) ≤ (d.codesCounted codes).spt.acqs + 1 then
      (d.codesCounted codes).acquired.sptDone
    else ((d.codesCounted codes).acquired.setFld Reg.sptStatus 5 3 0).setSptState 1 := rfl

theorem Dev.within_codesCounted (codes : List (BitVec 10)) : d.Within (.mems :: failing) (d.codesCounted codes) :=
  Dev.within_foldl (fun d _ => d.within_store .capt _ _) _ d

theorem Dev.regsWithin_codesCounted (codes : List (BitVec 10)) : d.RegsWithin errorRegs (d.codesCounted codes) :=
  Dev.regsWithin_foldl (fun d _ => d.regsWithin_store .capt _ _) _ d

end

theorem exec_persAcquisitionEnd (means : List (BitVec 10)) (s : State) : exec (.persAcquisitionEnd means) s =
    onDev (fun _ d => if d.sptMode = 2 && d.sptState = 2 then d.persEnd means else d) s := rfl

theorem runs_persAcquisitionEnd {s : State} (hon : On s) (means : List (BitVec 10)) (hmode : s.dev.sptMode = 2) (hstate : s.dev.sptState = 2) :
    Runs (.persAcquisitionEnd means) s (fun t => t.dev.spt.acqs = s.dev.spt.acqs + 1 ∧ t.dev.spt.trig = false ∧
      t.dev.sptState = if max 1 (s.dev.fld Reg.sptAcc 31 20) ≤ s.dev.spt.acqs + 1 then 3 else 1) := by
  refine runs_onDev hon (exec_persAcquisitionEnd means s) ?_
  rw [if_pos (by rw [hmode, hstate]; rfl), Dev.persEnd_eq]
  have hspt : (s.dev.codesCounted means).spt = s.dev.spt := (s.dev.within_codesCounted means).part .spt (by decide)
  have hacc := Dev.fld_congr (s.dev.regsWithin_codesCounted means Reg.sptAcc (by decide)) 31 20
  generalize s.dev.codesCounted means = e at hspt hacc
  have hfld : e.acquired.fld Reg.sptAcc 31 20 = s.dev.fld Reg.sptAcc 31 20 := hacc
  have hacq : e.acquired.spt.acqs = s.dev.spt.acqs + 1 ∧ e.acquired.spt.trig = false := by
    rw [← hspt]
    exact ⟨rfl, rfl⟩
  rw [hfld, hspt]
  generalize e.acquired = x at hacq
  by_cases h : max 1 (s.dev.fld Reg.sptAcc 31 20) ≤ s.dev.spt.acqs + 1
  · rw [if_pos h, Dev.sptDone, if_pos h]
    have hdone : ((x.setSptState 3).raise 385).spt = x.spt := (x.within_stateRaised 3 385).part .spt (by decide)
    refine ⟨?_, ?_, (Dev.fld_congr (x.regs_stateRaised 3 385 _) 2 0).trans (x.sptState_setSptState (by decide))⟩ <;> dsimp only <;> rw [hdone]
    · exact hacq.1
    · exact hacq.2
  · rw [if_neg h, if_neg h]
    exact ⟨hacq.1, hacq.2, Dev.sptState_setSptState _ (by decide)⟩

/-- Settles O47. -/
theorem spotlightCaptures : Obligations.SpotlightCaptures := by
  unfold Obligations.SpotlightCaptures
  intro s hon d
  refine ⟨fun n => ⟨runs_sptTimerExpiry hon n, fun h => ?_⟩, fun src => runs_edgeCancelled hon src, fun arm tfrac => ⟨?_, ?_, ?_⟩,
    fun ev codes sync hmode hstream herr => waveRecords hon ev codes sync hmode hstream herr, fun means => runs_persAcquisitionEnd hon means⟩
  · refine runs_onDev hon (exec_sptTimerExpiry n s) ?_
    dsimp only
    rw [if_pos h]
  · exact runs_sptArmFire_idle hon arm tfrac rfl
  · exact runs_sptArmFire_moves hon arm tfrac rfl
  · exact runs_sptArmFire_triggers hon arm tfrac rfl

end Sys2Proof.Machine
end

section
/-! DOE and SPDM (R352, R536, R537): O51. -/
namespace Sys2Proof.Machine

/-- A request has arrived with source 7 and one data object that `o` allows has been given back. -/
def Gives (s : State) (o : List Byte → Prop) (t : State) : Prop :=
  Raised 7 s t ∧ (∃ l bs, t.dev.outbox = l ++ [.doe bs] ∧ o bs) ∧ Keeps (.free :: raising) s t

section
variable {s : State} (hon : On s) {c : Instr} {f : Ident → Dev → Dev} (hc : exec c s = onDev f s) {o : List Byte → Prop}
include hon hc

/-- A row that raises source 7, takes free values before or after, and gives back a data object. -/
theorem runs_gives (d : Dev) (bs : List Byte) (hf : f s.ident s.dev = d.emit (.doe bs)) (hraised : Raised 7 s { s with dev := d })
    (hframe : s.dev.Within (.free :: raising) d) (ho : o bs) : Runs c s (Gives s o) := by
  refine runs_onDev hon hc ?_
  rw [hf]
  have hemit := d.within_emit (.doe bs)
  exact ⟨hraised.congr rfl, ⟨_, bs, rfl, ho⟩, ((hframe.trans hemit).mono (by decide)).keeps⟩

/-- A row that raises source 7 and answers at once. -/
theorem runs_gives_at_once (bs : List Byte) (hf : f s.ident s.dev = (s.dev.raise 7).emit (.doe bs)) (ho : o bs) : Runs c s (Gives s o) :=
  runs_gives hon hc _ bs hf (raised_raise rfl 7) ((s.dev.within_raise 7).mono (by decide)) ho

/-- A row that answers an SPDM request at once. -/
theorem runs_answers (m : List Byte) (hf : f s.ident s.dev = s.dev.doeReply m) (ho : o (doeObject 1 m)) : Runs c s (Gives s o) :=
  runs_gives_at_once hon hc (doeObject 1 m) (by rw [hf, Dev.doeReply]) ho

/-- A row whose answer holds a nonce of its own of 32 bytes. -/
theorem runs_gives_nonce (m : List Byte → List Byte) (hf : f s.ident s.dev = (Dev.freeBytes 8 s.dev).2.doeReply (m (Dev.freeBytes 8 s.dev).1))
    (ho : ∀ own : List Byte, own.length = 32 → o (doeObject 1 (m own))) : Runs c s (Gives s o) := by
  have hfree := Dev.within_freeBytes 8 s.dev
  refine runs_gives hon hc _ _ hf (raised_raise (hfree.part .arrivals (by decide)) 7) ((hfree.trans (Dev.within_raise _ 7)).mono (by decide)) ?_
  exact ho _ (length_freeBytes 8 s.dev)

end

/-! ### Messages -/

theorem leBytes_one (n : Nat) : leBytes 1 n = [BitVec.ofNat 8 n] := rfl

/-- A message begins with its version and its code. -/
theorem spdm_eq (code p1 p2 : Nat) (content : List Byte) :
    spdm code p1 p2 content = [0x13, BitVec.ofNat 8 code] ++ ([BitVec.ofNat 8 p1, BitVec.ofNat 8 p2] ++ content) := rfl

theorem unsupported_eq (code : Byte) : unsupported code.toNat = [0x13, 0x7F, 0x07, code] := by
  simp [unsupported, spdm, leBytes_one]

/-- A part of the chain, by its length alone. -/
theorem take_part (c : List Byte) (off len : Nat) :
    ((c.drop off).take len).length = min len (c.length - off) ∧ (c.drop off).take len = (c.drop off).take (min len (c.length - off)) := by
  refine ⟨by simp, ?_⟩
  rw [List.take_eq_take_iff]
  simp

theorem exec_challenge (s : State) (slot : BitVec 4) (nonce : BitVec 256) : exec (.challenge slot nonce) s = onDev (fun _ d =>
    if s.fuses.lc = .returned then d.doeReply (unsupported 0x83)
    else if slot.toNat ≠ 0 then d.doeReply invalidRequest
    else (Dev.freeBytes 8 d).2.doeReply (s.signed nonce (spdm 0x03 0 1 (sha384 s.chain ++ (Dev.freeBytes 8 d).1 ++ leBytes 2 0)))) s := rfl

/-- The measurement record of a request (R537). -/
def State.measurements (s : State) (idx : Byte) (own : List Byte) : List Byte :=
  spdm 0x60 (if idx = 0 then 6 else 0) 0 (leBytes 1 (measured idx.toNat).length ++ leBytes 3 ((measured idx.toNat).flatMap s.block).length ++
    (measured idx.toNat).flatMap s.block ++ own ++ [0, 0])

theorem exec_getMeasurements (s : State) (idx : Byte) (sign : Bool) (nonce : BitVec 256) : exec (.getMeasurements idx sign nonce) s = onDev (fun _ d =>
    if sign && s.fuses.lc == .returned then d.doeReply (unsupported 0xE0)
    else (Dev.freeBytes 8 d).2.doeReply (if sign then s.signed nonce (s.measurements idx (Dev.freeBytes 8 d).1)
      else s.measurements idx (Dev.freeBytes 8 d).1)) s := rfl

section
variable {s : State} (hon : On s)
include hon

theorem gives_doeDiscovery : Runs .doeDiscovery s (Gives s fun bs =>
    bs = doeObject 0 (leBytes 2 1 ++ [0, 1]) ∨ bs = doeObject 0 (leBytes 2 1 ++ [1, 0])) := by
  have hraise := s.dev.within_raise 7
  have hframe := hraise.trans (Dev.within_takeFree _)
  refine runs_gives hon (f := fun _ d => (d.raise 7).takeFree.2.emit (.doe (doeObject 0 (leBytes 2 1 ++
    (if (d.raise 7).takeFree.1.toNat % 2 = 0 then [0, 1] else [1, 0]))))) rfl _ _ rfl ?_ (hframe.mono (by decide)) ?_
  · exact (raised_raise (s := s) rfl 7).congr ((s.dev.raise 7).within_takeFree.part .arrivals (by decide))
  · split
    · exact .inl rfl
    · exact .inr rfl

theorem gives_getCertificate (off len : BitVec 16) (h : off.toNat ≤ s.chain.length) :
    Runs (.getCertificate 0 off len) s (Gives s fun bs =>
      let n := min (min len.toNat 16368) (s.chain.length - off.toNat)
      bs = doeObject 1 (spdm 0x02 0 0 (leBytes 2 n ++ leBytes 2 (s.chain.length - off.toNat - n) ++ (s.chain.drop off.toNat).take n))) := by
  obtain ⟨hlen, htake⟩ := take_part s.chain off.toNat (min len.toNat 16368)
  have hexec : exec (.getCertificate 0 off len) s = onDev (fun _ d =>
      if (0 : BitVec 4).toNat ≠ 0 || s.chain.length < off.toNat then d.doeReply invalidRequest
      else d.doeReply (spdm 0x02 0 0 (leBytes 2 ((s.chain.drop off.toNat).take (min len.toNat 16368)).length ++
        leBytes 2 (s.chain.length - off.toNat - ((s.chain.drop off.toNat).take (min len.toNat 16368)).length) ++
        (s.chain.drop off.toNat).take (min len.toNat 16368)))) s := rfl
  refine runs_answers hon hexec _ ?_ rfl
  rw [if_neg (by simpa using h), hlen, ← htake]

theorem gives_getCertificate_other (slot : BitVec 4) (off len : BitVec 16) (h : slot ≠ 0) :
    Runs (.getCertificate slot off len) s (Gives s fun bs => bs = doeObject 1 invalidRequest) := by
  have hslot : slot.toNat ≠ 0 := fun h' => h (BitVec.eq_of_toNat_eq h')
  have hexec : exec (.getCertificate slot off len) s = onDev (fun _ d =>
      if slot.toNat ≠ 0 || s.chain.length < off.toNat then d.doeReply invalidRequest
      else d.doeReply (spdm 0x02 0 0 (leBytes 2 ((s.chain.drop off.toNat).take (min len.toNat 16368)).length ++
        leBytes 2 (s.chain.length - off.toNat - ((s.chain.drop off.toNat).take (min len.toNat 16368)).length) ++
        (s.chain.drop off.toNat).take (min len.toNat 16368)))) s := rfl
  refine runs_answers hon hexec _ ?_ rfl
  rw [if_pos (by simp [hslot])]

theorem gives_challenge (nonce : BitVec 256) (h : s.fuses.lc ≠ .returned) :
    Runs (.challenge 0 nonce) s (Gives s fun bs => ∃ own : List Byte, own.length = 32 ∧
      bs = doeObject 1 (s.signed nonce (spdm 0x03 0 1 (sha384 s.chain ++ own ++ [0, 0])))) := by
  refine runs_gives_nonce hon (exec_challenge s 0 nonce) (fun own => s.signed nonce (spdm 0x03 0 1 (sha384 s.chain ++ own ++ leBytes 2 0)))
    ?_ fun own hown => ⟨own, hown, rfl⟩
  rw [if_neg h, if_neg (by decide)]

theorem gives_getMeasurements (idx : Byte) (sign : Bool) (nonce : BitVec 256) (h : sign = false ∨ s.fuses.lc ≠ .returned) :
    Runs (.getMeasurements idx sign nonce) s (Gives s fun bs => ∃ own : List Byte, own.length = 32 ∧
      bs = doeObject 1 (if sign then s.signed nonce (s.measurements idx own) else s.measurements idx own)) := by
  refine runs_gives_nonce hon (exec_getMeasurements s idx sign nonce)
    (fun own => if sign then s.signed nonce (s.measurements idx own) else s.measurements idx own) ?_ fun own hown => ⟨own, hown, rfl⟩
  have hno : ¬(sign && s.fuses.lc == .returned) = true := by
    rw [Bool.and_eq_true_iff]
    rintro ⟨h1, h2⟩
    exact h.elim (fun h => by simp [h] at h1) (fun h => h (by simpa using h2))
  rw [if_neg hno]

end

/-- Settles O51. -/
theorem spdmAnswers : Obligations.SpdmAnswers := by
  unfold Obligations.SpdmAnswers
  intro s hon gives answers chain
  refine ⟨gives_doeDiscovery hon, ?_, ?_, ?_, ?_, ?_, fun off len h => gives_getCertificate hon off len h,
    fun slot off len h => gives_getCertificate_other hon slot off len h, fun slot nonce h => ?_, fun nonce h => gives_challenge hon nonce h,
    fun idx nonce h => ?_, fun idx sign nonce h => gives_getMeasurements hon idx sign nonce h, fun code => ?_⟩
  · exact runs_gives_at_once hon (f := fun _ d => (d.raise 7).emit (.doe [])) rfl [] rfl rfl
  · exact runs_answers hon (f := fun _ d => d.doeReply ([0x10, 0x04, 0, 0, 0, 1] ++ leBytes 2 0x1300)) rfl _ rfl
      (congrArg (doeObject 1) (by decide))
  · exact runs_answers hon
      (f := fun _ d => d.doeReply (spdm 0x61 0 0 ([0, 17, 0, 0] ++ leBytes 4 0x16 ++ leBytes 4 16384 ++ leBytes 4 16384))) rfl _ rfl
      ⟨_, congrArg (doeObject 1) (spdm_eq ..)⟩
  · exact runs_answers hon (f := fun _ d => d.doeReply (spdm 0x63 0 0
      (leBytes 2 36 ++ [1, 0] ++ leBytes 4 4 ++ leBytes 4 0x80 ++ leBytes 4 2 ++ List.replicate 16 0))) rfl _ rfl ⟨_, congrArg (doeObject 1) (spdm_eq ..)⟩
  · exact runs_answers hon (f := fun _ d => d.doeReply (spdm 0x01 0 1 (sha384 s.chain))) rfl _ rfl rfl
  · exact runs_answers hon (exec_challenge s slot nonce) _ (if_pos h) rfl
  · exact runs_answers hon (exec_getMeasurements s idx true nonce) _ (if_pos (by rw [h]; rfl)) rfl
  · exact runs_answers hon (f := fun _ d => d.doeReply (unsupported code.toNat)) rfl _ rfl (by rw [unsupported_eq])

end Sys2Proof.Machine
end

section
/-! What an accepted or refused host command does (R341 to R351, R353): O49. -/
namespace Sys2Proof.Machine

/-! ### The rows of the commands -/

section
variable (c : Submission) (buf : HostBuffer)

/-- A command without a host buffer. -/
def bareCommand : Command := { sub := c, buf := HostBuffer.empty }

/-- The stream commands and RUN_JOB, with their opcodes and what they accept (Table 11-6). -/
def streamRows : List (Instr × Nat × Command) :=
  [(.openStream c buf, 0x10, { sub := c, buf := buf }), (.append c buf, 0x11, { sub := c, buf := buf }), (.closeStream c, 0x12, bareCommand c),
   (.pauseStream c, 0x13, bareCommand c), (.resumeStream c, 0x14, bareCommand c), (.forkStream c buf, 0x15, { sub := c, buf := buf }),
   (.runJob c, 0x30, bareCommand c)]

/-- The loads. -/
def loadRows : List (Instr × Nat × Command) := [(.loadProgram c buf, 0x01, { sub := c, buf := buf }), (.unloadProgram c, 0x02, bareCommand c)]

/-- The other commands. -/
def otherRows : List (Instr × Nat × Command) :=
  [(.checkpoint c, 0x20, bareCommand c), (.restore c buf, 0x21, { sub := c, buf := buf }), (.readEnergy c, 0x40, bareCommand c),
   (.abortQueue c, 0x50, bareCommand c), (.safetyCurtain c, 0x51, bareCommand c), (.mailbox c, 0x70, bareCommand c)]

/-- Every row is that of its opcode (R343). -/
theorem commandRow_of_mem {r : Instr × Nat × Command} (hr : r ∈ streamRows c buf ++ loadRows c buf ++ otherRows c buf) :
    (∀ s, exec r.1 s = commandRow r.2.1 c r.2.2.buf s) ∧ r.2.2 = { sub := c, buf := r.2.2.buf } ∧ opcodes.contains r.2.1 = true := by
  simp only [streamRows, loadRows, otherRows, List.cons_append, List.nil_append, List.mem_cons, List.not_mem_nil, or_false] at hr
  rcases hr with rfl | rfl | rfl | rfl | rfl | rfl | rfl | rfl | rfl | rfl | rfl | rfl | rfl | rfl | rfl <;>
    exact ⟨fun _ => rfl, rfl, rfl⟩

end

section
variable {s : State} (hon : On s) {c : Submission} {buf : HostBuffer}
include hon

/-- A row of the command's own opcode accepts it. -/
theorem does_command {r : Instr} {op : Nat} (hr : exec r s = commandRow op c buf s) (hop : c.opcode.toNat = op) :
    Does r s (s.dev.accept s.ident { sub := c, buf := buf }) :=
  does_onDev hon hr (if_pos hop)

theorem does_of_mem {r : Instr × Nat × Command} (hr : r ∈ streamRows c buf ++ loadRows c buf ++ otherRows c buf)
    (hop : c.opcode.toNat = r.2.1) : Does r.1 s (s.dev.accept s.ident r.2.2) := by
  obtain ⟨hexec, hcmd, -⟩ := commandRow_of_mem c buf hr
  rw [hcmd]
  exact does_command hon (hexec s) hop

end

/-! ### What acceptance does, opcode by opcode -/

section
variable {d : Dev} {i : Ident} {c : Command} {op : Nat}

theorem Dev.accept_of_turnedAway {st : Status} (h : d.turnedAway c.sub.opcode.toNat = some st) : d.accept i c = d.complete c.sub st := by
  rw [Dev.accept]
  rw [h]

theorem Dev.turnedAway_of_not_ready (hop : opcodes.contains op = true) (hready : d.bit Reg.memStatus 1 = false) (h1 : op ≠ 0x50)
    (h2 : op ≠ 0x51) : d.turnedAway op = some .notReady := by
  rw [Dev.turnedAway, hop, hready]
  simp [h1, h2]

theorem Dev.turnedAway_of_curtain (hop : opcodes.contains op = true) (hready : d.bit Reg.memStatus 1 = true) (hdown : d.curtainDown = true)
    (h : op ∉ curtainAccepts) : d.turnedAway op = some .curtain := by
  rw [Dev.turnedAway, hop, hready, hdown]
  simp [h]

variable (haway : d.turnedAway c.sub.opcode.toNat = none) (hop : c.sub.opcode.toNat = op)
include haway hop

theorem Dev.accept_load (h : op = 0x01 ∨ op = 0x02) :
    d.accept i c = d.acceptLoad i c (if op = 1 then [(8, 16)] else []) := by
  rw [Dev.accept]
  rw [haway]
  dsimp only
  rcases h with rfl | rfl <;> rw [hop] <;> rfl

theorem Dev.accept_stream (h : op ∈ [0x10, 0x11, 0x12, 0x13, 0x14, 0x15, 0x30]) : d.accept i c = d.acceptStream c := by
  rw [Dev.accept, isStreamCmd]
  rw [haway]
  dsimp only
  simp only [List.mem_cons, List.not_mem_nil, or_false] at h
  rcases h with rfl | rfl | rfl | rfl | rfl | rfl | rfl <;> rw [hop] <;> rfl

theorem Dev.accept_other : (op = 0x20 → d.accept i c = d.acceptCheckpoint i c) ∧ (op = 0x21 → d.accept i c = d.acceptRestore i c) ∧
    (op = 0x40 → d.accept i c = d.acceptEnergy c) ∧ (op = 0x50 → d.accept i c = d.acceptAbort i c) ∧
    (op = 0x51 → d.accept i c = d.acceptCurtain i c) ∧ (op = 0x70 → d.accept i c = d.acceptMailbox c) := by
  rw [Dev.accept, isStreamCmd]
  rw [haway, hop]
  dsimp only
  refine ⟨?_, ?_, ?_, ?_, ?_, ?_⟩ <;> rintro rfl <;> rfl

end

/-! ### What each accepted command does -/

section
variable {d : Dev} {c : Command}

/-- A stream command or RUN_JOB (R343, R346). -/
theorem Dev.acceptStream_cases (d : Dev) (c : Command) : (d.noProgram = true → d.acceptStream c = d.complete c.sub .noProgram) ∧
    (d.noProgram = false → d.beingMarked c.sub = true → d.acceptStream c = d.complete c.sub .aborted) ∧
    (d.noProgram = false → d.beingMarked c.sub = false → d.acceptStream c = d.await c) := by
  refine ⟨fun h => ?_, fun h h' => ?_, fun h h' => ?_⟩ <;> rw [Dev.acceptStream, h]
  · rw [if_pos rfl]
  · rw [h', if_neg Bool.false_ne_true, if_pos rfl]
  · rw [h', if_neg Bool.false_ne_true, if_neg Bool.false_ne_true]

theorem Dev.acceptLoad_cases (d : Dev) (i : Ident) (c : Command) {used : List (Nat × Nat)}
    (hres : subReservedOk c.sub 0 false false used = true) :
    (d.lc = none → d.acceptLoad i c used = (d.await c).settle i) ∧ (d.lc ≠ none → d.acceptLoad i c used = d.complete c.sub .notReady) := by
  refine ⟨fun h => ?_, fun h => ?_⟩ <;> rw [Dev.acceptLoad, hres, Bool.not_true, if_neg Bool.false_ne_true]
  · rw [h]
    rfl
  · rw [if_pos (Option.isSome_iff_ne_none.mpr h)]

/-- A CHECKPOINT outside two-context mode (R343). -/
theorem Dev.acceptCheckpoint_ok (i : Ident) (hprog : d.noProgram = false) (hres : subReservedOk c.sub 1 false false [(8, 8)] = true)
    (hlen : c.sub.flags.getLsbD 0 = false ∨ subOp c.sub 8 8 % 4096 = 0) (htwin : d.inTwin = false) :
    let e : Dev := { d with cast := { d.cast with ckptReq := d.cast.ckptReq ++ [c.sub] } }
    d.acceptCheckpoint i c = if d.halting then e else e.captureIdle.stopIfHurt i := by
  have hbad : ¬(c.sub.flags.getLsbD 0 && subOp c.sub 8 8 % 4096 != 0) = true := by
    rw [Bool.and_eq_true_iff]
    rintro ⟨h1, h2⟩
    exact hlen.elim (fun h => absurd h1 (ne_true_of_eq_false h)) (fun h => by simp [h] at h2)
  have hown : d.onOwnCast (fun k => { k with ckptReq := k.ckptReq ++ [c.sub] }) =
      { d with cast := { d.cast with ckptReq := d.cast.ckptReq ++ [c.sub] } } := if_neg (ne_true_of_eq_false htwin)
  have htwin' : ({ d with cast := { d.cast with ckptReq := d.cast.ckptReq ++ [c.sub] } } : Dev).inTwin = false := htwin
  have hhalt : ({ d with cast := { d.cast with ckptReq := d.cast.ckptReq ++ [c.sub] } } : Dev).halting = d.halting := rfl
  rw [Dev.acceptCheckpoint, hprog, hres, if_neg Bool.false_ne_true, Bool.not_true, if_neg Bool.false_ne_true, if_neg hbad, hown]
  dsimp only
  rw [htwin', hhalt, Bool.or_false]

/-- A RESTORE that may begin, or that R208 withholds (R345). -/
theorem Dev.acceptRestore_ok (i : Ident) (hloaded : d.loaded = true) (hgeom : d.cast.geom ≠ none)
    (hres : subReservedOk c.sub 1 false false [(8, 8)] = true) (hlc : d.lc = none) (hreplay : d.cast.replay = none)
    (hwhen : d.curtainDown = true ∨ (d.halted = true ∧ d.faultCode ≠ 0)) (hhalt : d.halting = false) :
    d.acceptRestore i c = if d.peakFits then d.beginRestore i c
      else { d.withhold with hif := { d.withhold.hif with restores := d.withhold.hif.restores ++ [c] } } := by
  have hprog : ¬(!d.loaded || d.cast.geom.isNone) = true := by
    rw [hloaded, Option.isNone_eq_false_iff.mpr (Option.isSome_iff_ne_none.mpr hgeom)]
    decide
  have hready : ¬(d.lc.isSome || (d.cast.replay.isSome && !d.halted) || !(d.curtainDown || (d.halted && d.faultCode != 0))) = true := by
    rw [hlc, hreplay]
    rcases hwhen with h | ⟨h, h'⟩
    · simp [h]
    · simp [h, h']
  rw [Dev.acceptRestore, if_neg hprog, hres, Bool.not_true, if_neg Bool.false_ne_true, if_neg hready, hhalt, if_neg Bool.false_ne_true]
  cases d.peakFits <;> rfl

theorem Dev.beginRestore_cases (d : Dev) (i : Ident) (c : Command) :
    (c.sub.flags.getLsbD 0 = false → d.beginRestore i c = (d.newEra.startReplay [c.sub]).stopIfHurt i) ∧
    (c.sub.flags.getLsbD 0 = true → c.buf.ok = false → d.beginRestore i c = d.complete c.sub .dmaError) ∧
    (c.sub.flags.getLsbD 0 = true → c.buf.ok = true → d.beginRestore i c = (d.newEra.restoreHost c.sub c.buf.bytes).stopIfHurt i) := by
  refine ⟨fun h => ?_, fun h h' => ?_, fun h h' => ?_⟩ <;> rw [Dev.beginRestore, h]
  · rfl
  · rw [h']
    rfl
  · rw [h']
    rfl

/-- The job word of READ_ENERGY (R351). -/
theorem Dev.readEnergy_of_jobs (hres : subReservedOk c.sub 0 false false [] = true) (hidle : d.energyIdle = true) {jobs : Nat}
    (hjobs : (d.hif.jobSet = [] ∨ d.loaded = false) ∧ jobs = 2 ^ 17 ∨
      d.loaded = true ∧ ((∃ j, d.hif.jobSet = [j] ∧ jobs = j) ∨ (2 ≤ d.hif.jobSet.length ∧ jobs = 2 ^ 16))) :
    d.acceptEnergy c = Dev.completeWith { d with hif := { d.hif with jobSet := [] } } c.sub .success 0
      (d.wideGet Reg.dimEnergy).toNat ((d.reg Reg.stgStepSeq).toNat + d.ns.toNat * 2 ^ 32) (jobs + 2 ^ 18) := by
  have hnone (h : (if d.loaded then d.hif.jobSet else []) = []) (hj : jobs = 2 ^ 17) : d.readEnergy true c.sub =
      Dev.completeWith { d with hif := { d.hif with jobSet := [] } } c.sub .success 0
        (d.wideGet Reg.dimEnergy).toNat ((d.reg Reg.stgStepSeq).toNat + d.ns.toNat * 2 ^ 32) (jobs + 2 ^ 18) := by
    rw [Dev.readEnergy, h, hj]
    rfl
  rw [Dev.acceptEnergy, hres, Bool.not_true, if_neg Bool.false_ne_true, hidle, if_pos rfl]
  rcases hjobs with ⟨h | h, hj⟩ | ⟨hl, ⟨j, hset, hj⟩ | ⟨hlen, hj⟩⟩
  · exact hnone (by rw [h, ite_self]) hj
  · exact hnone (by rw [h]; rfl) hj
  · rw [Dev.readEnergy, hl, if_pos rfl, hset, hj]
    simp [b2n]
  · obtain ⟨a, b, rest, hset⟩ : ∃ a b rest, d.hif.jobSet = a :: b :: rest := by
      match hm : d.hif.jobSet, hlen with
      | a :: b :: rest, _ => exact ⟨a, b, rest, rfl⟩
    rw [Dev.readEnergy, hl, if_pos rfl, hset, hj]
    simp [b2n]

theorem Dev.acceptEnergy_waits (hres : subReservedOk c.sub 0 false false [] = true) (hidle : d.energyIdle = false) :
    d.acceptEnergy c = { d with hif := { d.hif with energy := d.hif.energy ++ [c.sub] } } := by
  rw [Dev.acceptEnergy, hres, Bool.not_true, if_neg Bool.false_ne_true, hidle, if_neg Bool.false_ne_true]

theorem Dev.acceptAbort_cases (i : Ident) (hres : subReservedOk c.sub 0 false false [(8, 1)] = true) :
    (subOp c.sub 8 1 < 64 → d.acceptAbort i c = (d.abortPair i (subOp c.sub 8 1) 5).complete c.sub .success) ∧
    (64 ≤ subOp c.sub 8 1 → d.acceptAbort i c = d.complete c.sub .outOfRange) := by
  refine ⟨fun h => ?_, fun h => ?_⟩ <;> rw [Dev.acceptAbort, hres, Bool.not_true, if_neg Bool.false_ne_true]
  · rw [if_neg (by omega)]
  · rw [if_pos h]

theorem Dev.acceptCurtain_cases (i : Ident) (hres : subReservedOk c.sub 0 false false [] = true) :
    (d.curtainDown = true → d.halting = false → d.acceptCurtain i c = d.complete c.sub .success) ∧
    (d.curtainDown = false → d.acceptCurtain i c =
      { d.curtainHalt i with hif := { (d.curtainHalt i).hif with curtainCmds := (d.curtainHalt i).hif.curtainCmds ++ [c.sub] } }) := by
  refine ⟨fun h h' => ?_, fun h => ?_⟩ <;> rw [Dev.acceptCurtain, hres, Bool.not_true, if_neg Bool.false_ne_true, h]
  · rw [h']
    rfl
  · rfl

/-- A message changes what the interface holds of messages alone. -/
theorem Dev.hif_msix (d : Dev) (v : Nat) : ∃ held pending, (d.msix v).hif = { d.hif with heldMsix := held, msixPending := pending } := by
  unfold Dev.msix
  repeat' split
  all_goals exact ⟨_, _, rfl⟩

/-- So does a source. -/
theorem Dev.hif_raise (d : Dev) (src : Nat) : ∃ held pending, (d.raise src).hif = { d.hif with heldMsix := held, msixPending := pending } := by
  have hdeliver (e : Dev) : ∃ held pending, (e.deliverHost src).hif = { e.hif with heldMsix := held, msixPending := pending } := by
    rw [Dev.deliverHost]
    split
    · exact e.hif_msix _
    · exact ⟨_, _, rfl⟩
  rw [Dev.raise]
  refine (hdeliver _).imp fun _ h => h.imp fun _ h => h.trans ?_
  rw [Dev.wakeFor_hif]
  split <;> rfl

theorem Dev.mailbox_raise (d : Dev) (src : Nat) : (d.raise src).hif.mailbox = d.hif.mailbox := by
  obtain ⟨_, _, h⟩ := d.hif_raise src
  rw [h]

end

/-- A command that only joins those that wait for a formation. -/
theorem runs_await {s : State} {r : Instr} {x : Command} (h : Does r s (s.dev.await x)) :
    Runs r s (fun t => t.dev.hif = { s.dev.hif with cmds := s.dev.hif.cmds ++ [x] } ∧ Keeps [.hif] s t) :=
  ⟨_, h, rfl, (s.dev.within_hif _).keeps⟩

/-- The opcodes of the rows that wait for a formation. -/
theorem opcode_of_mem_streamRows {c : Submission} {buf : HostBuffer} {r : Instr × Nat × Command} (hr : r ∈ streamRows c buf) :
    r.2.1 ∈ [0x10, 0x11, 0x12, 0x13, 0x14, 0x15, 0x30] := by
  simp only [streamRows, List.mem_cons, List.not_mem_nil, or_false] at hr
  rcases hr with rfl | rfl | rfl | rfl | rfl | rfl | rfl <;> simp

theorem opcode_of_mem_loadRows {c : Submission} {buf : HostBuffer} {r : Instr × Nat × Command} (hr : r ∈ loadRows c buf) :
    r.2.1 = 0x01 ∨ r.2.1 = 0x02 := by
  simp only [loadRows, List.mem_cons, List.not_mem_nil, or_false] at hr
  rcases hr with rfl | rfl <;> simp

section
variable {s : State} (hon : On s) {c : Submission} {buf : HostBuffer} {r : Instr × Nat × Command}

theorem sub_of_mem (hr : r ∈ streamRows c buf ++ loadRows c buf ++ otherRows c buf) : r.2.2.sub = c := by
  rw [(commandRow_of_mem c buf hr).2.1]

theorem mem_of_streamRows (hr : r ∈ streamRows c buf) : r ∈ streamRows c buf ++ loadRows c buf ++ otherRows c buf :=
  List.mem_append_left _ (List.mem_append_left _ hr)

theorem mem_of_loadRows (hr : r ∈ loadRows c buf) : r ∈ streamRows c buf ++ loadRows c buf ++ otherRows c buf :=
  List.mem_append_left _ (List.mem_append_right _ hr)

include hon

theorem does_turnedAway (hr : r ∈ streamRows c buf ++ loadRows c buf ++ otherRows c buf) (hop : c.opcode.toNat = r.2.1) {st : Status}
    (h : s.dev.turnedAway c.opcode.toNat = some st) : Does r.1 s (s.dev.complete c st) := by
  have hsub := sub_of_mem hr
  rw [← hsub] at h ⊢
  rw [← Dev.accept_of_turnedAway (i := s.ident) h]
  exact does_of_mem hon hr hop

/-- What a row of an accepted stream command does. -/
theorem does_stream (hr : r ∈ streamRows c buf) (hop : c.opcode.toNat = r.2.1) (haway : s.dev.turnedAway c.opcode.toNat = none) :
    Does r.1 s (s.dev.acceptStream r.2.2) := by
  have hmem := mem_of_streamRows hr
  have hsub := sub_of_mem hmem
  rw [← Dev.accept_stream (i := s.ident) (by rw [hsub]; exact haway) (by rw [hsub]; exact hop) (opcode_of_mem_streamRows hr)]
  exact does_of_mem hon hmem hop

theorem does_load (hr : r ∈ loadRows c buf) (hop : c.opcode.toNat = r.2.1) (haway : s.dev.turnedAway c.opcode.toNat = none) :
    Does r.1 s (s.dev.acceptLoad s.ident r.2.2 (if c.opcode.toNat = 1 then [(8, 16)] else [])) := by
  have hmem := mem_of_loadRows hr
  have hsub := sub_of_mem hmem
  rw [hop, ← Dev.accept_load (by rw [hsub]; exact haway) (by rw [hsub]; exact hop) (opcode_of_mem_loadRows hr)]
  exact does_of_mem hon hmem hop

variable (haway : s.dev.turnedAway c.opcode.toNat = none)
include haway

/-- What the rows of the other accepted commands do. -/
theorem does_other :
    (c.opcode.toNat = 0x20 → Does (.checkpoint c) s (s.dev.acceptCheckpoint s.ident (bareCommand c))) ∧
    (c.opcode.toNat = 0x21 → Does (.restore c buf) s (s.dev.acceptRestore s.ident { sub := c, buf := buf })) ∧
    (c.opcode.toNat = 0x40 → Does (.readEnergy c) s (s.dev.acceptEnergy (bareCommand c))) ∧
    (c.opcode.toNat = 0x50 → Does (.abortQueue c) s (s.dev.acceptAbort s.ident (bareCommand c))) ∧
    (c.opcode.toNat = 0x51 → Does (.safetyCurtain c) s (s.dev.acceptCurtain s.ident (bareCommand c))) ∧
    (c.opcode.toNat = 0x70 → Does (.mailbox c) s (s.dev.acceptMailbox (bareCommand c))) := by
  obtain ⟨hckpt, -, henergy, habort, hcurtain, hmail⟩ := Dev.accept_other (i := s.ident) (c := bareCommand c) haway rfl
  obtain ⟨-, hrestore, -⟩ := Dev.accept_other (i := s.ident) (c := { sub := c, buf := buf }) haway rfl
  refine ⟨fun h => ?_, fun h => ?_, fun h => ?_, fun h => ?_, fun h => ?_, fun h => ?_⟩
  · rw [← hckpt h]
    exact does_command hon (op := 0x20) rfl h
  · rw [← hrestore h]
    exact does_command hon (op := 0x21) rfl h
  · rw [← henergy h]
    exact does_command hon (op := 0x40) rfl h
  · rw [← habort h]
    exact does_command hon (op := 0x50) rfl h
  · rw [← hcurtain h]
    exact does_command hon (op := 0x51) rfl h
  · rw [← hmail h]
    exact does_command hon (op := 0x70) rfl h

/-- A MAILBOX reaches the firmware (R343). -/
theorem runs_mailbox (hop : c.opcode.toNat = 0x70) (hres : subReservedOk c 0 false false [(8, 56)] = true) :
    Runs (.mailbox c) s (fun t => t.dev.hif.mailbox = s.dev.hif.mailbox ++ [c] ∧ Raised 6 s t ∧ Keeps raising s t) := by
  have hmail : s.dev.acceptMailbox (bareCommand c) = ({ s.dev with hif := { s.dev.hif with mailbox := s.dev.hif.mailbox ++ [c] } } : Dev).raise 6 := by
    rw [Dev.acceptMailbox, show (bareCommand c).sub = c from rfl, hres]
    rfl
  refine ⟨_, (does_other hon (buf := HostBuffer.empty) haway).2.2.2.2.2 hop, ?_⟩
  rw [hmail]
  have hframe := s.dev.within_hif { s.dev.hif with mailbox := s.dev.hif.mailbox ++ [c] }
  have hbox : ({ s.dev with hif := { s.dev.hif with mailbox := s.dev.hif.mailbox ++ [c] } } : Dev).hif.mailbox = s.dev.hif.mailbox ++ [c] := rfl
  generalize ({ s.dev with hif := { s.dev.hif with mailbox := s.dev.hif.mailbox ++ [c] } } : Dev) = e at hframe hbox
  exact ⟨(e.mailbox_raise 6).trans hbox, raised_raise (hframe.part .arrivals (by decide)) 6,
    ((hframe.trans (e.within_raise 6)).mono (by decide)).keeps⟩

end

/-- Settles O49. -/
theorem hostCommands : Obligations.HostCommands := by
  unfold Obligations.HostCommands
  intro s c buf hon d op plain full streams loads others
  refine ⟨fun hop => ?_, fun r hr hop => ⟨fun st haway => does_turnedAway hon hr hop haway, fun hready h1 h2 => ?_, fun hready hdown hnot => ?_⟩,
    fun r hr hop haway => ?_, fun r hr hop haway hres => ?_, fun hop haway hprog hres hlen htwin => ?_,
    fun hop haway hloaded hgeom hres hlc hreplay hwhen hhalt => ?_, fun hop haway hres => ⟨fun hidle => ?_, fun hidle jobs hjobs => ?_⟩,
    fun hop haway hres => ?_, fun hop haway hres => ?_, fun hop haway hres => runs_mailbox hon haway hop hres⟩
  · have hcont : opcodes.contains c.opcode.toNat = false := by simpa using hop
    refine does_onDev hon (f := fun i d => if opcodes.contains c.opcode.toNat then d else d.accept i (bareCommand c)) rfl ?_
    rw [if_neg (ne_true_of_eq_false hcont)]
    refine Dev.accept_of_turnedAway (c := bareCommand c) ?_
    rw [show (bareCommand c).sub = c from rfl, Dev.turnedAway, hcont]
    rfl
  · have hcode : opcodes.contains op = true := by
      rw [hop]
      exact (commandRow_of_mem c buf hr).2.2
    rw [← hop] at h1 h2
    exact Dev.turnedAway_of_not_ready hcode hready h1 h2
  · have hcode : opcodes.contains op = true := by
      rw [hop]
      exact (commandRow_of_mem c buf hr).2.2
    exact Dev.turnedAway_of_curtain hcode hready hdown hnot
  · have hdoes := does_stream hon hr hop haway
    have hsub := sub_of_mem (mem_of_streamRows hr)
    obtain ⟨hno, hmarked, hwaits⟩ := s.dev.acceptStream_cases r.2.2
    rw [hsub] at hno hmarked hwaits
    refine ⟨fun hprog => ?_, fun hprog hmark => ?_, fun hprog hmark => ?_⟩
    · rwa [hno hprog] at hdoes
    · rwa [hmarked hprog hmark] at hdoes
    · rw [hwaits hprog hmark] at hdoes
      exact runs_await hdoes
  · have hdoes := does_load hon hr hop haway
    have hsub := sub_of_mem (mem_of_loadRows hr)
    obtain ⟨hgoes, hnot⟩ := s.dev.acceptLoad_cases s.ident r.2.2 (by rw [hsub]; exact hres)
    rw [hsub] at hnot
    exact ⟨fun hlc => by rwa [hgoes hlc] at hdoes, fun hlc => by rwa [hnot hlc] at hdoes⟩
  · have hdoes := (does_other hon (buf := HostBuffer.empty) haway).1 hop
    rw [Dev.acceptCheckpoint_ok (d := s.dev) (c := bareCommand c) s.ident hprog hres hlen htwin] at hdoes
    refine ⟨fun hhalt => ?_, fun hhalt => ?_⟩
    · rw [hhalt, if_pos rfl] at hdoes
      exact ⟨_, hdoes, rfl, (s.dev.within_cast _).keeps⟩
    · rwa [hhalt, if_neg Bool.false_ne_true] at hdoes
  · have hdoes := (does_other hon (buf := buf) haway).2.1 hop
    rw [Dev.acceptRestore_ok (d := s.dev) (c := full) s.ident hloaded hgeom hres hlc hreplay hwhen hhalt] at hdoes
    obtain ⟨hstart, hdma, hhost⟩ := s.dev.beginRestore_cases s.ident full
    refine ⟨fun hpeak => ?_, fun hpeak hflag => ?_, fun hpeak hflag hbuf => ?_, fun hpeak hflag hbuf => ?_⟩
    · rwa [hpeak, if_neg Bool.false_ne_true] at hdoes
    · rwa [hpeak, if_pos rfl, hstart hflag] at hdoes
    · rwa [hpeak, if_pos rfl, hdma hflag hbuf] at hdoes
    · rwa [hpeak, if_pos rfl, hhost hflag hbuf] at hdoes
  · have hdoes := (does_other hon (buf := HostBuffer.empty) haway).2.2.1 hop
    rw [Dev.acceptEnergy_waits (d := s.dev) (c := bareCommand c) hres hidle] at hdoes
    exact ⟨_, hdoes, rfl, (s.dev.within_hif _).keeps⟩
  · have hdoes := (does_other hon (buf := HostBuffer.empty) haway).2.2.1 hop
    rwa [Dev.readEnergy_of_jobs (d := s.dev) (c := bareCommand c) hres hidle hjobs] at hdoes
  · have hdoes := (does_other hon (buf := HostBuffer.empty) haway).2.2.2.1 hop
    obtain ⟨hin, hout⟩ := Dev.acceptAbort_cases (d := s.dev) (c := bareCommand c) s.ident hres
    exact ⟨fun h => by rwa [hin h] at hdoes, fun h => by rwa [hout h] at hdoes⟩
  · have hdoes := (does_other hon (buf := HostBuffer.empty) haway).2.2.2.2.1 hop
    obtain ⟨hdown, hup⟩ := Dev.acceptCurtain_cases (d := s.dev) (c := bareCommand c) s.ident hres
    exact ⟨fun h h' => by rwa [hdown h h'] at hdoes, fun h => by rwa [hup h] at hdoes⟩

end Sys2Proof.Machine
end

section
/-! Queue pairs: doorbells, fetches, completion entries, and their enabling (R336 to R340): O48. -/
namespace Sys2Proof.Machine

/-! ### Pairs -/

section
variable (d : Dev)

theorem Dev.pair_setPair (q k : Nat) (p : Pair) : (d.setPair q p).pair k = if k = q then p else d.pair k := tabGet_tabSet ..

theorem Dev.pair_msix (v k : Nat) : (d.msix v).pair k = d.pair k := by
  obtain ⟨_, _, h⟩ := d.hif_msix v
  rw [Dev.pair, h, Dev.pair]

theorem Dev.pair_raise (src k : Nat) : (d.raise src).pair k = d.pair k := by
  obtain ⟨_, _, h⟩ := d.hif_raise src
  rw [Dev.pair, h, Dev.pair]

/-- A message sent at once (R340). -/
theorem Dev.outbox_msix {v : Nat} (he : d.hif.msixEnable = true) (hl : d.hif.linkUp = true) (hm : d.vectorMasked v = false) :
    (d.msix v).outbox = d.outbox ++ [.msix v] := by
  rw [Dev.msix, he, hl, hm]
  rfl

theorem Dev.pair_cqSignal (q k : Nat) : (d.cqSignal q).pair k = if k = q then { d.pair q with unsignalled := 0 } else d.pair k := by
  rw [Dev.cqSignal, Dev.pair_msix, Dev.pair_setPair]

/-- A pair with an error, which is told (R336, R338). -/
theorem Dev.pair_queueError (q err k : Nat) : (d.queueError q err).pair k = if k = q then { d.pair q with err := err } else d.pair k := by
  rw [Dev.queueError, Dev.pair_raise, Dev.pair_setPair]

end

/-! ### Completion entries -/

/-- An entry with the phase of its pass (R339). -/
def phased (p : Pair) (e : List Byte) : List Byte := (e.headD 0 ||| (if p.phase then 1 else 0)) :: e.drop 1

theorem length_phased (p : Pair) {e : List Byte} (h : e.length = 32) : (phased p e).length = 32 := by
  simp [phased, h]

theorem getD_phased (p : Pair) (e : List Byte) (k : Nat) :
    (phased p e).getD k 0 = if k = 0 then e.getD 0 0 ||| (if p.phase then 1 else 0) else e.getD k 0 := by
  cases k with
  | zero => cases e <;> rfl
  | succ k => cases e <;> rfl

section
variable (d : Dev) (q : Nat) (e : List Byte)

/-- Where the next entry of a pair goes (R339). -/
def Dev.nextEntry : Nat := d.reg64 (Reg.hifQcqBase q) + 32 * (d.pair q).cqTail

theorem Dev.host_cqWrite : (d.cqWrite q e).mems = { d.mems with host := memPuts d.mems.host (d.nextEntry q) (phased (d.pair q) e) } := by
  rw [Dev.cqWrite_eq]
  split
  · exact (Dev.within_cqSignal _ q).part .mems (by decide)
  · rfl

/-- Whether it signals or not, an entry leaves the pair's places alike (R339). -/
theorem Dev.pair_cqWrite (k : Nat) : ((d.cqWrite q e).pair q).cqTail = (d.entryAfter q).cqTail ∧
    ((d.cqWrite q e).pair q).phase = (d.entryAfter q).phase ∧ ((d.cqWrite q e).pair q).held = (d.pair q).held ∧
    (k ≠ q → (d.cqWrite q e).pair k = d.pair k) := by
  have hplaced (k : Nat) : (d.entryPlaced q e).pair k = if k = q then d.entryAfter q else d.pair k := Dev.pair_setPair _ q k _
  rw [Dev.cqWrite_eq]
  split
  · rw [Dev.pair_cqSignal, if_pos rfl, hplaced, if_pos rfl]
    exact ⟨rfl, rfl, rfl, fun hk => by rw [Dev.pair_cqSignal, if_neg hk, hplaced, if_neg hk]⟩
  · rw [hplaced, if_pos rfl]
    exact ⟨rfl, rfl, rfl, fun hk => by rw [hplaced, if_neg hk]⟩

theorem Dev.post_of_room (hheld : (d.pair q).held = []) (hroom : d.cqRoom q = true) (hlink : d.hif.linkUp = true) :
    d.post q e = d.cqWrite q e := by
  rw [Dev.post, hheld, hroom, hlink]
  rfl

theorem Dev.post_of_held (h : (d.pair q).held ≠ [] ∨ d.cqRoom q = false ∨ d.hif.linkUp = false) :
    d.post q e = d.setPair q { d.pair q with held := (d.pair q).held ++ [e] } := by
  have hno : ¬((d.pair q).held.isEmpty && d.cqRoom q && d.hif.linkUp) = true := by
    simp only [Bool.and_eq_true, List.isEmpty_iff, not_and]
    rintro ⟨h1, h2⟩ h3
    rcases h with h | h | h
    · exact h h1
    · exact absurd h2 (ne_true_of_eq_false h)
    · exact absurd h3 (ne_true_of_eq_false h)
  rw [Dev.post]
  exact if_neg hno

/-- What an entry that is written leaves (R339). -/
theorem Dev.cqWrite_spec (hlen : e.length = 32) :
    let p := d.pair q
    let a := d.reg64 (Reg.hifQcqBase q) + 32 * p.cqTail
    let r := d.cqWrite q e
    memByte r.mems.host a = (e.getD 0 0 ||| (if p.phase then 1 else 0)) ∧
      (∀ k, 0 < k → k < 32 → memByte r.mems.host (a + k) = e.getD k 0) ∧
      (∀ x, x < a ∨ a + 32 ≤ x → memByte r.mems.host x = memByte d.mems.host x) ∧
      (r.pair q).cqTail = (if d.cqSize q ≤ p.cqTail + 1 then 0 else p.cqTail + 1) ∧
      (r.pair q).phase = (if d.cqSize q ≤ p.cqTail + 1 then !p.phase else p.phase) ∧ ∀ k, k ≠ q → r.pair k = d.pair k := by
  have hbyte (x : Nat) : memByte (d.cqWrite q e).mems.host x = if d.nextEntry q ≤ x ∧ x < d.nextEntry q + 32 then
      (phased (d.pair q) e).getD (x - d.nextEntry q) 0 else memByte d.mems.host x := by
    rw [d.host_cqWrite q e]
    dsimp only
    rw [memByte_memPuts, length_phased _ hlen]
  refine ⟨?_, fun k hk hlt => ?_, fun x hx => ?_, (d.pair_cqWrite q e q).1, (d.pair_cqWrite q e q).2.1, fun k hk => (d.pair_cqWrite q e k).2.2.2 hk⟩
  · rw [hbyte, if_pos ⟨Nat.le_refl _, by rw [Dev.nextEntry]; omega⟩, Dev.nextEntry, Nat.sub_self, getD_phased, if_pos rfl]
  · rw [hbyte, if_pos ⟨by rw [Dev.nextEntry]; omega, by rw [Dev.nextEntry]; omega⟩, Dev.nextEntry, Nat.add_sub_cancel_left, getD_phased,
      if_neg (by omega)]
  · rw [hbyte, if_neg (by rw [Dev.nextEntry]; omega)]

end

/-! ### Doorbells and fetches -/

section
variable (s : State) (q : Fin 64)

theorem exec_sqDoorbell (v : W32) : exec (.sqDoorbell q v) s = onDev (fun i d => d.sqDoorbell i q.val (v.toNat % 65536)) s := by
  rw [show v.toNat % 65536 = bits v.toNat 0 16 from (bits_zero v.toNat 16).symm]
  rfl

theorem exec_cqDoorbell (v : W32) : exec (.cqDoorbell q v) s = onDev (fun i d => d.cqDoorbell i q.val (v.toNat % 65536)) s := by
  rw [show v.toNat % 65536 = bits v.toNat 0 16 from (bits_zero v.toNat 16).symm]
  rfl

theorem exec_sqFetch (entry : Option (List Byte)) (buf : HostBuffer) :
    exec (.sqFetch q entry buf) s = onDev (fun i d => d.fetch i q entry buf) s := rfl

theorem exec_cqHeldEntryWrite : exec (.cqHeldEntryWrite q) s = onDev (fun _ d => Dev.drain 1 d q.val) s := rfl

theorem exec_cqIrqTimer : exec (.cqIrqTimer q) s = onDev (fun _ d =>
    if decide (0 < (d.pair q.val).unsignalled) && d.fld (Reg.hifQirq q.val) 23 8 != 0 then d.cqSignal q.val else d) s := rfl

end

section
variable {d : Dev} {q : Nat}

theorem Dev.doorbells_of_inactive (i : Ident) (n : Nat) (h : (d.pair q).active = false) : d.sqDoorbell i q n = d ∧ d.cqDoorbell i q n = d := by
  rw [Dev.sqDoorbell, Dev.cqDoorbell, h]
  exact ⟨rfl, rfl⟩

theorem Dev.sqDoorbell_of_active (i : Ident) {n : Nat} (h : (d.pair q).active = true) :
    (n < d.sqSize q → d.sqDoorbell i q n = d.setPair q { d.pair q with sqTail := n }) ∧
    (d.sqSize q ≤ n → d.sqDoorbell i q n = (d.abortPair i q 3).raise 2) := by
  refine ⟨fun hn => ?_, fun hn => ?_⟩ <;> rw [Dev.sqDoorbell, h, Bool.not_true, if_neg Bool.false_ne_true]
  · rw [if_neg (by omega)]
  · rw [if_pos hn, Dev.doorbellRange]

theorem Dev.cqDoorbell_of_active (i : Ident) {n : Nat} (h : (d.pair q).active = true) :
    (n < d.cqSize q → d.cqDoorbell i q n = d.setPair q { d.pair q with cqHead := n }) ∧
    (d.cqSize q ≤ n → d.cqDoorbell i q n = (d.abortPair i q 3).raise 2) := by
  refine ⟨fun hn => ?_, fun hn => ?_⟩ <;> rw [Dev.cqDoorbell, h, Bool.not_true, if_neg Bool.false_ne_true]
  · rw [if_neg (by omega)]
  · rw [if_pos hn, Dev.doorbellRange]

end

/-- An entry that waits is fetched, or its read fails (R337). -/
theorem Dev.fetch_of_waiting {d : Dev} {q : Fin 64} (i : Ident) (buf : HostBuffer) (hactive : (d.pair q.val).active = true)
    (hwait : (d.pair q.val).sqHead ≠ (d.pair q.val).sqTail) (hlink : d.hif.linkUp = true) :
    d.fetch i q none buf = d.queueError q.val 4 ∧
    ∀ b, d.fetch i q (some b) buf =
      (d.setPair q.val { d.pair q.val with sqHead := ((d.pair q.val).sqHead + 1) % d.sqSize q.val }).accept i
        { sub := readSubmission q b, buf := buf } := by
  have hno : ¬(!(d.pair q.val).active || (d.pair q.val).sqHead == (d.pair q.val).sqTail || !d.hif.linkUp) = true := by
    rw [hactive, hlink]
    simpa using hwait
  refine ⟨?_, fun b => ?_⟩ <;> rw [Dev.fetch, if_neg hno]

theorem Dev.within_queueError (d : Dev) (q err : Nat) : d.Within raising (d.queueError q err) :=
  ((d.within_setPair q _).trans (Dev.within_raise _ 2)).mono (by decide)

theorem Dev.arrivalCount_queueError (d : Dev) (q err : Nat) : (d.queueError q err).arrivalCount 2 = min 255 (d.arrivalCount 2 + 1) := by
  rw [Dev.queueError, Dev.arrivalCount_raise, if_pos rfl]
  rfl

theorem raised_queueError (s : State) (d : Dev) (h : d.arrivals = s.dev.arrivals) (q err : Nat) :
    Raised 2 s { s with dev := d.queueError q err } :=
  raised_raise (((d.within_setPair q _).part .arrivals (by decide)).trans h) 2

section
variable {s : State} (hon : On s) (q : Fin 64)

/-- Only pair `q` has changed, to `x`. -/
theorem runs_setPair {c : Instr} {x : Pair} (h : Does c s (s.dev.setPair q.val x)) : Runs c s (fun t =>
    t.dev.pair q.val = x ∧ (∀ k, k ≠ q.val → t.dev.pair k = s.dev.pair k) ∧ Keeps [.hif] s t) := by
  refine ⟨_, h, (Dev.pair_setPair ..).trans (if_pos rfl), fun k hk => (Dev.pair_setPair ..).trans (if_neg hk), (s.dev.within_setPair _ _).keeps⟩

include hon

/-- The oldest held entry is written once there is room (R332, R339). -/
theorem runs_cqHeldEntryWrite {e : List Byte} {es : List (List Byte)} (hheld : (s.dev.pair q.val).held = e :: es)
    (hroom : s.dev.cqRoom q.val = true) (hlink : s.dev.hif.linkUp = true) : Runs (.cqHeldEntryWrite q) s (fun t =>
      t.dev.mems.host = (Dev.post (s.dev.setPair q.val { s.dev.pair q.val with held := [] }) q.val e).mems.host ∧
      (t.dev.pair q.val).held = es ∧
      (t.dev.pair q.val).cqTail =
        (if s.dev.cqSize q.val ≤ (s.dev.pair q.val).cqTail + 1 then 0 else (s.dev.pair q.val).cqTail + 1) ∧
      (∀ k, k ≠ q.val → t.dev.pair k = s.dev.pair k) ∧ Keeps [.hif, .mems, .outbox] s t) := by
  have hpair (hs : List (List Byte)) : (s.dev.setPair q.val { s.dev.pair q.val with held := hs }).pair q.val =
      { s.dev.pair q.val with held := hs } := (Dev.pair_setPair ..).trans (if_pos rfl)
  have hroom' : (s.dev.setPair q.val { s.dev.pair q.val with held := [] }).cqRoom q.val = true := by
    rw [Dev.cqRoom, hpair]
    exact hroom
  have hdrain : Dev.drain 1 s.dev q.val = (s.dev.setPair q.val { s.dev.pair q.val with held := es }).cqWrite q.val e := by
    rw [Dev.drain, hheld]
    dsimp only
    rw [hroom, hlink]
    rfl
  refine runs_onDev hon (exec_cqHeldEntryWrite s q) ?_
  dsimp only
  rw [hdrain, Dev.post_of_room _ _ _ (by rw [hpair]) hroom' hlink]
  obtain ⟨htail, -, hkept, -⟩ := Dev.pair_cqWrite (s.dev.setPair q.val { s.dev.pair q.val with held := es }) q.val e q.val
  refine ⟨?_, ?_, ?_, fun k hk => ?_, ((s.dev.within_setPair _ _).trans (Dev.within_cqWrite _ _ _)).mono (by decide) |>.keeps⟩
  · rw [Dev.host_cqWrite, Dev.host_cqWrite, Dev.nextEntry, Dev.nextEntry, hpair, hpair]
    rfl
  · rw [hkept, hpair]
  · rw [htail, Dev.entryAfter, hpair]
    rfl
  · rw [(Dev.pair_cqWrite _ q.val e k).2.2.2 hk, Dev.pair_setPair, if_neg hk]

/-- Entries not signalled are signalled at the time limit (R340). -/
theorem runs_cqIrqTimer (hun : 0 < (s.dev.pair q.val).unsignalled) (hlimit : s.dev.fld (Reg.hifQirq q.val) 23 8 ≠ 0) :
    Runs (.cqIrqTimer q) s (fun t =>
      t.dev.pair q.val = { s.dev.pair q.val with unsignalled := 0 } ∧ (∀ k, k ≠ q.val → t.dev.pair k = s.dev.pair k) ∧
      (s.dev.hif.msixEnable = true → s.dev.hif.linkUp = true → s.dev.vectorMasked (s.dev.fld (Reg.hifQcfg q.val) 12 4) = false →
        t.dev.outbox = s.dev.outbox ++ [.msix (s.dev.fld (Reg.hifQcfg q.val) 12 4)]) ∧ Keeps [.hif, .outbox] s t) := by
  refine runs_onDev hon (exec_cqIrqTimer s q) ?_
  rw [if_pos (by simp [hun, hlimit])]
  refine ⟨(Dev.pair_cqSignal ..).trans (if_pos rfl), fun k hk => (Dev.pair_cqSignal ..).trans (if_neg hk), fun he hl hm => ?_,
    (s.dev.within_cqSignal _).keeps⟩
  exact Dev.outbox_msix _ he hl hm

end

/-! ### Enabling -/

section
variable {s : State} (hon : On s) (m : Master) (q : Fin 64) (cfg : W32)
include hon

theorem does_queueEnable (h : cfg.getLsbD 0 = true) : Does (.queueEnable m q cfg) s (s.dev.qcfgWrite s.ident q.val cfg) :=
  does_onDev hon (f := fun i d => if cfg.getLsbD 0 then d.qcfgWrite i q.val cfg else d) rfl (if_pos h)

theorem does_queueDisable (h : cfg.getLsbD 0 = false) : Does (.queueDisable m q cfg) s (s.dev.qcfgWrite s.ident q.val cfg) :=
  does_onDev hon (f := fun i d => if cfg.getLsbD 0 then d else d.qcfgWrite i q.val cfg) rfl (if_neg (ne_true_of_eq_false h))

end

/-- What a write of QCFG comes to once the register is written (R336, R338, R533). -/
theorem Dev.qcfgWrite_cases (d : Dev) (i : Ident) (q : Nat) (v : W32) : let e := d.plainWrite (Reg.hifQcfg q) v
    (v.getLsbD 0 = true → (e.pair q).active = true ∨ e.bit Reg.secStatus 4 = true → d.qcfgWrite i q v = e) ∧
    (v.getLsbD 0 = true → (e.pair q).active = false → e.bit Reg.secStatus 4 = false → e.enableError q = 0 →
      d.qcfgWrite i q v = e.setPair q (e.pair q).enabled) ∧
    (v.getLsbD 0 = true → (e.pair q).active = false → e.bit Reg.secStatus 4 = false → e.enableError q ≠ 0 →
      d.qcfgWrite i q v = e.queueError q (e.enableError q)) ∧
    (v.getLsbD 0 = false → (e.pair q).active = true → d.qcfgWrite i q v = (e.abortPair i q 5).raise 2) ∧
    (v.getLsbD 0 = false → (e.pair q).active = false → d.qcfgWrite i q v = e) := by
  rw [Dev.qcfgWrite]
  dsimp only
  generalize d.plainWrite (Reg.hifQcfg q) v = e
  refine ⟨fun hv h => ?_, fun hv ha hr he => ?_, fun hv ha hr he => ?_, fun hv ha => ?_, fun hv ha => ?_⟩ <;> rw [hv]
  · rw [if_pos rfl, if_pos (by simpa using h)]
  · rw [if_pos rfl, ha, hr, if_neg (by decide), if_pos he]
  · rw [if_pos rfl, ha, hr, if_neg (by decide), if_neg he]
  · rw [if_neg Bool.false_ne_true, ha, if_pos rfl]
  · rw [if_neg Bool.false_ne_true, ha, if_neg Bool.false_ne_true]

theorem runs_dev_of_does {c : Instr} {s : State} {e : Dev} (h : Does c s e) : Runs c s (fun t => t.dev = e) := ⟨_, h, rfl⟩

section
variable {s : State} (hon : On s) (m : Master) (q : Fin 64) (cfg : W32)
include hon

/-- A pair that may be enabled is, from its start (R336). -/
theorem runs_queueEnable (hv : cfg.getLsbD 0 = true) {e : Dev} (he : s.dev.plainWrite (Reg.hifQcfg q.val) cfg = e)
    (ha : (e.pair q.val).active = false) (hr : e.bit Reg.secStatus 4 = false) :
    (e.enableError q.val = 0 → Runs (.queueEnable m q cfg) s (fun t => t.dev = e.setPair q.val (e.pair q.val).enabled)) ∧
    (e.enableError q.val ≠ 0 → Runs (.queueEnable m q cfg) s (fun t =>
      t.dev.pair q.val = { e.pair q.val with err := e.enableError q.val } ∧ t.dev.arrivalCount 2 = min 255 (e.arrivalCount 2 + 1))) := by
  have hdoes := does_queueEnable hon m q cfg hv
  obtain ⟨-, hok, herr, -⟩ := s.dev.qcfgWrite_cases s.ident q.val cfg
  rw [he] at hok herr
  refine ⟨fun h => ?_, fun h => ?_⟩
  · rw [hok hv ha hr h] at hdoes
    exact runs_dev_of_does hdoes
  · rw [herr hv ha hr h] at hdoes
    obtain ⟨t, ht, hdev⟩ := runs_dev_of_does hdoes
    refine ⟨t, ht, ?_, ?_⟩ <;> rw [hdev]
    · exact (Dev.pair_queueError ..).trans (if_pos rfl)
    · exact Dev.arrivalCount_queueError ..

/-- A write of QCFG that enables nothing (R336, R338). -/
theorem does_queueCfg {e : Dev} (he : s.dev.plainWrite (Reg.hifQcfg q.val) cfg = e) :
    (cfg.getLsbD 0 = true → (e.pair q.val).active = true ∨ e.bit Reg.secStatus 4 = true → Does (.queueEnable m q cfg) s e) ∧
    (cfg.getLsbD 0 = false → (e.pair q.val).active = true →
      Does (.queueDisable m q cfg) s ((e.abortPair s.ident q.val 5).raise 2)) ∧
    (cfg.getLsbD 0 = false → (e.pair q.val).active = false → Does (.queueDisable m q cfg) s e) := by
  obtain ⟨hno, -, -, hend, hoff⟩ := s.dev.qcfgWrite_cases s.ident q.val cfg
  rw [he] at hno hend hoff
  refine ⟨fun hv h => ?_, fun hv h => ?_, fun hv h => ?_⟩
  · exact hno hv h ▸ does_queueEnable hon m q cfg hv
  · exact hend hv h ▸ does_queueDisable hon m q cfg hv
  · exact hoff hv h ▸ does_queueDisable hon m q cfg hv

theorem runs_sqFetch (hactive : (s.dev.pair q.val).active = true)
    (hwait : (s.dev.pair q.val).sqHead ≠ (s.dev.pair q.val).sqTail) (hlink : s.dev.hif.linkUp = true) :
    (∀ buf, Runs (.sqFetch q none buf) s (fun t => t.dev.pair q.val = { s.dev.pair q.val with err := 4 } ∧
      (∀ k, k ≠ q.val → t.dev.pair k = s.dev.pair k) ∧ Raised 2 s t ∧ Keeps raising s t)) ∧
    ∀ b buf, Does (.sqFetch q (some b) buf) s
      ((s.dev.setPair q.val { s.dev.pair q.val with sqHead := ((s.dev.pair q.val).sqHead + 1) % s.dev.sqSize q.val }).accept s.ident
        { sub := readSubmission q b, buf := buf }) := by
  have hfetch := fun buf => Dev.fetch_of_waiting s.ident buf hactive hwait hlink
  refine ⟨fun buf => ⟨_, does_onDev hon (exec_sqFetch s q none buf) (hfetch buf).1, ?_⟩,
    fun b buf => does_onDev hon (exec_sqFetch s q (some b) buf) ((hfetch buf).2 b)⟩
  exact ⟨(Dev.pair_queueError ..).trans (if_pos rfl), fun k hk => (Dev.pair_queueError ..).trans (if_neg hk),
    raised_queueError s s.dev rfl q.val 4, (s.dev.within_queueError q.val 4).keeps⟩

end

/-- Settles O48. -/
theorem queuePairs : Obligations.QueuePairs := by
  unfold Obligations.QueuePairs
  refine ⟨fun d q e hlen => ⟨fun hheld hroom hlink => ?_, fun h => ?_⟩, fun s q v hon => ?_, fun s m q cfg hon => ?_⟩
  · rw [d.post_of_room q e hheld hroom hlink]
    exact d.cqWrite_spec q e hlen
  · rw [d.post_of_held q e h]
    exact ⟨(Dev.pair_setPair ..).trans (if_pos rfl), fun k hk => (Dev.pair_setPair ..).trans (if_neg hk), rfl⟩
  · intro d p n only
    refine ⟨fun h => ?_, fun h hn => ?_, fun h hn => ?_, fun h hn => ?_, fun h hn => ?_, runs_sqFetch hon q,
      fun e es hheld hroom hlink => runs_cqHeldEntryWrite hon q hheld hroom hlink, fun hun hlimit => runs_cqIrqTimer hon q hun hlimit⟩
    · obtain ⟨hsq, hcq⟩ := Dev.doorbells_of_inactive s.ident n h
      exact ⟨does_onDev hon (exec_sqDoorbell s q v) hsq, does_onDev hon (exec_cqDoorbell s q v) hcq⟩
    · exact runs_setPair q (does_onDev hon (exec_sqDoorbell s q v) ((Dev.sqDoorbell_of_active s.ident h).1 hn))
    · exact runs_setPair q (does_onDev hon (exec_cqDoorbell s q v) ((Dev.cqDoorbell_of_active s.ident h).1 hn))
    · exact does_onDev hon (exec_sqDoorbell s q v) ((Dev.sqDoorbell_of_active s.ident h).2 hn)
    · exact does_onDev hon (exec_cqDoorbell s q v) ((Dev.cqDoorbell_of_active s.ident h).2 hn)
  · obtain ⟨hno, hend, hoff⟩ := does_queueCfg hon m q cfg rfl
    refine ⟨fun hv ha hr => ?_, hno, hend, hoff⟩
    have henable := runs_queueEnable hon m q cfg hv rfl ha hr
    dsimp only [Pair.enabled] at henable
    exact henable

end Sys2Proof.Machine
end

section
/-! The PCIe link, MSI-X vectors, the end of a Safety Curtain and mailbox answers (R329, R331, R332, R340, R343, R349): O50. -/
namespace Sys2Proof.Machine

/-- The command leaves the machine as it is. -/
theorem runs_same {c : Instr} {s : State} (h : Does c s s.dev) : Runs c s (fun t => t = s) := ⟨s, h, rfl⟩

/-! ### Messages and entries -/

/-- Of the host interface, only queue pairs and messages have changed. -/
def Dev.MessagesOnly (d e : Dev) : Prop :=
  ∃ prs held pend, e.hif = { d.hif with pairs := prs, heldMsix := held, msixPending := pend }

section
variable {d e f : Dev}

theorem Dev.MessagesOnly.trans (h : d.MessagesOnly e) (h' : e.MessagesOnly f) : d.MessagesOnly f := by
  obtain ⟨_, _, _, h⟩ := h
  obtain ⟨_, _, _, h'⟩ := h'
  exact ⟨_, _, _, by rw [h', h]⟩

theorem Dev.Within.messagesOnly {ps : List Part} (h : d.Within ps e) (hno : Part.hif ∉ .lines :: ps) : d.MessagesOnly e :=
  ⟨_, _, _, h.part .hif hno⟩

theorem Dev.MessagesOnly.ite {c : Prop} [Decidable c] (h : d.MessagesOnly e) (h' : d.MessagesOnly f) :
    d.MessagesOnly (if c then e else f) := by
  split
  · exact h
  · exact h'

/-- What the Safety Curtain ends with (R349): the lists of commands that wait, which no message changes. -/
theorem Dev.MessagesOnly.waiting (h : d.MessagesOnly e) : e.hif.cmds = d.hif.cmds ∧ e.hif.energy = d.hif.energy ∧
    e.hif.curtainCmds = d.hif.curtainCmds := by
  obtain ⟨_, _, _, h⟩ := h
  rw [h]
  exact ⟨rfl, rfl, rfl⟩

end

section
variable (d : Dev)

theorem Dev.messagesOnly_refl : d.MessagesOnly d := ⟨_, _, _, rfl⟩

theorem Dev.messagesOnly_foldl {α : Type} {g : Dev → α → Dev} (h : ∀ (d : Dev) a, d.MessagesOnly (g d a)) (l : List α) :
    d.MessagesOnly (l.foldl g d) := by
  induction l generalizing d with
  | nil => exact d.messagesOnly_refl
  | cons a l ih => exact (h d a).trans (ih _)

theorem Dev.messagesOnly_msix (v : Nat) : d.MessagesOnly (d.msix v) :=
  let ⟨_, _, h⟩ := d.hif_msix v
  ⟨_, _, _, h⟩

theorem Dev.messagesOnly_raise (src : Nat) : d.MessagesOnly (d.raise src) :=
  let ⟨_, _, h⟩ := d.hif_raise src
  ⟨_, _, _, h⟩

theorem Dev.messagesOnly_setPair (q : Nat) (p : Pair) : d.MessagesOnly (d.setPair q p) := ⟨_, _, _, rfl⟩

theorem Dev.messagesOnly_cqSignal (q : Nat) : d.MessagesOnly (d.cqSignal q) := (d.messagesOnly_setPair q _).trans (Dev.messagesOnly_msix _ _)

theorem Dev.messagesOnly_cqWrite (q : Nat) (e : List Byte) : d.MessagesOnly (d.cqWrite q e) := by
  have hplaced : d.MessagesOnly (d.entryPlaced q e) :=
    ((d.within_hostWrite _ _).messagesOnly (by decide)).trans (Dev.messagesOnly_setPair _ q _)
  rw [Dev.cqWrite_eq]
  exact (hplaced.trans (Dev.messagesOnly_cqSignal _ q)).ite hplaced

theorem Dev.messagesOnly_post (q : Nat) (e : List Byte) : d.MessagesOnly (d.post q e) :=
  (d.messagesOnly_cqWrite q e).ite (d.messagesOnly_setPair q _)

theorem Dev.messagesOnly_completeAll (cs : List Submission) (st : Status) : d.MessagesOnly (d.completeAll cs st) :=
  d.messagesOnly_foldl (fun d _ => d.messagesOnly_post _ _) cs

end

/-! ### The link comes up -/

/-- The link is up and no message is held for it (R332). -/
def Dev.LinkFree (d : Dev) : Prop := d.hif.linkUp = true ∧ d.hif.heldMsix = []

section
variable {d : Dev} (hd : d.LinkFree)
include hd

theorem Dev.linkFree_msix (v : Nat) : (d.msix v).LinkFree := by
  obtain ⟨hl, hh⟩ := hd
  rw [Dev.msix, hl, Bool.not_true, if_neg Bool.false_ne_true]
  repeat' split
  all_goals exact ⟨hl, hh⟩

theorem Dev.linkFree_cqWrite (q : Nat) (e : List Byte) : (d.cqWrite q e).LinkFree := by
  have hplaced : (d.entryPlaced q e).LinkFree := hd
  rw [Dev.cqWrite_eq]
  split
  · rw [Dev.cqSignal]
    exact Dev.linkFree_msix (d := (d.entryPlaced q e).setPair q _) hplaced _
  · exact hplaced

end

theorem Dev.linkFree_foldl {α : Type} {g : Dev → α → Dev} (h : ∀ (d : Dev) a, d.LinkFree → (g d a).LinkFree) (l : List α) {d : Dev}
    (hd : d.LinkFree) : (l.foldl g d).LinkFree := by
  induction l generalizing d with
  | nil => exact hd
  | cons a l ih => exact ih (h d a hd)

/-- Held entries written keep the link free, and change what entries may change (R339). -/
theorem Dev.drain_spec (n : Nat) (d : Dev) (q : Nat) : (d.LinkFree → (Dev.drain n d q).LinkFree) ∧ d.Within posting (Dev.drain n d q) := by
  induction n generalizing d with
  | zero => exact ⟨id, d.within_refl.mono (by decide)⟩
  | succ n ih =>
    rw [Dev.drain]
    cases (d.pair q).held with
    | nil => exact ⟨id, d.within_refl.mono (by decide)⟩
    | cons e es =>
      dsimp only
      split
      · obtain ⟨hfree, hwithin⟩ := ih ((d.setPair q { d.pair q with held := es }).cqWrite q e)
        exact ⟨fun h => hfree (Dev.linkFree_cqWrite (d := d.setPair q _) h q e),
          (((d.within_setPair q _).trans (Dev.within_cqWrite _ q e)).trans hwithin).mono (by decide)⟩
      · exact ⟨id, d.within_refl.mono (by decide)⟩

theorem Dev.linkUp_spec (d : Dev) : d.linkUp.LinkFree ∧ d.Within posting d.linkUp := by
  rw [Dev.linkUp]
  dsimp only
  have hup : ({ d with hif := { d.hif with linkUp := true, heldMsix := [] } } : Dev).LinkFree := ⟨rfl, rfl⟩
  have hwithin : d.Within [.hif] { d with hif := { d.hif with linkUp := true, heldMsix := [] } } := d.within_hif _
  generalize ({ d with hif := { d.hif with linkUp := true, heldMsix := [] } } : Dev) = e at hup hwithin
  exact ⟨Dev.linkFree_foldl (fun d q h => (Dev.drain_spec _ d q).1 h) _ (Dev.linkFree_foldl (fun _ v h => Dev.linkFree_msix h v) _ hup),
    ((hwithin.trans (Dev.within_foldl (fun d v => d.within_msix v) _ _)).trans
      (Dev.within_foldl (fun d q => (Dev.drain_spec _ d q).2) _ _)).mono (by decide)⟩

/-! ### The rate and width of the link -/

/-- HIF_LINK as it reports the link (R329). -/
def linkWord (rate width : Nat) (flit : Bool) : W32 := BitVec.ofNat 32 (rate + width * 8 + b2n flit * 256)

theorem linkWord_fields {rate width : Nat} (hr : rate ≤ 3) (hw : width ≤ 16) (flit : Bool) :
    bits (linkWord rate width flit).toNat 0 3 = rate ∧ bits (linkWord rate width flit).toNat 3 5 = width ∧
    (linkWord rate width flit).getLsbD 8 = flit := by
  have hf : b2n flit ≤ 1 := by cases flit <;> decide
  have hval : (linkWord rate width flit).toNat = rate + width * 8 + b2n flit * 256 := by
    rw [linkWord, BitVec.toNat_ofNat]
    omega
  refine ⟨?_, ?_, ?_⟩
  · rw [hval, bits, Nat.shiftRight_zero]
    omega
  · rw [hval, bits, Nat.shiftRight_eq_div_pow]
    omega
  · rw [← BitVec.testBit_toNat, hval, Nat.testBit_eq_decide_div_mod_eq]
    cases flit
    · exact decide_eq_false (by rw [show b2n false = 0 from rfl]; omega)
    · exact decide_eq_true (by rw [show b2n true = 1 from rfl]; omega)

theorem Dev.linkRate_eq (d : Dev) {rate width : Nat} (hr : rate ≤ 3) (hw : width ∈ [1, 2, 4, 8, 16]) (flit : Bool) :
    d.linkRate rate width flit =
      if d.fld Reg.hifLink 2 0 = rate ∧ d.fld Reg.hifLink 7 3 = width then d.setReg Reg.hifLink (linkWord rate width (flit || rate == 3))
      else (d.setReg Reg.hifLink (linkWord rate width (flit || rate == 3))).raise 3 := by
  have hno : ¬(decide (3 < rate) || !([1, 2, 4, 8, 16].contains width)) = true := by
    rw [List.contains_iff_mem.mpr hw, decide_eq_false (by omega)]
    decide
  rw [Dev.linkRate, if_neg hno]
  simp only [Bool.and_eq_true, beq_iff_eq]
  rfl

/-- What a report of the link leaves (R329). -/
theorem runs_linkRateChange {s : State} (hon : On s) (rate : BitVec 3) (width : BitVec 5) (flit : Bool) (hr : rate.toNat ≤ 3)
    (hw : width.toNat ∈ [1, 2, 4, 8, 16]) : Runs (.linkRateChange rate width flit) s (fun t =>
      t.dev.fld Reg.hifLink 2 0 = rate.toNat ∧ t.dev.fld Reg.hifLink 7 3 = width.toNat ∧
      t.dev.bit Reg.hifLink 8 = (flit || rate == 3) ∧ KeepsRegs [Reg.hifLink] s t ∧
      (s.dev.fld Reg.hifLink 2 0 = rate.toNat ∧ s.dev.fld Reg.hifLink 7 3 = width.toNat → Keeps [.regs] s t) ∧
      (s.dev.fld Reg.hifLink 2 0 ≠ rate.toNat ∨ s.dev.fld Reg.hifLink 7 3 ≠ width.toNat → Raised 3 s t) ∧
      Keeps (.regs :: raising) s t) := by
  have hmode : (rate.toNat == 3) = (rate == 3) := by
    rw [Bool.eq_iff_iff, beq_iff_eq, beq_iff_eq, ← BitVec.toNat_inj]
    rfl
  have hle : width.toNat ≤ 16 := by
    simp only [List.mem_cons, List.not_mem_nil, or_false] at hw
    omega
  obtain ⟨hrate, hwidth, hflit⟩ := linkWord_fields hr hle (flit || rate == 3)
  have hdoes : Does (.linkRateChange rate width flit) s (s.dev.linkRate rate.toNat width.toNat flit) :=
    does_onDev hon (f := fun _ d => d.linkRate rate.toNat width.toNat flit) rfl rfl
  rw [s.dev.linkRate_eq hr hw flit, hmode] at hdoes
  have hreg : (s.dev.setReg Reg.hifLink (linkWord rate.toNat width.toNat (flit || rate == 3))).reg Reg.hifLink =
      linkWord rate.toNat width.toNat (flit || rate == 3) := by simp
  have hregs := s.dev.regsWithin_setReg Reg.hifLink (linkWord rate.toNat width.toNat (flit || rate == 3))
  have hwithin := s.dev.within_setReg Reg.hifLink (linkWord rate.toNat width.toNat (flit || rate == 3))
  generalize s.dev.setReg Reg.hifLink (linkWord rate.toNat width.toNat (flit || rate == 3)) = e at hdoes hreg hregs hwithin
  have hfields (x : Dev) (hx : x.reg Reg.hifLink = e.reg Reg.hifLink) : x.fld Reg.hifLink 2 0 = rate.toNat ∧
      x.fld Reg.hifLink 7 3 = width.toNat ∧ x.bit Reg.hifLink 8 = (flit || rate == 3) := by
    rw [Dev.fld, Dev.fld, Dev.bit, hx, hreg]
    exact ⟨hrate, hwidth, hflit⟩
  by_cases hsame : s.dev.fld Reg.hifLink 2 0 = rate.toNat ∧ s.dev.fld Reg.hifLink 7 3 = width.toNat
  · rw [if_pos hsame] at hdoes
    obtain ⟨h1, h2, h3⟩ := hfields e rfl
    exact ⟨_, hdoes, h1, h2, h3, hregs.keepsRegs, fun _ => hwithin.keeps, fun h => absurd hsame (by tauto),
      (hwithin.mono (by decide)).keeps⟩
  · rw [if_neg hsame] at hdoes
    obtain ⟨h1, h2, h3⟩ := hfields (e.raise 3) (Dev.regsWithin_raise e 3 _ (by decide))
    exact ⟨_, hdoes, h1, h2, h3, ((hregs.trans (Dev.regsWithin_raise e 3)).mono (by decide)).keepsRegs, fun h => absurd h hsame,
      fun _ => raised_raise (hwithin.part .arrivals (by decide)) 3, ((hwithin.trans (Dev.within_raise e 3)).mono (by decide)).keeps⟩

/-! ### Vectors -/

/-- A vector's mask bit is cleared, and its message is no longer pending (R340). -/
def Dev.vectorOpened (d : Dev) (v : Nat) : Dev :=
  { d with hif := { d.hif with
    msixMasked := tabSet (fun _ => true) d.hif.msixMasked v false, msixPending := d.hif.msixPending.filter (· != v) } }

theorem Dev.unmask_eq (d : Dev) (v : Nat) :
    d.unmask v = if d.hif.msixPending.contains v then (d.vectorOpened v).msix v else d.vectorOpened v := rfl

theorem Dev.msixMasked_vectorOpened (d : Dev) (v k : Nat) : tabGet (fun _ => true) (d.vectorOpened v).hif.msixMasked k =
    if k = v then false else tabGet (fun _ => true) d.hif.msixMasked k := by
  rw [Dev.vectorOpened, tabGet_tabSet]

theorem Dev.vectorMasked_vectorOpened {d : Dev} (v : Nat) (h : d.hif.functionMask = false) : (d.vectorOpened v).vectorMasked v = false := by
  rw [Dev.vectorMasked, d.msixMasked_vectorOpened, if_pos rfl, Bool.or_false]
  exact h

/-- A message of a vector that is not masked is not pending (R340). -/
theorem Dev.msixPending_msix {d : Dev} {v : Nat} (h : d.vectorMasked v = false) : (d.msix v).hif.msixPending = d.hif.msixPending := by
  rw [Dev.msix, h, if_neg Bool.false_ne_true]
  split
  · rfl
  · split <;> rfl

theorem runs_msixVectorUnmask {s : State} (hon : On s) (v : Fin 512) : Runs (.msixVectorUnmask v) s (fun t =>
    tabGet (fun _ => true) t.dev.hif.msixMasked v.val = false ∧
    (∀ k, k ≠ v.val → tabGet (fun _ => true) t.dev.hif.msixMasked k = tabGet (fun _ => true) s.dev.hif.msixMasked k) ∧
    (s.dev.hif.functionMask = false → t.dev.hif.msixPending = s.dev.hif.msixPending.filter (· != v.val)) ∧
    (s.dev.hif.msixPending.contains v.val = false → t.dev.outbox = s.dev.outbox) ∧
    (s.dev.hif.msixPending.contains v.val = true → s.dev.hif.msixEnable = true → s.dev.hif.functionMask = false →
      s.dev.hif.linkUp = true → t.dev.outbox = s.dev.outbox ++ [.msix v.val]) ∧
    Keeps [.hif, .outbox] s t) := by
  have hdoes : Does (.msixVectorUnmask v) s (s.dev.unmask v.val) := does_onDev hon (f := fun _ d => d.unmask v.val) rfl rfl
  have hmasked := s.dev.msixMasked_vectorOpened v.val
  have hopen := fun h => Dev.vectorMasked_vectorOpened (d := s.dev) v.val h
  have hwithin : s.dev.Within [.hif] (s.dev.vectorOpened v.val) := s.dev.within_hif _
  have hlink : (s.dev.vectorOpened v.val).hif.linkUp = s.dev.hif.linkUp := rfl
  have henable : (s.dev.vectorOpened v.val).hif.msixEnable = s.dev.hif.msixEnable := rfl
  have hpending : (s.dev.vectorOpened v.val).hif.msixPending = s.dev.hif.msixPending.filter (· != v.val) := rfl
  rw [s.dev.unmask_eq v.val] at hdoes
  generalize s.dev.vectorOpened v.val = e at hdoes hmasked hopen hwithin hlink henable hpending
  have hout : e.outbox = s.dev.outbox := hwithin.part .outbox (by decide)
  by_cases hin : s.dev.hif.msixPending.contains v.val = true
  · rw [if_pos hin] at hdoes
    obtain ⟨held, pend, hmsix⟩ := e.hif_msix v.val
    have hkept (k : Nat) : tabGet (fun _ => true) (e.msix v.val).hif.msixMasked k = tabGet (fun _ => true) e.hif.msixMasked k := by rw [hmsix]
    refine ⟨_, hdoes, (hkept _).trans ((hmasked _).trans (if_pos rfl)), fun k hk => (hkept _).trans ((hmasked _).trans (if_neg hk)),
      fun h => (Dev.msixPending_msix (hopen h)).trans hpending, fun h => absurd hin (ne_true_of_eq_false h), fun _ he hm hl => ?_,
      ((hwithin.trans (e.within_msix _)).mono (by decide)).keeps⟩
    rw [← hout]
    exact e.outbox_msix (henable.trans he) (hlink.trans hl) (hopen hm)
  · rw [if_neg hin] at hdoes
    exact ⟨_, hdoes, (hmasked _).trans (if_pos rfl), fun k hk => (hmasked _).trans (if_neg hk), fun _ => hpending, fun _ => hout,
      fun h => absurd h hin, (hwithin.mono (by decide)).keeps⟩

/-! ### The end of a Safety Curtain -/

section
variable (d : Dev)

theorem Dev.regsWithin_readErrors (c : MemCode) (k n : Nat) : d.RegsWithin errorRegs (d.readErrors c k n).2 :=
  Dev.regsWithin_foldl (fun d _ => d.regsWithin_uncorrectable c _) _ d

theorem Dev.messagesOnly_enterFailing : d.MessagesOnly d.enterFailing :=
  (((d.within_enterUsy 2).messagesOnly (by decide)).trans (Dev.messagesOnly_raise _ 73)).ite d.messagesOnly_refl

theorem Dev.messagesOnly_uncorrectable (c : MemCode) (k : Nat) : d.MessagesOnly (d.uncorrectable c k) := by
  have hinfo (e : Dev) (off off' v' : Nat) (v : W32) : e.MessagesOnly ((e.setReg off v).setReg64 off' v') :=
    ((e.within_setReg off v).trans (Dev.within_setReg64 _ off' v')).messagesOnly (by decide)
  have hflag (e : Dev) : e.MessagesOnly (e.flagRaise Reg.memStatus 2 192) :=
    ((e.within_setBit _ 2).messagesOnly (by decide)).trans (Dev.messagesOnly_raise _ 192)
  exact ((((((d.within_count _).messagesOnly (by decide)).trans ((Dev.messagesOnly_refl _).ite (hinfo _ _ _ _ _))).trans (hflag _)).trans
    ((Dev.messagesOnly_enterFailing _).ite (Dev.messagesOnly_refl _))).trans ((Dev.within_usy _ _).messagesOnly (by decide)))

theorem Dev.messagesOnly_readErrors (c : MemCode) (k n : Nat) : d.MessagesOnly (d.readErrors c k n).2 :=
  d.messagesOnly_foldl (fun d _ => d.messagesOnly_uncorrectable c _) _

/-- What a READ of the Spotlight may change. -/
def reading : List Part := .free :: .mems :: failing

end

/-- What the commands that waited for the end of a Safety Curtain leave alone (R349, R498). -/
structure Dev.ReadOnly (d e : Dev) : Prop where
  within : d.Within reading e
  regs : d.RegsWithin (Reg.sptRingRd :: errorRegs) e
  messages : d.MessagesOnly e

section
variable (d : Dev)

theorem Dev.ReadOnly.trans {d e f : Dev} (h : d.ReadOnly e) (h' : e.ReadOnly f) : d.ReadOnly f :=
  ⟨(h.within.trans h'.within).mono (by decide), (h.regs.trans h'.regs).mono (by decide), h.messages.trans h'.messages⟩

theorem Dev.ReadOnly.ite {d e f : Dev} {c : Prop} [Decidable c] (h : d.ReadOnly e) (h' : d.ReadOnly f) :
    d.ReadOnly (if c then e else f) := by
  split
  · exact h
  · exact h'

theorem Dev.readOnly_refl : d.ReadOnly d :=
  ⟨d.within_refl.mono (by decide), d.regsWithin_refl.mono (by decide), d.messagesOnly_refl⟩

theorem Dev.readOnly_sptComplete (c : Submission) (st : Status) : d.ReadOnly (d.sptComplete c st) :=
  ⟨(d.within_sptComplete c st).mono (by decide), ((d.within_sptComplete c st).regsWithin (by decide)).mono (by decide), d.messagesOnly_post _ _⟩

theorem Dev.readOnly_readOpen (c : MemCode) (a n : Nat) : d.ReadOnly (d.readOpen c a n).2 := by
  have herrors : d.ReadOnly (d.readErrors c a n).2 :=
    ⟨(d.within_readErrors c a n).mono (by decide), (d.regsWithin_readErrors c a n).mono (by decide), d.messagesOnly_readErrors c a n⟩
  rw [Dev.readOpen]
  dsimp only
  generalize (d.readErrors c a n).2 = e at herrors
  have hfree : e.Within [.free] { e with free := e.free + 1 } := e.within_free _
  split
  · exact herrors.trans ⟨hfree.mono (by decide), (hfree.regsWithin (by decide)).mono (by decide), hfree.messagesOnly (by decide)⟩
  · exact herrors

theorem Dev.readOnly_hostWrite (a : Nat) (bs : List Byte) : d.ReadOnly (d.hostWrite a bs) :=
  ⟨(d.within_hostWrite a bs).mono (by decide), ((d.within_hostWrite a bs).regsWithin (by decide)).mono (by decide),
    (d.within_hostWrite a bs).messagesOnly (by decide)⟩

theorem Dev.readOnly_setRingRd (v : W32) : d.ReadOnly (d.setReg Reg.sptRingRd v) :=
  ⟨(d.within_setReg _ v).mono (by decide), (d.regsWithin_setReg _ v).mono (by decide), (d.within_setReg _ v).messagesOnly (by decide)⟩

theorem Dev.readOnly_sptRead (c : Submission) : d.ReadOnly (d.sptRead c) := by
  have hsend (e : Dev) (bs : List Byte) : e.ReadOnly ((e.hostWrite (subOp c 16 8) bs).sptComplete c .success) :=
    (e.readOnly_hostWrite _ bs).trans (Dev.readOnly_sptComplete _ c _)
  have hdone := fun st => d.readOnly_sptComplete c st
  rw [Dev.sptRead]
  refine (hdone _).ite (.ite ((hdone _).ite ((hdone _).ite ?_)) ((hdone _).ite ?_))
  · exact (d.readOnly_readOpen _ _ _).trans (hsend _ _)
  · exact ((d.readOnly_readOpen _ _ _).trans ((Dev.readOnly_refl _).ite (Dev.readOnly_setRingRd _ _))).trans (hsend _ _)

theorem Dev.readOnly_foldl {α : Type} {g : Dev → α → Dev} (h : ∀ (d : Dev) a, d.ReadOnly (g d a)) (l : List α) :
    d.ReadOnly (l.foldl g d) := by
  induction l generalizing d with
  | nil => exact d.readOnly_refl
  | cons a l ih => exact (h d a).trans (ih _)

/-- The waiting commands of the Spotlight, taken (R349). -/
def Dev.waitsTaken : Dev := { d with spt := { d.spt with waits := [] } }

theorem Dev.readOnly_sptAfterCurtain : d.waitsTaken.ReadOnly d.sptAfterCurtain :=
  d.waitsTaken.readOnly_foldl (fun d c => (d.readOnly_sptRead c).ite (d.readOnly_sptComplete c _)) _

/-- The Curtain complete, before the commands that asked for it are answered (R349). -/
def Dev.curtained (d : Dev) : Dev :=
  { d with
    hif := { d.hif with cmds := [], restores := [], energy := [], curtainCmds := [] }
    cast := d.cast.curtained
    usy := { d.usy with twin := d.usy.twin.map (fun (c : Context) => { c with cast := c.cast.curtained }) }
    stage := { d.stage with power := .dark, wake := false } }

/-- HIF_STATUS and CST_STATUS as the Curtain ends (R349). -/
def Dev.curtainShown (d : Dev) : Dev := ((d.clrBit Reg.cstStatus 3).clrBit Reg.hifStatus 1).setBit Reg.hifStatus 0

end

theorem Dev.curtainComplete_of_not {d : Dev} (h : d.halting = false) : d.curtainComplete = d := by
  rw [Dev.curtainComplete, h, Bool.not_false, if_pos rfl]

theorem Dev.curtainComplete_eq {d : Dev} (h : d.halting = true) : ∃ (cs : List Submission) (e : Dev),
    e = d.completeAll cs .curtain ∧
      d.curtainComplete = ((e.curtained.curtainShown.raise 0).completeAll e.hif.curtainCmds .success).sptAfterCurtain := by
  rw [Dev.curtainComplete, h, Bool.not_true, if_neg Bool.false_ne_true]
  exact ⟨_, _, rfl, rfl⟩

/-- What the end of a Safety Curtain leaves (R349). -/
theorem Dev.curtainComplete_spec {d : Dev} (h : d.halting = true) : d.curtainComplete.stage.power = .dark ∧
    d.curtainComplete.bit Reg.hifStatus 0 = true ∧ d.curtainComplete.bit Reg.hifStatus 1 = false ∧ d.curtainComplete.hif.cmds = [] ∧
    d.curtainComplete.hif.energy = [] ∧ d.curtainComplete.hif.curtainCmds = [] ∧ d.curtainComplete.cast.replay = none ∧
    d.curtainComplete.cast.ckptDue = none := by
  obtain ⟨cs, e, -, heq⟩ := Dev.curtainComplete_eq h
  rw [heq]
  have hshown : e.curtained.Within [.regs] e.curtained.curtainShown :=
    (((e.curtained.within_clrBit _ _).trans (Dev.within_clrBit _ _ _)).trans (Dev.within_setBit _ _ _)).mono (by decide)
  have hdown : e.curtained.curtainShown.bit Reg.hifStatus 0 = true := Dev.bit_setBit_same _ _ (by decide)
  have hclear : e.curtained.curtainShown.bit Reg.hifStatus 1 = false := by
    rw [Dev.curtainShown, Dev.bit_setBit_apart _ _ (by decide) (by decide), Dev.bit_clrBit_same _ _ (by decide)]
  have hcurtained : e.curtained.stage.power = .dark ∧ e.curtained.hif.cmds = [] ∧ e.curtained.hif.energy = [] ∧
      e.curtained.hif.curtainCmds = [] ∧ e.curtained.cast.replay = none ∧ e.curtained.cast.ckptDue = none := ⟨rfl, rfl, rfl, rfl, rfl, rfl⟩
  generalize e.curtained.curtainShown = x at hshown hdown hclear
  generalize e.curtained = w at hshown hcurtained
  have hraised := (x.within_raise 0).trans (Dev.within_completeAll _ e.hif.curtainCmds .success)
  have hmessages := (x.messagesOnly_raise 0).trans (Dev.messagesOnly_completeAll _ e.hif.curtainCmds .success)
  generalize (x.raise 0).completeAll e.hif.curtainCmds .success = y at hraised hmessages
  have htaken : y.Within [.spt] y.waitsTaken := y.within_spt _
  have hend := y.readOnly_sptAfterCurtain
  generalize y.sptAfterCurtain = z at hend
  have hwithin := ((hshown.trans hraised).trans htaken).trans hend.within
  have hreg : z.reg Reg.hifStatus = x.reg Reg.hifStatus :=
    (hend.regs _ (by decide)).trans ((htaken.regsWithin (by decide) _ (by decide)).trans (hraised.regsWithin (by decide) _ (by decide)))
  obtain ⟨hcmds, henergy, hcurtain⟩ := (((hshown.messagesOnly (by decide)).trans hmessages).trans
    ((htaken.messagesOnly (by decide)).trans hend.messages)).waiting
  obtain ⟨hdark, hc, he, hk, hreplay, hckpt⟩ := hcurtained
  have hstage : z.stage = w.stage := hwithin.part .stage (by decide)
  have hcast : z.cast = w.cast := hwithin.part .cast (by decide)
  exact ⟨by rw [hstage, hdark], (Dev.bit_congr hreg 0).trans hdown, (Dev.bit_congr hreg 1).trans hclear, hcmds.trans hc, henergy.trans he,
    hcurtain.trans hk, by rw [hcast, hreplay], by rw [hcast, hckpt]⟩

/-! ### Mailbox answers -/

theorem Dev.answerMailbox_cases (d : Dev) (status r0 r1 r2 : Nat) :
    (d.hif.mailbox = [] → d.answerMailbox status r0 r1 r2 = d) ∧ (12 < status → d.answerMailbox status r0 r1 r2 = d) ∧
    ∀ c cs, d.hif.mailbox = c :: cs → status ≤ 12 → d.answerMailbox status r0 r1 r2 =
      Dev.post { d with hif := { d.hif with mailbox := cs } } c.q.val
        (completionBytes (d.pair c.q.val).sqHead c.cid.toNat status 0 r0 r1 r2) := by
  refine ⟨fun h => ?_, fun h => ?_, fun c cs h hle => ?_⟩ <;> rw [Dev.answerMailbox]
  · rw [h]
  · split
    · rfl
    · rw [if_pos h]
  · rw [h]
    exact if_neg (by omega)

/-! ### The rows -/

section
variable {s : State} (hon : On s)
include hon

theorem runs_d3hotEntry : (s.dev.curtainDown = false → Runs .d3hotEntry s (fun t =>
      t.dev = Dev.curtainHalt { s.dev with hif := { s.dev.hif with d3 := true } } s.ident)) ∧
    (s.dev.curtainDown = true → Runs .d3hotEntry s (fun t => t.dev.hif = { s.dev.hif with d3 := true } ∧ Keeps [.hif] s t)) := by
  have hdoes : Does .d3hotEntry s (if s.dev.curtainDown then { s.dev with hif := { s.dev.hif with d3 := true } } else
      Dev.curtainHalt { s.dev with hif := { s.dev.hif with d3 := true } } s.ident) :=
    does_onDev hon (f := fun i d => if d.curtainDown then { d with hif := { d.hif with d3 := true } } else
      Dev.curtainHalt { d with hif := { d.hif with d3 := true } } i) rfl rfl
  refine ⟨fun h => ?_, fun h => ?_⟩
  · rw [h, if_neg Bool.false_ne_true] at hdoes
    exact runs_dev_of_does hdoes
  · rw [h, if_pos rfl] at hdoes
    exact ⟨_, hdoes, rfl, (s.dev.within_hif _).keeps⟩

theorem runs_d0Return : (s.dev.hif.d3 = true → Runs .d0Return s (fun t =>
      t.dev = Dev.curtainComplete { s.dev with hif := { s.dev.hif with d3 := false } })) ∧
    (s.dev.hif.d3 = false → Runs .d0Return s (fun t => t = s)) := by
  have hdoes : Does .d0Return s (if s.dev.hif.d3 then Dev.curtainComplete { s.dev with hif := { s.dev.hif with d3 := false } } else s.dev) :=
    does_onDev hon (f := fun _ d => if d.hif.d3 then Dev.curtainComplete { d with hif := { d.hif with d3 := false } } else d) rfl rfl
  refine ⟨fun h => ?_, fun h => ?_⟩
  · rw [h, if_pos rfl] at hdoes
    exact runs_dev_of_does hdoes
  · rw [h, if_neg Bool.false_ne_true] at hdoes
    exact runs_same hdoes

theorem does_mailboxAnswer (status : BitVec 8) (r0 r1 r2 : W64) :
    Does (.mailboxAnswer status r0 r1 r2) s (s.dev.answerMailbox status.toNat r0.toNat r1.toNat r2.toNat) :=
  does_onDev hon (f := fun _ d => d.answerMailbox status.toNat r0.toNat r1.toNat r2.toNat) rfl rfl

theorem does_safetyCurtainComplete : Does .safetyCurtainComplete s s.dev.curtainComplete :=
  does_onDev hon (f := fun _ d => d.curtainComplete) rfl rfl

theorem runs_pcieLinkDown : Runs .pcieLinkDown s (fun t =>
    t.dev = { s.dev.curtainHalt s.ident with hif := { (s.dev.curtainHalt s.ident).hif with linkUp := false } }) :=
  runs_dev_of_does (does_onDev hon
    (f := fun i d => { d.curtainHalt i with hif := { (d.curtainHalt i).hif with linkUp := false } }) rfl rfl)

theorem runs_pcieLinkUp : Runs .pcieLinkUp s (fun t =>
    t.dev.hif.linkUp = true ∧ t.dev.hif.heldMsix = [] ∧ t.dev.regs = s.dev.regs ∧ t.dev.cast = s.dev.cast) := by
  have hdoes : Does .pcieLinkUp s s.dev.linkUp := does_onDev hon (f := fun _ d => d.linkUp) rfl rfl
  have hspec := s.dev.linkUp_spec
  generalize s.dev.linkUp = e at hdoes hspec
  obtain ⟨⟨hlink, hheld⟩, hwithin⟩ := hspec
  exact ⟨_, hdoes, hlink, hheld, hwithin.part .regs (by decide), hwithin.part .cast (by decide)⟩

end

/-- Settles O50. -/
theorem hostLink : Obligations.HostLink := by
  unfold Obligations.HostLink
  intro s hon d
  obtain ⟨hd3, hd3down⟩ := runs_d3hotEntry hon
  obtain ⟨hd0, hd0no⟩ := runs_d0Return hon
  have hcurtain := does_safetyCurtainComplete hon
  refine ⟨runs_pcieLinkDown hon, runs_pcieLinkUp hon, fun rate width flit hr hw => runs_linkRateChange hon rate width flit hr hw,
    hd3, hd3down, hd0, hd0no, runs_msixVectorUnmask hon, fun h => ⟨_, hcurtain, Dev.curtainComplete_spec h⟩, fun h => ?_,
    fun status r0 r1 r2 => ?_⟩
  · rw [Dev.curtainComplete_of_not h] at hcurtain
    exact runs_same hcurtain
  · have hanswer := does_mailboxAnswer hon status r0 r1 r2
    obtain ⟨hnone, hhigh, hpost⟩ := s.dev.answerMailbox_cases status.toNat r0.toNat r1.toNat r2.toNat
    refine ⟨fun h => ?_, fun h => ?_, fun c cs h hle => ?_⟩
    · rw [hnone h] at hanswer
      exact runs_same hanswer
    · rw [hhigh h] at hanswer
      exact runs_same hanswer
    · rw [hpost c cs h hle] at hanswer
      exact runs_dev_of_does hanswer

end Sys2Proof.Machine
end

section
/-! What the fabric's operations on frames do: ports, frames that arrive, frames that enter a window (R373, R375, R378). -/
namespace Sys2Proof.Machine

/-! ### Ports -/

section
variable {d e : Dev} {p : Nat}

theorem Dev.port_setPort (d : Dev) (p k : Nat) (x : Port) : (d.setPort p x).port k = if k = p then x else d.port k := tabGet_tabSet ..

theorem Dev.port_setPort_same (d : Dev) (p : Nat) (x : Port) : (d.setPort p x).port p = x := (d.port_setPort p p x).trans (if_pos rfl)

theorem Dev.port_congr (h : e.fab = d.fab) (k : Nat) : e.port k = d.port k := by rw [Dev.port, h, Dev.port]

theorem Dev.portState_congr (h : e.reg (Reg.fabStatus p) = d.reg (Reg.fabStatus p)) : e.portState p = d.portState p :=
  Dev.fld_congr h 2 0

theorem Dev.portUp_congr (h : e.reg (Reg.fabStatus p) = d.reg (Reg.fabStatus p)) : e.portUp p = d.portUp p := by
  rw [Dev.portUp, Dev.portState_congr h, Dev.portUp]

theorem Dev.portUp_eq_false_iff : d.portUp p = false ↔ d.portState p ≠ 6 := by
  rw [Dev.portUp, beq_eq_false_iff_ne]

end

/-! ### Frames that enter a window -/

section
variable (d : Dev) (p : Nat)

theorem Dev.outbox_transmit (f : TxFrame) (seq : Nat) (nak : Bool) :
    (d.transmit p f seq nak).outbox = d.outbox ++ [f.out p seq (d.port p).expect nak] := rfl

/-- What a port that sends may change: its window, what has been sent, and the bytes counted (R375). -/
def portParts : List Part := [.fab, .wide, .outbox]

theorem Dev.within_sendCredit_ports (n : Nat) : d.Within portParts (d.sendCredit p n) := (d.within_sendCredit p n).mono (by decide)

theorem Dev.within_leaveBuffer_ports (f : TxFrame) : d.Within portParts (d.leaveBuffer f) := by
  rw [Dev.leaveBuffer]
  cases f.origin with
  | none => exact d.within_refl.mono (by decide)
  | some q => exact d.within_sendCredit_ports q _

theorem Dev.within_pump_ports (n : Nat) : d.Within portParts (Dev.pump n d p) := by
  induction n generalizing d with
  | zero => exact d.within_refl.mono (by decide)
  | succ n ih =>
    rw [Dev.pump]
    dsimp only
    cases (d.port p).txq with
    | nil => exact d.within_refl.mono (by decide)
    | cons f fs =>
      exact (Dev.Within.ite ((((d.within_transmit p f _ false).trans (Dev.within_setPort _ p _)).trans
        (Dev.within_leaveBuffer_ports _ f)).trans (ih _)) d.within_refl).mono (by decide)

/-- Nothing enters the window of a port that is not UP (R375). -/
theorem Dev.pump_of_down (h : d.portUp p = false) (n : Nat) : Dev.pump n d p = d := by
  have hno (f : TxFrame) : d.mayEnter p f = false := by rw [Dev.mayEnter, h]; rfl
  cases n with
  | zero => rfl
  | succ n =>
    rw [Dev.pump]
    dsimp only
    cases (d.port p).txq with
    | nil => rfl
    | cons f fs => exact if_neg (ne_true_of_eq_false (hno f))

theorem Dev.pump_of_empty (h : (d.port p).txq = []) (n : Nat) : Dev.pump n d p = d := by
  cases n with
  | zero => rfl
  | succ n =>
    rw [Dev.pump]
    dsimp only
    rw [h]

theorem Dev.pumpLog_of_down (h : d.portUp 16 = false) (n : Nat) : Dev.pumpLog n d = d := by
  have hno (f : TxFrame) : ((d.port 16).txq.isEmpty && d.mayEnter 16 f) = false := by
    rw [Dev.mayEnter, h]
    exact Bool.and_false _
  cases n with
  | zero => rfl
  | succ n =>
    rw [Dev.pumpLog]
    cases d.usy.logq with
    | nil => rfl
    | cons r rs => exact if_neg (ne_true_of_eq_false (hno _))

theorem Dev.pumpAll_of_down (h : d.portUp p = false) : d.pumpAll p = d := by
  rw [Dev.pumpAll, d.pump_of_down p h]
  by_cases hp : p = 16
  · subst hp
    rw [if_pos rfl, d.pumpLog_of_down h]
  · rw [if_neg hp]

theorem Dev.pumpAll_of_empty (h : (d.port p).txq = []) (hlog : p = 16 → d.usy.logq = []) : d.pumpAll p = d := by
  rw [Dev.pumpAll, d.pump_of_empty p h]
  by_cases hp : p = 16
  · rw [if_pos hp, hlog hp]
    rfl
  · rw [if_neg hp]

/-- A port after frame `f`, the oldest that waits, has entered its window (R375, R378). -/
def Port.entered (x : Port) (f : TxFrame) (fs : List TxFrame) : Port :=
  { x with
    txq := fs, held := x.held ++ [(x.txSeq, f)], txSeq := (x.txSeq + 1) % 256, credits := x.credits - frameCredits f.payload.length }

theorem Dev.pump_one {f : TxFrame} {fs : List TxFrame} (hq : (d.port p).txq = f :: fs) (hroom : d.mayEnter p f = true)
    (horigin : f.origin = none) :
    Dev.pump 1 d p = (d.transmit p f (d.port p).txSeq false).setPort p ((d.port p).entered f fs) := by
  rw [Dev.pump]
  dsimp only
  rw [hq]
  dsimp only
  rw [if_pos hroom, Dev.leaveBuffer, horigin]
  rfl

/-- Of the Understudy, only the log queue has changed. -/
def Dev.LogOnly (d e : Dev) : Prop := ∃ q, e.usy = { d.usy with logq := q }

theorem Dev.Within.logOnly {d e : Dev} {ps : List Part} (h : d.Within ps e) (hno : Part.usy ∉ .lines :: ps) : d.LogOnly e :=
  ⟨_, h.part .usy hno⟩

theorem Dev.LogOnly.trans {d e f : Dev} (h : d.LogOnly e) (h' : e.LogOnly f) : d.LogOnly f := by
  obtain ⟨_, h⟩ := h
  obtain ⟨_, h'⟩ := h'
  exact ⟨_, by rw [h', h]⟩

theorem Dev.logOnly_refl : d.LogOnly d := ⟨_, rfl⟩

theorem Dev.LogOnly.ite {d e f : Dev} {c : Prop} [Decidable c] (h : d.LogOnly e) (h' : d.LogOnly f) : d.LogOnly (if c then e else f) := by
  split
  · exact h
  · exact h'

theorem Dev.logOnly_pumpLog (n : Nat) : d.LogOnly (Dev.pumpLog n d) ∧ d.RegsWithin [Reg.usyLogBacklog] (Dev.pumpLog n d) := by
  induction n generalizing d with
  | zero => exact ⟨d.logOnly_refl, d.regsWithin_refl.mono (by decide)⟩
  | succ n ih =>
    rw [Dev.pumpLog]
    cases d.usy.logq with
    | nil => exact ⟨d.logOnly_refl, d.regsWithin_refl.mono (by decide)⟩
    | cons r rs =>
      have hsent (e : Dev) (x : Port) : e.Within portParts (Dev.pump 1 (e.setPort 16 x) 16) :=
        ((e.within_setPort 16 x).trans (Dev.within_pump_ports _ 16 1)).mono (by decide)
      have htaken : d.LogOnly { d with usy := { d.usy with logq := rs } } := ⟨_, rfl⟩
      refine ⟨Dev.LogOnly.ite ((((htaken.trans ((hsent _ _).logOnly (by decide))).trans ((Dev.within_setReg _ _ _).logOnly (by decide))).trans
        ((Dev.within_wideAdd _ _ _).logOnly (by decide))).trans (ih _).1) d.logOnly_refl, ?_⟩
      exact (Dev.RegsWithin.ite (((((d.within_usy _).regsWithin (by decide)).trans ((hsent _ _).regsWithin (by decide))).trans
        (Dev.regsWithin_setReg _ _ _)).trans (((Dev.within_wideAdd _ _ _).regsWithin (by decide)).trans (ih _).2)) d.regsWithin_refl).mono
        (by decide)

theorem Dev.logOnly_pumpAll : d.LogOnly (d.pumpAll p) ∧ d.RegsWithin [Reg.usyLogBacklog] (d.pumpAll p) := by
  have hpump := d.within_pump_ports p (d.port p).txq.length
  rw [Dev.pumpAll]
  refine ⟨((hpump.logOnly (by decide)).trans (Dev.logOnly_pumpLog _ _).1).ite (hpump.logOnly (by decide)), ?_⟩
  exact (((hpump.regsWithin (by decide)).trans (Dev.logOnly_pumpLog _ _).2).ite (hpump.regsWithin (by decide))).mono (by decide)

theorem Dev.logOnly_shipRecord (r : List Byte) : d.LogOnly (d.shipRecord r) := by
  have hraise (e : Dev) : e.LogOnly (e.raise 75) := (e.within_raise 75).logOnly (by decide)
  have hqueue (q : List (List Byte)) : d.LogOnly { d with usy := { d.usy with logq := q } } := ⟨_, rfl⟩
  have hsent (e : Dev) (v : W32) : e.LogOnly ((e.setReg Reg.usyLogBacklog v).pumpAll 16) :=
    ((e.within_setReg _ v).logOnly (by decide)).trans (Dev.logOnly_pumpAll _ 16).1
  exact (((hqueue _).trans (hsent _ _)).trans (hraise _)).ite ((hqueue _).trans (hsent _ _))

end

/-! ### Frames that arrive -/

section
variable {s : State} {p : Fin 17} {f : Frame} (h : Arrives s p f)
include h

theorem Dev.receivePlain_of_arrives (act : Dev → Dev) : s.dev.receivePlain p.val f act = act (received s p f) := by
  obtain ⟨-, hup, hok⟩ := h
  rw [Dev.receivePlain, hup, hok]
  rfl

theorem Dev.refusePlain_of_arrives : s.dev.refusePlain p.val f = (s.dev.takeAck p.val f).dropFrame p.val := by
  obtain ⟨-, hup, hok⟩ := h
  rw [Dev.refusePlain, hup, hok]
  rfl

theorem Dev.receiveSeq_of_arrives (deliver : Dev → Nat → Frame → Delivered) : s.dev.receiveSeq p.val f deliver =
    if behind s p f = 0 then (accepted s p f).acceptSeq p.val f deliver
    else (s.dev.takeAck p.val f).sendAck p.val (decide (64 < behind s p f)) := by
  obtain ⟨-, hup, hok⟩ := h
  rw [Dev.receiveSeq, hup, hok]
  rfl

end

/-- A frame of this port's types and this ensemble, for this device (R373, R384). -/
theorem Dev.acceptSeq_of_mine {d : Dev} {p : Nat} {f : Frame} (deliver : Dev → Nat → Frame → Delivered)
    (htype : typeAccepted p (frameType f) = true) (hens : frameEns f = d.fld Reg.fabEns 15 0)
    (hmine : frameType f = 6 ∨ d.forMe (frameDst f) = true) : d.acceptSeq p f deliver = d.deliverOrKeep p f deliver := by
  have hno : ¬(!typeAccepted p (frameType f) || frameEns f != d.fld Reg.fabEns 15 0) = true := by
    rw [htype, hens, bne_self_eq_false]
    decide
  rw [Dev.acceptSeq, if_neg hno, if_pos (by simpa using hmine)]

end Sys2Proof.Machine
end

section
/-! The Understudy log (R462 to R465): O58. -/
namespace Sys2Proof.Machine

/-! ### Records received -/

/-- A store into a memory without recorded errors (R321). -/
theorem Dev.store_of_clean {d : Dev} (c : MemCode) (k : Nat) (bs : List Byte) (h : d.mems.errors = []) :
    d.store c k bs = (false, { d with mems := d.mems.put c (memPuts (d.mems.get c) k bs) }) := by
  rw [Dev.store, h]
  rfl

section
variable (d : Dev) (b : List Byte)

/-- Where a WRITE record goes, and what it writes (R462). -/
def Dev.recordBase : Nat := bits (d.reg64 Reg.memTwinBase) 0 39
def recordOffset : Nat := bits (field b 8 8) 0 39

variable {b}

theorem Dev.takeRecord_write (h : field b 0 1 = 1) (hin : recordOffset b + (b.drop 16).length ≤ d.mems.twinSize) (hclean : d.mems.errors = []) :
    d.takeRecord b =
      { d with mems := { d.mems with hbm := memPuts d.mems.hbm (d.recordBase + recordOffset b) (b.drop 16) } } := by
  rw [Dev.takeRecord, h]
  dsimp only
  rw [Dev.store_of_clean .hbm _ _ hclean]
  exact if_pos hin

theorem Dev.takeRecord_past (h : field b 0 1 = 1) (hout : d.mems.twinSize < recordOffset b + (b.drop 16).length) : d.takeRecord b = d := by
  rw [Dev.takeRecord, h]
  exact if_neg (Nat.not_le.mpr hout)

theorem Dev.takeRecord_commit (h : field b 0 1 = 2) : d.takeRecord b = d := by
  rw [Dev.takeRecord, h]
  rfl

theorem Dev.takeRecord_delivered (h : field b 0 1 = 3) : d.takeRecord b =
    { d.setReg Reg.usyDelivered (BitVec.ofNat 32 (field b 4 4)) with usy := { d.usy with suppress := field b 4 4 + 1 } } := by
  rw [Dev.takeRecord, h]
  rfl

end

/-- What a WRITE record leaves of HBM (R462). -/
theorem Dev.memByte_takeRecord {d : Dev} {b : List Byte} (h : field b 0 1 = 1)
    (hin : recordOffset b + (b.drop 16).length ≤ d.mems.twinSize) (hclean : d.mems.errors = []) (x : Nat) :
    memByte (d.takeRecord b).mems.hbm x =
      if d.recordBase + recordOffset b ≤ x ∧ x < d.recordBase + recordOffset b + (b.drop 16).length then
        (b.drop 16).getD (x - (d.recordBase + recordOffset b)) 0 else memByte d.mems.hbm x := by
  rw [d.takeRecord_write h hin hclean]
  exact memByte_memPuts ..

/-- The rows of log frames, with the records that each is (R462, R464). -/
def logRows (f : Frame) : List (Instr × Prop) :=
  [(Instr.logWrite 16 f, field f.payload 0 1 ≠ 2 ∧ field f.payload 0 1 ≠ 3), (.logCommit 16 f, field f.payload 0 1 = 2),
    (.logDelivered 16 f, field f.payload 0 1 = 3)]

/-- Each log row receives its frame in sequence. -/
theorem does_logRow {s : State} (hon : On s) {f : Frame} (htype : frameType f = 6) {r : Instr × Prop} (hr : r ∈ logRows f) (hrow : r.2) :
    Does r.1 s (s.dev.receiveSeq 16 f Dev.deliverLog) := by
  simp only [logRows, List.mem_cons, List.not_mem_nil, or_false] at hr
  rcases hr with rfl | rfl | rfl
  · exact does_onDev hon (f := fun _ d => if frameType f = 6 && field f.payload 0 1 != 2 && field f.payload 0 1 != 3 then
      d.receiveSeq 16 f Dev.deliverLog else d) rfl (if_pos (by simpa [htype] using hrow))
  · exact does_onDev hon (f := fun _ d => if frameType f = 6 && field f.payload 0 1 == 2 then
      d.receiveSeq 16 f Dev.deliverLog else d) rfl (if_pos (by simpa [htype] using hrow))
  · exact does_onDev hon (f := fun _ d => if frameType f = 6 && field f.payload 0 1 == 3 then
      d.receiveSeq 16 f Dev.deliverLog else d) rfl (if_pos (by simpa [htype] using hrow))

theorem receiveSeq_log {s : State} {f : Frame} (htype : frameType f = 6) (h : Arrives s 16 f) (hnext : behind s 16 f = 0)
    (hens : frameEns f = (accepted s 16 f).fld Reg.fabEns 15 0) : s.dev.receiveSeq 16 f Dev.deliverLog =
      ((accepted s 16 f).takeRecord f.payload).sendCredit 16 (frameCredits (frameLen f)) := by
  refine (Dev.receiveSeq_of_arrives h Dev.deliverLog).trans ?_
  rw [if_pos hnext, Dev.acceptSeq_of_mine Dev.deliverLog (by rw [htype]; rfl) hens (.inl htype)]
  rfl

/-! ### The log queue -/

section
variable {d : Dev} {r : List Byte}

/-- The frame that carries a record to the twin (R462). -/
def Dev.logFrame (d : Dev) (r : List Byte) : TxFrame := d.frame 6 (d.fld (Reg.fabPeer 16) 12 0) 0 r

/-- The one record of the log queue as the frame that waits on port 16 (R465). -/
def Dev.logTaken (d : Dev) (r : List Byte) : Dev :=
  ({ d with usy := { d.usy with logq := [] } }).setPort 16 { d.port 16 with txq := [d.logFrame r] }

/-- That frame on its way, its record not yet counted (R465). -/
def Dev.logSent (d : Dev) (r : List Byte) : Dev :=
  ((d.logTaken r).transmit 16 (d.logFrame r) (d.port 16).txSeq false).setPort 16 ((d.port 16).entered (d.logFrame r) [])

theorem Dev.port_logTaken : (d.logTaken r).port 16 = { d.port 16 with txq := [d.logFrame r] } := Dev.port_setPort_same ..

theorem Dev.mayEnter_logTaken (hroom : d.mayEnter 16 (d.logFrame r) = true) : (d.logTaken r).mayEnter 16 (d.logFrame r) = true := by
  rw [Dev.mayEnter, Dev.port_logTaken]
  exact hroom

theorem Dev.pump_logTaken (hroom : d.mayEnter 16 (d.logFrame r) = true) : Dev.pump 1 (d.logTaken r) 16 = d.logSent r := by
  have hone := (d.logTaken r).pump_one 16 (by rw [Dev.port_logTaken]) (Dev.mayEnter_logTaken hroom) rfl
  rw [Dev.port_logTaken] at hone
  exact hone

theorem Dev.pumpAll_of_log (hlog : d.usy.logq = [r]) (hq : (d.port 16).txq = []) (hroom : d.mayEnter 16 (d.logFrame r) = true) :
    d.pumpAll 16 = ((d.logSent r).setReg Reg.usyLogBacklog 0).wideAdd Reg.usyLogBytes r.length := by
  have hgo : ((d.port 16).txq.isEmpty && d.mayEnter 16 (d.logFrame r)) = true := by rw [hq, hroom]; rfl
  rw [Dev.pumpAll, d.pump_of_empty 16 hq, if_pos rfl, hlog]
  dsimp only [List.length_cons, List.length_nil, Nat.zero_add]
  rw [Dev.pumpLog, hlog]
  refine (if_pos hgo).trans ?_
  rw [← Dev.pump_logTaken hroom]
  rfl

/-- What the log queue's last record leaves as it is sent (R465). -/
theorem runs_logQueueResume {s : State} (hon : On s) (hlog : s.dev.usy.logq = [r]) (hq : (s.dev.port 16).txq = [])
    (hroom : s.dev.mayEnter 16 (s.dev.logFrame r) = true) : Runs .logQueueResume s (fun t =>
      t.dev.outbox = s.dev.outbox ++ [(s.dev.logFrame r).out 16 (s.dev.port 16).txSeq (s.dev.port 16).expect false] ∧
      (t.dev.port 16).held = (s.dev.port 16).held ++ [((s.dev.port 16).txSeq, s.dev.logFrame r)] ∧
      t.dev.usy = { s.dev.usy with logq := [] } ∧ t.dev.reg Reg.usyLogBacklog = 0 ∧
      t.dev.wideGet Reg.usyLogBytes = s.dev.wideGet Reg.usyLogBytes + BitVec.ofNat 64 r.length ∧
      KeepsRegs [Reg.usyLogBacklog] s t ∧ Keeps [.regs, .usy, .fab, .wide, .outbox] s t) := by
  have hdoes : Does .logQueueResume s (s.dev.pumpAll 16) := does_onDev hon (f := fun _ d => d.shipQueue) rfl rfl
  rw [Dev.pumpAll_of_log hlog hq hroom] at hdoes
  have htaken : s.dev.Within [.usy, .fab] (s.dev.logTaken r) := (s.dev.within_usy _).trans (Dev.within_setPort _ 16 _)
  have htransmit : (s.dev.logTaken r).Within [.outbox, .wide, .fab] (s.dev.logSent r) :=
    ((s.dev.logTaken r).within_transmit 16 _ _ false).trans (Dev.within_setPort _ 16 _)
  have hwithin := htaken.trans htransmit
  have hout : (s.dev.logSent r).outbox =
      s.dev.outbox ++ [(s.dev.logFrame r).out 16 (s.dev.port 16).txSeq (s.dev.port 16).expect false] := by
    rw [Dev.logSent, ← show (s.dev.logTaken r).outbox = s.dev.outbox from htaken.part .outbox (by decide),
      show (s.dev.port 16).expect = ((s.dev.logTaken r).port 16).expect by rw [Dev.port_logTaken]]
    rfl
  have hport : (s.dev.logSent r).port 16 = (s.dev.port 16).entered (s.dev.logFrame r) [] := Dev.port_setPort_same ..
  have husy : (s.dev.logSent r).usy = { s.dev.usy with logq := [] } := htransmit.part .usy (by decide)
  have hwide : (s.dev.logSent r).wideGet Reg.usyLogBytes = s.dev.wideGet Reg.usyLogBytes := by
    rw [show (s.dev.logSent r).wideGet Reg.usyLogBytes =
      ((s.dev.logTaken r).wideAdd (Reg.fabTxBytes 16) (s.dev.logFrame r).payload.length).wideGet Reg.usyLogBytes from rfl,
      Dev.wideGet_wideAdd, if_neg (by decide)]
    rfl
  have hregs := hwithin.regsWithin (by decide)
  generalize s.dev.logSent r = e at hdoes hwithin hout hport husy hwide hregs
  have hset := e.within_setReg Reg.usyLogBacklog 0
  have hreg : (e.setReg Reg.usyLogBacklog 0).reg Reg.usyLogBacklog = 0 := by simp
  have hregs' := hregs.trans (e.regsWithin_setReg Reg.usyLogBacklog 0)
  have hbytes : (e.setReg Reg.usyLogBacklog 0).wideGet Reg.usyLogBytes = e.wideGet Reg.usyLogBytes := rfl
  generalize e.setReg Reg.usyLogBacklog 0 = x at hdoes hset hreg hregs' hbytes
  have hadd := hset.trans (x.within_wideAdd Reg.usyLogBytes r.length)
  have hbytes' := x.wideGet_wideAdd_same Reg.usyLogBytes r.length
  have hreg' : (x.wideAdd Reg.usyLogBytes r.length).reg = x.reg := rfl
  generalize x.wideAdd Reg.usyLogBytes r.length = y at hdoes hadd hbytes' hreg'
  refine ⟨_, hdoes, (hadd.part .outbox (by decide)).trans hout, ?_, (hadd.part .usy (by decide)).trans husy, ?_, ?_, ?_,
    ((hwithin.trans hadd).mono (by decide)).keeps⟩
  · rw [Dev.port_congr (hadd.part .fab (by decide)), hport]
    rfl
  · rw [hreg', hreg]
  · rw [hbytes', hbytes, hwide]
  · intro off hoff
    exact (congrFun hreg' off).trans (hregs' off (by simpa using hoff))

/-! ### Commits acknowledged -/

theorem Dev.logOnly_deliver (d : Dev) (es : List TokenEntry) : d.LogOnly (d.deliver es) := by
  have hposts : d.Within posting (d.postTokens es) := Dev.within_foldl (fun d (e : TokenEntry) => d.within_post e.q e.data) es d
  exact (((hposts.trans (Dev.within_count _ _)).trans (Dev.within_flagRaise _ _ 5 114)).logOnly (by decide)).ite (hposts.logOnly (by decide))

/-- The oldest commit released: its entries are written, and DELIVERED is sent (R464). -/
theorem Dev.commitAcked_of_acknowledged {d : Dev} {c : CommitWait} {cs : List CommitWait} (h : d.usy.commits = c :: cs)
    (hsent : c.sent = true) (hlost : c.lost = false) (hopen : d.commitOpen c.seq = false) : d.commitAcked =
      (Dev.deliver { d with usy := { d.usy with commits := cs } } c.entries).shipRecord (logRecord 3 0 c.seq 0 []) := by
  rw [Dev.commitAcked, h]
  dsimp only
  rw [hsent, hlost, hopen]
  rfl

theorem Dev.commitAcked_of_open {d : Dev} {c : CommitWait} {cs : List CommitWait} (h : d.usy.commits = c :: cs)
    (hno : c.sent = false ∨ c.lost = true ∨ d.commitOpen c.seq = true) : d.commitAcked = d := by
  rw [Dev.commitAcked, h]
  refine if_pos ?_
  simpa [or_assoc] using hno

theorem runs_commitAcknowledged {s : State} (hon : On s) {c : CommitWait} {cs : List CommitWait} (h : s.dev.usy.commits = c :: cs)
    (hsent : c.sent = true) (hlost : c.lost = false) (hopen : s.dev.commitOpen c.seq = false) : Runs .commitAcknowledged s (fun t =>
      t.dev.usy.commits = cs ∧ t.dev =
        (Dev.deliver { s.dev with usy := { s.dev.usy with commits := cs } } c.entries).shipRecord (logRecord 3 0 c.seq 0 [])) := by
  have hdoes : Does .commitAcknowledged s s.dev.commitAcked := does_onDev hon (f := fun _ d => d.commitAcked) rfl rfl
  rw [Dev.commitAcked_of_acknowledged h hsent hlost hopen] at hdoes
  have hcommits : ({ s.dev with usy := { s.dev.usy with commits := cs } } : Dev).usy.commits = cs := rfl
  generalize ({ s.dev with usy := { s.dev.usy with commits := cs } } : Dev) = d at hdoes hcommits ⊢
  obtain ⟨q, husy⟩ := (d.logOnly_deliver c.entries).trans (Dev.logOnly_shipRecord _ (logRecord 3 0 c.seq 0 []))
  generalize (d.deliver c.entries).shipRecord (logRecord 3 0 c.seq 0 []) = e at hdoes husy ⊢
  exact ⟨_, hdoes, by rw [husy, hcommits], rfl⟩

end

/-- Settles O58. -/
theorem understudyLog : Obligations.UnderstudyLog := by
  unfold Obligations.UnderstudyLog
  refine ⟨fun d b => ?_, fun s f htype r hr hrow harrives hnext hens => ?_, fun s hon => ?_⟩
  · intro base off data e
    refine ⟨fun h hin hclean => ⟨Dev.memByte_takeRecord h hin hclean, ?_⟩, fun h hout => d.takeRecord_past h hout,
      fun h => d.takeRecord_commit h, fun h => ?_⟩
    · rw [show e = _ from d.takeRecord_write h hin hclean]
    · rw [show e = _ from d.takeRecord_delivered h]
      exact ⟨(Dev.reg_setReg ..).trans (if_pos rfl), rfl, rfl⟩
  · rw [← receiveSeq_log htype harrives hnext hens]
    exact does_logRow harrives.1 htype hr hrow
  · intro d
    have hresume : Does .logQueueResume s (s.dev.pumpAll 16) := does_onDev hon (f := fun _ d => d.shipQueue) rfl rfl
    have hacked : Does .commitAcknowledged s s.dev.commitAcked := does_onDev hon (f := fun _ d => d.commitAcked) rfl rfl
    refine ⟨fun h => runs_same ?_, fun hlog hq => runs_same ?_, fun r hlog hq => fun hroom => runs_logQueueResume hon hlog hq hroom,
      fun h => runs_same ?_, fun c cs h => ⟨fun hno => runs_same ?_, fun hsent hlost hopen => runs_commitAcknowledged hon h hsent hlost hopen⟩⟩
    · rwa [s.dev.pumpAll_of_down 16 h] at hresume
    · rwa [s.dev.pumpAll_of_empty 16 hq fun _ => hlog] at hresume
    · rwa [Dev.commitAcked, show s.dev.usy.commits = [] from h] at hacked
    · rwa [Dev.commitAcked_of_open h hno] at hacked

end Sys2Proof.Machine
end

section
/-! Pairing, heartbeats, takeover requests, drain and failure (R457, R458, R466 to R469, R478): O57. -/
namespace Sys2Proof.Machine

/-! ### Frames as they go out -/

theorem crcByte_lt {poly : Nat} (hp : poly < 2 ^ 32) (k : Nat) {c : Nat} (hc : c < 2 ^ 32) : crcByte poly k c < 2 ^ 32 := by
  induction k generalizing c with
  | zero => exact hc
  | succ k ih =>
    have hshift : c >>> 1 < 2 ^ 32 := lt_of_le_of_lt (Nat.shiftRight_le ..) hc
    rw [crcByte]
    refine ih ?_
    split
    · exact Nat.xor_lt_two_pow hshift hp
    · exact hshift

theorem crc32c_lt (bs : List Byte) : crc32c bs < 2 ^ 32 := by
  have hfold (c : Nat) (hc : c < 2 ^ 32) : bs.foldl (fun c b => crcByte 0x82F63B78 8 (c ^^^ b.toNat)) c < 2 ^ 32 := by
    induction bs generalizing c with
    | nil => exact hc
    | cons b bs ih => exact ih _ (crcByte_lt (by decide) 8 (Nat.xor_lt_two_pow hc (by have := b.isLt; omega)))
  exact Nat.xor_lt_two_pow (hfold _ (by decide)) (by decide)

/-- The FTYPE of a frame as it goes out (R372). -/
theorem TxFrame.start_ftype (f : TxFrame) (seq ack : Nat) (nak : Bool) : (f.start seq ack nak).extractLsb' 8 4 = BitVec.ofNat 4 f.ftype := by
  apply BitVec.eq_of_toNat_eq
  rw [BitVec.extractLsb'_toNat, TxFrame.start, BitVec.toNat_ofNat, BitVec.toNat_ofNat, Nat.shiftRight_eq_div_pow]
  simp only [List.append_assoc]
  rw [leNat_leBytes_append, leNat_leBytes_append]
  omega

/-- A frame that goes out is one of its FTYPE and payload, with its CRC (R372, R374). -/
theorem TxFrame.out_eq (f : TxFrame) (p seq ack : Nat) (nak : Bool) : ∃ st h c, f.out p seq ack nak = .frame p st h f.payload c ∧
    st.extractLsb' 8 4 = BitVec.ofNat 4 f.ftype ∧ c.toNat = frameCrc st h f.payload :=
  ⟨_, _, _, rfl, f.start_ftype seq ack nak, Nat.mod_eq_of_lt (crc32c_lt _)⟩

/-! ### Heartbeats sent -/

section
variable (d : Dev)

theorem Dev.sendHeartbeat_of_down (h : d.portUp 16 = false) : d.sendHeartbeat = d := by
  rw [Dev.sendHeartbeat, h]
  rfl

theorem Dev.sendHeartbeat_of_unpaired (harmed : d.armed = false) (hno : d.bit Reg.usyCtrl 0 = false ∨ d.usy.loaded = false) :
    d.sendHeartbeat = d := by
  have hpair : (d.bit Reg.usyCtrl 0 && d.usy.loaded) = false := Bool.and_eq_false_iff.mpr hno
  rw [Dev.sendHeartbeat, harmed, hpair, Bool.or_false, Bool.and_false]
  rfl

/-- The next HEARTBEAT, counted (R466). -/
def Dev.beating (d : Dev) : Dev := ({ d with usy := { d.usy with hbCount := (d.usy.hbCount + 1) % 65536 } }).pulse 171

/-- The HEARTBEAT's frame (R466). -/
def Dev.heartbeat (d : Dev) : TxFrame := d.frame 5 (d.fld (Reg.fabPeer 16) 12 0) 0 d.heartbeatPayload

theorem Dev.sendHeartbeat_of_up (hup : d.portUp 16 = true) (hpair : d.armed = true ∨ (d.bit Reg.usyCtrl 0 = true ∧ d.usy.loaded = true)) :
    d.sendHeartbeat = d.beating.transmit 16 d.heartbeat 0 false := by
  have hgo : (d.armed || (d.bit Reg.usyCtrl 0 && d.usy.loaded)) = true := by simpa using hpair
  rw [Dev.sendHeartbeat, hup, hgo]
  refine (if_pos rfl).trans ?_
  exact if_pos hup

/-- What a HEARTBEAT sent leaves (R466). -/
theorem Dev.sendHeartbeat_spec (hup : d.portUp 16 = true) (hpair : d.armed = true ∨ (d.bit Reg.usyCtrl 0 = true ∧ d.usy.loaded = true)) :
    d.sendHeartbeat.usy = { d.usy with hbCount := (d.usy.hbCount + 1) % 65536 } ∧
    (∃ st h bs c, d.sendHeartbeat.outbox = d.outbox ++ [.frame 16 st h bs c] ∧ st.extractLsb' 8 4 = 5 ∧ bs.length = 32 ∧
      c.toNat = frameCrc st h bs) := by
  obtain ⟨st, h, c, hout, htype, hcrc⟩ := d.heartbeat.out_eq 16 0 (d.beating.port 16).expect false
  rw [d.sendHeartbeat_of_up hup hpair]
  exact ⟨rfl, st, h, _, c, congrArg (d.outbox ++ [·]) hout, htype, length_padTo 32 _, hcrc⟩

/-- A HEARTBEAT counts itself, and changes nothing else of the Understudy (R466). -/
theorem Dev.usy_sendHeartbeat : ∃ n, d.sendHeartbeat.usy = { d.usy with hbCount := n } := by
  rw [Dev.sendHeartbeat]
  split
  · exact ⟨_, (Dev.within_sendPlain _ 16 _).part .usy (by decide)⟩
  · exact ⟨_, rfl⟩

theorem Dev.within_sendHeartbeat_usy : d.Within [.usy, .wide, .outbox] d.sendHeartbeat :=
  (Dev.Within.ite (((d.within_usy _).trans (Dev.within_pulse _ 171)).trans (Dev.within_sendPlain _ 16 _)) d.within_refl).mono (by decide)

/-! ### States of the Understudy -/

variable {st : Nat}

theorem Dev.enterUsy_of_other (h : d.usyState ≠ st) : d.enterUsy st = (d.setFld Reg.usyStatus 2 0 st).sendHeartbeat := if_neg h

theorem Dev.usyState_enterUsy (h : st < 8) : (d.enterUsy st).usyState = st := by
  by_cases heq : d.usyState = st
  · rw [Dev.enterUsy, if_pos heq, heq]
  · rw [d.enterUsy_of_other heq, Dev.usyState,
      Dev.fld_congr (Dev.reg_congr ((Dev.within_sendHeartbeat_usy _).part .regs (by decide)) Reg.usyStatus) 2 0,
      Dev.fld_setFld_same _ _ _ (by decide)]
    exact Nat.mod_eq_of_lt h

theorem Dev.usy_enterUsy : ∃ n, (d.enterUsy st).usy = { d.usy with hbCount := n } := by
  rw [Dev.enterUsy]
  split
  · exact ⟨_, rfl⟩
  · exact Dev.usy_sendHeartbeat _

theorem Dev.within_enterUsy_usy (st : Nat) : d.Within [.regs, .usy, .wide, .outbox] (d.enterUsy st) :=
  (d.within_refl.ite ((d.within_setFld _ 2 0 st).trans (Dev.within_sendHeartbeat_usy _))).mono (by decide)

/-- A new state of an armed module is told its twin (R466). -/
theorem Dev.enterUsy_tells (harmed : d.armed = true) (hup : d.portUp 16 = true) (h : d.usyState ≠ st) :
    ∃ start hdr bs c, (d.enterUsy st).outbox = d.outbox ++ [.frame 16 start hdr bs c] ∧ start.extractLsb' 8 4 = 5 := by
  have hport : (d.setFld Reg.usyStatus 2 0 st).portUp 16 = true :=
    (Dev.portUp_congr (d.regsWithin_setFld Reg.usyStatus 2 0 st _ (by decide))).trans hup
  have harm : (d.setFld Reg.usyStatus 2 0 st).armed = true := by
    rw [Dev.armed, Dev.bit_setFld _ _ _ _ (by decide), if_neg (by decide)]
    exact harmed
  obtain ⟨-, start, hdr, bs, c, hout, htype, -⟩ := Dev.sendHeartbeat_spec _ hport (.inl harm)
  exact ⟨start, hdr, bs, c, by rw [d.enterUsy_of_other h, hout]; rfl, htype⟩

end

/-! ### Heartbeats received -/

section
variable {d : Dev}

theorem Dev.tryPair_of_tried (h : d.usy.loaded = false ∨ d.usy.tried = true) : d.tryPair = d := by
  rw [Dev.tryPair]
  refine if_pos ?_
  rcases h with h | h <;> rw [h] <;> simp

/-- A HEARTBEAT of a twin that neither fails nor is drained, once the pairing has been tried (R457, R466). -/
theorem Dev.takeHeartbeat_of_tried (i : Ident) (b : List Byte) (h : d.usy.loaded = false ∨ d.usy.tried = true)
    (h2 : bits (field b 0 1) 0 3 ≠ 2) (h3 : bits (field b 0 1) 0 3 ≠ 3) : d.takeHeartbeat i b =
      { (((d.pulse 170).setReg Reg.usyTwinSeq (BitVec.ofNat 32 (field b 4 4))).setReg Reg.usyTwinCkpt
          (BitVec.ofNat 32 (field b 8 4))).setReg Reg.usyHbLast d.ns with usy := { d.usy with peerState := bits (field b 0 1) 0 3 } } := by
  rw [Dev.takeHeartbeat, Dev.tryPair_of_tried (by exact h), if_neg (by omega)]
  rfl

end

section
variable {s : State} (hon : On s)
include hon

theorem does_heartbeat (p : Fin 17) {f : Frame} (htype : frameType f = 5) : Does (.heartbeat p f) s
    (if p.val = 16 then s.dev.receivePlain 16 f (fun d => d.takeHeartbeat s.ident f.payload) else s.dev.refusePlain p.val f) :=
  does_onDev hon (f := fun i d => if frameType f ≠ 5 then d
    else if p.val = 16 then d.receivePlain 16 f (fun d => d.takeHeartbeat i f.payload) else d.refusePlain p.val f) rfl
    (if_neg (not_not.mpr htype))

/-- A HEARTBEAT from the twin is noted (R457, R466). -/
theorem runs_heartbeat {f : Frame} (htype : frameType f = 5) (h : Arrives s 16 f)
    (htried : (received s 16 f).usy.loaded = false ∨ (received s 16 f).usy.tried = true)
    (h2 : bits (field f.payload 0 1) 0 3 ≠ 2) (h3 : bits (field f.payload 0 1) 0 3 ≠ 3) : Runs (.heartbeat 16 f) s (fun t =>
      t.dev.reg Reg.usyTwinSeq = BitVec.ofNat 32 (field f.payload 4 4) ∧ t.dev.reg Reg.usyTwinCkpt = BitVec.ofNat 32 (field f.payload 8 4) ∧
      t.dev.reg Reg.usyHbLast = (received s 16 f).ns ∧
      t.dev.usy = { (received s 16 f).usy with peerState := bits (field f.payload 0 1) 0 3 }) := by
  have hdoes := does_heartbeat hon 16 htype
  rw [if_pos (show (16 : Fin 17).val = 16 from rfl)] at hdoes
  rw [show s.dev.receivePlain 16 f (fun d => d.takeHeartbeat s.ident f.payload) = _ from Dev.receivePlain_of_arrives h _] at hdoes
  generalize received s 16 f = d at hdoes htried ⊢
  rw [Dev.takeHeartbeat_of_tried s.ident f.payload htried h2 h3] at hdoes
  have hlast : ((((d.pulse 170).setReg Reg.usyTwinSeq (BitVec.ofNat 32 (field f.payload 4 4))).setReg Reg.usyTwinCkpt
      (BitVec.ofNat 32 (field f.payload 8 4))).setReg Reg.usyHbLast d.ns).reg Reg.usyHbLast = d.ns := by rw [Dev.reg_setReg_same]
  have hckpt : ((((d.pulse 170).setReg Reg.usyTwinSeq (BitVec.ofNat 32 (field f.payload 4 4))).setReg Reg.usyTwinCkpt
      (BitVec.ofNat 32 (field f.payload 8 4))).setReg Reg.usyHbLast d.ns).reg Reg.usyTwinCkpt = BitVec.ofNat 32 (field f.payload 8 4) := by
    rw [Dev.reg_setReg_other _ _ (by decide), Dev.reg_setReg_same]
  have hseq : ((((d.pulse 170).setReg Reg.usyTwinSeq (BitVec.ofNat 32 (field f.payload 4 4))).setReg Reg.usyTwinCkpt
      (BitVec.ofNat 32 (field f.payload 8 4))).setReg Reg.usyHbLast d.ns).reg Reg.usyTwinSeq = BitVec.ofNat 32 (field f.payload 4 4) := by
    rw [Dev.reg_setReg_other _ _ (by decide), Dev.reg_setReg_other _ _ (by decide), Dev.reg_setReg_same]
  generalize (((d.pulse 170).setReg Reg.usyTwinSeq (BitVec.ofNat 32 (field f.payload 4 4))).setReg Reg.usyTwinCkpt
      (BitVec.ofNat 32 (field f.payload 8 4))).setReg Reg.usyHbLast d.ns = e at hdoes hlast hckpt hseq
  exact ⟨_, hdoes, hseq, hckpt, hlast, rfl⟩

/-! ### The rows -/

theorem does_heartbeatSend (hpend : s.dev.pend = []) : Does .heartbeatSend s s.dev.sendHeartbeat := by
  refine does_onDev hon (f := fun _ d => (d.applyPend (fun b => b == .usy)).sendHeartbeat) rfl ?_
  rw [Dev.applyPend_of_none hpend]

theorem runs_heartbeatSend (hpend : s.dev.pend = []) (hup : s.dev.portUp 16 = true)
    (hpair : s.dev.armed = true ∨ (s.dev.bit Reg.usyCtrl 0 = true ∧ s.dev.usy.loaded = true)) : Runs .heartbeatSend s (fun t =>
      t.dev.usy = { s.dev.usy with hbCount := (s.dev.usy.hbCount + 1) % 65536 } ∧
      (∃ st h bs c, t.dev.outbox = s.dev.outbox ++ [.frame 16 st h bs c] ∧ st.extractLsb' 8 4 = 5 ∧ bs.length = 32 ∧
        c.toNat = frameCrc st h bs) ∧ Keeps [.usy, .wide, .outbox] s t) := by
  have hdoes := does_heartbeatSend hon hpend
  have hwithin := s.dev.within_sendHeartbeat_usy
  obtain ⟨husy, hout⟩ := s.dev.sendHeartbeat_spec hup hpair
  generalize s.dev.sendHeartbeat = e at hdoes hwithin husy hout
  exact ⟨_, hdoes, husy, hout, hwithin.keeps⟩

theorem does_heartbeatTimeout (harmed : s.dev.armed = true) :
    Does .heartbeatTimeout s (((s.dev.count Reg.usyHbMissed).raise 70).requestTakeover s.ident) :=
  does_onDev hon (f := fun i d => if d.armed then ((d.count Reg.usyHbMissed).raise 70).requestTakeover i else d) rfl (if_pos harmed)

/-- Heartbeats missed are counted and told; without automatic takeover nothing is requested (R468). -/
theorem runs_heartbeatTimeout (harmed : s.dev.armed = true) (hmanual : s.dev.bit Reg.usyCtrl 13 = false) :
    Runs .heartbeatTimeout s (fun t => Raised 70 s t ∧
      t.dev.reg Reg.usyHbMissed = BitVec.ofNat 32 (min ((s.dev.reg Reg.usyHbMissed).toNat + 1) 0xFFFFFFFF) ∧
      KeepsRegs [Reg.usyHbMissed] s t ∧ Keeps (.regs :: raising) s t) := by
  have hdoes := does_heartbeatTimeout hon harmed
  have hregs := s.dev.regsWithin_count Reg.usyHbMissed
  have hcount := s.dev.reg_count_same Reg.usyHbMissed
  have hwithin := s.dev.within_count Reg.usyHbMissed
  generalize s.dev.count Reg.usyHbMissed = e at hdoes hregs hcount hwithin
  have hnone : ((e.raise 70).requestTakeover s.ident) = e.raise 70 := by
    have hbit : (e.raise 70).bit Reg.usyCtrl 13 = false :=
      (Dev.bit_congr ((Dev.regsWithin_raise e 70 _ (by decide)).trans (hregs _ (by decide))) 13).trans hmanual
    rw [Dev.requestTakeover, hbit, Bool.not_false, Bool.or_true]
    rfl
  rw [hnone] at hdoes
  exact ⟨_, hdoes, raised_raise (hwithin.part .arrivals (by decide)) 70, (Dev.regsWithin_raise e 70 _ (by decide)).trans hcount,
    ((hregs.trans (Dev.regsWithin_raise e 70)).mono (by decide)).keepsRegs, ((hwithin.trans (e.within_raise 70)).mono (by decide)).keeps⟩

theorem does_pairingWaitExpiry : Does .pairingWaitExpiry s
    (if s.dev.bit Reg.usyCtrl 0 && !s.dev.armed then { s.dev with usy := { s.dev.usy with waited := true } } else s.dev) :=
  does_onDev hon (f := fun _ d => if d.bit Reg.usyCtrl 0 && !d.armed then { d with usy := { d.usy with waited := true } } else d) rfl rfl

omit hon in
theorem exec_takeoverReqResend : exec .takeoverReqResend s = execTakeoverReqResend s := rfl

omit hon in
theorem exec_takeoverSelfGrant : exec .takeoverSelfGrant s = execTakeoverSelfGrant s := rfl

theorem does_takeoverRows_none (h : s.dev.usy.request = none) :
    Does .takeoverReqResend s s.dev ∧ Does .takeoverSelfGrant s s.dev := by
  refine ⟨?_, ?_⟩ <;> rw [Does]
  · rw [exec_takeoverReqResend, execTakeoverReqResend, onDev_on hon, h]
  · rw [exec_takeoverSelfGrant, execTakeoverSelfGrant, onDev_on hon, h]

theorem does_takeoverRows {x : Nat} (h : s.dev.usy.request = some x) : Does .takeoverReqResend s (s.dev.sendRequest s.ident x) ∧
    Does .takeoverSelfGrant s (if x = s.dev.leadIndex then s.dev.grantTakeover s.ident s.dev.index x else s.dev) := by
  refine ⟨?_, ?_⟩ <;> rw [Does]
  · rw [exec_takeoverReqResend, execTakeoverReqResend, onDev_on hon, h]
  · rw [exec_takeoverSelfGrant, execTakeoverSelfGrant, onDev_on hon, h]

theorem does_usyDrain (m : Master) : Does (.usyDrain m) s s.dev.drainAsked := does_onDev hon (f := fun _ d => d.drainAsked) rfl rfl

theorem does_usyFail (m : Master) : Does (.usyFail m) s s.dev.enterFailing := does_onDev hon (f := fun _ d => d.enterFailing) rfl rfl

theorem does_drainAcknowledged : Does .drainAcknowledged s s.dev.drainDone := does_onDev hon (f := fun _ d => d.drainDone) rfl rfl

end

section
variable {d : Dev}

/-- A drain that is asked for is ignored unless the pair is armed and the module runs (R478). -/
theorem Dev.drainAsked_of_not (h : d.armed = false ∨ 1 < d.usyState) : d.drainAsked = d := by
  have hno : ¬(d.armed && decide (d.usyState ≤ 1)) = true := by
    rw [Bool.and_eq_true, decide_eq_true_eq]
    rintro ⟨harmed, hle⟩
    rcases h with h | h
    · exact absurd harmed (ne_true_of_eq_false h)
    · omega
  exact if_neg hno

theorem Dev.enterFailing_of_not (h : d.armed = false ∨ d.usyState = 2 ∨ d.usyState = 4) : d.enterFailing = d := by
  rw [Dev.enterFailing]
  refine if_neg ?_
  rcases h with h | h | h <;> rw [h] <;> simp

theorem Dev.enterFailing_of_armed (harmed : d.armed = true) (h2 : d.usyState ≠ 2) (h4 : d.usyState ≠ 4) :
    d.enterFailing = (d.enterUsy 2).raise 73 := by
  rw [Dev.enterFailing]
  exact if_pos (by simp [harmed, h2, h4])

/-- The drain is done once no commit waits (R478). -/
theorem Dev.drainDone_of_clear {n : Nat} (hdrain : d.usy.draining = some n) (hcommits : d.usy.commits = []) (hstate : d.usyState = 7) :
    d.drainDone = (d.enterUsy 3).raise 74 := by
  rw [Dev.drainDone, hdrain]
  dsimp only
  rw [hcommits]
  refine if_neg ?_
  change ¬(!d.usy.commits.isEmpty || d.usyState != 7) = true
  rw [hcommits, hstate]
  decide

end

section
variable {s : State} (hon : On s) (m : Master)
include hon

theorem runs_usyDrain (harmed : s.dev.armed = true) (hruns : s.dev.usyState ≤ 1) : Runs (.usyDrain m) s (fun t =>
    t.dev.usyState = 7 ∧ t.dev.usy = { s.dev.usy with hbCount := t.dev.usy.hbCount } ∧
    (s.dev.portUp 16 = true → ∃ st h bs c, t.dev.outbox = s.dev.outbox ++ [.frame 16 st h bs c] ∧ st.extractLsb' 8 4 = 5) ∧
    KeepsRegs [Reg.usyStatus] s t ∧ Keeps [.regs, .usy, .wide, .outbox] s t) := by
  have hdoes := does_usyDrain hon m
  rw [Dev.drainAsked, harmed, decide_eq_true hruns, Bool.and_self, if_pos rfl] at hdoes
  have hstate := s.dev.usyState_enterUsy (st := 7) (by decide)
  obtain ⟨n, husy⟩ := s.dev.usy_enterUsy (st := 7)
  have htells := fun h => s.dev.enterUsy_tells (st := 7) harmed h (by omega)
  have hregs := s.dev.regsWithin_enterUsy 7
  have hwithin := s.dev.within_enterUsy_usy 7
  generalize s.dev.enterUsy 7 = e at hdoes hstate husy htells hregs hwithin
  exact ⟨_, hdoes, hstate, by rw [husy], htells, hregs.keepsRegs, hwithin.keeps⟩

omit hon in
/-- A module that enters a state of no return, told by source `src` (R467, R478). -/
theorem runs_enteredUsy {c : Instr} {st src : Nat} (hst : st < 8) (hdoes : Does c s ((s.dev.enterUsy st).raise src)) : Runs c s (fun t =>
    t.dev.usyState = st ∧ Raised src s t ∧ t.dev.usy = { s.dev.usy with hbCount := t.dev.usy.hbCount } ∧
    KeepsRegs [Reg.usyStatus] s t ∧ Keeps (.regs :: .usy :: .wide :: raising) s t) := by
  have hstate := s.dev.usyState_enterUsy hst
  obtain ⟨n, husy⟩ := s.dev.usy_enterUsy (st := st)
  have hregs := s.dev.regsWithin_enterUsy st
  have hwithin := s.dev.within_enterUsy_usy st
  generalize s.dev.enterUsy st = e at hdoes hstate husy hregs hwithin
  have hraise := e.within_raise src
  have hreg := Dev.regsWithin_raise e src
  have hraised := raised_raise (s := s) (hwithin.part .arrivals (by decide)) src
  generalize e.raise src = x at hdoes hraise hreg hraised
  have husy' : x.usy = { s.dev.usy with hbCount := n } := (hraise.part .usy (by decide)).trans husy
  refine ⟨_, hdoes, (Dev.fld_congr (hreg _ (by decide)) 2 0).trans hstate, hraised, ?_, ((hregs.trans hreg).mono (by decide)).keepsRegs,
    ((hwithin.trans hraise).mono (by decide)).keeps⟩
  rw [husy']

/-- The drain's end with no link to the twin (R478). -/
theorem runs_drainAcknowledged {n : Nat} (hdrain : s.dev.usy.draining = some n) (hcommits : s.dev.usy.commits = [])
    (hstate : s.dev.usyState = 7) (hdown : s.dev.portUp 16 = false) : Runs .drainAcknowledged s (fun t =>
      t.dev.usyState = 3 ∧ Raised 74 s t ∧ KeepsRegs [Reg.usyStatus] s t ∧ Keeps (.regs :: raising) s t) := by
  have hdoes := does_drainAcknowledged hon
  rw [Dev.drainDone_of_clear hdrain hcommits hstate] at hdoes
  have hsilent : (s.dev.setFld Reg.usyStatus 2 0 3).portUp 16 = false :=
    (Dev.portUp_congr (s.dev.regsWithin_setFld Reg.usyStatus 2 0 3 _ (by decide))).trans hdown
  have henter : s.dev.enterUsy 3 = s.dev.setFld Reg.usyStatus 2 0 3 := by
    rw [s.dev.enterUsy_of_other (by omega), Dev.sendHeartbeat_of_down _ hsilent]
  have hwithin : s.dev.Within [.regs] (s.dev.enterUsy 3) := henter ▸ s.dev.within_setFld _ _ _ _
  obtain ⟨t, ht, hthree, hraised, -, hregs, -⟩ := runs_enteredUsy (by decide) hdoes
  refine ⟨t, ht, hthree, hraised, hregs, ?_⟩
  have hnext : t = { s with dev := (s.dev.enterUsy 3).raise 74 } := Host.Outcome.next.inj (ht.symm.trans hdoes)
  rw [hnext]
  exact ((hwithin.trans (Dev.within_raise _ 74)).mono (by decide)).keeps

end

/-- Settles O57. -/
theorem understudyPair : Obligations.UnderstudyPair := by
  unfold Obligations.UnderstudyPair
  intro s m hon d
  refine ⟨fun f htype h => ?_, fun p f htype hp h => ?_, fun hpend hdown => runs_same ?_, fun hpend harmed hno => runs_same ?_,
    fun hpend hup hpair => runs_heartbeatSend hon hpend hup hpair, fun harmed => runs_same ?_, does_heartbeatTimeout hon,
    runs_heartbeatTimeout hon, fun h => ?_, fun h => runs_same ?_, fun h => ?_, fun x h => ?_, runs_usyDrain hon m,
    fun h => runs_same ?_, fun harmed h2 h4 => ?_, fun h => runs_same ?_, fun h => runs_same ?_,
    fun n hdrain hcommits hstate hdown => runs_drainAcknowledged hon hdrain hcommits hstate hdown⟩
  · intro r st
    refine ⟨?_, runs_heartbeat hon htype h⟩
    have hdoes := does_heartbeat hon 16 htype
    rw [if_pos (show (16 : Fin 17).val = 16 from rfl)] at hdoes
    rwa [show s.dev.receivePlain 16 f (fun d => d.takeHeartbeat s.ident f.payload) = _ from Dev.receivePlain_of_arrives h _] at hdoes
  · have hdoes := does_heartbeat hon p htype
    rwa [if_neg (fun hv : p.val = 16 => hp (Fin.ext hv)), Dev.refusePlain_of_arrives h] at hdoes
  · have hdoes := does_heartbeatSend hon hpend
    rwa [s.dev.sendHeartbeat_of_down hdown] at hdoes
  · have hdoes := does_heartbeatSend hon hpend
    rwa [s.dev.sendHeartbeat_of_unpaired harmed hno] at hdoes
  · exact does_onDev hon (f := fun i d => if d.armed then ((d.count Reg.usyHbMissed).raise 70).requestTakeover i else d) rfl
      (if_neg (ne_true_of_eq_false harmed))
  · have hdoes := does_pairingWaitExpiry hon
    rw [show s.dev.bit Reg.usyCtrl 0 = true from h.1, show s.dev.armed = false from h.2] at hdoes
    exact ⟨_, hdoes, rfl, (s.dev.within_usy _).keeps⟩
  · have hdoes := does_pairingWaitExpiry hon
    rwa [if_neg (by rcases h with h | h <;> rw [h] <;> simp)] at hdoes
  · obtain ⟨hresend, hself⟩ := does_takeoverRows_none hon h
    exact ⟨runs_same hresend, runs_same hself⟩
  · obtain ⟨hresend, hself⟩ := does_takeoverRows hon h
    refine ⟨fun hlead => ?_, fun hlead => ?_, fun hx => ?_, fun hx => runs_same ?_⟩
    · rwa [Dev.sendRequest, hlead] at hresend
    · rwa [Dev.sendRequest, hlead] at hresend
    · rwa [if_pos hx] at hself
    · rwa [if_neg hx] at hself
  · have hdoes := does_usyDrain hon m
    rwa [Dev.drainAsked_of_not h] at hdoes
  · have hdoes := does_usyFail hon m
    rw [Dev.enterFailing_of_armed harmed h2 h4] at hdoes
    exact runs_enteredUsy (by decide) hdoes
  · have hdoes := does_usyFail hon m
    rwa [Dev.enterFailing_of_not h] at hdoes
  · have hdoes := does_drainAcknowledged hon
    rwa [Dev.drainDone, h] at hdoes

end Sys2Proof.Machine
end

section
/-! What takes a port out of UP or ends a training attempt (R359, R362, R363, R369, R371, R376, R377): O53. -/
namespace Sys2Proof.Machine

/-! ### The registers of a port -/

/-- The tap registers of port `p` (R364). -/
def fabTaps (p : Nat) : List Nat := (List.range 4).map (Reg.fabTap p)

theorem not_mem_fabTaps {p x : Nat} (h : x < 0x1000010 + 0x10000 * p ∨ 0x1000020 + 0x10000 * p ≤ x) : x ∉ fabTaps p := by
  simp only [fabTaps, List.mem_map, List.mem_range, not_exists, not_and, Reg.fabTap]
  omega

theorem fabStatus_notMem_fabTaps (p : Nat) : Reg.fabStatus p ∉ fabTaps p := not_mem_fabTaps (by rw [Reg.fabStatus]; omega)

theorem fabTap_injective (p i j : Nat) (h : Reg.fabTap p i = Reg.fabTap p j) : i = j := by
  simp only [Reg.fabTap] at h
  omega

/-! ### Into CLOCK -/

/-- Port `p` has entered CLOCK (Table 12-4): preset taps, no precoding, lanes to be trained again. -/
structure Dev.Clocked (d e : Dev) (p : Nat) : Prop where
  state : e.portState p = 1
  kept : ∀ i, 3 ≤ i → i < 13 ∨ 15 < i → e.bit (Reg.fabStatus p) i = d.bit (Reg.fabStatus p) i
  reason : e.fld (Reg.fabStatus p) 6 3 = d.fld (Reg.fabStatus p) 6 3
  taps : ∀ l, l < 4 → e.reg (Reg.fabTap p l) = regReset (Reg.fabTap p l)
  regs : d.RegsWithin (Reg.fabStatus p :: fabTaps p) e
  port : e.port p = { d.port p with retry := false, lanes := Port.reset.lanes }
  ports : ∀ k, k ≠ p → e.port k = d.port k
  within : d.Within [.regs, .fab] e

section
variable (d : Dev) (p : Nat)

/-- The taps at their preset (R364). -/
def Dev.tapsPreset : Dev := (List.range 4).foldl (fun d l => d.setReg (Reg.fabTap p l) (regReset (Reg.fabTap p l))) d

/-- FAB_STATUSp in CLOCK (Table 12-13). -/
def Dev.clockShown : Dev := (d.setFld (Reg.fabStatus p) 2 0 1).setFld (Reg.fabStatus p) 15 13 0

theorem Dev.enterClock_eq : d.enterClock p = ((d.tapsPreset p).clockShown p).setPort p
    { ((d.tapsPreset p).clockShown p).port p with retry := false, lanes := Port.reset.lanes } := rfl

theorem Dev.within_tapsPreset : d.Within [.regs] (d.tapsPreset p) := Dev.within_foldl (fun d _ => d.within_setReg _ _) _ d

theorem Dev.regsWithin_tapsPreset : d.RegsWithin (fabTaps p) (d.tapsPreset p) := Dev.regsWithin_foldl_setReg (Reg.fabTap p) _ (List.range 4) d

theorem Dev.within_clockShown : d.Within [.regs] (d.clockShown p) :=
  ((d.within_setFld _ _ _ _).trans (Dev.within_setFld _ _ _ _ _)).mono (by decide)

theorem Dev.regsWithin_clockShown : d.RegsWithin [Reg.fabStatus p] (d.clockShown p) :=
  ((d.regsWithin_setFld _ _ _ _).trans (Dev.regsWithin_setFld _ _ _ _ _)).mono (by simp)

theorem Dev.clocked_enterClock : d.Clocked (d.enterClock p) p := by
  have hpreset : ∀ l, l < 4 → (d.tapsPreset p).reg (Reg.fabTap p l) = regReset (Reg.fabTap p l) := fun l hl => by
    rw [Dev.tapsPreset, Dev.reg_foldl_setReg (Reg.fabTap p) (fabTap_injective p) (fun l => regReset (Reg.fabTap p l)),
      if_pos (List.mem_range.mpr hl)]
  have hregs := d.regsWithin_tapsPreset p
  have hwithin := d.within_tapsPreset p
  have hsame : (d.tapsPreset p).reg (Reg.fabStatus p) = d.reg (Reg.fabStatus p) := hregs _ (fabStatus_notMem_fabTaps p)
  rw [Dev.enterClock_eq]
  generalize d.tapsPreset p = e at hpreset hregs hwithin hsame
  have hstate : (e.clockShown p).portState p = 1 := by
    rw [Dev.clockShown, Dev.portState, Dev.fld_setFld_apart _ _ _ (by decide) (by decide) (by decide), Dev.fld_setFld_same _ _ _ (by decide)]
    rfl
  have hreason : (e.clockShown p).fld (Reg.fabStatus p) 6 3 = e.fld (Reg.fabStatus p) 6 3 := by
    rw [Dev.clockShown, Dev.fld_setFld_apart _ _ _ (by decide) (by decide) (by decide),
      Dev.fld_setFld_apart _ _ _ (by decide) (by decide) (by decide)]
  have hkept (i : Nat) (hi : 3 ≤ i) (hj : i < 13 ∨ 15 < i) : (e.clockShown p).bit (Reg.fabStatus p) i = e.bit (Reg.fabStatus p) i := by
    rw [Dev.clockShown, Dev.bit_setFld _ _ _ _ (by decide), if_neg (by omega), Dev.bit_setFld _ _ _ _ (by decide), if_neg (by omega)]
  have hregs' := e.regsWithin_clockShown p
  have hwithin' := hwithin.trans (e.within_clockShown p)
  generalize e.clockShown p = c at hstate hreason hkept hregs' hwithin'
  have hport (k : Nat) : c.port k = d.port k := Dev.port_congr (hwithin'.part .fab (by decide)) k
  have hreg (off : Nat) : (c.setPort p { c.port p with retry := false, lanes := Port.reset.lanes }).reg off = c.reg off :=
    Dev.reg_congr (Dev.setPort_regs ..) off
  exact {
    state := (Dev.portState_congr (hreg _)).trans hstate
    kept := fun i hi hj => (Dev.bit_congr (hreg _) i).trans ((hkept i hi hj).trans (Dev.bit_congr hsame i))
    reason := (Dev.fld_congr (hreg _) 6 3).trans (hreason.trans (Dev.fld_congr hsame 6 3))
    taps := fun l hl => by
      rw [hreg, hregs' _ (by simp only [List.mem_singleton, Reg.fabTap, Reg.fabStatus]; omega), hpreset l hl]
    regs := fun off hoff => by
      rw [List.mem_cons, not_or] at hoff
      rw [hreg, hregs' _ (by simpa using hoff.1), hregs _ hoff.2]
    port := by rw [c.port_setPort_same, hport]
    ports := fun k hk => by rw [c.port_setPort, if_neg hk, hport]
    within := (hwithin'.trans (c.within_setPort p _)).mono (by decide) }

/-! ### Out of UP -/

/-- The port before it is noted that it left UP (R371). -/
def Dev.leaving (reason : Nat) : Dev := (d.setFld (Reg.fabStatus p) 6 3 reason).enterClock p

theorem Dev.leaveUp_eq (reason : Nat) : d.leaveUp p reason = (d.leaving p reason).flagRaise (Reg.fabStatus p) 16 (256 + 4 * p + 1) := rfl

theorem Dev.clocked_leaving (reason : Nat) : (d.setFld (Reg.fabStatus p) 6 3 reason).Clocked (d.leaving p reason) p :=
  Dev.clocked_enterClock _ p

/-- A status bit that leaving UP does not touch (R371). -/
theorem Dev.bit_leaveUp (reason : Nat) {i : Nat} (hi : 7 ≤ i) (hj : i < 13) :
    (d.leaveUp p reason).bit (Reg.fabStatus p) i = d.bit (Reg.fabStatus p) i := by
  rw [Dev.leaveUp_eq, Dev.flagRaise, Dev.bit_congr (Dev.regsWithin_raise _ _ _ List.not_mem_nil) i, Dev.bit_setBit_apart _ _ (by decide) (by omega),
    (d.clocked_leaving p reason).kept i (by omega) (by omega), Dev.bit_setFld _ _ _ _ (by decide), if_neg (by omega)]

theorem Dev.regsWithin_leaveUp (reason : Nat) : d.RegsWithin (Reg.fabStatus p :: fabTaps p) (d.leaveUp p reason) :=
  (((d.regsWithin_setFld _ 6 3 reason).trans (d.clocked_leaving p reason).regs).trans (Dev.regsWithin_flagRaise _ _ 16 _)).mono (by simp)

end

/-- What leaving UP leaves (R371). -/
theorem leftUp_leaveUp {s : State} {d : Dev} (harr : d.arrivals = s.dev.arrivals) (p : Nat) {reason : Nat} (hr : reason < 16) :
    LeftUp p reason s { s with dev := d.leaveUp p reason } := by
  have hclock := d.clocked_leaving p reason
  have hreason : (d.setFld (Reg.fabStatus p) 6 3 reason).fld (Reg.fabStatus p) 6 3 = reason :=
    (Dev.fld_setFld_same _ _ _ (by decide)).trans (Nat.mod_eq_of_lt hr)
  have harr' : (d.leaving p reason).arrivals = s.dev.arrivals :=
    (((d.within_setFld _ 6 3 reason).trans hclock.within).part .arrivals (by decide)).trans harr
  rw [Dev.leaveUp_eq]
  generalize d.setFld (Reg.fabStatus p) 6 3 reason = x at hclock hreason
  generalize d.leaving p reason = e at hclock harr'
  have hraised := raised_flagRaise harr' (Reg.fabStatus p) 16 (256 + 4 * p + 1)
  have hflag := e.bit_flagRaise_same (Reg.fabStatus p) (i := 16) (256 + 4 * p + 1) (by decide)
  have hfld (hi lo : Nat) (h : hi < 16) (hl : lo ≤ hi) : (e.flagRaise (Reg.fabStatus p) 16 (256 + 4 * p + 1)).fld (Reg.fabStatus p) hi lo =
      e.fld (Reg.fabStatus p) hi lo :=
    (Dev.fld_congr (Dev.regsWithin_raise _ _ _ List.not_mem_nil) hi lo).trans (Dev.fld_setFld_apart _ _ _ (by decide) (.inl h) hl)
  have hport := Dev.port_congr ((e.within_flagRaise (Reg.fabStatus p) 16 (256 + 4 * p + 1)).part .fab (by decide)) p
  generalize e.flagRaise (Reg.fabStatus p) 16 (256 + 4 * p + 1) = y at hraised hflag hfld hport
  exact ⟨(hfld 2 0 (by decide) (by decide)).trans hclock.state, (hfld 6 3 (by decide) (by decide)).trans (hclock.reason.trans hreason), hflag,
    hraised, by rw [show ({ s with dev := y } : State).dev.port p = _ from hport, hclock.port]⟩

/-! ### Failed attempts -/

section
variable (d : Dev) (p : Nat)

/-- A failed attempt, counted (R369). -/
def Dev.failCounted (reason : Nat) : Dev :=
  ((d.setFld (Reg.fabStatus p) 6 3 reason).count (Reg.fabTrains p)).setPort p
    { d.port p with fails := (d.port p).fails + 1, retry := decide ((d.port p).fails + 1 < 16) }

theorem Dev.trainFail_eq (reason : Nat) : d.trainFail p reason =
    if (d.port p).fails + 1 < 16 then d.failCounted p reason
    else (((d.failCounted p reason).setFld (Reg.fabStatus p) 2 0 7).discardHeld p).raise (256 + 4 * p + 1) := by
  have hport : ((d.setFld (Reg.fabStatus p) 6 3 reason).count (Reg.fabTrains p)).port p = d.port p :=
    Dev.port_congr (((d.within_setFld _ 6 3 reason).trans (Dev.within_count _ _)).part .fab (by decide)) p
  rw [Dev.trainFail, Dev.failCounted]
  dsimp only
  rw [hport]

theorem Dev.port_failCounted (reason : Nat) : (d.failCounted p reason).port p =
    { d.port p with fails := (d.port p).fails + 1, retry := decide ((d.port p).fails + 1 < 16) } := Dev.port_setPort_same ..

theorem Dev.within_failCounted (reason : Nat) : d.Within [.regs, .fab] (d.failCounted p reason) :=
  (((d.within_setFld _ 6 3 reason).trans (Dev.within_count _ _)).trans (Dev.within_setPort _ p _)).mono (by decide)

theorem fabTrains_ne_fabStatus : Reg.fabTrains p ≠ Reg.fabStatus p := by simp [Reg.fabTrains, Reg.fabStatus]

theorem Dev.reg_failCounted (reason : Nat) :
    (d.failCounted p reason).reg (Reg.fabTrains p) = BitVec.ofNat 32 (min ((d.reg (Reg.fabTrains p)).toNat + 1) 0xFFFFFFFF) ∧
    (d.failCounted p reason).reg (Reg.fabStatus p) = (d.setFld (Reg.fabStatus p) 6 3 reason).reg (Reg.fabStatus p) := by
  have hreg (off : Nat) : (d.failCounted p reason).reg off = ((d.setFld (Reg.fabStatus p) 6 3 reason).count (Reg.fabTrains p)).reg off :=
    Dev.reg_congr (Dev.setPort_regs ..) off
  refine ⟨?_, ?_⟩ <;> rw [hreg]
  · rw [Dev.reg_count_same, Dev.reg_setFld_other _ _ _ _ (fabTrains_ne_fabStatus p)]
  · rw [Dev.reg_count_other _ (fabTrains_ne_fabStatus p).symm]

theorem Dev.port_discardHeld : (d.discardHeld p).port p = { d.port p with held := [] } := Dev.port_setPort_same ..

theorem Dev.regsWithin_discardHeld : d.RegsWithin [Reg.fabDrop p] (d.discardHeld p) :=
  (((d.within_usy _).trans (Dev.within_setPort _ p _)).regsWithin (by decide)).trans (Dev.regsWithin_setReg _ _ _)

theorem Dev.within_discardHeld : d.Within [.usy, .fab, .regs] (d.discardHeld p) :=
  ((d.within_usy _).trans (Dev.within_setPort _ p _)).trans (Dev.within_addReg _ _ _)

end

/-- What a failed attempt leaves (R369, R377). -/
theorem failed_trainFail {s : State} {d : Dev} (h : s.dev.Within [.regs] d) {p reason : Nat}
    (hstate : d.portState p = s.dev.portState p) (htrains : d.reg (Reg.fabTrains p) = s.dev.reg (Reg.fabTrains p)) (hr : reason < 16) :
    Failed p reason s { s with dev := d.trainFail p reason } := by
  have hport : d.port p = s.dev.port p := Dev.port_congr (h.part .fab (by decide)) p
  obtain ⟨htrained, hstatus⟩ := d.reg_failCounted p reason
  have hreason : (d.failCounted p reason).fld (Reg.fabStatus p) 6 3 = reason := by
    rw [Dev.fld_congr hstatus, Dev.fld_setFld_same _ _ _ (by decide)]
    exact Nat.mod_eq_of_lt hr
  have hstays : (d.failCounted p reason).portState p = s.dev.portState p := by
    rw [Dev.portState_congr hstatus, Dev.portState, Dev.fld_setFld_apart _ _ _ (by decide) (by decide) (by decide)]
    exact hstate
  have hfail := d.port_failCounted p reason
  have hwithin := h.trans (d.within_failCounted p reason)
  rw [htrains] at htrained
  rw [hport] at hfail
  rw [Dev.trainFail_eq, hport]
  generalize d.failCounted p reason = e at hreason hstays hfail hwithin htrained
  by_cases hn : (s.dev.port p).fails + 1 < 16
  · rw [if_pos hn]
    rw [decide_eq_true hn] at hfail
    have hfails : (e.port p).fails = (s.dev.port p).fails + 1 := by rw [hfail]
    have hretry : (e.port p).retry = true := by rw [hfail]
    exact ⟨hreason, hfails, htrained, fun _ => ⟨hretry, hstays, (hwithin.mono (by decide)).keeps⟩, fun h => absurd hn (Nat.not_lt.mpr h)⟩
  · rw [if_neg hn]
    rw [decide_eq_false hn] at hfail
    have hdead : (e.setFld (Reg.fabStatus p) 2 0 7).portState p = 7 := Dev.fld_setFld_same _ _ _ (by decide)
    have hreason' : (e.setFld (Reg.fabStatus p) 2 0 7).fld (Reg.fabStatus p) 6 3 = reason :=
      (Dev.fld_setFld_apart _ _ _ (by decide) (by decide) (by decide)).trans hreason
    have htrained' := (e.reg_setFld_other 2 0 7 (fabTrains_ne_fabStatus p)).trans htrained
    have hwithin' := hwithin.trans (e.within_setFld (Reg.fabStatus p) 2 0 7)
    have hfail' : (e.setFld (Reg.fabStatus p) 2 0 7).port p = e.port p := Dev.port_congr (Dev.setFld_fab ..) p
    generalize e.setFld (Reg.fabStatus p) 2 0 7 = x at hdead hreason' htrained' hwithin' hfail'
    have hregs := (x.regsWithin_discardHeld p).trans (Dev.regsWithin_raise (x.discardHeld p) (256 + 4 * p + 1))
    have hraised := raised_raise ((hwithin'.trans (x.within_discardHeld p)).part .arrivals (by decide)) (256 + 4 * p + 1)
    have hheld := (Dev.port_congr ((Dev.within_raise (x.discardHeld p) (256 + 4 * p + 1)).part .fab (by decide)) p).trans (x.port_discardHeld p)
    generalize (x.discardHeld p).raise (256 + 4 * p + 1) = y at hregs hraised hheld
    rw [hfail', hfail] at hheld
    have hsame : y.reg (Reg.fabStatus p) = x.reg (Reg.fabStatus p) := hregs _ (by simp [Reg.fabStatus, Reg.fabDrop])
    have hcount : y.reg (Reg.fabTrains p) = x.reg (Reg.fabTrains p) := hregs _ (by simp [Reg.fabTrains, Reg.fabDrop])
    have hfails : (y.port p).fails = (s.dev.port p).fails + 1 := by rw [hheld]
    have hretry : (y.port p).retry = false := by rw [hheld]
    have hempty : (y.port p).held = [] := by rw [hheld]
    exact ⟨(Dev.fld_congr hsame 6 3).trans hreason', hfails, hcount.trans htrained', fun h => absurd h hn,
      fun _ => ⟨hretry, (Dev.portState_congr hsame).trans hdead, hempty, hraised⟩⟩

/-! ### Replays -/

section
variable (d : Dev) (p : Nat)

theorem Dev.outbox_foldl_transmit (hs : List (Nat × TxFrame)) : (hs.foldl (fun d h => d.transmit p h.2 h.1 false) d).outbox =
    d.outbox ++ hs.map (fun h => h.2.out p h.1 (d.port p).expect false) := by
  induction hs generalizing d with
  | nil => simp
  | cons h hs ih =>
    rw [List.foldl_cons, ih, Dev.outbox_transmit, List.map_cons, List.append_assoc, List.singleton_append]
    rfl

/-- A replay counted, and its frames sent again (R376). -/
def Dev.replayed : Dev :=
  (d.port p).held.foldl (fun d h => d.transmit p h.2 h.1 false) ((d.count (Reg.fabRetries p)).pulse (112 + 3 * p))

theorem Dev.within_replayed : d.Within [.regs, .outbox, .wide] (d.replayed p) :=
  (((d.within_count _).trans (Dev.within_pulse _ _)).trans
    (Dev.within_foldl (fun d (h : Nat × TxFrame) => d.within_transmit p h.2 h.1 false) _ _)).mono (by decide)

theorem Dev.regsWithin_replayed : d.RegsWithin [Reg.fabRetries p] (d.replayed p) :=
  (((d.regsWithin_count _).trans ((Dev.within_pulse _ _).regsWithin (by decide))).trans
    ((Dev.within_foldl (fun d (h : Nat × TxFrame) => d.within_transmit p h.2 h.1 false) _ _).regsWithin (by decide))).mono (by simp)

theorem Dev.reg_replayed : (d.replayed p).reg (Reg.fabRetries p) = BitVec.ofNat 32 (min ((d.reg (Reg.fabRetries p)).toNat + 1) 0xFFFFFFFF) := by
  have hsend := (((d.count (Reg.fabRetries p)).within_pulse (112 + 3 * p)).trans
    (Dev.within_foldl (fun d (h : Nat × TxFrame) => d.within_transmit p h.2 h.1 false) (d.port p).held _))
  exact (Dev.reg_congr (hsend.part .regs (by decide)) _).trans (Dev.reg_count_same ..)

theorem Dev.outbox_replayed : (d.replayed p).outbox =
    d.outbox ++ (d.port p).held.map (fun h => h.2.out p h.1 (d.port p).expect false) := Dev.outbox_foldl_transmit _ p _

/-- When the line is free again, from SEQ `a` (R376). -/
def Dev.replayLine (a : Nat) : Option (Nat × Nat) :=
  some (a, ((d.replayed p).time48 + lineTime ((d.port p).held.map Prod.snd)) % 2 ^ 48)

/-- The port as a replay from SEQ `a` leaves it (R376). -/
def Dev.replayNoted (a : Nat) : Dev :=
  (d.replayed p).setPort p { d.port p with replays := (d.port p).replays + 1, replaying := d.replayLine p a }

/-- A replay; the sixteenth without progress takes the port down (R376, R377). -/
theorem Dev.replayHeld_eq (h : (d.port p).held ≠ []) : ∃ a, d.replayHeld p =
    if 16 ≤ (d.port p).replays + 1 then
      ((d.replayNoted p a).setPort p { (d.replayNoted p a).port p with replays := 0 }).leaveUp p 8
    else d.replayNoted p a := by
  cases hheld : (d.port p).held with
  | nil => exact absurd hheld h
  | cons a hs =>
    refine ⟨a.1, ?_⟩
    rw [Dev.replayHeld, Dev.replayNoted, Dev.replayLine, Dev.replayed, hheld]
    dsimp only
    rw [hheld]

theorem Dev.replayHeld_of_none (h : (d.port p).held = []) : d.replayHeld p = d := by
  rw [Dev.replayHeld, h]

end

/-! ### The rows -/

/-- A port that trains (R369). -/
def Dev.Trains (d : Dev) (p : Nat) : Prop := 2 ≤ d.portState p ∧ d.portState p ≤ 5 ∧ (d.port p).retry = false

theorem Dev.trains_iff (d : Dev) (p : Nat) :
    (decide (2 ≤ d.portState p) && decide (d.portState p ≤ 5) && !(d.port p).retry) = true ↔ d.Trains p := by
  rw [Dev.Trains]
  simp [and_assoc]

/-- The loss noted in the port's status (R359). -/
def lossBit (lol : Bool) : Nat := if lol then 8 else 7

section
variable (d : Dev) (p : Nat) (lol : Bool)

/-- A loss noted (R359). -/
def Dev.lossNoted : Dev := d.setBit (Reg.fabStatus p) (lossBit lol)

theorem Dev.losSeen_eq : d.losSeen p lol =
    if (d.lossNoted p lol).portState p = 6 then (d.lossNoted p lol).leaveUp p 9
    else if (decide (2 ≤ (d.lossNoted p lol).portState p) && decide ((d.lossNoted p lol).portState p ≤ 5) &&
        !((d.lossNoted p lol).port p).retry) = true then (d.lossNoted p lol).trainFail p 9
    else d.lossNoted p lol := rfl

/-- A status bit that a failed attempt does not touch (R369). -/
theorem Dev.bit_trainFail (reason : Nat) {i : Nat} (hi : 7 ≤ i) : (d.trainFail p reason).bit (Reg.fabStatus p) i = d.bit (Reg.fabStatus p) i := by
  have hcounted : (d.failCounted p reason).bit (Reg.fabStatus p) i = d.bit (Reg.fabStatus p) i := by
    rw [Dev.bit_congr (d.reg_failCounted p reason).2, Dev.bit_setFld _ _ _ _ (by decide), if_neg (by omega)]
  rw [Dev.trainFail_eq]
  split
  · exact hcounted
  · have hregs := (Dev.regsWithin_discardHeld ((d.failCounted p reason).setFld (Reg.fabStatus p) 2 0 7) p).trans
      (Dev.regsWithin_raise _ (256 + 4 * p + 1))
    rw [Dev.bit_congr (hregs _ (by simp [Reg.fabStatus, Reg.fabDrop])), Dev.bit_setFld _ _ _ _ (by decide), if_neg (by omega), hcounted]

end

section
variable {s : State} (hon : On s) (p : Fin 17)
include hon

/-- A loss of signal or of lock, as the port's state meets it (R359, R371). -/
theorem runs_los (lol : Bool) :
    (s.dev.portState p.val = 6 → Runs (.los p lol) s (fun t => LeftUp p.val 9 s t ∧ t.dev.bit (Reg.fabStatus p.val) (lossBit lol) = true)) ∧
    (s.dev.Trains p.val → Runs (.los p lol) s (fun t => Failed p.val 9 s t ∧ t.dev.bit (Reg.fabStatus p.val) (lossBit lol) = true)) ∧
    (s.dev.portState p.val ≠ 6 → ¬s.dev.Trains p.val → Runs (.los p lol) s (fun t =>
      t.dev.bit (Reg.fabStatus p.val) (lossBit lol) = true ∧ KeepsRegs [Reg.fabStatus p.val] s t ∧ Keeps [.regs] s t)) := by
  have hi : 7 ≤ lossBit lol ∧ lossBit lol < 9 := by cases lol <;> decide
  have hdoes : Does (.los p lol) s (s.dev.losSeen p.val lol) := does_onDev hon (f := fun _ d => d.losSeen p.val lol) rfl rfl
  rw [s.dev.losSeen_eq p.val lol] at hdoes
  have hset : (s.dev.lossNoted p.val lol).bit (Reg.fabStatus p.val) (lossBit lol) = true := s.dev.bit_setBit_same _ (by omega)
  have hstate : (s.dev.lossNoted p.val lol).portState p.val = s.dev.portState p.val :=
    Dev.fld_setFld_apart _ _ _ (by omega) (by omega) (by decide)
  have hwithin : s.dev.Within [.regs] (s.dev.lossNoted p.val lol) := s.dev.within_setBit _ _
  have hregs : s.dev.RegsWithin [Reg.fabStatus p.val] (s.dev.lossNoted p.val lol) := s.dev.regsWithin_setBit _ _
  generalize s.dev.lossNoted p.val lol = d at hdoes hset hstate hwithin hregs
  rw [hstate, Dev.port_congr (hwithin.part .fab (by decide))] at hdoes
  refine ⟨fun h6 => ?_, fun htrains => ?_, fun h6 htrains => ?_⟩
  · rw [if_pos h6] at hdoes
    have hleft := leftUp_leaveUp (hwithin.part .arrivals (by decide)) p.val (reason := 9) (by decide)
    have hbit := (d.bit_leaveUp p.val 9 hi.1 (by omega)).trans hset
    generalize d.leaveUp p.val 9 = e at hdoes hleft hbit
    exact ⟨_, hdoes, hleft, hbit⟩
  · have h6 : s.dev.portState p.val ≠ 6 := Nat.ne_of_lt (Nat.lt_succ_of_le htrains.2.1)
    rw [if_neg h6, if_pos ((s.dev.trains_iff p.val).mpr htrains)] at hdoes
    have hfailed := failed_trainFail hwithin hstate (hregs _ (by simp [Reg.fabTrains, Reg.fabStatus])) (reason := 9) (by decide)
    have hbit := (d.bit_trainFail p.val 9 hi.1).trans hset
    generalize d.trainFail p.val 9 = e at hdoes hfailed hbit
    exact ⟨_, hdoes, hfailed, hbit⟩
  · rw [if_neg h6, if_neg (mt (s.dev.trains_iff p.val).mp htrains)] at hdoes
    exact ⟨_, hdoes, hset, hregs.keepsRegs, hwithin.keeps⟩

/-- A lane's lock lost (R362). -/
theorem runs_laneLockLoss (l : Fin 4) :
    (s.dev.bit (Reg.fabStatus p.val) (9 + l.val) = false → Runs (.laneLockLoss p l) s (fun t => t = s)) ∧
    (s.dev.bit (Reg.fabStatus p.val) (9 + l.val) = true → Runs (.laneLockLoss p l) s (fun t =>
      t.dev.bit (Reg.fabStatus p.val) (9 + l.val) = false ∧
      t.dev.reg (Reg.fabLockLoss p.val) = BitVec.ofNat 32 (min ((s.dev.reg (Reg.fabLockLoss p.val)).toNat + 1) 0xFFFFFFFF) ∧
      (s.dev.portState p.val = 6 → LeftUp p.val 10 s t) ∧
      (s.dev.portState p.val ≠ 6 → KeepsRegs [Reg.fabStatus p.val, Reg.fabLockLoss p.val] s t ∧ Keeps [.regs] s t))) := by
  have hl := l.isLt
  have hdoes : Does (.laneLockLoss p l) s (if s.dev.bit (Reg.fabStatus p.val) (9 + l.val) then
      (if ((s.dev.clrBit (Reg.fabStatus p.val) (9 + l.val)).count (Reg.fabLockLoss p.val)).portUp p.val then
        ((s.dev.clrBit (Reg.fabStatus p.val) (9 + l.val)).count (Reg.fabLockLoss p.val)).leaveUp p.val 10
      else (s.dev.clrBit (Reg.fabStatus p.val) (9 + l.val)).count (Reg.fabLockLoss p.val)) else s.dev) :=
    does_onDev hon (f := fun _ d => if d.bit (Reg.fabStatus p.val) (9 + l.val) then
      (if ((d.clrBit (Reg.fabStatus p.val) (9 + l.val)).count (Reg.fabLockLoss p.val)).portUp p.val then
        ((d.clrBit (Reg.fabStatus p.val) (9 + l.val)).count (Reg.fabLockLoss p.val)).leaveUp p.val 10
      else (d.clrBit (Reg.fabStatus p.val) (9 + l.val)).count (Reg.fabLockLoss p.val)) else d) rfl rfl
  have hne : Reg.fabStatus p.val ≠ Reg.fabLockLoss p.val := by simp [Reg.fabStatus, Reg.fabLockLoss]
  have hclear : ((s.dev.clrBit (Reg.fabStatus p.val) (9 + l.val)).count (Reg.fabLockLoss p.val)).bit (Reg.fabStatus p.val) (9 + l.val) = false :=
    (Dev.bit_congr (Dev.reg_count_other _ hne) _).trans (Dev.bit_clrBit_same _ _ (by omega))
  have hcount : ((s.dev.clrBit (Reg.fabStatus p.val) (9 + l.val)).count (Reg.fabLockLoss p.val)).reg (Reg.fabLockLoss p.val) =
      BitVec.ofNat 32 (min ((s.dev.reg (Reg.fabLockLoss p.val)).toNat + 1) 0xFFFFFFFF) := by
    rw [Dev.reg_count_same, s.dev.regsWithin_clrBit (Reg.fabStatus p.val) _ _ (by simpa using hne.symm)]
  have hstate : ((s.dev.clrBit (Reg.fabStatus p.val) (9 + l.val)).count (Reg.fabLockLoss p.val)).portState p.val = s.dev.portState p.val :=
    (Dev.portState_congr (Dev.reg_count_other _ hne)).trans (Dev.fld_setFld_apart _ _ _ (by omega) (by omega) (by decide))
  have hregs : s.dev.RegsWithin [Reg.fabStatus p.val, Reg.fabLockLoss p.val]
      ((s.dev.clrBit (Reg.fabStatus p.val) (9 + l.val)).count (Reg.fabLockLoss p.val)) :=
    (s.dev.regsWithin_clrBit _ _).trans (Dev.regsWithin_count _ _)
  have hwithin : s.dev.Within [.regs] ((s.dev.clrBit (Reg.fabStatus p.val) (9 + l.val)).count (Reg.fabLockLoss p.val)) :=
    ((s.dev.within_clrBit _ _).trans (Dev.within_count _ _)).mono (by decide)
  generalize (s.dev.clrBit (Reg.fabStatus p.val) (9 + l.val)).count (Reg.fabLockLoss p.val) = d at hdoes hclear hcount hstate hregs hwithin
  refine ⟨fun h => ?_, fun h => ?_⟩
  · rw [if_neg (ne_true_of_eq_false h)] at hdoes
    exact runs_same hdoes
  · rw [if_pos h, Dev.portUp, hstate] at hdoes
    by_cases h6 : s.dev.portState p.val = 6
    · rw [if_pos (beq_iff_eq.mpr h6)] at hdoes
      have hleft := leftUp_leaveUp (hwithin.part .arrivals (by decide)) p.val (reason := 10) (by decide)
      have hbit := (d.bit_leaveUp p.val 10 (i := 9 + l.val) (by omega) (by omega)).trans hclear
      have hreg := (d.regsWithin_leaveUp p.val 10 (Reg.fabLockLoss p.val) (by
        rw [List.mem_cons, not_or]
        exact ⟨hne.symm, not_mem_fabTaps (by rw [Reg.fabLockLoss]; omega)⟩)).trans hcount
      generalize d.leaveUp p.val 10 = e at hdoes hleft hbit hreg
      exact ⟨_, hdoes, hbit, hreg, fun _ => hleft, fun h => absurd h6 h⟩
    · rw [if_neg (by simpa using h6)] at hdoes
      exact ⟨_, hdoes, hclear, hcount, fun h => absurd h h6, fun _ => ⟨hregs.keepsRegs, hwithin.keeps⟩⟩

/-- Lanes that carry unequal counts (R363). -/
theorem runs_alignDisagreement :
    ((∃ y ∈ (s.dev.port p.val).lanes, y.acnt ≠ ((s.dev.port p.val).lane 0).acnt) → s.dev.portState p.val = 6 →
      Runs (.alignDisagreement p) s (fun t => LeftUp p.val 3 s t)) ∧
    ((∀ y ∈ (s.dev.port p.val).lanes, y.acnt = ((s.dev.port p.val).lane 0).acnt) ∨ s.dev.portState p.val ≠ 6 →
      Runs (.alignDisagreement p) s (fun t => t = s)) := by
  have hdoes : Does (.alignDisagreement p) s (if (s.dev.portUp p.val &&
      (s.dev.port p.val).lanes.any (fun y => y.acnt != ((s.dev.port p.val).lane 0).acnt)) = true then s.dev.leaveUp p.val 3 else s.dev) :=
    does_onDev hon (f := fun _ d => if (d.portUp p.val &&
      (d.port p.val).lanes.any (fun y => y.acnt != ((d.port p.val).lane 0).acnt)) = true then d.leaveUp p.val 3 else d) rfl rfl
  have hwhen : (s.dev.portUp p.val && (s.dev.port p.val).lanes.any (fun y => y.acnt != ((s.dev.port p.val).lane 0).acnt)) = true ↔
      s.dev.portState p.val = 6 ∧ ∃ y ∈ (s.dev.port p.val).lanes, y.acnt ≠ ((s.dev.port p.val).lane 0).acnt := by
    simp [Dev.portUp]
  refine ⟨fun hany h6 => ?_, fun h => ?_⟩
  · rw [if_pos (hwhen.mpr ⟨h6, hany⟩)] at hdoes
    exact ⟨_, hdoes, leftUp_leaveUp rfl p.val (by decide)⟩
  · have hno : ¬(s.dev.portState p.val = 6 ∧ ∃ y ∈ (s.dev.port p.val).lanes, y.acnt ≠ ((s.dev.port p.val).lane 0).acnt) := by
      rintro ⟨h6, y, hy, hne⟩
      exact h.elim (fun h => hne (h y hy)) fun h => h h6
    rw [if_neg (mt hwhen.mp hno)] at hdoes
    exact runs_same hdoes

/-- The limit of a training step (R369). -/
theorem runs_trainingLimitExpiry :
    (s.dev.Trains p.val → Runs (.trainingLimitExpiry p) s (fun t => Failed p.val (s.dev.portState p.val - 1) s t)) ∧
    (¬s.dev.Trains p.val → Runs (.trainingLimitExpiry p) s (fun t => t = s)) := by
  have hdoes : Does (.trainingLimitExpiry p) s (if (decide (2 ≤ s.dev.portState p.val) && decide (s.dev.portState p.val ≤ 5) &&
      !(s.dev.port p.val).retry) = true then s.dev.trainFail p.val (s.dev.portState p.val - 1) else s.dev) :=
    does_onDev hon (f := fun _ d => if (decide (2 ≤ d.portState p.val) && decide (d.portState p.val ≤ 5) &&
      !(d.port p.val).retry) = true then d.trainFail p.val (d.portState p.val - 1) else d) rfl rfl
  refine ⟨fun h => ?_, fun h => ?_⟩
  · rw [if_pos ((s.dev.trains_iff p.val).mpr h)] at hdoes
    have hle := h.2.1
    exact ⟨_, hdoes, failed_trainFail (s.dev.within_refl.mono (by decide)) rfl rfl (by omega)⟩
  · rw [if_neg (mt (s.dev.trains_iff p.val).mp h)] at hdoes
    exact runs_same hdoes

/-- The next attempt (R369). -/
theorem runs_trainingRetry :
    ((s.dev.port p.val).retry = true → Runs (.trainingRetry p) s (fun t => t.dev.portState p.val = 1 ∧ (t.dev.port p.val).retry = false ∧
      (t.dev.port p.val).lanes = List.replicate 4 Lane.reset ∧
      (∀ l, l < 4 → t.dev.reg (Reg.fabTap p.val l) = regReset (Reg.fabTap p.val l)) ∧ Keeps [.regs, .fab] s t)) ∧
    ((s.dev.port p.val).retry = false → Runs (.trainingRetry p) s (fun t => t = s)) := by
  have hdoes : Does (.trainingRetry p) s (if (s.dev.port p.val).retry = true then s.dev.enterClock p.val else s.dev) :=
    does_onDev hon (f := fun _ d => if (d.port p.val).retry = true then d.enterClock p.val else d) rfl rfl
  refine ⟨fun h => ?_, fun h => ?_⟩
  · rw [if_pos h] at hdoes
    have hclock := s.dev.clocked_enterClock p.val
    generalize s.dev.enterClock p.val = e at hdoes hclock
    exact ⟨_, hdoes, hclock.state, by rw [hclock.port], by rw [hclock.port]; rfl, hclock.taps, hclock.within.keeps⟩
  · rw [if_neg (ne_true_of_eq_false h)] at hdoes
    exact runs_same hdoes

theorem does_replayTimeout : Does (.replayTimeout p) s (if s.dev.portUp p.val = true then s.dev.replayHeld p.val else s.dev) :=
  does_onDev hon (f := fun _ d => if d.portUp p.val = true then d.replayHeld p.val else d) rfl rfl

/-- A replay at the time limit (R376). -/
theorem runs_replayTimeout (h6 : s.dev.portState p.val = 6) (hheld : (s.dev.port p.val).held ≠ []) :
    ((s.dev.port p.val).replays + 1 < 16 → Runs (.replayTimeout p) s (fun t =>
      (t.dev.port p.val).held = (s.dev.port p.val).held ∧ (t.dev.port p.val).replays = (s.dev.port p.val).replays + 1 ∧
      t.dev.outbox = s.dev.outbox ++ (s.dev.port p.val).held.map (fun h => h.2.out p.val h.1 (s.dev.port p.val).expect false) ∧
      t.dev.reg (Reg.fabRetries p.val) = BitVec.ofNat 32 (min ((s.dev.reg (Reg.fabRetries p.val)).toNat + 1) 0xFFFFFFFF) ∧
      KeepsRegs [Reg.fabRetries p.val] s t ∧ Keeps [.regs, .fab, .outbox, .wide] s t)) ∧
    (16 ≤ (s.dev.port p.val).replays + 1 → Runs (.replayTimeout p) s (fun t => LeftUp p.val 8 s t)) := by
  have hdoes := does_replayTimeout hon p
  obtain ⟨a, heq⟩ := s.dev.replayHeld_eq p.val hheld
  rw [Dev.portUp, if_pos (beq_iff_eq.mpr h6), heq] at hdoes
  have hset := (s.dev.replayed p.val).within_setPort p.val
    { s.dev.port p.val with replays := (s.dev.port p.val).replays + 1, replaying := s.dev.replayLine p.val a }
  have hport : (s.dev.replayNoted p.val a).port p.val =
      { s.dev.port p.val with replays := (s.dev.port p.val).replays + 1, replaying := s.dev.replayLine p.val a } := Dev.port_setPort_same ..
  have hwithin : s.dev.Within [.regs, .outbox, .wide, .fab] (s.dev.replayNoted p.val a) := (s.dev.within_replayed p.val).trans hset
  have hout : (s.dev.replayNoted p.val a).outbox = _ := (hset.part .outbox (by decide)).trans (s.dev.outbox_replayed p.val)
  have hregs := (s.dev.regsWithin_replayed p.val).trans (hset.regsWithin (by decide))
  have hcount : (s.dev.replayNoted p.val a).reg (Reg.fabRetries p.val) = _ :=
    (Dev.reg_congr (hset.part .regs (by decide)) _).trans (s.dev.reg_replayed p.val)
  rw [show (s.dev.replayed p.val).setPort p.val
    { s.dev.port p.val with replays := (s.dev.port p.val).replays + 1, replaying := s.dev.replayLine p.val a } = s.dev.replayNoted p.val a
    from rfl] at hregs
  generalize s.dev.replayNoted p.val a = e at hdoes hport hwithin hout hregs hcount
  refine ⟨fun hlt => ?_, fun hge => ?_⟩
  · rw [if_neg (by omega)] at hdoes
    exact ⟨_, hdoes, by rw [hport], by rw [hport], hout, hcount, (hregs.mono (by simp)).keepsRegs, (hwithin.mono (by decide)).keeps⟩
  · rw [if_pos hge] at hdoes
    exact ⟨_, hdoes, leftUp_leaveUp ((hwithin.trans (e.within_setPort p.val _)).part .arrivals (by decide)) p.val (by decide)⟩

end

/-- Settles O53. -/
theorem portLosses : Obligations.PortLosses := by
  unfold Obligations.PortLosses
  intro s p hon d st n x training
  obtain ⟨hclear, hlost⟩ : (∀ l : Fin 4, _) ∧ (∀ l : Fin 4, _) := forall_and.mp (fun l => runs_laneLockLoss hon p l)
  obtain ⟨halign, halignNo⟩ := runs_alignDisagreement hon p
  obtain ⟨hlimit, hlimitNo⟩ := runs_trainingLimitExpiry hon p
  obtain ⟨hretry, hretryNo⟩ := runs_trainingRetry hon p
  refine ⟨runs_los hon p, fun l => ⟨hclear l, hlost l⟩, halign, halignNo, hlimit, hlimitNo, hretry, hretryNo, fun h => runs_same ?_,
    runs_replayTimeout hon p⟩
  have hdoes := does_replayTimeout hon p
  by_cases hup : s.dev.portUp p.val = true
  · have hheld : (s.dev.port p.val).held = [] := h.resolve_left (not_not.mpr (beq_iff_eq.mp hup))
    rwa [if_pos hup, s.dev.replayHeld_of_none p.val hheld] at hdoes
  · rwa [if_neg hup] at hdoes

end Sys2Proof.Machine
end

section
/-! Training of ports: lane lock, ALIGN and TRAIN blocks, ENABLE and RETRAIN (R359, R361 to R370): O52. -/
namespace Sys2Proof.Machine

/-! ### Requests on taps -/

/-- A request leaves a tap that is permitted permitted (R364). -/
theorem tapAsk_ok {r v : Nat} {ok : Nat → Bool} (h : ok v = true) : ok (tapAsk r v ok).1 = true := by
  rw [tapAsk]
  split
  · split
    · assumption
    · exact h
  · split
    · split
      · next h' => exact (Bool.and_eq_true_iff.mp h').2
      · exact h
    · exact h

theorem tapsOk_tapRequest (b2 : Nat) (t : Nat × Nat × Nat) (h : tapsOk t = true) : tapsOk (tapRequest b2 t).1 = true := by
  obtain ⟨pre, main, pst⟩ := t
  have h1 := tapAsk_ok (r := bits b2 0 2) (ok := fun v => tapsOk (v, main, pst)) h
  have h2 := tapAsk_ok (r := bits b2 2 2) (ok := fun v => tapsOk ((tapAsk (bits b2 0 2) pre fun v => tapsOk (v, main, pst)).1, v, pst)) h1
  rw [tapRequest]
  split
  · decide
  · exact tapAsk_ok (r := bits b2 4 2) (v := pst) (ok := fun v => tapsOk (_, _, v)) h2

/-! ### Blocks -/

/-- The type of a block is its lowest byte (R361). -/
theorem setWidth_ofNat_leNat (x : Nat) (bs : List Byte) :
    (BitVec.ofNat 64 (leNat (leBytes 1 x ++ bs))).setWidth 8 = BitVec.ofNat 8 x := by
  apply BitVec.eq_of_toNat_eq
  rw [BitVec.toNat_setWidth, BitVec.toNat_ofNat, BitVec.toNat_ofNat, leNat_leBytes_append]
  omega

section
variable (d : Dev) (p : Nat)

theorem Dev.setWidth_trainBlock (l fom : Nat) : (d.trainBlock p l fom).setWidth 8 = (0x55 : Byte) := by
  rw [Dev.trainBlock]
  simp only [List.append_assoc]
  exact setWidth_ofNat_leNat 0x55 _

/-- Every lane sends a TRAIN block (R365). -/
theorem Dev.outbox_sendTrain : ∃ bs, (d.sendTrain p).outbox = d.outbox ++ bs ∧ ∀ o ∈ bs, ∃ l w, o = Out.block p l w ∧ w.setWidth 8 = (0x55 : Byte) := by
  have hfold (ls : List Nat) (e : Dev) : ∃ bs, (ls.foldl (fun d l => d.emit (.block p l (d.trainBlock p l (d.fld (Reg.fabFom p l) 15 0)))) e).outbox =
      e.outbox ++ bs ∧ ∀ o ∈ bs, ∃ l w, o = Out.block p l w ∧ w.setWidth 8 = (0x55 : Byte) := by
    induction ls generalizing e with
    | nil => exact ⟨[], by simp⟩
    | cons l ls ih =>
      obtain ⟨bs, hout, hall⟩ := ih (e.emit (.block p l (e.trainBlock p l (e.fld (Reg.fabFom p l) 15 0))))
      refine ⟨.block p l (e.trainBlock p l (e.fld (Reg.fabFom p l) 15 0)) :: bs, ?_, fun o ho => ?_⟩
      · rw [List.foldl_cons, hout]
        exact List.append_assoc ..
      · rcases List.mem_cons.mp ho with rfl | ho
        · exact ⟨l, _, rfl, e.setWidth_trainBlock p l _⟩
        · exact hall o ho
  exact hfold _ d

theorem Dev.within_sendTrain : d.Within [.outbox] (d.sendTrain p) :=
  (Dev.within_foldl (g := fun d l => d.emit (.block p l (d.trainBlock p l (d.fld (Reg.fabFom p l) 15 0)))) (fun d _ => d.within_emit _) _ d)

/-- LOCK ends (Table 12-4). -/
def Dev.Locked (d : Dev) (p : Nat) : Prop := d.portState p = 2 ∧ d.fld (Reg.fabStatus p) 12 9 = 15 ∧
  (d.port p).lanes.all (fun x => x.peerLocked) = true ∧ (d.port p).retry = false

theorem Dev.lockCheck_cases : (d.Locked p → d.lockCheck p = (d.setFld (Reg.fabStatus p) 2 0 3).sendTrain p) ∧
    (¬d.Locked p → d.lockCheck p = d) := by
  have hiff : (decide (d.portState p = 2) && d.fld (Reg.fabStatus p) 12 9 == 15 && (d.port p).lanes.all (fun x => x.peerLocked) &&
      !(d.port p).retry) = true ↔ d.Locked p := by
    rw [Dev.Locked]
    simp [and_assoc]
  refine ⟨fun h => ?_, fun h => ?_⟩
  · exact if_pos (hiff.mpr h)
  · exact if_neg (mt hiff.mp h)

end

/-- What the check of LOCK's end leaves (Table 12-4). -/
structure Dev.LockChecked (d e : Dev) (p : Nat) : Prop where
  locked : d.Locked p → e.portState p = 3
  stays : ¬d.Locked p → e = d
  bits : ∀ i, 3 ≤ i → e.bit (Reg.fabStatus p) i = d.bit (Reg.fabStatus p) i
  sends : ∃ bs, e.outbox = d.outbox ++ bs ∧ ∀ o ∈ bs, ∃ l w, o = Out.block p l w ∧ w.setWidth 8 = (0x55 : Byte)
  regs : d.RegsWithin [Reg.fabStatus p] e
  within : d.Within [.regs, .outbox] e

theorem Dev.lockChecked (d : Dev) (p : Nat) : d.LockChecked (d.lockCheck p) p := by
  obtain ⟨hlock, hno⟩ := d.lockCheck_cases p
  by_cases h : d.Locked p
  · rw [hlock h]
    have hstate : (d.setFld (Reg.fabStatus p) 2 0 3).portState p = 3 := Dev.fld_setFld_same _ _ _ (by decide)
    have hbits (i : Nat) (hi : 3 ≤ i) : (d.setFld (Reg.fabStatus p) 2 0 3).bit (Reg.fabStatus p) i = d.bit (Reg.fabStatus p) i := by
      rw [Dev.bit_setFld _ _ _ _ (by decide), if_neg (by omega)]
    have hwithin := d.within_setFld (Reg.fabStatus p) 2 0 3
    have hregs := d.regsWithin_setFld (Reg.fabStatus p) 2 0 3
    generalize d.setFld (Reg.fabStatus p) 2 0 3 = e at hstate hbits hwithin hregs
    have hsend := e.within_sendTrain p
    have hreg := hsend.regsWithin (by decide)
    obtain ⟨bs, hout, hall⟩ := e.outbox_sendTrain p
    generalize e.sendTrain p = x at hsend hreg hout
    exact {
      locked := fun _ => (Dev.portState_congr (hreg _ (List.not_mem_nil))).trans hstate
      stays := fun hn => absurd h hn
      bits := fun i hi => (Dev.bit_congr (hreg _ (List.not_mem_nil)) i).trans (hbits i hi)
      sends := ⟨bs, by rw [hout, hwithin.part .outbox (by decide)], hall⟩
      regs := (hregs.trans hreg).mono (by simp)
      within := hwithin.trans hsend }
  · rw [hno h]
    exact {
      locked := fun hn => absurd hn h
      stays := fun _ => rfl
      bits := fun _ _ => rfl
      sends := ⟨[], by simp⟩
      regs := d.regsWithin_refl.mono (by simp)
      within := d.within_refl.mono (by decide) }

/-! ### Lane lock -/

section
variable {s : State} (hon : On s) (p : Fin 17) (l : Fin 4)
include hon

theorem does_headerLock : Does (.headerLock p l) s (if s.dev.portState p.val = 0 then s.dev else
    (s.dev.setBit (Reg.fabStatus p.val) (9 + l.val)).lockCheck p.val) :=
  does_onDev hon (f := fun _ d => if d.portState p.val = 0 then d else (d.setBit (Reg.fabStatus p.val) (9 + l.val)).lockCheck p.val) rfl rfl

/-- A lane gains block lock (R362). -/
theorem runs_headerLock (h0 : s.dev.portState p.val ≠ 0) : Runs (.headerLock p l) s (fun t =>
    t.dev.bit (Reg.fabStatus p.val) (9 + l.val) = true ∧
    t.dev.portState p.val = (if s.dev.portState p.val = 2 ∧ (s.dev.setBit (Reg.fabStatus p.val) (9 + l.val)).fld (Reg.fabStatus p.val) 12 9 = 15 ∧
      (s.dev.port p.val).lanes.all (fun x => x.peerLocked) = true ∧ (s.dev.port p.val).retry = false then 3 else s.dev.portState p.val) ∧
    SendsBlocks p.val 0x55 s t ∧ (t.dev.portState p.val = s.dev.portState p.val → t.dev.outbox = s.dev.outbox) ∧
    KeepsRegs [Reg.fabStatus p.val] s t ∧ Keeps [.regs, .outbox] s t) := by
  have hl := l.isLt
  have hdoes := does_headerLock hon p l
  rw [if_neg h0] at hdoes
  have hbit := s.dev.bit_setBit_same (Reg.fabStatus p.val) (i := 9 + l.val) (by omega)
  have hstate : (s.dev.setBit (Reg.fabStatus p.val) (9 + l.val)).portState p.val = s.dev.portState p.val :=
    Dev.fld_setFld_apart _ _ _ (by omega) (by omega) (by decide)
  have hport : (s.dev.setBit (Reg.fabStatus p.val) (9 + l.val)).port p.val = s.dev.port p.val := Dev.port_congr (Dev.setBit_fab ..) _
  have hwithin := s.dev.within_setBit (Reg.fabStatus p.val) (9 + l.val)
  have hregs := s.dev.regsWithin_setBit (Reg.fabStatus p.val) (9 + l.val)
  generalize s.dev.setBit (Reg.fabStatus p.val) (9 + l.val) = d at hdoes hbit hstate hport hwithin hregs ⊢
  have hcheck := d.lockChecked p.val
  have hiff : d.Locked p.val ↔ s.dev.portState p.val = 2 ∧ d.fld (Reg.fabStatus p.val) 12 9 = 15 ∧
      (s.dev.port p.val).lanes.all (fun x => x.peerLocked) = true ∧ (s.dev.port p.val).retry = false := by rw [Dev.Locked, hstate, hport]
  generalize d.lockCheck p.val = e at hdoes hcheck
  have hout := hwithin.part .outbox (by decide)
  refine ⟨_, hdoes, (hcheck.bits _ (by omega)).trans hbit, ?_, ?_, fun hsame => ?_, ((hregs.trans hcheck.regs).mono (by simp)).keepsRegs,
    ((hwithin.trans hcheck.within).mono (by decide)).keeps⟩
  · split
    · next h => exact hcheck.locked (hiff.mpr h)
    · next h => rw [hcheck.stays (mt hiff.mp h)]; exact hstate
  · obtain ⟨bs, hsent, hall⟩ := hcheck.sends
    exact ⟨bs, by rw [← show d.outbox = s.dev.outbox from hout]; exact hsent, hall⟩
  · have hno : ¬d.Locked p.val := fun h => by
      have h3 := hcheck.locked h
      rw [show e.portState p.val = s.dev.portState p.val from hsame, (hiff.mp h).1] at h3
      exact absurd h3 (by decide)
    rw [hcheck.stays hno]
    exact hout

/-! ### The end of CLOCK -/

theorem does_trainClockStable : Does (.trainClockStable p) s
    (if (decide ((s.dev.setFld (Reg.fabStatus p.val) 8 7 0).portState p.val = 1) && !((s.dev.setFld (Reg.fabStatus p.val) 8 7 0).port p.val).retry) = true
      then (s.dev.setFld (Reg.fabStatus p.val) 8 7 0).enterLock p.val else s.dev.setFld (Reg.fabStatus p.val) 8 7 0) :=
  does_onDev hon (f := fun _ d =>
    if (decide ((d.setFld (Reg.fabStatus p.val) 8 7 0).portState p.val = 1) && !((d.setFld (Reg.fabStatus p.val) 8 7 0).port p.val).retry) = true
      then (d.setFld (Reg.fabStatus p.val) 8 7 0).enterLock p.val else d.setFld (Reg.fabStatus p.val) 8 7 0) rfl rfl

end

/-- What LOCK begins with (Table 12-4). -/
theorem Dev.enterLock_spec (d : Dev) (p : Nat) (hretry : (d.port p).retry = false) :
    (d.enterLock p).portState p =
      (if d.fld (Reg.fabStatus p) 12 9 = 15 ∧ (d.port p).lanes.all (fun x => x.peerLocked) = true then 3 else 2) ∧
    (∀ i, 3 ≤ i → (d.enterLock p).bit (Reg.fabStatus p) i = d.bit (Reg.fabStatus p) i) ∧
    (∃ bs, (d.enterLock p).outbox = d.outbox ++ bs ∧ ∀ o ∈ bs, ∃ l w, o = Out.block p l w ∧ w.setWidth 8 = (0x55 : Byte)) ∧
    d.RegsWithin [Reg.fabStatus p] (d.enterLock p) ∧ d.Within [.regs, .outbox] (d.enterLock p) := by
  have hstate : (d.setFld (Reg.fabStatus p) 2 0 2).portState p = 2 := Dev.fld_setFld_same _ _ _ (by decide)
  have hlanes : (d.setFld (Reg.fabStatus p) 2 0 2).fld (Reg.fabStatus p) 12 9 = d.fld (Reg.fabStatus p) 12 9 :=
    Dev.fld_setFld_apart _ _ _ (by decide) (by decide) (by decide)
  have hbits (i : Nat) (hi : 3 ≤ i) : (d.setFld (Reg.fabStatus p) 2 0 2).bit (Reg.fabStatus p) i = d.bit (Reg.fabStatus p) i := by
    rw [Dev.bit_setFld _ _ _ _ (by decide), if_neg (by omega)]
  have hwithin := d.within_setFld (Reg.fabStatus p) 2 0 2
  have hregs := d.regsWithin_setFld (Reg.fabStatus p) 2 0 2
  rw [Dev.enterLock]
  generalize d.setFld (Reg.fabStatus p) 2 0 2 = e at hstate hlanes hbits hwithin hregs
  have hsend := e.within_sendTrain p
  obtain ⟨as, hout, hall⟩ := e.outbox_sendTrain p
  generalize e.sendTrain p = x at hsend hout
  have hreg (off : Nat) : x.reg off = e.reg off := hsend.regsWithin (by decide) off List.not_mem_nil
  have hport : x.port p = d.port p := Dev.port_congr ((hwithin.trans hsend).part .fab (by decide)) p
  have hiff : x.Locked p ↔ d.fld (Reg.fabStatus p) 12 9 = 15 ∧ (d.port p).lanes.all (fun x => x.peerLocked) = true := by
    rw [Dev.Locked, Dev.portState_congr (hreg _), hstate, Dev.fld_congr (hreg _), hlanes, hport, hretry]
    simp
  have hcheck := x.lockChecked p
  generalize x.lockCheck p = y at hcheck
  obtain ⟨bs, hout', hall'⟩ := hcheck.sends
  refine ⟨?_, fun i hi => (hcheck.bits i hi).trans ((Dev.bit_congr (hreg _) i).trans (hbits i hi)), ⟨as ++ bs, ?_, fun o ho => ?_⟩,
    ((hregs.trans (hsend.regsWithin (by decide))).trans hcheck.regs).mono (by simp), ((hwithin.trans hsend).trans hcheck.within).mono (by decide)⟩
  · split
    · next h => exact hcheck.locked (hiff.mpr h)
    · next h => rw [hcheck.stays (mt hiff.mp h), Dev.portState_congr (hreg _), hstate]
  · rw [hout', hout, hwithin.part .outbox (by decide), List.append_assoc]
  · exact (List.mem_append.mp ho).elim (hall o) (hall' o)

section
variable {s : State} (hon : On s) (p : Fin 17) (l : Fin 4)
include hon

/-- The signal is back (R359, R368). -/
theorem runs_trainClockStable :
    (s.dev.portState p.val = 1 → (s.dev.port p.val).retry = false → Runs (.trainClockStable p) s (fun t =>
      t.dev.bit (Reg.fabStatus p.val) 7 = false ∧ t.dev.bit (Reg.fabStatus p.val) 8 = false ∧
      t.dev.portState p.val =
        (if s.dev.fld (Reg.fabStatus p.val) 12 9 = 15 ∧ (s.dev.port p.val).lanes.all (fun x => x.peerLocked) = true then 3 else 2) ∧
      SendsBlocks p.val 0x55 s t ∧ KeepsRegs [Reg.fabStatus p.val] s t ∧ Keeps [.regs, .outbox] s t)) ∧
    (s.dev.portState p.val ≠ 1 ∨ (s.dev.port p.val).retry = true → Runs (.trainClockStable p) s (fun t =>
      t.dev.bit (Reg.fabStatus p.val) 7 = false ∧ t.dev.bit (Reg.fabStatus p.val) 8 = false ∧
      (∀ i, i ≠ 7 → i ≠ 8 → t.dev.bit (Reg.fabStatus p.val) i = s.dev.bit (Reg.fabStatus p.val) i) ∧
      KeepsRegs [Reg.fabStatus p.val] s t ∧ Keeps [.regs] s t)) := by
  have hdoes := does_trainClockStable hon p
  have hbit (i : Nat) : (s.dev.setFld (Reg.fabStatus p.val) 8 7 0).bit (Reg.fabStatus p.val) i =
      if 7 ≤ i ∧ i ≤ 8 then (0 : Nat).testBit (i - 7) else s.dev.bit (Reg.fabStatus p.val) i := Dev.bit_setFld _ _ _ _ (by decide)
  have hstate : (s.dev.setFld (Reg.fabStatus p.val) 8 7 0).portState p.val = s.dev.portState p.val :=
    Dev.fld_setFld_apart _ _ _ (by decide) (by decide) (by decide)
  have hlanes : (s.dev.setFld (Reg.fabStatus p.val) 8 7 0).fld (Reg.fabStatus p.val) 12 9 = s.dev.fld (Reg.fabStatus p.val) 12 9 :=
    Dev.fld_setFld_apart _ _ _ (by decide) (by decide) (by decide)
  have hport : (s.dev.setFld (Reg.fabStatus p.val) 8 7 0).port p.val = s.dev.port p.val := Dev.port_congr (Dev.setFld_fab ..) _
  have hwithin := s.dev.within_setFld (Reg.fabStatus p.val) 8 7 0
  have hregs := s.dev.regsWithin_setFld (Reg.fabStatus p.val) 8 7 0
  generalize s.dev.setFld (Reg.fabStatus p.val) 8 7 0 = d at hdoes hbit hstate hlanes hport hwithin hregs
  have hclear : d.bit (Reg.fabStatus p.val) 7 = false ∧ d.bit (Reg.fabStatus p.val) 8 = false := ⟨hbit 7, hbit 8⟩
  rw [hstate, hport] at hdoes
  refine ⟨fun h1 hretry => ?_, fun h => ?_⟩
  · rw [if_pos (by rw [h1, hretry]; rfl)] at hdoes
    obtain ⟨hlock, hbits, ⟨bs, hout, hall⟩, hregs', hwithin'⟩ := d.enterLock_spec p.val (hport ▸ hretry)
    generalize d.enterLock p.val = e at hdoes hlock hbits hout hregs' hwithin'
    rw [hlanes, hport] at hlock
    exact ⟨_, hdoes, (hbits 7 (by decide)).trans hclear.1, (hbits 8 (by decide)).trans hclear.2, hlock,
      ⟨bs, hout.trans (by rw [hwithin.part .outbox (by decide)]), hall⟩, ((hregs.trans hregs').mono (by simp)).keepsRegs,
      ((hwithin.trans hwithin').mono (by decide)).keeps⟩
  · rw [if_neg (by rcases h with h | h <;> simp [h])] at hdoes
    exact ⟨_, hdoes, hclear.1, hclear.2, fun i h7 h8 => (hbit i).trans (if_neg (by omega)), hregs.keepsRegs, hwithin.keeps⟩

end

/-! ### ALIGN blocks -/

section
variable (d : Dev) (p : Nat)

/-- The error counted, its source apart (R361). -/
def Dev.crcCounted : Dev := (d.count (Reg.fabCrcErr p)).pulse (113 + 3 * p)

theorem Dev.within_crcCounted : d.Within [.regs] (d.crcCounted p) := ((d.within_count _).trans (Dev.within_pulse _ _)).mono (by decide)

theorem Dev.regsWithin_crcCounted : d.RegsWithin [Reg.fabCrcErr p] (d.crcCounted p) :=
  ((d.regsWithin_count _).trans ((Dev.within_pulse _ _).regsWithin (by decide))).mono (by simp)

theorem Dev.crcError_cases : d.crcError p = d.crcCounted p ∨ d.crcError p = (d.crcCounted p).raise (256 + 4 * p + 2) := by
  rw [Dev.crcError]
  exact (ite_eq_or_eq ..).symm

/-- An error counted (R361, R373). -/
theorem Dev.crcError_spec :
    (d.crcError p).reg (Reg.fabCrcErr p) = BitVec.ofNat 32 (min ((d.reg (Reg.fabCrcErr p)).toNat + 1) 0xFFFFFFFF) ∧
    d.RegsWithin [Reg.fabCrcErr p] (d.crcError p) ∧ d.Within (.regs :: raising) (d.crcError p) := by
  have hcount : (d.crcCounted p).reg (Reg.fabCrcErr p) = BitVec.ofNat 32 (min ((d.reg (Reg.fabCrcErr p)).toNat + 1) 0xFFFFFFFF) :=
    (Dev.reg_congr (Dev.pulse_regs ..) _).trans (Dev.reg_count_same ..)
  have hregs := d.regsWithin_crcCounted p
  have hwithin := d.within_crcCounted p
  rcases d.crcError_cases p with h | h <;> rw [h]
  · exact ⟨hcount, hregs, hwithin.mono (by decide)⟩
  · exact ⟨(Dev.reg_raise ..).trans hcount, (hregs.trans (Dev.regsWithin_raise _ _)).mono (by simp), (hwithin.trans (Dev.within_raise _ _)).mono (by decide)⟩

end

/-- A block of a type without a use (R361). -/
theorem runs_strayBlock {c : Instr} {s : State} {p l : Nat} {btype : Byte} (h : Does c s (s.dev.strayBlock p l btype.toNat)) :
    Runs c s (Strays p l btype s) := by
  have hmem : [0x1E, 0x4B, 0x55, 0x78].contains btype.toNat = true ↔ btype ∈ [(0x1E : Byte), 0x4B, 0x55, 0x78] := by
    simp only [List.contains_iff_mem, List.mem_cons, List.not_mem_nil, or_false, ← BitVec.toNat_inj]
    rfl
  rw [Dev.strayBlock] at h
  by_cases hused : btype ∈ [(0x1E : Byte), 0x4B, 0x55, 0x78] ∨ s.dev.bit (Reg.fabStatus p) (9 + l) = false
  · rw [if_pos (by rw [Bool.or_eq_true, hmem, Bool.not_eq_true']; exact hused.symm)] at h
    exact ⟨_, h, fun _ => rfl, fun hno => absurd hused hno⟩
  · rw [if_neg (by rw [Bool.or_eq_true, hmem, Bool.not_eq_true']; exact fun hno => hused hno.symm)] at h
    obtain ⟨hcount, hregs, hwithin⟩ := s.dev.crcError_spec p
    generalize s.dev.crcError p = e at h hcount hregs hwithin
    exact ⟨_, h, fun hno => absurd hno hused, fun _ => ⟨hcount, hregs.keepsRegs, hwithin.keeps⟩⟩

theorem bits_setWidth_byte (blk : W64) : bits blk.toNat 0 8 = (blk.setWidth 8).toNat := by
  rw [bits_zero, BitVec.toNat_setWidth]

theorem bits_ne_iff (blk : W64) (x : Byte) : bits blk.toNat 0 8 ≠ x.toNat ↔ blk.setWidth 8 ≠ x := by
  rw [bits_setWidth_byte, ne_eq, BitVec.toNat_inj]

/-! ### Lanes -/

section
variable (d : Dev) (p l : Nat) (f : Lane → Lane)

theorem Dev.port_onLane (k : Nat) : (d.onLane p l f).port k =
    if k = p then { d.port p with lanes := (d.port p).lanes.set l (f ((d.port p).lane l)) } else d.port k := Dev.port_setPort ..

theorem Dev.within_onLane : d.Within [.fab] (d.onLane p l f) := d.within_setPort p _

theorem Dev.lane_onLane (h : l < (d.port p).lanes.length) : ((d.onLane p l f).port p).lane l = f ((d.port p).lane l) := by
  rw [Dev.port_onLane, if_pos rfl, Port.lane, List.getD_eq_getElem _ _ (by rw [List.length_set]; exact h), List.getElem_set_self]

/-- A lane's field that a change keeps. -/
theorem Dev.sid_onLane (hf : ∀ x, (f x).sid = x.sid) : (((d.onLane p l f).port p).lane l).sid = ((d.port p).lane l).sid := by
  by_cases h : l < (d.port p).lanes.length
  · rw [d.lane_onLane p l f h, hf]
  · rw [Dev.port_onLane, if_pos rfl, List.set_eq_of_length_le (by omega)]

end

/-- An ALIGN block's place and count, taken (R363). -/
def Lane.aligned (x : Lane) (b : Nat) : Lane := { x with place := some (bits b 8 2), acnt := bits b 16 16 }

theorem Dev.deskewCheck_of_other {d : Dev} {p : Nat} (h : d.portState p ≠ 4) : d.deskewCheck p = d := by
  rw [Dev.deskewCheck, decide_eq_false h]
  rfl

section
variable {s : State} (hon : On s) (p : Fin 17) (l : Fin 4) (blk : W64)
include hon

theorem does_alignBlock : Does (.alignBlock p l blk) s (s.dev.takeAlign p.val l.val blk) :=
  does_onDev hon (f := fun _ d => d.takeAlign p.val l.val blk) rfl rfl

theorem does_alignBlock_align (halign : blk.setWidth 8 = (0x4B : Byte)) (hlock : s.dev.bit (Reg.fabStatus p.val) (9 + l.val) = true) :
    Does (.alignBlock p l blk) s ((s.dev.onLane p.val l.val (fun x => x.aligned blk.toNat)).deskewCheck p.val) := by
  have hdoes := does_alignBlock hon p l blk
  rw [Dev.takeAlign, if_neg (not_not.mpr (by rw [bits_setWidth_byte, halign]; rfl)), hlock] at hdoes
  exact hdoes

theorem runs_alignBlock_stray (h : blk.setWidth 8 ≠ (0x4B : Byte) ∨ s.dev.bit (Reg.fabStatus p.val) (9 + l.val) = false) :
    Runs (.alignBlock p l blk) s (Strays p.val l.val (blk.setWidth 8) s) := by
  have hdoes := does_alignBlock hon p l blk
  rw [Dev.takeAlign] at hdoes
  by_cases halign : blk.setWidth 8 = (0x4B : Byte)
  · have hlock := h.resolve_left (not_not.mpr halign)
    rw [if_neg (not_not.mpr (by rw [bits_setWidth_byte, halign]; rfl)), hlock] at hdoes
    exact ⟨s, hdoes, fun _ => rfl, fun hno => absurd (.inr hlock) hno⟩
  · rw [if_pos (show bits blk.toNat 0 8 ≠ 0x4B from (bits_ne_iff blk 0x4B).mpr halign), bits_setWidth_byte] at hdoes
    exact runs_strayBlock hdoes

/-- An ALIGN block outside DESKEW (R363). -/
theorem runs_alignBlock_lane (halign : blk.setWidth 8 = (0x4B : Byte)) (hlock : s.dev.bit (Reg.fabStatus p.val) (9 + l.val) = true)
    (h4 : s.dev.portState p.val ≠ 4) (hlanes : (s.dev.port p.val).lanes.length = 4) : Runs (.alignBlock p l blk) s (fun t =>
      (t.dev.port p.val).lane l.val = { (s.dev.port p.val).lane l.val with
        place := some (blk.extractLsb' 8 2).toNat, acnt := (blk.extractLsb' 16 16).toNat } ∧
      (∀ k, k ≠ p.val → t.dev.port k = s.dev.port k) ∧ Keeps [.fab] s t) := by
  have hdoes := does_alignBlock_align hon p l blk halign hlock
  have hlane := s.dev.lane_onLane p.val l.val (fun x => x.aligned blk.toNat) (by rw [hlanes]; exact l.isLt)
  have hothers := s.dev.port_onLane p.val l.val (fun x => x.aligned blk.toNat)
  have hwithin := s.dev.within_onLane p.val l.val (fun x => x.aligned blk.toNat)
  generalize s.dev.onLane p.val l.val (fun x => x.aligned blk.toNat) = e at hdoes hlane hothers hwithin
  rw [Dev.deskewCheck_of_other (by rwa [Dev.portState_congr (Dev.reg_congr (hwithin.part .regs (by decide)) _)])] at hdoes
  refine ⟨_, hdoes, hlane.trans ?_, fun k hk => (hothers k).trans (if_neg hk), hwithin.keeps⟩
  rw [Lane.aligned, bits_extract, bits_extract]

end

/-! ### TRAIN blocks -/

section
variable (d : Dev) (p l : Nat)

/-- What a TRAIN block says of the lane's peer (R365). -/
def Lane.peer (x : Lane) (b1 : Nat) : Lane := { x with peerLocked := bitAt b1 2, peerDone := bitAt b1 5 }

/-- The precoding asked for (R365). -/
def Dev.precoded (b1 : Nat) : Dev := (d.setFld (Reg.fabStatus p) 14 14 (bits b1 3 1)).setFld (Reg.fabStatus p) 15 15 (bits b1 4 1)

theorem bitAt_bits_one (b k : Nat) : (bits b k 1).testBit 0 = bitAt b k := by
  rw [testBit_bits, bitAt]
  simp

theorem Dev.bit_precoded (b1 : Nat) : (d.precoded p b1).bit (Reg.fabStatus p) 14 = bitAt b1 3 ∧
    (d.precoded p b1).bit (Reg.fabStatus p) 15 = bitAt b1 4 := by
  refine ⟨?_, ?_⟩ <;> rw [Dev.precoded, Dev.bit_setFld _ _ _ _ (by decide)]
  · rw [if_neg (by decide), Dev.bit_setFld _ _ _ _ (by decide), if_pos (by decide)]
    exact bitAt_bits_one b1 3
  · rw [if_pos (by decide)]
    exact bitAt_bits_one b1 4

theorem Dev.regsWithin_precoded (b1 : Nat) : d.RegsWithin [Reg.fabStatus p] (d.precoded p b1) :=
  ((d.regsWithin_setFld _ _ _ _).trans (Dev.regsWithin_setFld _ _ _ _ _)).mono (by simp)

theorem Dev.within_precoded (b1 : Nat) : d.Within [.regs] (d.precoded p b1) :=
  ((d.within_setFld _ _ _ _).trans (Dev.within_setFld _ _ _ _ _)).mono (by decide)

/-- The tap register after the requests of a TRAIN block (R364, R365). -/
def Dev.tapAfter (b2 b3 : Nat) : W32 :=
  if bits b3 0 4 = ((d.port p).lane l).sid then d.reg (Reg.fabTap p l)
  else tapsReg (tapRequest b2 (tapsOf (d.reg (Reg.fabTap p l)))).1

theorem fabTap_ne_fabStatus : Reg.fabTap p l ≠ Reg.fabStatus p := by
  simp only [Reg.fabTap, Reg.fabStatus]
  omega

/-- A request on the taps, applied and answered (R364, R365). -/
def Dev.tapsAsked (b2 b3 : Nat) : Dev :=
  (d.setReg (Reg.fabTap p l) (tapsReg (tapRequest b2 (tapsOf (d.reg (Reg.fabTap p l)))).1)).onLane p l
    (fun x => { x with sid := bits b3 0 4, rsp := (tapRequest b2 (tapsOf (d.reg (Reg.fabTap p l)))).2 })

theorem Dev.trainTransmit_eq (b1 b2 b3 : Nat) : d.trainTransmit p l b1 b2 b3 =
    if bits b3 0 4 = (((d.precoded p b1).port p).lane l).sid then d.precoded p b1 else (d.precoded p b1).tapsAsked p l b2 b3 := rfl

theorem Dev.regsWithin_tapsAsked (b2 b3 : Nat) : d.RegsWithin [Reg.fabTap p l] (d.tapsAsked p l b2 b3) :=
  ((d.regsWithin_setReg _ _).trans ((Dev.within_onLane _ p l _).regsWithin (by decide))).mono (by simp)

theorem Dev.reg_tapsAsked (b2 b3 : Nat) : (d.tapsAsked p l b2 b3).reg (Reg.fabTap p l) =
    tapsReg (tapRequest b2 (tapsOf (d.reg (Reg.fabTap p l)))).1 :=
  (Dev.reg_congr ((Dev.within_onLane _ p l _).part .regs (by decide)) _).trans (Dev.reg_setReg_same ..)

/-- What a transmitter does with a TRAIN block (R365). -/
theorem Dev.trainTransmit_spec (b1 b2 b3 : Nat) :
    (d.trainTransmit p l b1 b2 b3).reg (Reg.fabTap p l) = d.tapAfter p l b2 b3 ∧
    (d.trainTransmit p l b1 b2 b3).bit (Reg.fabStatus p) 14 = bitAt b1 3 ∧
    (d.trainTransmit p l b1 b2 b3).bit (Reg.fabStatus p) 15 = bitAt b1 4 ∧
    d.RegsWithin [Reg.fabStatus p, Reg.fabTap p l] (d.trainTransmit p l b1 b2 b3) := by
  have hne := fabTap_ne_fabStatus p l
  obtain ⟨h14, h15⟩ := d.bit_precoded p b1
  have hregs := d.regsWithin_precoded p b1
  have hport : (d.precoded p b1).port p = d.port p := Dev.port_congr ((d.within_precoded p b1).part .fab (by decide)) p
  have htap : (d.precoded p b1).reg (Reg.fabTap p l) = d.reg (Reg.fabTap p l) := hregs _ (by simpa using hne)
  rw [Dev.trainTransmit_eq, Dev.tapAfter, ← hport, ← htap]
  generalize d.precoded p b1 = e at h14 h15 hregs
  split
  · exact ⟨rfl, h14, h15, hregs.mono (by simp)⟩
  · have hasked := e.regsWithin_tapsAsked p l b2 b3
    have hsame := hasked (Reg.fabStatus p) (by simpa using hne.symm)
    exact ⟨e.reg_tapsAsked p l b2 b3, (Dev.bit_congr hsame 14).trans h14, (Dev.bit_congr hsame 15).trans h15, (hregs.trans hasked).mono (by simp)⟩

/-- What a receiver does changes its lanes alone (R367). -/
theorem Dev.within_trainReceive (b1 b3 b4 fom : Nat) : d.Within [.fab] (d.trainReceive p l b1 b3 b4 fom) := by
  rw [Dev.trainReceive]
  split
  · exact d.within_refl.mono (by decide)
  · exact d.within_onLane p l _

theorem Dev.regsWithin_trainFail (reason : Nat) :
    d.RegsWithin [Reg.fabStatus p, Reg.fabTrains p, Reg.fabDrop p] (d.trainFail p reason) := by
  have hcounted : d.RegsWithin [Reg.fabStatus p, Reg.fabTrains p] (d.failCounted p reason) :=
    (((d.regsWithin_setFld _ _ _ _).trans (Dev.regsWithin_count _ _)).trans ((Dev.within_setPort _ p _).regsWithin (by decide))).mono (by simp)
  have hdead (e : Dev) : e.RegsWithin [Reg.fabStatus p, Reg.fabDrop p] (((e.setFld (Reg.fabStatus p) 2 0 7).discardHeld p).raise (256 + 4 * p + 1)) :=
    (((e.regsWithin_setFld _ _ _ _).trans (Dev.regsWithin_discardHeld _ p)).trans (Dev.regsWithin_raise _ _)).mono (by simp)
  rw [Dev.trainFail_eq]
  exact (hcounted.ite (hcounted.trans (hdead _))).mono (by simp)

theorem Dev.within_sendAlign : d.Within [.fab, .outbox] (d.sendAlign p) :=
  (d.within_setPort p _).trans (Dev.within_foldl (fun d _ => d.within_emit _) _ _)

/-- What the check of EQ's end leaves (R367, R368). -/
theorem Dev.eqCheck_spec : d.RegsWithin [Reg.fabStatus p, Reg.fabTrains p, Reg.fabDrop p] (d.eqCheck p) ∧
    ∀ i, 7 ≤ i → (d.eqCheck p).bit (Reg.fabStatus p) i = d.bit (Reg.fabStatus p) i := by
  rw [Dev.eqCheck]
  split
  · exact ⟨d.regsWithin_refl.mono (by simp), fun _ _ => rfl⟩
  · split
    · exact ⟨d.regsWithin_trainFail p 2, fun i hi => d.bit_trainFail p 2 hi⟩
    · split
      · have hsend := (Dev.within_sendAlign (d.setFld (Reg.fabStatus p) 2 0 4) p).regsWithin (by decide)
        refine ⟨((d.regsWithin_setFld _ _ _ _).trans hsend).mono (by simp), fun i hi => ?_⟩
        rw [Dev.bit_congr (hsend _ List.not_mem_nil), Dev.bit_setFld _ _ _ _ (by decide), if_neg (by omega)]
      · exact ⟨d.regsWithin_refl.mono (by simp), fun _ _ => rfl⟩

end

/-- What follows the transmitter's part of a TRAIN block: the checks, the receiver's part, and the lane's next TRAIN block (R365 to R368). -/
def Dev.trainRest (d : Dev) (p l b1 b3 b4 fom : Nat) : Dev :=
  let e := (d.lockCheck p).trainReceive p l b1 b3 b4 fom
  (e.emit (.block p l (e.trainBlock p l fom))).eqCheck p

theorem Dev.trainRest_spec (d : Dev) (p l b1 b3 b4 fom : Nat) :
    d.RegsWithin [Reg.fabStatus p, Reg.fabTrains p, Reg.fabDrop p] (d.trainRest p l b1 b3 b4 fom) ∧
    ∀ i, 7 ≤ i → (d.trainRest p l b1 b3 b4 fom).bit (Reg.fabStatus p) i = d.bit (Reg.fabStatus p) i := by
  rw [Dev.trainRest]
  have hlock := d.lockChecked p
  generalize d.lockCheck p = x at hlock ⊢
  have hreceive := x.within_trainReceive p l b1 b3 b4 fom
  generalize x.trainReceive p l b1 b3 b4 fom = y at hreceive ⊢
  have hemit := hreceive.trans (y.within_emit (.block p l (y.trainBlock p l fom)))
  generalize y.emit (.block p l (y.trainBlock p l fom)) = z at hemit ⊢
  obtain ⟨hregs, hbits⟩ := z.eqCheck_spec p
  have hsame := hemit.regsWithin (by decide)
  refine ⟨((hlock.regs.trans hsame).trans hregs).mono (by simp), fun i hi => ?_⟩
  rw [hbits i hi, Dev.bit_congr (hsame _ List.not_mem_nil), hlock.bits i (by omega)]

/-- The lane's figure of merit and its peer as a TRAIN block leaves them, before the transmitter's part (R365, R366). -/
def Dev.fomTaken (d : Dev) (p l b1 fom : Nat) : Dev := (d.onLane p l (fun x => x.peer b1)).setReg (Reg.fabFom p l) (BitVec.ofNat 32 fom)

theorem Dev.takeTrain_of_training {d : Dev} {p : Nat} (l : Nat) {blk : W64} (fom : Nat) (h : bits blk.toNat (8 * 0) 8 = 0x55)
    (hretry : (d.port p).retry = false) (hstate : d.portState p ∈ [2, 3]) : d.takeTrain p l blk fom =
      ((d.fomTaken p l (bits blk.toNat (8 * 1) 8) fom).trainTransmit p l (bits blk.toNat (8 * 1) 8) (bits blk.toNat (8 * 2) 8)
        (bits blk.toNat (8 * 3) 8)).trainRest p l (bits blk.toNat (8 * 1) 8) (bits blk.toNat (8 * 3) 8) (bits blk.toNat (8 * 4) 8) fom := by
  have hgo : ((d.port p).retry || !(d.portState p == 2 || d.portState p == 3)) = false := by
    simp only [List.mem_cons, List.not_mem_nil, or_false] at hstate
    rcases hstate with h | h <;> rw [hretry, h] <;> rfl
  rw [Dev.takeTrain, if_neg (not_not.mpr h), hgo, if_neg Bool.false_ne_true]
  rfl

section
variable {s : State} (hon : On s) (p : Fin 17) (l : Fin 4) (blk : W64) (samples : List Sample)
include hon

theorem does_trainBlock : Does (.trainBlock p l blk samples) s (s.dev.takeTrain p.val l.val blk (LineCode.figureOfMerit samples)) :=
  does_onDev hon (f := fun _ d => d.takeTrain p.val l.val blk (LineCode.figureOfMerit samples)) rfl rfl

theorem runs_trainBlock_stray (h : bits blk.toNat (8 * 0) 8 ≠ 0x55) : Runs (.trainBlock p l blk samples) s (Strays p.val l.val (blk.setWidth 8) s) := by
  have hdoes := does_trainBlock hon p l blk samples
  rw [Dev.takeTrain] at hdoes
  dsimp only at hdoes
  rw [if_pos h, Nat.mul_zero, bits_setWidth_byte] at hdoes
  exact runs_strayBlock hdoes

theorem does_trainBlock_ignored (h : bits blk.toNat (8 * 0) 8 = 0x55) (hno : (s.dev.port p.val).retry = true ∨ s.dev.portState p.val ∉ [2, 3]) :
    Does (.trainBlock p l blk samples) s s.dev := by
  have hdoes := does_trainBlock hon p l blk samples
  have hskip : ((s.dev.port p.val).retry || !(s.dev.portState p.val == 2 || s.dev.portState p.val == 3)) = true := by
    simpa using hno
  rw [Dev.takeTrain] at hdoes
  dsimp only at hdoes
  rwa [if_neg (not_not.mpr h), if_pos hskip] at hdoes

/-- A TRAIN block in LOCK or EQ (R364 to R368). -/
theorem runs_trainBlock (h : bits blk.toNat (8 * 0) 8 = 0x55) (hretry : (s.dev.port p.val).retry = false)
    (hstate : s.dev.portState p.val ∈ [2, 3]) : Runs (.trainBlock p l blk samples) s (fun t =>
      t.dev.reg (Reg.fabFom p.val l.val) = BitVec.ofNat 32 (LineCode.figureOfMerit samples) ∧
      t.dev.reg (Reg.fabTap p.val l.val) = s.dev.tapAfter p.val l.val (bits blk.toNat (8 * 2) 8) (bits blk.toNat (8 * 3) 8) ∧
      t.dev.bit (Reg.fabStatus p.val) 14 = bitAt (bits blk.toNat (8 * 1) 8) 3 ∧
      t.dev.bit (Reg.fabStatus p.val) 15 = bitAt (bits blk.toNat (8 * 1) 8) 4) := by
  have hl := l.isLt
  have hdoes := does_trainBlock hon p l blk samples
  generalize LineCode.figureOfMerit samples = fom at hdoes ⊢
  rw [Dev.takeTrain_of_training l.val fom h hretry hstate] at hdoes
  generalize bits blk.toNat (8 * 1) 8 = b1 at hdoes ⊢
  generalize bits blk.toNat (8 * 2) 8 = b2 at hdoes ⊢
  generalize bits blk.toNat (8 * 3) 8 = b3 at hdoes ⊢
  generalize bits blk.toNat (8 * 4) 8 = b4 at hdoes
  have hlane := s.dev.within_onLane p.val l.val (fun x => x.peer b1)
  have hsid := s.dev.sid_onLane p.val l.val (fun x => x.peer b1) (fun _ => rfl)
  have hfom : (s.dev.fomTaken p.val l.val b1 fom).reg (Reg.fabFom p.val l.val) = BitVec.ofNat 32 fom := Dev.reg_setReg_same ..
  have htap : (s.dev.fomTaken p.val l.val b1 fom).tapAfter p.val l.val b2 b3 = s.dev.tapAfter p.val l.val b2 b3 := by
    have hreg : (s.dev.fomTaken p.val l.val b1 fom).reg (Reg.fabTap p.val l.val) = s.dev.reg (Reg.fabTap p.val l.val) :=
      (Dev.reg_setReg_other _ _ (by simp only [Reg.fabTap, Reg.fabFom]; omega)).trans (Dev.reg_congr (hlane.part .regs (by decide)) _)
    have hport : (s.dev.fomTaken p.val l.val b1 fom).port p.val = (s.dev.onLane p.val l.val (fun x => x.peer b1)).port p.val :=
      Dev.port_congr (Dev.setReg_fab ..) _
    rw [Dev.tapAfter, hreg, hport, hsid, Dev.tapAfter]
  generalize s.dev.fomTaken p.val l.val b1 fom = d at hdoes hfom htap
  obtain ⟨htap', h14, h15, hregs⟩ := d.trainTransmit_spec p.val l.val b1 b2 b3
  generalize d.trainTransmit p.val l.val b1 b2 b3 = e at hdoes htap' h14 h15 hregs
  obtain ⟨hregs', hbits⟩ := e.trainRest_spec p.val l.val b1 b3 b4 fom
  generalize e.trainRest p.val l.val b1 b3 b4 fom = x at hdoes hregs' hbits
  have hkept (off : Nat) (hlo : 0x1000010 + 0x10000 * p.val ≤ off) (hhi : off < 0x1000030 + 0x10000 * p.val) : x.reg off = e.reg off :=
    hregs' off (by simp only [List.mem_cons, List.not_mem_nil, or_false, not_or, Reg.fabStatus, Reg.fabTrains, Reg.fabDrop]; omega)
  refine ⟨_, hdoes, ?_, ?_, (hbits 14 (by decide)).trans h14, (hbits 15 (by decide)).trans h15⟩
  · refine (hkept _ (by rw [Reg.fabFom]; omega) (by rw [Reg.fabFom]; omega)).trans ((hregs _ ?_).trans hfom)
    simp only [List.mem_cons, List.not_mem_nil, or_false, not_or, Reg.fabStatus, Reg.fabTap, Reg.fabFom]
    omega
  · exact (hkept _ (by rw [Reg.fabTap]; omega) (by rw [Reg.fabTap]; omega)).trans (htap'.trans htap)

end

/-! ### ENABLE and RETRAIN -/

theorem regRow_fabCtrl : ∀ p : Fin 17, regRow (Reg.fabCtrl p.val) = some ⟨0x1000000, 0x10000, 17, 0x7, 0, 0x7, 0, 0⟩ := by decide +kernel

theorem blockOf_fabCtrl : ∀ p : Fin 17, blockOf (Reg.fabCtrl p.val) = .fab := by decide +kernel

/-- A write that waits where none did. -/
theorem Dev.writeLater_first {d : Dev} (hpend : d.pend = []) (off : Nat) {mask : W32} (v : W32) (h : mask ≠ 0) :
    d.writeLater off mask v = { d with pend := [(off, { mask := mask, value := v &&& mask })] } := by
  have hnew : ({ mask := 0#32 ||| mask, value := 0#32 &&& ~~~mask ||| v &&& mask } : Buffered) = { mask := mask, value := v &&& mask } := by
    rw [BitVec.zero_or, BitVec.zero_and, BitVec.zero_or]
  have hne : ({ mask := mask, value := v &&& mask } : Buffered) ≠ Buffered.none off := fun heq => h (congrArg Buffered.mask heq)
  rw [Dev.writeLater, if_neg h, hpend]
  change { d with pend := tabSet Buffered.none [] off { mask := 0#32 ||| mask, value := 0#32 &&& ~~~mask ||| v &&& mask } } = _
  rw [hnew, tabSet, if_neg hne]
  rfl

theorem Dev.applyPend_one {d : Dev} {off : Nat} {b : Buffered} (hpend : d.pend = [(off, b)]) {p : Block → Bool} (hp : p (blockOf off) = true) :
    d.applyPend p = ({ d with pend := [] } : Dev).applyOne off b := by
  have hnow : [(off, b)].filter (fun e => p (blockOf e.1)) = [(off, b)] := List.filter_cons_of_pos hp
  have hrest : [(off, b)].filter (fun e => !p (blockOf e.1)) = [] := List.filter_cons_of_neg (by simp [hp])
  rw [Dev.applyPend, hpend, hnow, hrest]
  rfl

theorem Dev.applied_fabCtrl (d : Dev) (p : Nat) (old : W32) : d.applied (Reg.fabCtrl p) old = d := by
  have hbase : Reg.fabCtrl p ≠ Reg.stgDigBase ∧ Reg.fabCtrl p ≠ Reg.stgDigBase + 4 ∧ Reg.fabCtrl p ≠ Reg.stgDigSize ∧
      Reg.fabCtrl p ≠ Reg.dimTherm ∧ Reg.fabCtrl p ≠ Reg.dimFixed := by
    simp only [Reg.fabCtrl, Reg.stgDigBase, Reg.stgDigSize, Reg.dimTherm, Reg.dimFixed]
    omega
  obtain ⟨h1, h2, h3, h4, h5⟩ := hbase
  rw [Dev.applied, if_neg (by simp [h1, h2, h3]), if_neg h4, if_neg h5]

/-- FAB_CTRL's fields take effect at once (R506). -/
theorem Dev.plainWrite_fabCtrl {d : Dev} (hpend : d.pend = []) (p : Fin 17) (v : W32) :
    (d.plainWrite (Reg.fabCtrl p.val) v).bit (Reg.fabCtrl p.val) 0 = v.getLsbD 0 ∧
    d.RegsWithin [Reg.fabCtrl p.val] (d.plainWrite (Reg.fabCtrl p.val) v) ∧
    d.Within [.regs, .pend] (d.plainWrite (Reg.fabCtrl p.val) v) := by
  have hblock : d.boundaryNow (blockOf (Reg.fabCtrl p.val)) = true := by
    rw [blockOf_fabCtrl p, Dev.boundaryNow]
    exact Bool.or_true _
  rw [Dev.plainWrite, regRow_fabCtrl p]
  dsimp only
  have hnow : d.Within [.regs] (d.writeNow ⟨0x1000000, 0x10000, 17, 0x7, 0, 0x7, 0, 0⟩ (Reg.fabCtrl p.val) v) := d.within_setReg _ _
  have hregs : d.RegsWithin [Reg.fabCtrl p.val] (d.writeNow ⟨0x1000000, 0x10000, 17, 0x7, 0, 0x7, 0, 0⟩ (Reg.fabCtrl p.val) v) :=
    d.regsWithin_setReg _ _
  generalize d.writeNow ⟨0x1000000, 0x10000, 17, 0x7, 0, 0x7, 0, 0⟩ (Reg.fabCtrl p.val) v = e at hnow hregs ⊢
  rw [Dev.writeLater_first ((hnow.part .pend (by decide)).trans hpend) _ v (by decide), Dev.applyPend_one rfl hblock, Dev.applyOne,
    Dev.applied_fabCtrl]
  dsimp only
  have hdone : e.Within [.pend] { e with pend := [] } := e.within_pend _
  generalize ({ e with pend := [] } : Dev) = x at hdone ⊢
  refine ⟨?_, ((hregs.trans (hdone.regsWithin (by decide))).trans (Dev.regsWithin_setReg _ _ _)).mono (by simp),
    ((hnow.trans hdone).trans (Dev.within_setReg _ _ _)).mono (by decide)⟩
  rw [Dev.bit, Dev.reg_setReg_same]
  simp

section
variable {d : Dev} {p : Nat}

/-- ENABLE 0 holds the port in STATE 0 (R370). -/
theorem Dev.portState_portEnableApplied (h : d.bit (Reg.fabCtrl p) 0 = false) : (d.portEnableApplied p).portState p = 0 := by
  rw [Dev.portEnableApplied, h, if_neg Bool.false_ne_true]
  exact (Dev.portState_congr (Dev.reg_congr (Dev.setPort_regs ..) _)).trans (Dev.fld_setFld_same _ _ _ (by decide))

theorem Dev.bit_portEnableApplied (h : d.bit (Reg.fabCtrl p) 0 = false) : (d.portEnableApplied p).bit (Reg.fabCtrl p) 0 = false := by
  have hne : Reg.fabCtrl p ∉ [Reg.fabStatus p] := by simp [Reg.fabCtrl, Reg.fabStatus]
  have hdown (b : Bool) : d.RegsWithin [Reg.fabStatus p] (if b then d.noteDown p else d) :=
    ((d.regsWithin_flagRaise _ _ _).ite d.regsWithin_refl).mono (by simp)
  rw [Dev.portEnableApplied, h, if_neg Bool.false_ne_true]
  refine (Dev.bit_congr ?_ 0).trans h
  exact (Dev.reg_congr (Dev.setPort_regs ..) _).trans (((hdown _).trans (Dev.regsWithin_setFld _ _ _ _ _)) _ (by simpa using hne))

/-- A port without ENABLE does not start (R370). -/
theorem Dev.portStart_of_disabled (h : d.bit (Reg.fabCtrl p) 0 = false) : d.portStart p = d := by
  rw [Dev.portStart, h]
  rfl

/-- A port that starts enters CLOCK with no attempt failed (R369, R370). -/
structure Dev.Started (d e : Dev) (p : Nat) : Prop where
  state : e.portState p = 1
  fails : (e.port p).fails = 0
  retry : (e.port p).retry = false
  released : (e.port p).released = (d.port p).released
  enable : e.bit (Reg.fabCtrl p) 0 = d.bit (Reg.fabCtrl p) 0

theorem Dev.started_portStart (henable : d.bit (Reg.fabCtrl p) 0 = true) (hreleased : (d.port p).released = true) :
    d.Started (d.portStart p) p := by
  have hne : Reg.fabCtrl p ∉ Reg.fabStatus p :: fabTaps p := by
    rw [List.mem_cons, not_or]
    exact ⟨by simp [Reg.fabCtrl, Reg.fabStatus], not_mem_fabTaps (by rw [Reg.fabCtrl]; omega)⟩
  have hdown : d.RegsWithin [Reg.fabStatus p] (if d.portUp p then d.noteDown p else d) :=
    ((d.regsWithin_flagRaise _ _ _).ite d.regsWithin_refl).mono (by simp)
  rw [Dev.portStart, henable, hreleased, Bool.and_self, if_pos rfl]
  generalize (if d.portUp p then d.noteDown p else d) = e at hdown
  have hfails := e.port_setPort_same p { d.port p with fails := 0 }
  have hregs := (e.within_setPort p { d.port p with fails := 0 }).regsWithin (by decide)
  generalize e.setPort p { d.port p with fails := 0 } = x at hfails hregs ⊢
  have hclock := x.clocked_enterClock p
  exact {
    state := hclock.state
    fails := by rw [hclock.port, hfails]
    retry := by rw [hclock.port]
    released := by rw [hclock.port, hfails]
    enable := Dev.bit_congr (((hdown.trans hregs).trans hclock.regs) _ (by simpa using hne)) 0 }

end

section
variable {s : State} (hon : On s) (m : Master) (p : Fin 17) (v : W32)
include hon

theorem does_portEnable : Does (.portEnable m p v) s (if v.getLsbD 3 then
    ((s.dev.plainWrite (Reg.fabCtrl p.val) v).portEnableApplied p.val).portStart p.val
    else (s.dev.plainWrite (Reg.fabCtrl p.val) v).portEnableApplied p.val) :=
  does_onDev hon (f := fun _ d => d.fabCtrlWrite p.val v) rfl rfl

theorem does_portRetrain : Does (.portRetrain m p v) s (if v.getLsbD 3 then s.dev.fabCtrlWrite p.val v else s.dev) :=
  does_onDev hon (f := fun _ d => if v.getLsbD 3 then d.fabCtrlWrite p.val v else d) rfl rfl

/-- A write that clears ENABLE (R370). -/
theorem runs_portEnable_off (h : v.getLsbD 0 = false) (hpend : s.dev.pend = []) :
    Runs (.portEnable m p v) s (fun t => t.dev.portState p.val = 0) := by
  have hdoes := does_portEnable hon m p v
  obtain ⟨hbit, -, -⟩ := Dev.plainWrite_fabCtrl hpend p v
  rw [h] at hbit
  generalize s.dev.plainWrite (Reg.fabCtrl p.val) v = d at hdoes hbit
  have hstate := Dev.portState_portEnableApplied hbit
  have hstart := Dev.portStart_of_disabled (Dev.bit_portEnableApplied hbit)
  rw [hstart, ite_self] at hdoes
  generalize d.portEnableApplied p.val = e at hdoes hstate
  exact ⟨_, hdoes, hstate⟩

/-- A write that sets ENABLE in STATE 0, or RETRAIN (R369, R370). -/
theorem runs_portEnable_on (h : v.getLsbD 0 = true) (hpend : s.dev.pend = []) (hreleased : (s.dev.port p.val).released = true)
    (hgo : s.dev.portState p.val = 0 ∨ v.getLsbD 3 = true) : Runs (.portEnable m p v) s (fun t =>
      t.dev.portState p.val = 1 ∧ (t.dev.port p.val).fails = 0 ∧ (t.dev.port p.val).retry = false) := by
  have hdoes := does_portEnable hon m p v
  obtain ⟨hbit, hregs, hwithin⟩ := Dev.plainWrite_fabCtrl hpend p v
  rw [h] at hbit
  generalize s.dev.plainWrite (Reg.fabCtrl p.val) v = d at hdoes hbit hregs hwithin
  have hport : d.port p.val = s.dev.port p.val := Dev.port_congr (hwithin.part .fab (by decide)) p.val
  have hrel : (d.port p.val).released = true := by rw [hport, hreleased]
  have hstate : d.portState p.val = s.dev.portState p.val := Dev.portState_congr (hregs _ (by simp [Reg.fabStatus, Reg.fabCtrl]))
  rw [Dev.portEnableApplied, hbit, if_pos rfl, hstate] at hdoes
  have hstart := Dev.started_portStart hbit hrel
  by_cases h0 : s.dev.portState p.val = 0
  · rw [if_pos h0] at hdoes
    generalize d.portStart p.val = e at hdoes hstart
    have hagain := Dev.started_portStart (hstart.enable.trans hbit) (hstart.released.trans hrel)
    split at hdoes
    · generalize e.portStart p.val = x at hdoes hagain
      exact ⟨_, hdoes, hagain.state, hagain.fails, hagain.retry⟩
    · exact ⟨_, hdoes, hstart.state, hstart.fails, hstart.retry⟩
  · rw [if_neg h0, hgo.resolve_left h0, if_pos rfl] at hdoes
    generalize d.portStart p.val = e at hdoes hstart
    exact ⟨_, hdoes, hstart.state, hstart.fails, hstart.retry⟩

end

/-- Settles O52. -/
theorem portTraining : Obligations.PortTraining := by
  unfold Obligations.PortTraining
  refine ⟨tapsOk_tapRequest, fun s p l hon => ?_, fun s m p v hon => ?_⟩
  · intro d st
    obtain ⟨hclock, hclockNo⟩ := runs_trainClockStable hon p
    refine ⟨fun h => runs_same ?_, runs_headerLock hon p l, hclock, hclockNo, fun blk => ?_, fun blk samples => ?_⟩
    · have hdoes := does_headerLock hon p l
      rwa [if_pos h] at hdoes
    · exact ⟨runs_alignBlock_stray hon p l blk, runs_alignBlock_lane hon p l blk, does_alignBlock_align hon p l blk⟩
    · intro b
      exact ⟨runs_trainBlock_stray hon p l blk samples, fun h hno => runs_same (does_trainBlock_ignored hon p l blk samples h hno),
        runs_trainBlock hon p l blk samples⟩
  · intro written
    have henable := does_portEnable hon m p v
    have hretrain := does_portRetrain hon m p v
    refine ⟨fun h => ?_, fun h => ?_, runs_portEnable_off hon m p v, runs_portEnable_on hon m p v⟩
    · rw [h, if_neg Bool.false_ne_true] at henable hretrain
      exact ⟨henable, hretrain⟩
    · rw [h, if_pos rfl] at henable hretrain
      rw [Dev.fabCtrlWrite, h, if_pos rfl] at hretrain
      exact ⟨henable, hretrain⟩

end Sys2Proof.Machine
end

section
/-! The House Clock, SYNC and the servo, link delays, and the fall of the Curtain (R399, R401, R402, R404 to R408, R410): O56. -/
namespace Sys2Proof.Machine

/-! ### Fields of bytes laid one after another -/

theorem field_leBytes (n v : Nat) (ys : List Byte) : field (leBytes n v ++ ys) 0 n = v % 256 ^ n := by
  have hle := leNat_leBytes_append n v []
  rw [field, List.drop_zero, List.take_append_of_le_length (by simp), List.take_of_length_le (by simp)]
  rwa [List.append_nil, leNat, Nat.mul_zero, Nat.add_zero] at hle

theorem field_skip (n v : Nat) (ys : List Byte) (k len : Nat) : field (leBytes n v ++ ys) (n + k) len = field ys k len := by
  rw [field, List.drop_append, List.drop_of_length_le (by simp), List.nil_append, leBytes_length, Nat.add_sub_cancel_left, field]

theorem leNat_replicate_zero (n : Nat) : leNat (List.replicate n 0) = 0 := by
  induction n with
  | zero => rfl
  | succ n ih => rw [List.replicate_succ, leNat, ih]; rfl

/-- A TIME_SYNC payload, laid out (Table 13-1). -/
theorem timePayload_eq (sub hops seqid time : Nat) (corr : Int) : timePayload sub hops seqid time corr =
    leBytes 1 sub ++ (leBytes 1 hops ++ (leBytes 2 seqid ++ (leBytes 4 0 ++ (leBytes 8 time ++ (leBytes 8 (trunc 64 corr) ++ List.replicate 8 0))))) := by
  rw [timePayload, padTo, List.take_of_length_le (by simp)]
  simp

theorem trunc_lt (w : Nat) (i : Int) : trunc w i < 2 ^ w := by
  have hpos : (0 : Int) < ((2 ^ w : Nat) : Int) := by exact_mod_cast Nat.two_pow_pos w
  have h1 := Int.emod_nonneg i hpos.ne'
  have h2 := Int.emod_lt_of_pos i hpos
  rw [trunc]
  omega

theorem timePayload_fields (sub hops seqid time : Nat) (corr : Int) : (timePayload sub hops seqid time corr).length = 32 ∧
    field (timePayload sub hops seqid time corr) 0 1 = sub % 256 ∧ field (timePayload sub hops seqid time corr) 1 1 = hops % 256 ∧
    field (timePayload sub hops seqid time corr) 2 2 = seqid % 2 ^ 16 ∧ field (timePayload sub hops seqid time corr) 4 4 = 0 ∧
    field (timePayload sub hops seqid time corr) 8 8 = time % 2 ^ 64 ∧ field (timePayload sub hops seqid time corr) 16 8 = trunc 64 corr ∧
    field (timePayload sub hops seqid time corr) 24 8 = 0 := by
  refine ⟨length_padTo 32 _, ?_⟩
  rw [timePayload_eq]
  refine ⟨field_leBytes .., ?_, ?_, ?_, ?_, ?_, ?_⟩
  · rw [field_skip 1 _ _ 0]
    exact field_leBytes ..
  · rw [field_skip 1 _ _ 1, field_skip 1 _ _ 0]
    exact field_leBytes ..
  · rw [field_skip 1 _ _ 3, field_skip 1 _ _ 2, field_skip 2 _ _ 0]
    exact field_leBytes ..
  · rw [field_skip 1 _ _ 7, field_skip 1 _ _ 6, field_skip 2 _ _ 4, field_skip 4 _ _ 0]
    exact field_leBytes ..
  · rw [field_skip 1 _ _ 15, field_skip 1 _ _ 14, field_skip 2 _ _ 12, field_skip 4 _ _ 8, field_skip 8 _ _ 0, field_leBytes]
    exact Nat.mod_eq_of_lt (trunc_lt 64 corr)
  · rw [field_skip 1 _ _ 23, field_skip 1 _ _ 22, field_skip 2 _ _ 20, field_skip 4 _ _ 16, field_skip 8 _ _ 8, field_skip 8 _ _ 0]
    exact leNat_replicate_zero 8

/-! ### The clock -/

section
variable (d : Dev) (k : Nat)

/-- The clock `k` increments on, its wrap not yet told (R399). -/
def Dev.advanced : Dev :=
  ({ d with hck := { d.hck with time := BitVec.ofNat 56 (d.hck.time.toNat + k * d.increment) }, snapTicks := d.snapTicks + k
            dim := { d.dim with prearm := nearer k d.dim.prearm }, lines := d.lines.pass k } : Dev).setReg Reg.hckIncr
    (BitVec.ofNat 32 d.increment)

theorem Dev.advance_eq : d.advance k =
    if 2 ^ 56 ≤ d.hck.time.toNat + k * d.increment then (d.advanced k).raise 336 else d.advanced k := rfl

theorem Dev.hck_advance : (d.advance k).hck.time = BitVec.ofNat 56 (d.hck.time.toNat + k * d.increment) := by
  have hraise : ((d.advanced k).raise 336).hck = (d.advanced k).hck := (Dev.within_raise _ 336).part .hck (by decide)
  rw [Dev.advance_eq]
  split
  · rw [hraise]
    rfl
  · rfl

theorem Dev.time_advance_add : (d.advance k).hck.time = d.hck.time + BitVec.ofNat 56 (k * d.increment) := by
  rw [d.hck_advance, BitVec.ofNat_add, BitVec.ofNat_toNat, BitVec.setWidth_eq]

/-- The ticks to a gap pass it by less than one increment. -/
theorem ticksFor_bounds {gap inc : Nat} (h : inc ≠ 0) : gap ≤ ticksFor gap inc * inc ∧ ticksFor gap inc * inc < gap + inc := by
  rw [ticksFor, if_neg h, ceilDiv]
  have hpos : 0 < inc := Nat.pos_of_ne_zero h
  have hdiv := Nat.div_add_mod (gap + inc - 1) inc
  have hmod := Nat.mod_lt (gap + inc - 1) hpos
  rw [Nat.mul_comm] at hdiv
  omega

/-- The clock as it wraps (R399, R401). -/
theorem Dev.runToWrap_spec (h : d.increment ≠ 0) : d.runToWrap.hck.time.toNat < d.increment ∧
    (∃ k, d.runToWrap.hck.time = d.hck.time + BitVec.ofNat 56 (k * d.increment)) ∧
    d.runToWrap.arrivalCount 336 = min 255 (d.arrivalCount 336 + 1) := by
  have hinc : d.increment < 2 ^ 32 := BitVec.isLt _
  have ht : d.hck.time.toNat < 2 ^ 56 := BitVec.isLt _
  obtain ⟨hlo, hhi⟩ := ticksFor_bounds (gap := 2 ^ 56 - d.hck.time.toNat) h
  have hpast : 2 ^ 56 ≤ d.hck.time.toNat + ticksFor (2 ^ 56 - d.hck.time.toNat) d.increment * d.increment := by omega
  refine ⟨?_, ⟨_, d.time_advance_add _⟩, ?_⟩
  · rw [Dev.runToWrap, d.hck_advance, BitVec.toNat_ofNat]
    omega
  · have hadvanced : ∀ k, (d.advanced k).arrivalCount 336 = d.arrivalCount 336 := fun _ => rfl
    rw [Dev.runToWrap, Dev.advance_eq, if_pos hpast, Dev.arrivalCount_raise, if_pos rfl, hadvanced]

end

/-! ### The servo -/

theorem clampInt_eq {lo hi : Int} (h : lo ≤ hi) (i : Int) : clampInt lo hi i = max lo (min hi i) := by
  rw [clampInt]
  split
  · omega
  · split <;> omega

section
variable (d : Dev)

/-- No offset within the lock has been seen (R408). -/
def Dev.unlocking : Dev := { d with hck := { d.hck with good := 0 } }

theorem Dev.unlock_eq : d.unlock = if d.bit Reg.hckStatus 0 then (d.unlocking.clrBit Reg.hckStatus 0).raise 338 else d.unlocking := rfl

/-- What clearing LOCKED leaves (R408). -/
theorem Dev.unlock_spec : d.unlock.hck = { d.hck with good := 0 } ∧ d.unlock.bit Reg.hckStatus 0 = false ∧
    (∀ i, i ≠ 0 → d.unlock.bit Reg.hckStatus i = d.bit Reg.hckStatus i) ∧
    (∀ x, x ≠ 338 → d.unlock.arrivalCount x = d.arrivalCount x) ∧
    (d.bit Reg.hckStatus 0 = true → d.unlock.arrivalCount 338 = min 255 (d.arrivalCount 338 + 1)) ∧
    d.RegsWithin [Reg.hckStatus] d.unlock ∧ d.Within (.regs :: .hck :: raising) d.unlock := by
  have hwithin : d.Within [.hck] d.unlocking := d.within_hck _
  have hhck : d.unlocking.hck = { d.hck with good := 0 } := rfl
  rw [Dev.unlock_eq]
  generalize d.unlocking = e at hwithin hhck
  have hreg (off : Nat) : e.reg off = d.reg off := hwithin.regsWithin (by decide) off List.not_mem_nil
  have harr (x : Nat) : e.arrivalCount x = d.arrivalCount x := by
    rw [Dev.arrivalCount, show e.arrivals = d.arrivals from hwithin.part .arrivals (by decide), Dev.arrivalCount]
  by_cases hlock : d.bit Reg.hckStatus 0 = true
  · rw [if_pos hlock]
    have hclr : (e.clrBit Reg.hckStatus 0).bit Reg.hckStatus 0 = false := Dev.bit_clrBit_same _ _ (by decide)
    have hkeep (i : Nat) (hi : i ≠ 0) : (e.clrBit Reg.hckStatus 0).bit Reg.hckStatus i = e.bit Reg.hckStatus i := by
      rw [Dev.clrBit, Dev.bit_setFld _ _ _ _ (by decide), if_neg (by omega)]
    have hset := hwithin.trans (e.within_clrBit Reg.hckStatus 0)
    have hregs := (hwithin.regsWithin (by decide)).trans (e.regsWithin_clrBit Reg.hckStatus 0)
    have hcount (x : Nat) : (e.clrBit Reg.hckStatus 0).arrivalCount x = e.arrivalCount x := rfl
    have hhck' : (e.clrBit Reg.hckStatus 0).hck = e.hck := rfl
    generalize e.clrBit Reg.hckStatus 0 = x at hclr hkeep hset hregs hcount hhck'
    refine ⟨?_, (Dev.bit_congr (Dev.reg_raise ..) 0).trans hclr, fun i hi => ?_, fun y hy => ?_, fun _ => ?_,
      (hregs.trans (Dev.regsWithin_raise x 338)).mono (by decide), (hset.trans (x.within_raise 338)).mono (by decide)⟩
    · rw [show (x.raise 338).hck = x.hck from (x.within_raise 338).part .hck (by decide), hhck', hhck]
    · rw [Dev.bit_congr (Dev.reg_raise ..), hkeep i hi, Dev.bit_congr (hreg _)]
    · rw [Dev.arrivalCount_raise, if_neg hy, hcount, harr]
    · rw [Dev.arrivalCount_raise, if_pos rfl, hcount, harr]
  · rw [if_neg hlock]
    exact ⟨hhck, (Dev.bit_congr (hreg _) 0).trans (Bool.not_eq_true _ ▸ hlock), fun i _ => Dev.bit_congr (hreg _) i, fun x _ => harr x,
      fun h => absurd h hlock, (hwithin.regsWithin (by decide)).mono (by decide), hwithin.mono (by decide)⟩

variable (o : Int)

/-- A step ordered (R407). -/
def Dev.stepOrdered : Dev := ({ d with hck := { d.hck with step := some o, integ := 0 } } : Dev).setReg Reg.hckAdj 0 |>.count Reg.hckSteps

/-- A new adjustment (R407). -/
def Dev.adjusted : Dev :=
  ({ d with hck := { d.hck with integ := clampInt (-16384) 16384 (d.hck.integ - o / 1024) } } : Dev).setReg Reg.hckAdj
    (BitVec.ofInt 32 (clampInt (-16384) 16384 (clampInt (-16384) 16384 (d.hck.integ - o / 1024) - o / 64)))

theorem Dev.servo_eq : d.servo o = if d.fld Reg.hckStepLimit 15 0 * 65536 ≤ o.natAbs then
    ((d.stepOrdered o).flagRaise Reg.hckStatus 2 339).unlock else d.adjusted o := rfl

/-- An offset at the limit or past it (R407). -/
theorem Dev.servo_step (h : d.fld Reg.hckStepLimit 15 0 * 65536 ≤ o.natAbs) : (d.servo o).hck.step = some o ∧ (d.servo o).hck.integ = 0 ∧
    (d.servo o).reg Reg.hckAdj = 0 ∧ (d.servo o).reg Reg.hckSteps = BitVec.ofNat 32 (min ((d.reg Reg.hckSteps).toNat + 1) 0xFFFFFFFF) ∧
    (d.servo o).bit Reg.hckStatus 0 = false ∧ (d.servo o).bit Reg.hckStatus 2 = true ∧
    (d.servo o).arrivalCount 339 = min 255 (d.arrivalCount 339 + 1) := by
  rw [Dev.servo_eq, if_pos h]
  have hhck : (d.stepOrdered o).hck = { d.hck with step := some o, integ := 0 } := rfl
  have hadj : (d.stepOrdered o).reg Reg.hckAdj = 0 := (Dev.reg_count_other _ (by decide)).trans (Dev.reg_setReg_same ..)
  have hsteps : (d.stepOrdered o).reg Reg.hckSteps = BitVec.ofNat 32 (min ((d.reg Reg.hckSteps).toNat + 1) 0xFFFFFFFF) := by
    rw [Dev.stepOrdered, Dev.reg_count_same, Dev.reg_setReg_other _ _ (by decide)]
    rfl
  have harr : (d.stepOrdered o).arrivalCount 339 = d.arrivalCount 339 := rfl
  generalize d.stepOrdered o = e at hhck hadj hsteps harr
  have hflag := e.bit_flagRaise_same Reg.hckStatus (i := 2) 339 (by decide)
  have hregs := e.regsWithin_flagRaise Reg.hckStatus 2 339
  have hhck' := (e.within_flagRaise Reg.hckStatus 2 339).part .hck (by decide)
  have harr' : (e.flagRaise Reg.hckStatus 2 339).arrivalCount 339 = min 255 (e.arrivalCount 339 + 1) := by
    rw [Dev.flagRaise, Dev.arrivalCount_raise, if_pos rfl]
    rfl
  generalize e.flagRaise Reg.hckStatus 2 339 = x at hflag hregs hhck' harr'
  obtain ⟨hunlock, hclear, hbits, hcounts, -, hunregs, -⟩ := x.unlock_spec
  generalize x.unlock = y at hunlock hclear hbits hcounts hunregs
  have hhck'' : x.hck = { d.hck with step := some o, integ := 0 } := Eq.trans hhck' hhck
  refine ⟨by rw [hunlock, hhck''], by rw [hunlock, hhck''], ?_, ?_, hclear, (hbits 2 (by decide)).trans hflag, ?_⟩
  · rw [hunregs _ (by decide), hregs _ (by decide), hadj]
  · rw [hunregs _ (by decide), hregs _ (by decide), hsteps]
  · rw [hcounts 339 (by decide), harr', harr]

/-- A smaller offset (R407). -/
theorem Dev.servo_adjust (h : o.natAbs < d.fld Reg.hckStepLimit 15 0 * 65536) : (d.servo o).hck.step = d.hck.step ∧
    (d.servo o).hck.integ = max (-16384) (min 16384 (d.hck.integ - o / 1024)) ∧
    (d.servo o).reg Reg.hckAdj = BitVec.ofInt 32 (max (-16384) (min 16384 ((d.servo o).hck.integ - o / 64))) := by
  have hclamp (i : Int) : clampInt (-16384) 16384 i = max (-16384) (min 16384 i) := clampInt_eq (by decide) i
  rw [Dev.servo_eq, if_neg (by omega)]
  have hinteg : (d.adjusted o).hck.integ = clampInt (-16384) 16384 (d.hck.integ - o / 1024) := rfl
  refine ⟨rfl, hinteg.trans (hclamp _), ?_⟩
  rw [hinteg, ← hclamp]
  exact Dev.reg_setReg_same ..

end

/-! ### The fall of the Curtain -/

section
variable (d : Dev)

theorem Dev.fld_setOp {op : Nat} (h : op < 8) : (d.setOp op).fld Reg.dimStatus 2 0 = op := by
  rw [Dev.setOp]
  split
  · next heq => exact heq
  · rw [Dev.fld_congr (Dev.reg_congr (Dev.pulse_regs ..) _), Dev.fld_congr (Dev.reg_count_other _ (by decide)), Dev.fld_setFld_same _ _ _ (by decide)]
    exact Nat.mod_eq_of_lt h

/-- A fall in time, counted and told (R410). -/
def Dev.fallCounted : Dev := (d.count Reg.hckCurtains).raise 341

/-- The Prompter runs again, the Curtain gone (R184, R410). -/
def Dev.fallOpened (w : CurtainWait) : Dev :=
  ({ d with hck := { d.hck with curtain := none }, dim := { d.dim with afterCurtain := true }
            prompter := { d.prompter with run := if w.init then .init else .step } } : Dev).retire

theorem Dev.curtainFalls_of_good {w : CurtainWait} (hlate : w.late = false) (hlock : d.hckLocked = true) :
    d.curtainFalls w = ((d.fallCounted.fallOpened w).setOp 1).rampUp := by
  rw [Dev.curtainFalls, hlate, hlock]
  simp only [Bool.not_true, Bool.or_false, Bool.false_eq_true, if_false]
  rw [Dev.fallOpened, Dev.fallCounted]

theorem Dev.within_fallOpened (w : CurtainWait) : d.Within [.hck, .dim, .prompter] (d.fallOpened w) := by
  intro s p hp
  cases p with
  | hck | dim | prompter | lines => simp at hp
  | _ => rfl

theorem Dev.rampUp_of_dark {d : Dev} (h : d.stage.power = .dark) : d.rampUp = { d with stage := { d.stage with power := .rampUp } } := by
  rw [Dev.rampUp, h]

end

section
variable {s : State} (hon : On s)
include hon

theorem does_curtainFall : Does .curtainFall s s.dev.curtainFall := does_onDev hon (f := fun _ d => d.curtainFall) rfl rfl

/-- The Curtain falls in time (R184, R410, R412). -/
theorem runs_curtainFall {w : CurtainWait} {at_ : Nat} (hw : s.dev.hck.curtain = some w) (hfall : w.fall = some at_)
    (hthere : atOrAfter s.dev.time48 at_ = true) (hlate : w.late = false) (hlock : s.dev.hckLocked = true)
    (hdark : s.dev.stage.power = .dark) : Runs .curtainFall s (fun t =>
      t.dev.reg Reg.hckCurtains = BitVec.ofNat 32 (min ((s.dev.reg Reg.hckCurtains).toNat + 1) 0xFFFFFFFF) ∧ Raised 341 s t ∧
      t.dev.hck.curtain = none ∧ t.dev.prompter.run = (if w.init then .init else .step) ∧ t.dev.stage.power = .rampUp ∧
      t.dev.fld Reg.dimStatus 2 0 = 1 ∧ (t.dev.prompter.pc, t.dev.prompter.loops) = s.dev.prompter.after) := by
  have hdoes := does_curtainFall hon
  rw [Dev.curtainFall, hw] at hdoes
  dsimp only at hdoes
  rw [hfall] at hdoes
  dsimp only at hdoes
  rw [if_pos hthere, s.dev.curtainFalls_of_good hlate hlock] at hdoes
  have hcount : s.dev.fallCounted.reg Reg.hckCurtains = BitVec.ofNat 32 (min ((s.dev.reg Reg.hckCurtains).toNat + 1) 0xFFFFFFFF) :=
    (Dev.reg_raise ..).trans (Dev.reg_count_same ..)
  have hraised : Raised 341 s { s with dev := s.dev.fallCounted } := raised_raise (Dev.count_arrivals ..) 341
  have hwithin : s.dev.Within (.regs :: raising) s.dev.fallCounted := (s.dev.within_count _).trans (Dev.within_raise _ 341)
  generalize s.dev.fallCounted = d at hdoes hcount hraised hwithin
  have hprompter : d.prompter = s.dev.prompter := hwithin.part .prompter (by decide)
  have hopened : (d.fallOpened w).hck.curtain = none ∧ (d.fallOpened w).prompter.run = (if w.init then .init else .step) ∧
      ((d.fallOpened w).prompter.pc, (d.fallOpened w).prompter.loops) = s.dev.prompter.after := by
    rw [← hprompter]
    exact ⟨rfl, rfl, rfl⟩
  have hopen := d.within_fallOpened w
  generalize d.fallOpened w = e at hdoes hopened hopen
  obtain ⟨hgone, hrun, hafter⟩ := hopened
  have hop := e.fld_setOp (op := 1) (by decide)
  have hreg := e.reg_setOp_other 1 (off := Reg.hckCurtains) (by decide)
  have hset := e.within_setOp 1
  generalize e.setOp 1 = x at hdoes hop hreg hset
  have hstage : x.stage.power = .dark := by
    rw [show x.stage = s.dev.stage from ((hwithin.trans hopen).trans hset).part .stage (by decide), hdark]
  rw [Dev.rampUp_of_dark hstage] at hdoes
  have hsame : x.reg Reg.hckCurtains = d.reg Reg.hckCurtains := hreg.trans (hopen.regsWithin (by decide) _ List.not_mem_nil)
  have hp : x.prompter = e.prompter := hset.part .prompter (by decide)
  refine ⟨_, hdoes, hsame.trans hcount, hraised.congr ((hopen.trans hset).part .arrivals (by decide)), ?_, ?_, rfl, hop, ?_⟩
  · exact (congrArg (·.curtain) (hset.part .hck (by decide))).trans hgone
  · exact (congrArg (·.run) hp).trans hrun
  · exact (congrArg (fun p : Prompter => (p.pc, p.loops)) hp).trans hafter

/-! ### SYNC -/

theorem does_syncSend (ts : List (BitVec 48)) : Does (.syncSend ts) s
    (if s.dev.timeLead then s.dev.sendSyncs 0 (fun q => (ts.getD q 0).toNat) (fun _ => 0) else s.dev) :=
  does_onDev hon (f := fun _ d => if d.timeLead then d.sendSyncs 0 (fun q => (ts.getD q 0).toNat) (fun _ => 0) else d) rfl rfl

theorem does_syncLoss : Does .syncLoss s (if s.dev.timeLead then s.dev else s.dev.unlock.flagRaise Reg.hckStatus 3 340) :=
  does_onDev hon (f := fun _ d => if d.timeLead then d else d.unlock.flagRaise Reg.hckStatus 3 340) rfl rfl

/-- A follower without SYNC (R408). -/
theorem runs_syncLoss (h : s.dev.timeLead = false) : Runs .syncLoss s (fun t => t.dev.bit Reg.hckStatus 0 = false ∧
    t.dev.bit Reg.hckStatus 3 = true ∧ t.dev.hck = { s.dev.hck with good := 0 } ∧
    t.dev.arrivalCount 340 = min 255 (s.dev.arrivalCount 340 + 1) ∧
    (s.dev.bit Reg.hckStatus 0 = true → t.dev.arrivalCount 338 = min 255 (s.dev.arrivalCount 338 + 1)) ∧
    KeepsRegs [Reg.hckStatus] s t ∧ Keeps (.regs :: .hck :: raising) s t) := by
  have hdoes := does_syncLoss hon
  rw [if_neg (ne_true_of_eq_false h)] at hdoes
  obtain ⟨hhck, hclear, -, hcounts, hlost, hregs, hwithin⟩ := s.dev.unlock_spec
  generalize s.dev.unlock = e at hdoes hhck hclear hcounts hlost hregs hwithin
  have hflag := e.bit_flagRaise_same Reg.hckStatus (i := 3) 340 (by decide)
  have hlow : (e.flagRaise Reg.hckStatus 3 340).bit Reg.hckStatus 0 = e.bit Reg.hckStatus 0 :=
    (Dev.bit_congr (Dev.reg_raise ..) 0).trans (Dev.bit_setBit_apart _ _ (by decide) (by decide))
  have harr (x : Nat) : (e.flagRaise Reg.hckStatus 3 340).arrivalCount x = if x = 340 then min 255 (e.arrivalCount 340 + 1) else e.arrivalCount x := by
    rw [Dev.flagRaise, Dev.arrivalCount_raise]
    rfl
  have hregs' := hregs.trans (e.regsWithin_flagRaise Reg.hckStatus 3 340)
  have hwithin' := e.within_flagRaise Reg.hckStatus 3 340
  generalize e.flagRaise Reg.hckStatus 3 340 = x at hdoes hflag hlow harr hregs' hwithin'
  refine ⟨_, hdoes, hlow.trans hclear, hflag, Eq.trans (hwithin'.part .hck (by decide)) hhck, ?_, fun hlock => ?_,
    (hregs'.mono (by decide)).keepsRegs, ((hwithin.trans hwithin').mono (by decide)).keeps⟩
  · exact (harr 340).trans ((if_pos rfl).trans (by rw [hcounts 340 (by decide)]))
  · exact (harr 338).trans ((if_neg (by decide)).trans (hlost hlock))

/-! ### Link delays -/

/-- A request sent, stamped `t1` (R405). -/
theorem runs_pdelayReqSend (p : Fin 17) (t1 : BitVec 48) :
    (s.dev.portUp p.val = false → Runs (.pdelayReqSend p t1) s (fun t => t = s)) ∧
    (s.dev.portUp p.val = true → Runs (.pdelayReqSend p t1) s (fun t =>
      t.dev.port p.val = { s.dev.port p.val with
        pdSeq := ((s.dev.port p.val).pdSeq + 1) % 65536, pdReq := some ((s.dev.port p.val).pdSeq, t1.toNat) } ∧
      (∃ st h c, t.dev.outbox = s.dev.outbox ++ [.frame p.val st h (timePayload 2 0 (s.dev.port p.val).pdSeq t1.toNat 0) c]) ∧
      (∀ k, k ≠ p.val → t.dev.port k = s.dev.port k) ∧ Keeps [.fab, .wide, .outbox] s t)) := by
  have hdoes : Does (.pdelayReqSend p t1) s (if s.dev.portUp p.val then (s.dev.setPort p.val { s.dev.port p.val with
      pdSeq := ((s.dev.port p.val).pdSeq + 1) % 65536, pdReq := some ((s.dev.port p.val).pdSeq, t1.toNat) }).sendTime p.val
      (timePayload 2 0 (s.dev.port p.val).pdSeq t1.toNat 0) else s.dev) :=
    does_onDev hon (f := fun _ d => if d.portUp p.val then (d.setPort p.val { d.port p.val with
      pdSeq := ((d.port p.val).pdSeq + 1) % 65536, pdReq := some ((d.port p.val).pdSeq, t1.toNat) }).sendTime p.val
      (timePayload 2 0 (d.port p.val).pdSeq t1.toNat 0) else d) rfl rfl
  generalize timePayload 2 0 (s.dev.port p.val).pdSeq t1.toNat 0 = b at hdoes ⊢
  generalize ({ s.dev.port p.val with
    pdSeq := ((s.dev.port p.val).pdSeq + 1) % 65536, pdReq := some ((s.dev.port p.val).pdSeq, t1.toNat) } : Port) = y at hdoes ⊢
  refine ⟨fun h => ?_, fun h => ?_⟩
  · rw [if_neg (ne_true_of_eq_false h)] at hdoes
    exact runs_same hdoes
  · rw [if_pos h] at hdoes
    have hport := s.dev.port_setPort p.val (x := y)
    have hset := s.dev.within_setPort p.val y
    generalize s.dev.setPort p.val y = e at hdoes hport hset
    have hup : e.portUp p.val = true := (Dev.portUp_congr (hset.regsWithin (by decide) _ List.not_mem_nil)).trans h
    rw [Dev.sendTime, Dev.sendPlain, if_pos hup] at hdoes
    have hout := e.outbox_transmit p.val (e.frame 3 (e.fld (Reg.fabPeer p.val) 12 0) 0 b) 0 false
    have hsend := e.within_transmit p.val (e.frame 3 (e.fld (Reg.fabPeer p.val) 12 0) 0 b) 0 false
    obtain ⟨st, hd, c, hframe, -, -⟩ := (e.frame 3 (e.fld (Reg.fabPeer p.val) 12 0) 0 b).out_eq p.val 0 (e.port p.val).expect false
    rw [hframe, hset.part .outbox (by decide)] at hout
    have hpay : (e.frame 3 (e.fld (Reg.fabPeer p.val) 12 0) 0 b).payload = b := rfl
    rw [hpay] at hout
    generalize e.transmit p.val (e.frame 3 (e.fld (Reg.fabPeer p.val) 12 0) 0 b) 0 false = x at hdoes hout hsend
    have hsame (k : Nat) : x.port k = e.port k := Dev.port_congr (hsend.part .fab (by decide)) k
    exact ⟨_, hdoes, (hsame _).trans ((hport _).trans (if_pos rfl)), ⟨st, hd, c, hout⟩,
      fun k hk => (hsame k).trans ((hport k).trans (if_neg hk)), ((hset.trans hsend).mono (by decide)).keeps⟩

theorem runs_pdelayTimeout (p : Fin 17) : Runs (.pdelayTimeout p) s (fun t => t.dev.port p.val = { s.dev.port p.val with pdReq := none } ∧
    (∀ k, k ≠ p.val → t.dev.port k = s.dev.port k) ∧ Keeps [.fab] s t) := by
  have hdoes : Does (.pdelayTimeout p) s (s.dev.setPort p.val { s.dev.port p.val with pdReq := none }) :=
    does_onDev hon (f := fun _ d => d.setPort p.val { d.port p.val with pdReq := none }) rfl rfl
  exact ⟨_, hdoes, Dev.port_setPort_same .., fun k hk => (Dev.port_setPort ..).trans (if_neg hk), (s.dev.within_setPort _ _).keeps⟩

end

/-! ### Frames of time transfer -/

section
variable {s : State} {p : Fin 17} {f : Frame} (h : Arrives s p f)
include h

/-- A SYNC received (R402, R406). -/
theorem does_sync (trx : BitVec 48) (ttx : List (BitVec 48)) (hsub : timeSub f = some 1) : Does (.sync p f trx ttx) s
    (if (received s p f).upstream = some p.val then
      (received s p f).takeSync p.val f.payload trx.toNat (fun q => (ttx.getD q 0).toNat) else received s p f) := by
  have hdoes : exec (.sync p f trx ttx) s = execSync p f trx ttx s := rfl
  rw [Does, hdoes, execSync, onDev_on h.1, hsub, Dev.receivePlain_of_arrives h]
  rfl

theorem does_pdelayReq (t2 t3 : BitVec 48) (hsub : timeSub f = some 2) : Does (.pdelayReq p f t2 t3) s ((received s p f).sendTime p.val
    (timePayload 3 0 (field f.payload 2 2) t2.toNat (sext 48 (trunc 48 ((t3.toNat : Int) - t2.toNat))))) := by
  have hdoes : exec (.pdelayReq p f t2 t3) s = execPdelayReq p f t2 t3 s := rfl
  rw [Does, hdoes, execPdelayReq, onDev_on h.1, if_pos hsub, Dev.receivePlain_of_arrives h]

theorem does_pdelayResp (t4 : BitVec 48) (hsub : timeSub f = some 3) :
    Does (.pdelayResp p f t4) s ((received s p f).takeDelay p.val f.payload t4.toNat) := by
  have hdoes : exec (.pdelayResp p f t4) s = execPdelayResp p f t4 s := rfl
  rw [Does, hdoes, execPdelayResp, onDev_on h.1, if_pos hsub, Dev.receivePlain_of_arrives h]

end

/-- An answer to the request outstanding (R405). -/
theorem Dev.takeDelay_cases {d : Dev} {p : Nat} (b : List Byte) (t4 : Nat) {n t1 : Nat} (hreq : (d.port p).pdReq = some (n, t1)) :
    let m := (sext 48 (trunc 48 ((t4 : Int) - t1)) - sext 64 (field b 16 8)).tdiv 2
    let e := d.setPort p { d.port p with pdReq := none }
    (n ≠ field b 2 2 → d.takeDelay p b t4 = d) ∧ (n = field b 2 2 → m < 0 → d.takeDelay p b t4 = e) ∧
    (n = field b 2 2 → 0 ≤ m → d.takeDelay p b t4 = e.addDelay p m.toNat) := by
  intro m e
  refine ⟨fun hn => ?_, fun hn hm => ?_, fun hn hm => ?_⟩ <;> rw [Dev.takeDelay, hreq]
  · exact if_pos hn
  · exact (if_neg (not_not.mpr hn)).trans (if_pos hm)
  · exact (if_neg (not_not.mpr hn)).trans (if_neg (not_lt.mpr hm))

/-- Settles O56. -/
theorem timeTransfer : Obligations.TimeTransfer := by
  unfold Obligations.TimeTransfer
  refine ⟨fun sub hops seqid time corr => timePayload_fields sub hops seqid time corr, fun d => ?_, fun d o => ?_, fun s hon => ?_⟩
  · rw [d.time_advance_add 1, Nat.one_mul]
    rfl
  · exact ⟨d.servo_step o, d.servo_adjust o⟩
  · intro d
    have hfall := does_curtainFall hon
    refine ⟨does_onDev hon (f := fun _ d => d.tickStart.runToWrap) rfl rfl, s.dev.runToWrap_spec, fun h => runs_same ?_,
      fun w at_ hw hat h => ?_, fun w at_ hw hat h => ⟨?_, runs_curtainFall hon hw hat h⟩, fun ts => ⟨fun h => ?_, fun h => ?_⟩,
      fun h => runs_same ?_, runs_syncLoss hon, runs_pdelayReqSend hon, runs_pdelayTimeout hon, fun p f h => ?_⟩
    · rwa [Dev.curtainFall, show s.dev.hck.curtain = none from h] at hfall
    · rw [Dev.curtainFall, show s.dev.hck.curtain = some w from hw] at hfall
      dsimp only at hfall
      rw [hat] at hfall
      dsimp only at hfall
      rwa [if_neg (ne_true_of_eq_false h)] at hfall
    · rw [Dev.curtainFall, show s.dev.hck.curtain = some w from hw] at hfall
      dsimp only at hfall
      rw [hat] at hfall
      dsimp only at hfall
      rwa [if_pos h] at hfall
    · have hdoes := does_syncSend hon ts
      rwa [if_pos h] at hdoes
    · have hdoes := does_syncSend hon ts
      rwa [if_neg (ne_true_of_eq_false h)] at hdoes
    · have hdoes := does_syncLoss hon
      rwa [if_pos h] at hdoes
    · intro r
      refine ⟨fun trx ttx hsub => ⟨fun hup => ?_, fun hup => ?_⟩, fun t2 t3 hsub => does_pdelayReq h t2 t3 hsub, fun t4 hsub n t1 hreq => ?_⟩
      · have hdoes := does_sync h trx ttx hsub
        rwa [if_pos hup] at hdoes
      · have hdoes := does_sync h trx ttx hsub
        rwa [if_neg hup] at hdoes
      · obtain ⟨hother, hneg, hpos⟩ := Dev.takeDelay_cases f.payload t4.toNat hreq
        have hdoes := does_pdelayResp h t4 hsub
        refine ⟨fun hn => ?_, fun hn hm => ?_, fun hn hm => ?_⟩
        · rwa [hother hn] at hdoes
        · rwa [hneg hn hm] at hdoes
        · rwa [hpos hn hm] at hdoes

end Sys2Proof.Machine
end

section
/-! Sequenced frames, link frames and HELLO at a port (R373, R375 to R380, R384, R387, R390, R409): O54. -/
namespace Sys2Proof.Machine

/-! ### Sequenced frames -/

/-- The rows of sequenced frames, with the frames that each takes (R384, R390, R410). -/
def seqRows (p : Fin 17) (f : Frame) : List (Instr × Prop) :=
  [(.dataFrame p f, frameType f = 1), (.collectiveFrame p f, frameType f = 2),
    (.curtainArmFrame p f, frameType f = 4 ∧ field f.payload 0 1 ≠ 2), (.curtainFallFrame p f, frameType f = 4 ∧ field f.payload 0 1 = 2)]

section
variable {s : State} {p : Fin 17} {f : Frame} {r : Instr × Prop} (hr : r ∈ seqRows p f)
include hr

/-- Each row receives its frames in sequence. -/
theorem does_seqRow (hon : On s) (hrow : r.2) : Does r.1 s (s.dev.receiveSeq p.val f Dev.deliverFrame) := by
  simp only [seqRows, List.mem_cons, List.not_mem_nil, or_false] at hr
  rcases hr with rfl | rfl | rfl | rfl
  · have htype : frameType f = 1 := hrow
    exact does_onDev hon (f := fun _ d => if (decide (2 ≤ frameType f) && decide (frameType f ≤ 7)) = true then d
      else d.receiveSeq p.val f Dev.deliverFrame) rfl (if_neg (by rw [htype]; decide))
  · exact does_onDev hon (f := fun _ d => if frameType f = 2 then d.receiveSeq p.val f Dev.deliverFrame else d) rfl (if_pos hrow)
  · exact does_onDev hon (f := fun _ d => if (decide (frameType f = 4) && field f.payload 0 1 != 2) = true then
      d.receiveSeq p.val f Dev.deliverFrame else d) rfl (if_pos (by simpa using hrow))
  · exact does_onDev hon (f := fun _ d => if (decide (frameType f = 4) && field f.payload 0 1 == 2) = true then
      d.receiveSeq p.val f Dev.deliverFrame else d) rfl (if_pos (by simpa using hrow))

/-- A port that is not UP takes none (R373). -/
theorem does_seqRow_down (hon : On s) (hdown : s.dev.portUp p.val = false) : Does r.1 s s.dev := by
  have hnone : s.dev.receiveSeq p.val f Dev.deliverFrame = s.dev := by
    rw [Dev.receiveSeq, hdown]
    rfl
  simp only [seqRows, List.mem_cons, List.not_mem_nil, or_false] at hr
  rcases hr with rfl | rfl | rfl | rfl
  · exact does_onDev hon (f := fun _ d => if (decide (2 ≤ frameType f) && decide (frameType f ≤ 7)) = true then d
      else d.receiveSeq p.val f Dev.deliverFrame) rfl (by rw [hnone, ite_self])
  · exact does_onDev hon (f := fun _ d => if frameType f = 2 then d.receiveSeq p.val f Dev.deliverFrame else d) rfl (by rw [hnone, ite_self])
  · exact does_onDev hon (f := fun _ d => if (decide (frameType f = 4) && field f.payload 0 1 != 2) = true then
      d.receiveSeq p.val f Dev.deliverFrame else d) rfl (by rw [hnone, ite_self])
  · exact does_onDev hon (f := fun _ d => if (decide (frameType f = 4) && field f.payload 0 1 == 2) = true then
      d.receiveSeq p.val f Dev.deliverFrame else d) rfl (by rw [hnone, ite_self])

/-- Such a frame is of a type that every port but port 16 accepts (Table 12-6). -/
theorem typeAccepted_of_seqRow (hrow : r.2) (hp : p.val ≠ 16) : typeAccepted p.val (frameType f) = true := by
  have htype : frameType f = 1 ∨ frameType f = 2 ∨ frameType f = 4 := by
    simp only [seqRows, List.mem_cons, List.not_mem_nil, or_false] at hr
    rcases hr with rfl | rfl | rfl | rfl
    · exact .inl hrow
    · exact .inr (.inl hrow)
    · exact .inr (.inr hrow.1)
    · exact .inr (.inr hrow.1)
  rcases htype with h | h | h <;> rw [h, typeAccepted] <;> simpa using hp

end

/-- Bits past the first byte (R11). -/
theorem testBit_leNat_skip (x : Nat) (ys : List Byte) (k : Nat) : (leNat (leBytes 1 x ++ ys)).testBit (k + 8) = (leNat ys).testBit k := by
  rw [leNat_leBytes_append, Nat.add_comm, show (256 : Nat) ^ 1 = 2 ^ 8 from rfl,
    Nat.testBit_two_pow_mul_add _ (Nat.mod_lt _ (by decide)), if_neg (by omega), Nat.add_sub_cancel]

/-- Bits of the first byte (R11). -/
theorem testBit_leNat_byte (x : Nat) (ys : List Byte) {k : Nat} (hk : k < 8) : (leNat (leBytes 1 x ++ ys)).testBit k = x.testBit k := by
  rw [leNat_leBytes_append, Nat.add_comm, show (256 : Nat) ^ 1 = 2 ^ 8 from rfl,
    Nat.testBit_two_pow_mul_add _ (Nat.mod_lt _ (by decide)), if_pos hk, Nat.testBit_mod_two_pow, decide_eq_true hk, Bool.true_and]

/-- The START block of a NAK, byte by byte (Table 12-5). -/
theorem TxFrame.getLsbD_start_nak (f : TxFrame) (seq ack : Nat) : (f.start seq ack true).getLsbD 33 =
    (leNat (leBytes 1 0x78 ++ (leBytes 1 f.ftype ++ (leBytes 1 seq ++ (leBytes 1 ack ++ (leBytes 1 (1 + 2 * b2n true) ++
      (leBytes 2 f.payload.length ++ leBytes 1 f.hop))))))).testBit 33 := by
  rw [TxFrame.start, BitVec.getLsbD_ofNat, decide_eq_true (by decide), Bool.true_and]
  simp only [List.append_assoc]

/-- Bits of the fifth byte (R11). -/
theorem testBit_leNat_fifth (bs : List Byte) (a b c d : Nat) :
    (leNat (leBytes 1 a ++ (leBytes 1 b ++ (leBytes 1 c ++ (leBytes 1 d ++ bs))))).testBit 33 = (leNat bs).testBit 1 := by
  rw [testBit_leNat_skip _ _ 25, testBit_leNat_skip _ _ 17, testBit_leNat_skip _ _ 9, testBit_leNat_skip _ _ 1]

/-- The START of a NAK (R372, R376). -/
theorem TxFrame.start_nak (f : TxFrame) (seq ack : Nat) : (f.start seq ack true).getLsbD 33 = true := by
  rw [f.getLsbD_start_nak, testBit_leNat_fifth, testBit_leNat_byte _ _ (by decide)]
  rfl

/-- A NAK as it goes out (R372, R374, R376). -/
theorem TxFrame.out_nak (f : TxFrame) (p seq ack : Nat) : ∃ st h c, f.out p seq ack true = .frame p st h f.payload c ∧
    st.getLsbD 33 = true ∧ c.toNat = frameCrc st h f.payload :=
  ⟨_, _, _, rfl, f.start_nak seq ack, Nat.mod_eq_of_lt (crc32c_lt _)⟩

/-- A malformed frame is counted and answered by a NAK (R373, R376). -/
theorem runs_malformed {c : Instr} {s : State} {p : Nat} (hdoes : Does c s ((s.dev.crcError p).sendAck p true)) (hup : s.dev.portUp p = true) :
    Runs c s (fun t => t.dev.reg (Reg.fabCrcErr p) = BitVec.ofNat 32 (min ((s.dev.reg (Reg.fabCrcErr p)).toNat + 1) 0xFFFFFFFF) ∧
      (∃ l st h c, t.dev.outbox = l ++ [.frame p st h (padTo 8 [2]) c] ∧ st.getLsbD 33 = true ∧
        c.toNat = frameCrc st h (padTo 8 [2])) ∧ KeepsRegs [Reg.fabCrcErr p] s t) := by
  obtain ⟨hcount, hregs, -⟩ := s.dev.crcError_spec p
  generalize s.dev.crcError p = e at hdoes hcount hregs
  have hup' : e.portUp p = true := (Dev.portUp_congr (hregs _ (by simp [Reg.fabStatus, Reg.fabCrcErr]))).trans hup
  rw [Dev.sendAck, hup', Bool.true_or, if_pos rfl] at hdoes
  have hpay : (e.frame 7 (e.fld (Reg.fabPeer p) 12 0) 0 (padTo 8 [2])).payload = padTo 8 [2] := rfl
  generalize e.frame 7 (e.fld (Reg.fabPeer p) 12 0) 0 (padTo 8 [2]) = f at hdoes hpay
  have hout := e.outbox_transmit p f 0 true
  have hreg := (e.within_transmit p f 0 true).regsWithin (by decide)
  generalize e.transmit p f 0 true = x at hdoes hout hreg
  obtain ⟨st, h, c, hsent, hnak, hcrc⟩ := f.out_nak p 0 (e.port p).expect
  rw [hpay] at hsent hcrc
  exact ⟨_, hdoes, (hreg _ List.not_mem_nil).trans hcount, ⟨_, st, h, c, hout.trans (congrArg (fun o => e.outbox ++ [o]) hsent), hnak, hcrc⟩,
    ((hregs.trans hreg).mono (by simp)).keepsRegs⟩

/-! ### ACKNAK and CREDIT -/

section
variable {s : State} {p : Fin 17} {f : Frame} (h : Arrives s p f)
include h

theorem does_acknak (hsub : linkSub f = some 2) : Does (.acknak p f) s (received s p f) := by
  have hexec : exec (.acknak p f) s = execAcknak p f s := rfl
  rw [Does, hexec, execAcknak, onDev_on h.1, hsub, Dev.receivePlain_of_arrives h]
  rfl

theorem does_credit (hsub : linkSub f = some 3) : Does (.credit p f) s ((received s p f).takeCredit p.val (field f.payload 4 4)) := by
  have hexec : exec (.credit p f) s = execCredit p f s := rfl
  rw [Does, hexec, execCredit, onDev_on h.1, if_pos hsub, Dev.receivePlain_of_arrives h]

/-- Credits returned while nothing waits (R378). -/
theorem runs_credit (hsub : linkSub f = some 3) (hack : frameAckV f = false) (hq : (s.dev.port p.val).txq = [])
    (hlog : p.val = 16 → s.dev.usy.logq = []) : Runs (.credit p f) s (fun t =>
      t.dev.port p.val = { s.dev.port p.val with credits := min 4096 ((s.dev.port p.val).credits + field f.payload 4 4) } ∧
      (∀ k, k ≠ p.val → t.dev.port k = s.dev.port k) ∧ Keeps [.fab, .wide] s t) := by
  have hdoes := does_credit h hsub
  rw [received, Dev.takeAck, hack, if_neg Bool.false_ne_true] at hdoes
  have hwide := s.dev.within_wideAdd (Reg.fabRxBytes p.val) (frameLen f)
  generalize s.dev.wideAdd (Reg.fabRxBytes p.val) (frameLen f) = d at hdoes hwide
  have hport (k : Nat) : d.port k = s.dev.port k := Dev.port_congr (hwide.part .fab (by decide)) k
  rw [Dev.takeCredit, hport] at hdoes
  generalize hx : ({ s.dev.port p.val with credits := min 4096 ((s.dev.port p.val).credits + field f.payload 4 4) } : Port) = x at hdoes ⊢
  have hset := d.port_setPort p.val (x := x)
  have hwithin := d.within_setPort p.val x
  have hqueue : (d.setPort p.val x).usy = d.usy := Dev.setPort_usy ..
  generalize d.setPort p.val x = e at hdoes hset hwithin hqueue
  have hnone : (e.port p.val).txq = [] := by rw [hset, if_pos rfl, ← hx]; exact hq
  rw [Dev.pumpAll_of_empty e p.val hnone fun hp => by rw [hqueue, hwide.part .usy (by decide)]; exact hlog hp] at hdoes
  exact ⟨_, hdoes, (hset _).trans (if_pos rfl), fun k hk => ((hset k).trans (if_neg hk)).trans (hport k),
    ((hwide.trans hwithin).mono (by decide)).keeps⟩

/-- An ACK releases what it acknowledges (R375). -/
theorem runs_acknak (hsub : linkSub f = some 2) (hack : frameAckV f = true) (hnak : frameNak f = false) (hq : (s.dev.port p.val).txq = [])
    (hlog : p.val = 16 → s.dev.usy.logq = []) {n : Nat} {g : TxFrame} {hs : List (Nat × TxFrame)}
    (hheld : (s.dev.port p.val).held = (n, g) :: hs) (hle : (frameAck f + 256 - n) % 256 ≤ hs.length + 1) : Runs (.acknak p f) s (fun t =>
      (t.dev.port p.val).held = (s.dev.port p.val).held.drop ((frameAck f + 256 - n) % 256) ∧
      (∀ k, k ≠ p.val → t.dev.port k = s.dev.port k) ∧ Keeps [.fab, .wide] s t) := by
  have hdoes := does_acknak h hsub
  have hack' : s.dev.ackTo p.val (frameAck f) = s.dev.setPort p.val { s.dev.port p.val with
      held := (s.dev.port p.val).held.drop ((frameAck f + 256 - n) % 256)
      replays := if (frameAck f + 256 - n) % 256 = 0 then (s.dev.port p.val).replays else 0 } := by
    rw [Dev.ackTo, hheld]
    exact if_neg (Nat.not_lt.mpr (by rw [List.length_cons]; exact hle))
  have htake : s.dev.takeAck p.val f = (s.dev.ackTo p.val (frameAck f)).pumpAll p.val := by
    rw [Dev.takeAck, hack, hnak]
    rfl
  rw [received, htake, hack'] at hdoes
  generalize hx : ({ s.dev.port p.val with
      held := (s.dev.port p.val).held.drop ((frameAck f + 256 - n) % 256)
      replays := if (frameAck f + 256 - n) % 256 = 0 then (s.dev.port p.val).replays else 0 } : Port) = x at hdoes
  have hset := s.dev.port_setPort p.val (x := x)
  have hwithin := s.dev.within_setPort p.val x
  generalize s.dev.setPort p.val x = e at hdoes hset hwithin
  have hnone : (e.port p.val).txq = [] := by rw [hset, if_pos rfl, ← hx]; exact hq
  rw [Dev.pumpAll_of_empty e p.val hnone fun hp => (congrArg Usy.logq (hwithin.part .usy (by decide))).trans (hlog hp)] at hdoes
  have hwide := e.within_wideAdd (Reg.fabRxBytes p.val) (frameLen f)
  generalize e.wideAdd (Reg.fabRxBytes p.val) (frameLen f) = y at hdoes hwide
  have hport (k : Nat) : y.port k = e.port k := Dev.port_congr (hwide.part .fab (by decide)) k
  refine ⟨_, hdoes, ?_, fun k hk => (hport k).trans ((hset k).trans (if_neg hk)), ((hwithin.trans hwide).mono (by decide)).keeps⟩
  exact congrArg Port.held ((hport _).trans ((hset _).trans (if_pos rfl))) |>.trans (by rw [← hx])

end

end Sys2Proof.Machine
end

section
/-! HELLO at a port, and the frames' statement (R377 to R380): O54. -/
namespace Sys2Proof.Machine

/-! ### Sending -/

/-- What a port knows of its peer beside its windows: failed attempts, a fresh start, the SEQ expected (R369, R375, R377). -/
def Port.standing (x : Port) : Nat × Bool × Nat := (x.fails, x.fresh, x.expect)

/-- Sending leaves every port's standing, every register but the log's backlog, and every source. -/
structure Dev.Sends (d e : Dev) : Prop where
  standing : ∀ k, (e.port k).standing = (d.port k).standing
  regs : d.RegsWithin [Reg.usyLogBacklog] e
  arrivals : e.arrivals = d.arrivals

theorem Dev.sends_refl (d : Dev) : d.Sends d := ⟨fun _ => rfl, d.regsWithin_refl.mono (by decide), rfl⟩

theorem Dev.Sends.trans {d e f : Dev} (h : d.Sends e) (h' : e.Sends f) : d.Sends f :=
  ⟨fun k => (h'.standing k).trans (h.standing k), (h.regs.trans h'.regs).mono (by decide), h'.arrivals.trans h.arrivals⟩

theorem Dev.Sends.ite {d e f : Dev} {c : Prop} [Decidable c] (h : d.Sends e) (h' : d.Sends f) : d.Sends (if c then e else f) := by
  split
  · exact h
  · exact h'

theorem Dev.sends_foldl {α : Type} {g : Dev → α → Dev} (hg : ∀ (d : Dev) a, d.Sends (g d a)) (as : List α) (d : Dev) : d.Sends (as.foldl g d) := by
  induction as generalizing d with
  | nil => exact d.sends_refl
  | cons a as ih => exact (hg d a).trans (ih _)

theorem Dev.Within.sends {d e : Dev} {ps : List Part} (h : d.Within ps e) (hfab : Part.fab ∉ .lines :: ps) (hregs : Part.regs ∉ .lines :: ps)
    (harr : Part.arrivals ∉ .lines :: ps) : d.Sends e :=
  ⟨fun k => congrArg Port.standing (Dev.port_congr (h.part .fab hfab) k), (h.regsWithin hregs).mono (by decide), h.part .arrivals harr⟩

section
variable (d : Dev) (p : Nat)

theorem Dev.sends_setPort {x : Port} (h : x.standing = (d.port p).standing) : d.Sends (d.setPort p x) := by
  have hwithin := d.within_setPort p x
  refine ⟨fun k => ?_, (hwithin.regsWithin (by decide)).mono (by decide), hwithin.part .arrivals (by decide)⟩
  rw [Dev.port_setPort]
  split
  case isTrue hk => rw [hk, h]
  case isFalse => rfl

theorem Dev.sends_transmit (f : TxFrame) (seq : Nat) (nak : Bool) : d.Sends (d.transmit p f seq nak) :=
  (d.within_transmit p f seq nak).sends (by decide) (by decide) (by decide)

theorem Dev.sends_sendCredit (n : Nat) : d.Sends (d.sendCredit p n) := Dev.Sends.ite (d.sends_transmit p _ _ _) (d.sends_setPort p rfl)

theorem Dev.sends_leaveBuffer (f : TxFrame) : d.Sends (d.leaveBuffer f) := by
  rw [Dev.leaveBuffer]
  cases f.origin with
  | none => exact d.sends_refl
  | some q => exact d.sends_sendCredit q _

theorem Dev.sends_pump (n : Nat) : d.Sends (Dev.pump n d p) := by
  induction n generalizing d with
  | zero => exact d.sends_refl
  | succ n ih =>
    rw [Dev.pump]
    dsimp only
    cases (d.port p).txq with
    | nil => exact d.sends_refl
    | cons f fs =>
      refine Dev.Sends.ite ((((d.sends_transmit p f _ false).trans (Dev.sends_setPort _ p ?_)).trans (Dev.sends_leaveBuffer _ f)).trans
        (ih _)) d.sends_refl
      rfl

theorem Dev.sends_pumpLog (n : Nat) : d.Sends (Dev.pumpLog n d) := by
  induction n generalizing d with
  | zero => exact d.sends_refl
  | succ n ih =>
    rw [Dev.pumpLog]
    cases d.usy.logq with
    | nil => exact d.sends_refl
    | cons r rs =>
      have hlog (e : Dev) (v : W32) : e.Sends (e.setReg Reg.usyLogBacklog v) :=
        ⟨fun k => congrArg Port.standing (Dev.port_congr (e.within_setReg _ v |>.part .fab (by decide)) k), e.regsWithin_setReg _ v,
          (e.within_setReg _ v).part .arrivals (by decide)⟩
      have htaken : d.Sends { d with usy := { d.usy with logq := rs } } := (d.within_usy _).sends (by decide) (by decide) (by decide)
      refine Dev.Sends.ite (((((htaken.trans (Dev.sends_setPort _ 16 ?_)).trans (Dev.sends_pump _ 16 1)).trans (hlog _ _)).trans
        ((Dev.within_wideAdd _ _ _).sends (by decide) (by decide) (by decide))).trans (ih _)) d.sends_refl
      rfl

theorem Dev.sends_pumpAll : d.Sends (d.pumpAll p) :=
  Dev.Sends.ite ((d.sends_pump p _).trans (Dev.sends_pumpLog _ _)) (d.sends_pump p _)

theorem Dev.sends_enqueue (f : TxFrame) : d.Sends (d.enqueue p f) := by
  refine (d.sends_setPort p ?_).trans (Dev.sends_pumpAll _ p)
  rfl

theorem Dev.sends_sendRouted (f : TxFrame) : d.Sends (d.sendRouted f) := by
  rw [Dev.sendRouted]
  cases d.routePort f.dst with
  | none => exact ⟨fun _ => rfl, ((d.within_fab _).regsWithin (by decide)).mono (by decide), rfl⟩
  | some p => exact d.sends_enqueue p f

theorem Dev.sends_reroute : d.Sends d.reroute :=
  Dev.Sends.trans (e := { d with fab := { d.fab with waiting := [] } })
    ⟨fun _ => rfl, ((d.within_fab _).regsWithin (by decide)).mono (by decide), rfl⟩ (Dev.sends_foldl (fun d f => d.sends_sendRouted f) _ _)

theorem Dev.sends_ackTo (a : Nat) : d.Sends (d.ackTo p a) := by
  rw [Dev.ackTo]
  dsimp only
  cases (d.port p).held with
  | nil => exact d.sends_refl
  | cons x xs => exact Dev.Sends.ite d.sends_refl (d.sends_setPort p rfl)

end

/-! ### HELLO -/

section
variable (d : Dev) (p : Nat) (h : List Byte)

/-- What a HELLO says of its sender (Table 12-8). -/
def Dev.peerNoted : Dev :=
  (d.setReg (Reg.fabPeer p) (BitVec.ofNat 32 (bits (field h 8 2) 0 13 + bits (field h 3 1) 0 5 * 65536))).setReg
    (Reg.fabPeerId p) (BitVec.ofNat 32 (field h 4 2 + field h 6 2 * 65536))

/-- FAB_STATUSp of a port that is UP (R377). -/
def Dev.upShown (v : Nat) : Dev := (d.setFld (Reg.fabStatus p) 13 13 (b2n (v == 2))).setFld (Reg.fabStatus p) 2 0 6

/-- The window of two sides that go on (R377): what the peer has is released, the rest is sent again. -/
def Dev.windowKept : Dev :=
  let d := d.ackTo p (field h 10 1)
  let d := if (d.port p).held.isEmpty then d.setPort p { d.port p with txSeq := field h 10 1 } else d
  (d.port p).held.foldl (fun d h => d.transmit p h.2 h.1 false) d

/-- The window as a HELLO leaves it (R377): a fresh side begins again, otherwise the frames held are sent again. -/
def Dev.windowResumed : Dev :=
  if bitAt (field h 11 1) 0 || (d.port p).fresh then
    (d.discardHeld p).setPort p { (d.discardHeld p).port p with
      txSeq := if bitAt (field h 11 1) 0 then field h 10 1 else (d.port p).txSeq, credits := 4096, owed := 0
      expect := if bitAt (field h 11 1) 0 then 0 else (d.port p).expect }
  else d.windowKept p h

/-- The port settles and pays the credits it owes (R377, R378). -/
def Dev.settled : Dev :=
  let e := d.setPort p { d.port p with
    fails := 0, fresh := false, replays := 0, delays := [], pdReq := none, owed := 0, replaying := none }
  if (d.port p).owed = 0 then e else e.sendCredit p (d.port p).owed

theorem Dev.takeHello_of_agreed {v : Nat} (hstate : d.portState p = 5) (hretry : (d.port p).retry = false)
    (hv : (d.peerNoted p h).helloVerdict p h = (none, v)) :
    d.takeHello p h = (((((((d.peerNoted p h).upShown p v).windowResumed p h).settled p).raise (256 + 4 * p)).pumpAll p).reroute) := by
  have hno : ¬(d.portState p ≠ 5 || (d.port p).retry) = true := by rw [hstate, hretry]; decide
  rw [Dev.takeHello, if_neg hno]
  change (match (d.peerNoted p h).helloVerdict p h with
    | (some r, _) => (d.peerNoted p h).trainFail p r
    | (none, v) => _) = _
  rw [hv]
  rfl

theorem Dev.sends_windowKept : d.Sends (d.windowKept p h) := by
  refine ((d.sends_ackTo p _).trans (Dev.Sends.ite (Dev.sends_setPort _ p ?_) (Dev.sends_refl _))).trans
    (Dev.sends_foldl (fun d (h : Nat × TxFrame) => d.sends_transmit p h.2 h.1 false) _ _)
  rfl

theorem Dev.upShown_spec (v : Nat) : (d.upShown p v).portState p = 6 ∧ (d.upShown p v).portV2 p = (v == 2) ∧ d.Within [.regs] (d.upShown p v) := by
  refine ⟨Dev.fld_setFld_same _ _ _ (by decide), ?_, ((d.within_setFld _ _ _ _).trans (Dev.within_setFld _ _ _ _ _)).mono (by decide)⟩
  rw [Dev.portV2, Dev.upShown, Dev.bit_setFld _ _ _ _ (by decide), if_neg (by decide), Dev.bit_setFld _ _ _ _ (by decide), if_pos (by decide)]
  cases v == 2 <;> rfl

/-- The SEQ expected after a HELLO (R377), and what else the window's return changes. -/
theorem Dev.windowResumed_spec :
    ((d.windowResumed p h).port p).expect = (if bitAt (field h 11 1) 0 then 0 else (d.port p).expect) ∧
    d.RegsWithin [Reg.fabDrop p, Reg.usyLogBacklog] (d.windowResumed p h) ∧ (d.windowResumed p h).arrivals = d.arrivals := by
  rw [Dev.windowResumed]
  by_cases hc : (bitAt (field h 11 1) 0 || (d.port p).fresh) = true
  · rw [if_pos hc]
    have hregs := d.regsWithin_discardHeld p
    have harr : (d.discardHeld p).arrivals = d.arrivals := (d.within_discardHeld p).part .arrivals (by decide)
    generalize d.discardHeld p = e at hregs harr
    refine ⟨by rw [Dev.port_setPort_same], (hregs.trans ((Dev.within_setPort _ p _).regsWithin (by decide))).mono (by simp),
      ((Dev.within_setPort _ p _).part .arrivals (by decide)).trans harr⟩
  · rw [if_neg hc]
    have hold : bitAt (field h 11 1) 0 = false := (Bool.or_eq_false_iff.mp (eq_false_of_ne_true hc)).1
    rw [hold, if_neg Bool.false_ne_true]
    have hsends := d.sends_windowKept p h
    exact ⟨congrArg (·.2.2) (hsends.standing p), hsends.regs.mono (by simp), hsends.arrivals⟩

/-- A port that has settled has no failed attempts and no fresh start before it. -/
theorem Dev.settled_spec : ((d.settled p).port p).standing = (0, false, (d.port p).expect) ∧
    d.RegsWithin [Reg.usyLogBacklog] (d.settled p) ∧ (d.settled p).arrivals = d.arrivals := by
  have hset (x : Port) := d.within_setPort p x
  have hport (x : Port) : (d.setPort p x).port p = x := d.port_setPort_same p x
  have hpaid (x : Port) (n m : Nat) (hx : x.standing = (0, false, (d.port p).expect)) :
      ((if n = 0 then d.setPort p x else (d.setPort p x).sendCredit p m).port p).standing = (0, false, (d.port p).expect) ∧
      d.RegsWithin [Reg.usyLogBacklog] (if n = 0 then d.setPort p x else (d.setPort p x).sendCredit p m) ∧
      (if n = 0 then d.setPort p x else (d.setPort p x).sendCredit p m).arrivals = d.arrivals := by
    have hsends : (d.setPort p x).Sends (if n = 0 then d.setPort p x else (d.setPort p x).sendCredit p m) :=
      Dev.Sends.ite (Dev.sends_refl _) (Dev.sends_sendCredit _ p m)
    exact ⟨(hsends.standing p).trans ((congrArg Port.standing (hport x)).trans hx),
      ((((hset x).regsWithin (by decide)).trans hsends.regs).mono (by simp)), hsends.arrivals.trans ((hset x).part .arrivals (by decide))⟩
  exact hpaid _ _ _ rfl

theorem Dev.takeHello_of_refused {r v : Nat} (hstate : d.portState p = 5) (hretry : (d.port p).retry = false)
    (hv : (d.peerNoted p h).helloVerdict p h = (some r, v)) : d.takeHello p h = (d.peerNoted p h).trainFail p r := by
  have hno : ¬(d.portState p ≠ 5 || (d.port p).retry) = true := by rw [hstate, hretry]; decide
  rw [Dev.takeHello, if_neg hno]
  change (match (d.peerNoted p h).helloVerdict p h with
    | (some r, _) => (d.peerNoted p h).trainFail p r
    | (none, v) => _) = _
  rw [hv]

theorem Dev.regsWithin_peerNoted : d.RegsWithin [Reg.fabPeer p, Reg.fabPeerId p] (d.peerNoted p h) :=
  (d.regsWithin_setReg _ _).trans (Dev.regsWithin_setReg _ _ _)

theorem Dev.within_peerNoted : d.Within [.regs] (d.peerNoted p h) :=
  ((d.within_setReg _ _).trans (Dev.within_setReg _ _ _)).mono (by decide)

theorem Dev.helloVerdict_congr {e : Dev} (hctrl : e.reg (Reg.fabCtrl p) = d.reg (Reg.fabCtrl p)) (hens : e.reg Reg.fabEns = d.reg Reg.fabEns) :
    e.helloVerdict p h = d.helloVerdict p h := by
  rw [Dev.helloVerdict, Dev.helloVerdict, Dev.bit_congr hctrl, Dev.fld_congr hens]

/-- What a HELLO meets turns on the registers alone. -/
theorem Dev.helloVerdict_peerNoted {e : Dev} (hreg : ∀ off, e.reg off = d.reg off) :
    (e.peerNoted p h).helloVerdict p h = (d.peerNoted p h).helloVerdict p h := by
  have hctrl : Reg.fabCtrl p ∉ [Reg.fabPeer p, Reg.fabPeerId p] := by simp [Reg.fabCtrl, Reg.fabPeer, Reg.fabPeerId]
  have hens : Reg.fabEns ∉ [Reg.fabPeer p, Reg.fabPeerId p] := by
    simp only [List.mem_cons, List.not_mem_nil, or_false, Reg.fabEns, Reg.fabPeer, Reg.fabPeerId]
    omega
  exact Dev.helloVerdict_congr _ _ _
    ((e.regsWithin_peerNoted p h _ hctrl).trans ((hreg _).trans (d.regsWithin_peerNoted p h _ hctrl).symm))
    ((e.regsWithin_peerNoted p h _ hens).trans ((hreg _).trans (d.regsWithin_peerNoted p h _ hens).symm))

theorem Dev.helloVerdict_reason {r v : Nat} (hv : d.helloVerdict p h = (some r, v)) : r < 16 := by
  have hsome := congrArg Prod.fst hv
  simp only [Dev.helloVerdict] at hsome
  split_ifs at hsome <;> simp only [Option.some.injEq] at hsome <;> omega

end

section
variable {s : State} {p : Fin 17} {f : Frame}

/-- A HELLO is taken in STATE 5 alone; elsewhere it is a frame like another (R380). -/
theorem does_hello_elsewhere (hon : On s) (hsub : linkSub f = some 1) (helse : (s.dev.portState p.val ≠ 5 || (s.dev.port p.val).retry) = true) :
    Does (.hello p f) s (s.dev.receivePlain p.val f id) := by
  have hexec : exec (.hello p f) s = execHello p f s := rfl
  rw [Does, hexec, execHello, onDev_on hon, hsub, bne_self_eq_false, if_neg Bool.false_ne_true, if_pos helse]

theorem does_hello_up (hsub : linkSub f = some 1) (h : Arrives s p f) : Does (.hello p f) s (received s p f) := by
  have hstate : s.dev.portState p.val = 6 := beq_iff_eq.mp h.2.1
  have hdoes := does_hello_elsewhere h.1 hsub (by rw [hstate]; rfl)
  rwa [Dev.receivePlain_of_arrives h] at hdoes

theorem does_hello_ignored (hon : On s) (hno : s.dev.portState p.val ∉ [5, 6] ∨
    (s.dev.portState p.val = 5 ∧ (s.dev.port p.val).retry = true) ∨ linkSub f ≠ some 1) : Does (.hello p f) s s.dev := by
  have hexec : exec (.hello p f) s = execHello p f s := rfl
  by_cases hsub : linkSub f = some 1
  · have hcase : s.dev.portState p.val ≠ 6 ∧ (s.dev.portState p.val ≠ 5 || (s.dev.port p.val).retry) = true := by
      rcases hno with hstate | ⟨hstate, hretry⟩ | hother
      · simp only [List.mem_cons, List.not_mem_nil, or_false, not_or] at hstate
        exact ⟨hstate.2, by rw [decide_eq_true hstate.1, Bool.true_or]⟩
      · exact ⟨by omega, by rw [hretry, Bool.or_true]⟩
      · exact absurd hsub hother
    have hdoes := does_hello_elsewhere hon hsub hcase.2
    rwa [Dev.receivePlain, Dev.portUp_eq_false_iff.mpr hcase.1, Bool.not_false, if_pos rfl] at hdoes
  · rw [Does, hexec, execHello, onDev_on hon, if_pos (by simpa using hsub)]

section
variable (hon : On s) (hsub : linkSub f = some 1) (hstate : s.dev.portState p.val = 5) (hretry : (s.dev.port p.val).retry = false)
include hon hsub hstate hretry

theorem does_hello_bad (hbad : frameBad 4096 f = true) : Does (.hello p f) s ((s.dev.crcError p.val).sendAck p.val true) := by
  have hexec : exec (.hello p f) s = execHello p f s := rfl
  rw [Does, hexec, execHello, onDev_on hon, hsub, bne_self_eq_false, if_neg Bool.false_ne_true,
    if_neg (by rw [hstate, hretry]; decide), if_pos hbad]

theorem does_hello_taken (hok : frameBad 4096 f = false) :
    Does (.hello p f) s ((s.dev.wideAdd (Reg.fabRxBytes p.val) (frameLen f)).takeHello p.val f.payload) := by
  have hexec : exec (.hello p f) s = execHello p f s := rfl
  rw [Does, hexec, execHello, onDev_on hon, hsub, bne_self_eq_false, if_neg Bool.false_ne_true,
    if_neg (by rw [hstate, hretry]; decide), if_neg (by rw [hok]; decide)]

/-- A HELLO whose sender this side cannot agree with (R380). -/
theorem runs_hello_refused (hok : frameBad 4096 f = false) {r v : Nat} (hv : (s.dev.peerNoted p.val f.payload).helloVerdict p.val f.payload = (some r, v)) :
    Runs (.hello p f) s (Failed p.val r { s with dev := s.dev.wideAdd (Reg.fabRxBytes p.val) (frameLen f) }) := by
  have hdoes := does_hello_taken hon hsub hstate hretry hok
  have hwide := s.dev.within_wideAdd (Reg.fabRxBytes p.val) (frameLen f)
  generalize s.dev.wideAdd (Reg.fabRxBytes p.val) (frameLen f) = d at hdoes hwide ⊢
  have hreg (off : Nat) : d.reg off = s.dev.reg off := hwide.regsWithin (by decide) off List.not_mem_nil
  have hport : d.port p.val = s.dev.port p.val := Dev.port_congr (hwide.part .fab (by decide)) _
  have hv' : (d.peerNoted p.val f.payload).helloVerdict p.val f.payload = (some r, v) := (Dev.helloVerdict_peerNoted _ _ _ hreg).trans hv
  rw [d.takeHello_of_refused p.val f.payload ((Dev.portState_congr (hreg _)).trans hstate) (by rw [hport, hretry]) hv'] at hdoes
  have hnoted := d.regsWithin_peerNoted p.val f.payload
  exact ⟨_, hdoes, failed_trainFail (s := { s with dev := d }) (d.within_peerNoted p.val f.payload)
    (Dev.portState_congr (hnoted _ (by simp [Reg.fabStatus, Reg.fabPeer, Reg.fabPeerId])))
    (hnoted _ (by simp [Reg.fabTrains, Reg.fabPeer, Reg.fabPeerId])) (Dev.helloVerdict_reason _ _ _ hv')⟩

/-- A HELLO that both sides agree on brings the port UP (R377, R380). -/
theorem runs_hello_agreed (hok : frameBad 4096 f = false) {v : Nat} (hv : (s.dev.peerNoted p.val f.payload).helloVerdict p.val f.payload = (none, v)) :
    Runs (.hello p f) s (fun t => t.dev.portState p.val = 6 ∧
        t.dev.portV2 p.val = (v == 2) ∧ (t.dev.port p.val).fails = 0 ∧ (t.dev.port p.val).fresh = false ∧
        (t.dev.port p.val).expect = (if bitAt (field f.payload 11 1) 0 then 0 else (s.dev.port p.val).expect) ∧ Raised (256 + 4 * p.val) s t) := by
  have hdoes := does_hello_taken hon hsub hstate hretry hok
  have hwide := s.dev.within_wideAdd (Reg.fabRxBytes p.val) (frameLen f)
  generalize s.dev.wideAdd (Reg.fabRxBytes p.val) (frameLen f) = d at hdoes hwide
  have hreg (off : Nat) : d.reg off = s.dev.reg off := hwide.regsWithin (by decide) off List.not_mem_nil
  have hport : d.port p.val = s.dev.port p.val := Dev.port_congr (hwide.part .fab (by decide)) _
  have hv' : (d.peerNoted p.val f.payload).helloVerdict p.val f.payload = (none, v) := (Dev.helloVerdict_peerNoted _ _ _ hreg).trans hv
  rw [d.takeHello_of_agreed p.val f.payload ((Dev.portState_congr (hreg _)).trans hstate) (by rw [hport, hretry]) hv'] at hdoes
  have hnoted := d.within_peerNoted p.val f.payload
  generalize d.peerNoted p.val f.payload = a at hdoes hnoted
  obtain ⟨hup, hv2, hshown⟩ := a.upShown_spec p.val v
  generalize a.upShown p.val v = b at hdoes hup hv2 hshown
  obtain ⟨hexpect, hregs, harr⟩ := b.windowResumed_spec p.val f.payload
  generalize b.windowResumed p.val f.payload = c at hdoes hexpect hregs harr
  obtain ⟨hstanding, hregs', harr'⟩ := c.settled_spec p.val
  generalize c.settled p.val = e at hdoes hstanding hregs' harr'
  have hb : b.port p.val = s.dev.port p.val := (Dev.port_congr ((hnoted.trans hshown).part .fab (by decide)) _).trans hport
  have hraised := raised_raise (s := s) (d := e) (harr'.trans (harr.trans (((hwide.trans hnoted).trans hshown).part .arrivals (by decide))))
    (256 + 4 * p.val)
  have hraise := e.within_raise (256 + 4 * p.val)
  generalize e.raise (256 + 4 * p.val) = g at hdoes hraised hraise
  have hsends := (g.sends_pumpAll p.val).trans (Dev.sends_reroute _)
  generalize (g.pumpAll p.val).reroute = y at hdoes hsends
  have hstatus : y.reg (Reg.fabStatus p.val) = b.reg (Reg.fabStatus p.val) := by
    have hall := ((hregs.trans hregs').trans (hraise.regsWithin (by decide))).trans hsends.regs
    exact hall _ (by simp only [List.mem_append, List.mem_cons, List.not_mem_nil, or_false, Reg.fabStatus, Reg.fabDrop, Reg.usyLogBacklog]; omega)
  have hlast : (y.port p.val).standing = (0, false, (c.port p.val).expect) :=
    (hsends.standing _).trans ((congrArg Port.standing (Dev.port_congr (hraise.part .fab (by decide)) _)).trans hstanding)
  refine ⟨_, hdoes, (Dev.portState_congr hstatus).trans hup, (Dev.bit_congr hstatus 13).trans hv2, congrArg Prod.fst hlast,
    congrArg (·.2.1) hlast, ?_, hraised.congr hsends.arrivals⟩
  exact (congrArg (·.2.2) hlast).trans (hexpect.trans (by rw [hb]))

end
end

/-! ### The settled statement -/

/-- Settles O54. -/
theorem portFrames : Obligations.PortFrames := by
  unfold Obligations.PortFrames
  intro s p f
  refine ⟨fun r hr hrow harr hp => ⟨fun hnext hens hmine hsame => ?_, fun hlow hhigh => ?_, fun hahead => ?_⟩,
    fun r hr hrow hon hup hbad => ?_, fun r hr hon hdown => does_seqRow_down hr hon hdown, fun hsub harr => does_acknak harr hsub,
    fun hsub harr => does_credit harr hsub, fun hsub harr hack hq hlog => runs_credit harr hsub hack hq hlog,
    fun hsub harr hack hnak hq hlog n g hs hheld hle => runs_acknak harr hsub hack hnak hq hlog hheld hle,
    fun hon hsub hstate hretry hok => ⟨fun r v hv => runs_hello_refused hon hsub hstate hretry hok hv,
      fun v hv => runs_hello_agreed hon hsub hstate hretry hok hv⟩,
    fun hon hsub hstate hretry hbad => does_hello_bad hon hsub hstate hretry hbad, fun hsub harr => does_hello_up hsub harr,
    fun hon hno => does_hello_ignored hon hno⟩
  · have hdoes := does_seqRow hr harr.1 hrow
    rwa [Dev.receiveSeq_of_arrives harr, if_pos hnext,
      Dev.acceptSeq_of_mine _ (typeAccepted_of_seqRow hr hrow hp) (hens.trans hsame.symm) (.inr hmine)] at hdoes
  · have hdoes := does_seqRow hr harr.1 hrow
    rwa [Dev.receiveSeq_of_arrives harr, if_neg (Nat.ne_of_gt hlow), decide_eq_false (Nat.not_lt.mpr hhigh)] at hdoes
  · have hdoes := does_seqRow hr harr.1 hrow
    rwa [Dev.receiveSeq_of_arrives harr, if_neg (by omega), decide_eq_true hahead] at hdoes
  · have hdoes := does_seqRow hr hon hrow
    rw [Dev.receiveSeq, hup, hbad, Bool.not_true, if_neg Bool.false_ne_true, if_pos rfl] at hdoes
    exact runs_malformed hdoes hup

end Sys2Proof.Machine
end

section
/-! The ensemble: joining, losses, aliases, ERA and takeover (R123, R382 to R386, R469 to R471): O55. -/
namespace Sys2Proof.Machine

/-! ### Joining -/

section
variable (d : Dev)

/-- JOINED shown, and adaptation off in an ensemble of more than 16 (R123, R382). -/
def Dev.joinShown : Dev := (if 16 < d.devices then d.setBit Reg.qstStatus 0 else d).setBit Reg.fabEns 29

theorem Dev.joinDone_eq : d.joinDone = (d.joinShown.raise 324).bootJoined := rfl

theorem Dev.bootJoined_of_other (h : d.boot.stage ≠ .join) : d.bootJoined = d := if_neg h

theorem Dev.within_joinShown : d.Within [.regs] d.joinShown :=
  ((Dev.Within.ite (d.within_setBit _ _) d.within_refl).trans (Dev.within_setBit _ _ _)).mono (by decide)

theorem Dev.regsWithin_joinShown : d.RegsWithin [Reg.fabEns, Reg.qstStatus] d.joinShown :=
  ((Dev.RegsWithin.ite (d.regsWithin_setBit _ _) d.regsWithin_refl).trans (Dev.regsWithin_setBit _ _ _)).mono (by decide)

theorem Dev.joined_joinShown : d.joinShown.joined = true := Dev.bit_setBit_same _ _ (by decide)

theorem Dev.bit_joinShown (h : 16 < d.devices) : d.joinShown.bit Reg.qstStatus 0 = true := by
  rw [Dev.joinShown, if_pos h]
  exact (Dev.bit_congr (Dev.regsWithin_setBit _ _ _ _ (by decide)) 0).trans (d.bit_setBit_same _ (by decide))

end

section
variable {s : State} (hon : On s)
include hon

theorem runs_joinDone (count : W16) (hstage : s.dev.boot.stage ≠ .join) : Runs (.joinDone count) s (fun t => t.dev.joined = true ∧
    Raised 324 s t ∧ (16 < s.dev.devices → t.dev.bit Reg.qstStatus 0 = true) ∧ KeepsRegs [Reg.fabEns, Reg.qstStatus] s t ∧
    Keeps (.regs :: raising) s t) := by
  have hdoes : Does (.joinDone count) s s.dev.joinDone := does_onDev hon (f := fun _ d => d.joinDone) rfl rfl
  have hwithin := s.dev.within_joinShown
  have hregs := s.dev.regsWithin_joinShown
  have hjoined := s.dev.joined_joinShown
  have hqst := s.dev.bit_joinShown
  rw [Dev.joinDone_eq] at hdoes
  generalize s.dev.joinShown = d at hdoes hwithin hregs hjoined hqst
  have hraise := d.within_raise 324
  have hraised := raised_raise (s := s) (d := d) (hwithin.part .arrivals (by decide)) 324
  have hreg (off : Nat) : (d.raise 324).reg off = d.reg off := d.reg_raise 324 off
  generalize d.raise 324 = e at hdoes hraise hraised hreg
  have hboot : e.boot.stage ≠ .join := by
    rwa [hraise.part .boot (by decide), hwithin.part .boot (by decide)]
  rw [e.bootJoined_of_other hboot] at hdoes
  exact ⟨_, hdoes, (Dev.bit_congr (hreg _) 29).trans hjoined, hraised, fun h => (Dev.bit_congr (hreg _) 0).trans (hqst h),
    fun off hoff => (hreg off).trans (hregs off hoff), ((hwithin.trans hraise).mono (by decide)).keeps⟩

theorem does_join (k : BitVec 13) (dev : W16) (g : Byte) : Does (.join k dev g) s (s.dev.takeJoin k.toNat) :=
  does_onDev hon (f := fun _ d => d.takeJoin k.toNat) rfl rfl

end

section
variable (d : Dev) (k : Nat)

/-- One more device has asked to join (R382). -/
def Dev.joinNoted : Dev := { d with fab := { d.fab with joins := d.fab.joins ++ [k] } }

theorem Dev.takeJoin_of_known (h : d.isLead = false ∨ d.fab.joins.contains k = true) : d.takeJoin k = d := by
  rw [Dev.takeJoin, if_pos]
  rcases h with h | h <;> rw [h]
  · rfl
  · exact Bool.or_true _

theorem Dev.takeJoin_of_new (hlead : d.isLead = true) (hnew : d.fab.joins.contains k = false) : d.takeJoin k =
    if (List.range d.devices).all (fun j => (d.fab.joins ++ [k]).contains j) then
      ((d.joinNoted k).others.foldl (fun e j => e.sendMgmt j 2 (leBytes 2 e.devices)) (d.joinNoted k)).joinDone
    else d.joinNoted k := by
  rw [Dev.takeJoin, if_neg (by rw [hlead, hnew]; decide)]
  rfl

end

/-! ### Losses -/

section
variable {s : State} (hon : On s)
include hon

theorem does_lost (k : BitVec 13) : Does (.lost k) s (if s.dev.aliased k.toNat then s.dev else s.dev.deviceLost k.toNat) :=
  does_onDev hon (f := fun _ d => if d.aliased k.toNat then d else d.deviceLost k.toNat) rfl rfl

theorem does_deviceLost (k : BitVec 13) : Does (.deviceLost k) s
    (if (s.dev.routePort k.toNat).isNone then (s.dev.deviceLost k.toNat).tellLost k.toNat else s.dev) :=
  does_onDev hon (f := fun _ d => if (d.routePort k.toNat).isNone then (d.deviceLost k.toNat).tellLost k.toNat else d) rfl rfl

end

section
variable (d : Dev) (k : Nat)

theorem Dev.tellLost_of_none (h : d.isLead = false ∨ d.servedBy k = []) : d.tellLost k = d := by
  rw [Dev.tellLost]
  refine if_pos ?_
  rcases h with h | h <;> rw [h]
  · rfl
  · exact Bool.or_true _

/-- A loss recorded in FAB_LOST_LAST (R386). -/
def Dev.lossShown : Dev := d.setReg Reg.fabLostLast (BitVec.ofNat 32 (k + 2 ^ 31))

/-- The devices lost, `k` among them. -/
def withLost (l : List Nat) (k : Nat) : List Nat := if l.contains k then l else l ++ [k]

theorem mem_withLost (l : List Nat) (k : Nat) : k ∈ withLost l k := by
  rw [withLost]
  split
  case isTrue h => exact List.contains_iff_mem.mp h
  case isFalse => exact List.mem_append_right _ List.mem_cons_self

theorem Dev.reg_withFab (f : Fab) (off : Nat) : ({ d with fab := f } : Dev).reg off = d.reg off := rfl

/-- A loss noted in the device's lists (R386). -/
def Dev.lossListed : Dev :=
  { d.lossShown k with fab := { d.fab with lost := withLost d.fab.lost k, cut := if d.aliased k then withLost d.fab.cut k else d.fab.cut } }

theorem Dev.deviceLost_eq : d.deviceLost k = ((d.lossListed k).raise 326).lossCheck := rfl

theorem Dev.aliased_congr {e : Dev} (h : ∀ n, e.reg (Reg.fabAlias n) = d.reg (Reg.fabAlias n)) : e.aliased k = d.aliased k := by
  simp only [Dev.aliased, Dev.bit_congr (h _), Dev.fld_congr (h _)]

/-- With nothing outstanding that a loss may meet, or the Prompter halted, no fault follows (R386). -/
theorem Dev.lossCheck_of_idle (h : d.halted = true ∨ d.colls = [] ∧ d.hck.curtain = none ∧ d.xfers = []) : d.lossCheck = d := by
  refine if_neg ?_
  rcases h with h | ⟨hcolls, hcurtain, hxfers⟩
  · rw [h]
    exact Bool.false_ne_true
  · have hqueue (q : Nat) : d.queue q = [] := by rw [Dev.queue, hxfers]; rfl
    have hnone : d.lossMet = false := by simp [Dev.lossMet, hcolls, hcurtain, hqueue]
    rw [hnone, Bool.and_false]
    exact Bool.false_ne_true

theorem Dev.reg_lossListed : (d.lossListed k).reg Reg.fabLostLast = BitVec.ofNat 32 (k + 2 ^ 31) := by
  rw [Dev.lossListed, Dev.reg_withFab, Dev.lossShown, Dev.reg_setReg_same]

theorem Dev.within_lossListed : d.Within [.regs, .fab] (d.lossListed k) :=
  ((d.within_setReg _ _).trans (Dev.within_fab _ _)).mono (by decide)

/-- What the loss of a device leaves where no outstanding cue meets it (R386). -/
theorem Dev.deviceLost_spec (hidle : d.halted = true ∨ d.colls = [] ∧ d.hck.curtain = none ∧ d.xfers = []) :
    (d.deviceLost k).reg Reg.fabLostLast = BitVec.ofNat 32 (k + 2 ^ 31) ∧ k ∈ (d.deviceLost k).fab.lost ∧
      (d.deviceLost k).lostNow k = true ∧
      (d.deviceLost k).arrivalCount 326 = min 255 (d.arrivalCount 326 + 1) ∧ (d.deviceLost k).prompter = d.prompter := by
  have hwithin := d.within_lossListed k
  have hreg : (d.lossListed k).reg Reg.fabLostLast = BitVec.ofNat 32 (k + 2 ^ 31) := d.reg_lossListed k
  have halias : (d.lossListed k).aliased k = d.aliased k :=
    d.aliased_congr k fun n => by
      rw [Dev.lossListed, Dev.reg_withFab, Dev.lossShown, d.reg_setReg_other _ (by simp only [Reg.fabAlias, Reg.fabLostLast]; omega)]
  have hlost : (d.lossListed k).fab.lost = withLost d.fab.lost k := rfl
  have hcut : (d.lossListed k).fab.cut = if d.aliased k then withLost d.fab.cut k else d.fab.cut := rfl
  rw [Dev.deviceLost_eq]
  generalize d.lossListed k = e at hwithin hreg halias hlost hcut
  have hraise := e.within_raise 326
  have hreg' (off : Nat) : (e.raise 326).reg off = e.reg off := e.reg_raise 326 off
  have hcount : (e.raise 326).arrivalCount 326 = min 255 (e.arrivalCount 326 + 1) := by rw [Dev.arrivalCount_raise, if_pos rfl]
  generalize e.raise 326 = f at hraise hreg' hcount
  have hboth := hwithin.trans hraise
  have hidle' : f.halted = true ∨ f.colls = [] ∧ f.hck.curtain = none ∧ f.xfers = [] := by
    rwa [Dev.halted, hboth.part .prompter (by decide), ← Dev.halted, hboth.part .colls (by decide), hboth.part .hck (by decide),
      hboth.part .xfers (by decide)]
  rw [f.lossCheck_of_idle hidle']
  have hfab : f.fab = e.fab := hraise.part .fab (by decide)
  have hmem : k ∈ f.fab.lost := by rw [hfab, hlost]; exact mem_withLost _ _
  refine ⟨(hreg' _).trans hreg, hmem, ?_, ?_, hboth.part .prompter (by decide)⟩
  · rw [Dev.lostNow, e.aliased_congr k fun n => hreg' _, halias, hfab, hcut]
    cases ha : d.aliased k with
    | false => rw [← hfab, List.contains_iff_mem.mpr hmem]; rfl
    | true => rw [if_pos rfl, List.contains_iff_mem.mpr (mem_withLost _ _), Bool.or_true]
  · rw [hcount, Dev.arrivalCount, hwithin.part .arrivals (by decide), ← Dev.arrivalCount]

end

/-! ### Aliases and ERA -/

section
variable (d : Dev)

theorem Dev.reroute_of_none (h : d.fab.waiting = []) : d.reroute = d := by
  rw [Dev.reroute, h]
  refine (congrArg (fun f => { d with fab := f }) ?_ : { d with fab := { d.fab with waiting := [] } } = d)
  rw [← h]

theorem Dev.writeAlias_of_full (h : ∀ n, n < 16 → d.bit (Reg.fabAlias n) 31 = true) (src dst : Nat) : d.writeAlias src dst = d := by
  have hnone : (List.range 16).find? (fun n => !d.bit (Reg.fabAlias n) 31) = none := by
    simpa using fun n hn => h n hn
  rw [Dev.writeAlias, hnone]

theorem Dev.writeAlias_of_free {n : Nat} (hn : n < 16) (hfree : d.bit (Reg.fabAlias n) 31 = false)
    (hfirst : ∀ k, k < n → d.bit (Reg.fabAlias k) 31 = true) (src dst : Nat) :
    d.writeAlias src dst = (d.setReg (Reg.fabAlias n) (BitVec.ofNat 32 (src + dst * 65536 + 2 ^ 31))).reroute := by
  have hsome : (List.range 16).find? (fun n => !d.bit (Reg.fabAlias n) 31) = some n := by
    rw [List.find?_range_eq_some]
    exact ⟨by rw [hfree]; rfl, List.mem_range.mpr hn, fun k hk => by rw [hfirst k hk]; rfl⟩
  rw [Dev.writeAlias, hsome]

theorem Dev.offerFrames_of_empty (h : ∀ k, k < 17 → (d.port k).buffer = []) : d.offerFrames = d := by
  rw [Dev.offerFrames]
  refine List.foldlRecOn (motive := (· = d)) _ _ rfl fun e he p hp => ?_
  rw [he, h p (List.mem_range.mp hp)]
  rfl

end

section
variable {s : State} (hon : On s)
include hon

theorem does_aliasMsg (src dst : BitVec 13) : Does (.aliasMsg src dst) s (s.dev.writeAlias src.toNat dst.toNat) :=
  does_onDev hon (f := fun _ d => d.writeAlias src.toNat dst.toNat) rfl rfl

theorem runs_aliasMsg_full (src dst : BitVec 13) (hfull : ∀ n, n < 16 → s.dev.bit (Reg.fabAlias n) 31 = true) :
    Runs (.aliasMsg src dst) s (fun t => t = s) := by
  have hdoes := does_aliasMsg hon src dst
  rw [Dev.writeAlias_of_full _ hfull] at hdoes
  exact runs_same hdoes

theorem runs_aliasMsg_free (src dst : BitVec 13) {n : Nat} (hn : n < 16) (hfree : s.dev.bit (Reg.fabAlias n) 31 = false)
    (hfirst : ∀ k, k < n → s.dev.bit (Reg.fabAlias k) 31 = true) (hnone : s.dev.fab.waiting = []) : Runs (.aliasMsg src dst) s (fun t =>
      t.dev.reg (Reg.fabAlias n) = BitVec.ofNat 32 (src.toNat + dst.toNat * 65536 + 2 ^ 31) ∧
        KeepsRegs [Reg.fabAlias n] s t ∧ Keeps [.regs] s t) := by
  have hdoes := does_aliasMsg hon src dst
  rw [s.dev.writeAlias_of_free hn hfree hfirst] at hdoes
  generalize BitVec.ofNat 32 (src.toNat + dst.toNat * 65536 + 2 ^ 31) = v at hdoes ⊢
  have hwithin := s.dev.within_setReg (Reg.fabAlias n) v
  rw [Dev.reroute_of_none _ ((congrArg Fab.waiting (hwithin.part .fab (by decide))).trans hnone)] at hdoes
  exact ⟨_, hdoes, s.dev.reg_setReg_same _ v, (s.dev.regsWithin_setReg _ v).keepsRegs, hwithin.keeps⟩

theorem does_era (e : Byte) : Does (.era e) s (s.dev.setFld Reg.fabEra 7 0 e.toNat).offerFrames :=
  does_onDev hon (f := fun _ d => (d.setFld Reg.fabEra 7 0 e.toNat).offerFrames) rfl rfl

theorem runs_era (e : Byte) (hempty : ∀ k, k < 17 → (s.dev.port k).buffer = []) : Runs (.era e) s (fun t =>
    t.dev.fld Reg.fabEra 7 0 = e.toNat ∧ KeepsRegs [Reg.fabEra] s t ∧ Keeps [.regs] s t) := by
  have hdoes := does_era hon e
  have hwithin := s.dev.within_setFld Reg.fabEra 7 0 e.toNat
  rw [Dev.offerFrames_of_empty _ fun k hk => (congrArg Port.buffer (Dev.port_congr (hwithin.part .fab (by decide)) k)).trans (hempty k hk)]
    at hdoes
  exact ⟨_, hdoes, (Dev.fld_setFld_same _ _ _ (by decide)).trans (Nat.mod_eq_of_lt e.isLt),
    (s.dev.regsWithin_setFld _ _ _ _).keepsRegs, hwithin.keeps⟩

/-! ### Takeover -/

theorem does_fenced (k : BitVec 13) {c : Instr} (hc : c ∈ [Instr.fence, .takeoverDeny k]) : Does c s (s.dev.fenced s.ident) := by
  simp only [List.mem_cons, List.not_mem_nil, or_false] at hc
  rcases hc with rfl | rfl
  · exact does_onDev hon (f := fun i d => d.fenced i) rfl rfl
  · exact does_onDev hon (f := fun i d => d.fenced i) rfl rfl

theorem does_takeoverGrant (k : BitVec 13) : Does (.takeoverGrant k) s
    (if s.dev.usy.request = some k.toNat then { s.dev with usy := { s.dev.usy with request := none } } else s.dev) :=
  does_onDev hon (f := fun _ d => if d.usy.request = some k.toNat then { d with usy := { d.usy with request := none } } else d) rfl rfl

theorem does_takeoverNote (failed survivor : BitVec 13) (e : Byte) :
    Does (.takeoverNote failed survivor e) s (s.dev.takeoverNote failed.toNat survivor.toNat e.toNat) :=
  does_onDev hon (f := fun _ d => d.takeoverNote failed.toNat survivor.toNat e.toNat) rfl rfl

theorem does_takeoverReq (requester failed : BitVec 13) : Does (.takeoverReq requester failed) s
    (if s.dev.isLead then s.dev.leadRequest s.ident requester.toNat failed.toNat else s.dev) :=
  does_onDev hon (f := fun i d => if d.isLead then d.leadRequest i requester.toNat failed.toNat else d) rfl rfl

end

/-- A fenced module after its Safety Curtain (R470). -/
theorem Dev.fenced_spec (d : Dev) (i : Ident) : (d.fenced i).fld Reg.usyStatus 2 0 = 4 ∧ (d.fenced i).usy.request = none ∧
    (d.fenced i).arrivalCount 72 = min 255 ((d.curtainHalt i).arrivalCount 72 + 1) := by
  rw [Dev.fenced]
  generalize d.curtainHalt i = a
  have hstate : (a.enterUsy 4).usyState = 4 := a.usyState_enterUsy (by decide)
  have harr : (a.enterUsy 4).arrivals = a.arrivals := (a.within_enterUsy 4).part .arrivals (by decide)
  generalize a.enterUsy 4 = b at hstate harr
  refine ⟨(Dev.fld_congr (Dev.reg_raise _ _ _) 2 0).trans hstate, ?_, ?_⟩
  · rw [(Dev.within_raise _ 72).part .usy (by decide)]
  · rw [Dev.arrivalCount_raise, if_pos rfl]
    exact congrArg (fun n => min 255 (n + 1)) (by rw [Dev.arrivalCount, Dev.arrivalCount, harr])

theorem runs_fenced {s : State} (hon : On s) (k : BitVec 13) {c : Instr} (hc : c ∈ [Instr.fence, .takeoverDeny k]) : Runs c s (fun t =>
    t.dev.fld Reg.usyStatus 2 0 = 4 ∧ t.dev.usy.request = none ∧
      t.dev.arrivalCount 72 = min 255 ((s.dev.curtainHalt s.ident).arrivalCount 72 + 1)) := by
  have hdoes := does_fenced hon k hc
  have hspec := s.dev.fenced_spec s.ident
  generalize s.dev.fenced s.ident = e at hdoes hspec
  exact ⟨_, hdoes, hspec⟩

section
variable (d : Dev) (i : Ident) {requester failed : Nat}

theorem Dev.takeoverNote_of_other {survivor era : Nat}
    (hother : survivor ≠ ((((d.writeAlias failed survivor).setFld Reg.fabEra 7 0 era).asyncFault 0x41)).index)
    (hstate : ((((d.writeAlias failed survivor).setFld Reg.fabEra 7 0 era).asyncFault 0x41)).fld Reg.usyStatus 2 0 ≠ 7) :
    d.takeoverNote failed survivor era = ((((d.writeAlias failed survivor).setFld Reg.fabEra 7 0 era).asyncFault 0x41)).offerFrames := by
  rw [Dev.takeoverNote]
  generalize (((d.writeAlias failed survivor).setFld Reg.fabEra 7 0 era).asyncFault 0x41) = a at hother hstate ⊢
  have hne : ¬a.usyState = 7 := hstate
  rw [if_neg hne, if_neg fun h => hother h.1]

/-- A later request for a module whose takeover was granted is denied (R469). -/
theorem Dev.leadRequest_of_granted (h : failed ∈ d.fab.granted) : d.leadRequest i requester failed =
    if requester = d.index then d else d.sendMgmt requester 0x82 (leBytes 2 requester) :=
  if_pos (List.contains_iff_mem.mpr h)

/-- A request by a module that was itself taken over is denied (R469). -/
theorem Dev.leadRequest_of_failed (h : failed ∉ d.fab.granted) (h' : requester ∈ d.fab.granted) : d.leadRequest i requester failed =
    if requester = d.index then d.fenced i else d.sendMgmt requester 0x82 (leBytes 2 failed) := by
  rw [Dev.leadRequest, if_neg (by simpa using h), if_pos (List.contains_iff_mem.mpr h')]

theorem Dev.leadRequest_of_first (h : failed ∉ d.fab.granted) (h' : requester ∉ d.fab.granted) :
    d.leadRequest i requester failed = d.grantTakeover i requester failed := by
  rw [Dev.leadRequest, if_neg (by simpa using h), if_neg (by simpa using h')]

end

/-! ### The settled statement -/

/-- Settles O55. -/
theorem ensembleMessages : Obligations.EnsembleMessages := by
  unfold Obligations.EnsembleMessages
  intro s hon
  refine ⟨fun count hstage => runs_joinDone hon count hstage, fun k dev g => ⟨fun hknown => ?_, fun hlead hnew hmissing => ?_,
    fun hlead hnew hall => ?_⟩, fun k => ⟨fun halias => ?_, fun hroute => ?_, fun halias => ?_, fun hroute => ?_,
      fun hnone => s.dev.tellLost_of_none k.toNat hnone⟩,
    fun k _ hidle => s.dev.deviceLost_spec k hidle,
    fun src dst => ⟨fun hfull => runs_aliasMsg_full hon src dst hfull,
      fun n hn hfree hfirst hnone => runs_aliasMsg_free hon src dst hn hfree hfirst hnone⟩,
    fun e => ⟨does_era hon e, fun hempty => runs_era hon e hempty⟩,
    fun k c hc => runs_fenced hon k hc,
    fun k => ⟨fun hreq => ?_, fun hreq => ?_⟩, fun failed survivor e => ?_,
    fun failed survivor e => does_takeoverNote hon failed survivor e,
    fun requester failed => ⟨fun hlead => ?_, fun hlead hother hgranted => ?_, fun hlead hself hgranted => ?_,
      fun hlead hself hnew hfailed => ?_, fun hlead hother hnew hfailed => ?_, fun hlead hnew hfirst => ?_⟩⟩
  · have hdoes := does_join hon k dev g
    rw [Dev.takeJoin_of_known _ _ hknown] at hdoes
    exact runs_same hdoes
  · obtain ⟨j, hj, habsent⟩ := hmissing
    have hdoes := does_join hon k dev g
    rw [Dev.takeJoin_of_new _ _ hlead hnew, if_neg fun h => habsent (List.contains_iff_mem.mp (List.all_eq_true.mp h j (List.mem_range.mpr hj)))]
      at hdoes
    exact ⟨_, hdoes, rfl, (s.dev.within_fab _).keeps⟩
  · have hdoes := does_join hon k dev g
    rwa [Dev.takeJoin_of_new _ _ hlead hnew,
      if_pos (List.all_eq_true.mpr fun j hj => List.contains_iff_mem.mpr (hall j (List.mem_range.mp hj)))] at hdoes
  · have hdoes := does_lost hon k
    rw [if_pos halias] at hdoes
    exact runs_same hdoes
  · have hdoes := does_deviceLost hon k
    rw [Option.isNone_eq_false_iff.mpr hroute, if_neg Bool.false_ne_true] at hdoes
    exact runs_same hdoes
  · have hdoes := does_lost hon k
    rwa [halias, if_neg Bool.false_ne_true] at hdoes
  · have hdoes := does_deviceLost hon k
    rwa [hroute, Option.isNone_none, if_pos rfl] at hdoes
  · have hdoes := does_takeoverGrant hon k
    rw [if_pos hreq] at hdoes
    exact ⟨_, hdoes, rfl, (s.dev.within_usy _).keeps⟩
  · have hdoes := does_takeoverGrant hon k
    rw [if_neg hreq] at hdoes
    exact runs_same hdoes
  · intro a hother hstate
    have hdoes := does_takeoverNote hon failed survivor e
    rwa [s.dev.takeoverNote_of_other hother hstate] at hdoes
  all_goals have hdoes := does_takeoverReq hon requester failed
  · rw [hlead, if_neg Bool.false_ne_true] at hdoes
    exact runs_same hdoes
  · rwa [if_pos hlead, Dev.leadRequest_of_granted _ _ hgranted, if_neg hother] at hdoes
  · rwa [if_pos hlead, Dev.leadRequest_of_granted _ _ hgranted, if_pos hself] at hdoes
  · rwa [if_pos hlead, Dev.leadRequest_of_failed _ _ hnew hfailed, if_pos hself] at hdoes
  · rwa [if_pos hlead, Dev.leadRequest_of_failed _ _ hnew hfailed, if_neg hother] at hdoes
  · rwa [if_pos hlead, Dev.leadRequest_of_first _ _ hnew hfirst] at hdoes

end Sys2Proof.Machine
end

section
/-! A recorded fault stands while transfers run to their end (R194, R197). -/
namespace Sys2Proof.Machine

/-! ### A fault that stands -/

/-- The recorded fault code and the Prompter are as they were. -/
structure Dev.SameFault (d e : Dev) : Prop where
  code : e.reg Reg.stgFaultCode = d.reg Reg.stgFaultCode
  prompter : e.prompter = d.prompter

section
variable {d e f : Dev}

theorem Dev.sameFault_refl : d.SameFault d := ⟨rfl, rfl⟩

theorem Dev.SameFault.trans (h : d.SameFault e) (h' : e.SameFault f) : d.SameFault f := ⟨h'.code.trans h.code, h'.prompter.trans h.prompter⟩

theorem Dev.SameFault.ite {c : Prop} [Decidable c] (h : d.SameFault e) (h' : d.SameFault f) : d.SameFault (if c then e else f) := by
  split
  · exact h
  · exact h'

theorem Dev.Within.sameFault {ps : List Part} (h : d.Within ps e) (hregs : Part.regs ∉ .lines :: ps) (hp : Part.prompter ∉ .lines :: ps) :
    d.SameFault e := ⟨Dev.reg_congr (h.part .regs hregs) _, h.part .prompter hp⟩

theorem Dev.RegsWithin.sameFault {offs : List Nat} {ps : List Part} (h : d.RegsWithin offs e) (hoff : Reg.stgFaultCode ∉ offs) (h' : d.Within ps e)
    (hp : Part.prompter ∉ .lines :: ps) : d.SameFault e := ⟨h _ hoff, h'.part .prompter hp⟩

theorem Dev.SameFault.faultCode (h : d.SameFault e) : e.faultCode = d.faultCode := Dev.fld_congr h.code 7 0

theorem Dev.SameFault.halted (h : d.SameFault e) : e.halted = d.halted := congrArg (fun p : Prompter => p.run == .halted) h.prompter

end

theorem Dev.sameFault_foldl {β : Type} {g : Dev → β → Dev} (hg : ∀ (d : Dev) x, d.SameFault (g d x)) (xs : List β) (d : Dev) :
    d.SameFault (xs.foldl g d) := by
  induction xs generalizing d with
  | nil => exact d.sameFault_refl
  | cons x xs ih => exact (hg d x).trans (ih _)

theorem Dev.sameFault_foldl_snd {α β : Type} {g : α × Dev → β → α × Dev} (hg : ∀ (a : α × Dev) x, a.2.SameFault (g a x).2) (xs : List β)
    (a : α × Dev) : a.2.SameFault (xs.foldl g a).2 := by
  induction xs generalizing a with
  | nil => exact a.2.sameFault_refl
  | cons x xs ih => exact (hg a x).trans (ih _)

section
variable (d : Dev)

theorem Dev.sameFault_readErrors (c : MemCode) (k n : Nat) : d.SameFault (d.readErrors c k n).2 :=
  (d.regsWithin_readErrors c k n).sameFault (by decide) (d.within_readErrors c k n) (by decide)

theorem Dev.sameFault_store (c : MemCode) (k : Nat) (bs : List Byte) : d.SameFault (d.store c k bs).2 :=
  (d.regsWithin_store c k bs).sameFault (by decide) (d.within_store c k bs) (by decide)

theorem Dev.sameFault_shipRecord (r : List Byte) : d.SameFault (d.shipRecord r) := by
  have hlog (e : Dev) (q : List (List Byte)) (v : W32) :
      e.SameFault ((Dev.setReg { e with usy := { e.usy with logq := q } } Reg.usyLogBacklog v).pumpAll 16) := by
    have hset := (e.within_usy { e.usy with logq := q }).trans (Dev.within_setReg _ Reg.usyLogBacklog v)
    have hregs := ((e.within_usy { e.usy with logq := q }).regsWithin (by decide)).trans (Dev.regsWithin_setReg _ Reg.usyLogBacklog v)
    generalize Dev.setReg { e with usy := { e.usy with logq := q } } Reg.usyLogBacklog v = x at hset hregs ⊢
    exact (hregs.trans (x.sends_pumpAll 16).regs).sameFault (by decide) (hset.trans (x.within_pumpAll 16)) (by decide)
  exact Dev.SameFault.ite ((hlog d _ _).trans ((Dev.within_raise _ 75).sameFault (by decide) (by decide))) (hlog d _ _)

theorem Dev.sameFault_shipWrite (a n : Nat) : d.SameFault (d.shipWrite a n) := by
  have hsteps (cs : List (List Byte)) (acc : Dev × Nat) : acc.1.SameFault (cs.foldl (fun (acc : Dev × Nat) (c : List Byte) =>
      (acc.1.shipRecord (logRecord 1 0 (acc.1.reg Reg.stgStepSeq).toNat acc.2 c), acc.2 + c.length)) acc).1 := by
    induction cs generalizing acc with
    | nil => exact acc.1.sameFault_refl
    | cons c cs ih =>
      rw [List.foldl_cons]
      exact (acc.1.sameFault_shipRecord _).trans (ih (acc.1.shipRecord _, acc.2 + c.length))
  exact Dev.SameFault.ite (hsteps _ (d, _)) d.sameFault_refl

theorem Dev.sameFault_hbmWrite (a : Nat) (bs : List Byte) : d.SameFault (d.hbmWrite a bs).2 :=
  (d.sameFault_store .hbm a bs).trans (Dev.sameFault_shipWrite _ a _)

theorem Dev.sameFault_putBytes (c : MemCode) (k : Nat) (bs : List Byte) : d.SameFault (d.putBytes c k bs).2 := by
  cases c with
  | hbm => exact d.sameFault_hbmWrite k bs
  | _ => exact d.sameFault_store _ k bs

theorem Dev.sameFault_moveBytes (src : MemCode) (sk : Nat) (dsts : List (MemCode × Nat)) (n : Nat) :
    d.SameFault (d.moveBytes src sk dsts n).2 := by
  refine (d.sameFault_readErrors src sk n).trans (Dev.sameFault_foldl_snd (fun a t => ?_) dsts (d.readErrors src sk n))
  refine Dev.sameFault_foldl_snd (fun b p => ?_) _ a
  exact b.2.sameFault_putBytes t.1 (t.2 + p.1) _

theorem Dev.sameFault_movePiece (w : Nat) (m : MoveOp) (p : Piece) : d.SameFault (d.movePiece w m p).2 := by
  rw [Dev.movePiece]
  split
  · exact Dev.sameFault_foldl (fun d (s : Nat × Nat) => d.sameFault_readErrors .hbm s.1 s.2) _ d
  · split
    · exact d.sameFault_refl
    · split
      · exact d.sameFault_moveBytes _ _ _ _
      · exact d.sameFault_moveBytes _ _ _ _

theorem Dev.sameFault_runMove (x : Transfer) : d.SameFault (d.runMove x).2 := by
  rw [Dev.runMove]
  cases d.pieces x.cue.word (moveOp x.cue.desc) x.rows with
  | mk ps beyond =>
    refine Dev.sameFault_foldl_snd (fun a p => ?_) ps (false, d)
    exact a.2.sameFault_movePiece x.cue.word (moveOp x.cue.desc) p

theorem Dev.sameFault_flushTransfers : d.SameFault d.flushTransfers := by
  have hqueues := Dev.sameFault_foldl (fun (d : Dev) (q : Nat) => Dev.sameFault_foldl (fun (d : Dev) (x : Transfer) => d.sameFault_runMove x)
    (d.queue q) d) (List.range 48) d
  rw [Dev.flushTransfers]
  generalize (List.range 48).foldl (fun (d : Dev) q => (d.queue q).foldl (fun (d : Dev) x => (d.runMove x).2) d) d = e at hqueues ⊢
  exact hqueues.trans ⟨rfl, rfl⟩

theorem Dev.within_giveBack (ps : List (Nat × List Nat)) : d.Within [.cast] (d.giveBack ps) :=
  Dev.within_foldl (fun d _ => ((d.within_cast _).ite d.within_refl).mono (by decide)) ps d

theorem Dev.within_dropAhead : d.Within [.cast] d.dropAhead := by
  rw [Dev.dropAhead]
  cases d.cast.ahead with
  | none => exact d.within_refl.mono (by decide)
  | some a =>
    have hback (e : Dev) (r : List CastEffect) : d.Within [.cast] e → d.Within [.cast]
        { e.giveBack a.drafts with cast := { (e.giveBack a.drafts).cast with redo := r } } := fun h =>
      ((h.trans (e.within_giveBack a.drafts)).trans (Dev.within_cast _ _)).mono (by decide)
    dsimp only
    split
    · exact ((d.within_cast _).trans (Dev.within_cast _ _)).mono (by decide)
    · cases a.manifest with
      | none => exact hback _ _ (d.within_cast _)
      | some e => exact ((hback _ _ (d.within_cast _)).trans (Dev.within_cast _ _)).mono (by decide)

/-- A fault of a Prompter that runs records its code and halts it (R194, R197). -/
theorem Dev.promptFault_spec {code : Nat} (hcode : code < 256) (hrun : d.halted = false) (inScene : Bool) (tile : Nat) (multi : Bool)
    (pc : BitVec 18) : (d.promptFault code inScene tile multi pc).faultCode = code ∧ (d.promptFault code inScene tile multi pc).halted = true := by
  rw [Dev.promptFault, if_neg (by rw [hrun]; exact Bool.false_ne_true)]
  have hfault : (d.countReplayFault.writeFault code inScene tile multi pc).faultCode = code := by
    rw [Dev.faultCode, Dev.fld, (Dev.reg_writeFault _ code inScene tile multi pc).1]
    have hscene : b2n inScene < 2 := by cases inScene <;> decide
    rw [BitVec.toNat_ofNat, bits]
    omega
  generalize d.countReplayFault.writeFault code inScene tile multi pc = a at hfault
  have hhalt := a.within_haltPrompter
  have hstop : a.haltPrompter.halted = true := congrArg (fun p : Prompter => p.run == .halted) a.prompter_haltPrompter
  have hcode' : a.haltPrompter.faultCode = code := (Dev.fld_congr (Dev.reg_congr (hhalt.part .regs (by decide)) _) 7 0).trans hfault
  generalize a.haltPrompter = b at hstop hcode'
  have hrest := (b.sameFault_flushTransfers.trans ((Dev.within_dropAhead _).sameFault (by decide) (by decide))).trans
    ((Dev.within_raise _ 64).sameFault (by decide) (by decide))
  generalize (b.flushTransfers.dropAhead).raise 64 = y at hrest
  exact ⟨hrest.faultCode.trans hcode', hrest.halted.trans hstop⟩

theorem Dev.promptFault_of_halted (h : d.halted = true) (code : Nat) (inScene : Bool) (tile : Nat) (multi : Bool) (pc : BitVec 18) :
    d.promptFault code inScene tile multi pc = d := if_pos h

end

end Sys2Proof.Machine
end

section
/-! The Grid network: tokens, pairing, expiry and the edge units (R229, R230, R232 to R235, R243, R280): O59. -/
namespace Sys2Proof.Machine

/-! ### Tokens in flight -/

theorem earliest_least {l : List GridToken} {x : GridToken} (h : earliest l = some x) : ∀ y ∈ l, x.due ≤ y.due := by
  induction l generalizing x with
  | nil => exact fun y hy => absurd hy List.not_mem_nil
  | cons a as ih =>
    rw [earliest] at h
    cases hrest : earliest as with
    | none =>
      rw [hrest] at h
      have hnil : as = [] := by
        cases as with
        | nil => rfl
        | cons b bs =>
          rw [earliest] at hrest
          split at hrest
          · cases hrest
          · split at hrest <;> cases hrest
      obtain rfl : a = x := Option.some.inj h
      intro y hy
      rw [hnil, List.mem_singleton] at hy
      rw [hy]
    | some u =>
      rw [hrest] at h
      have hle := ih hrest
      intro y hy
      dsimp only at h
      split at h
      all_goals
        cases h
        rcases List.mem_cons.mp hy with rfl | hy
      · omega
      · exact hle y hy
      · exact Nat.le_refl _
      · have := hle y hy
        omega

section
variable (d : Dev) (c : Nat)

/-- Going on to a grid cycle changes the Grid's cycle and its changeover alone. -/
theorem Dev.gridTo_eq : ∃ n x, d.gridTo c = { d with grid := { d.grid with cycle := n, change := x } } := by
  rw [Dev.gridTo]
  dsimp only
  split
  · split
    · exact ⟨_, _, rfl⟩
    · exact ⟨_, _, rfl⟩
  · exact ⟨_, _, rfl⟩

theorem Dev.steer_gridTo : (d.gridTo c).grid.steer = d.grid.steer := by
  obtain ⟨n, x, h⟩ := d.gridTo_eq c
  rw [h]

theorem Dev.held_gridTo (u : Nat) : (d.gridTo c).grid.held u = d.grid.held u := by
  rw [Grid.held, d.steer_gridTo, Grid.held]

end

theorem Grid.held_setHeld (g : Grid) (u k : Nat) (ts : List GridToken) : (g.setHeld u ts).held k = if k = u then ts else g.held k :=
  tabGet_tabSet ..

/-! ### Arrival -/

/-- The Grid with the token taken out of flight (R229). -/
def Dev.tokenTaken (d : Dev) (x : GridToken) : Grid := { (d.gridTo x.due).grid with flight := dropToken x d.grid.flight }

/-- A token of an old epoch is counted (R230). -/
def Dev.staleCounted (d : Dev) : Dev := (d.count Reg.lgrStaleCount).pulse 99

section
variable (d : Dev) (x : GridToken)

theorem Dev.held_tokenTaken (u : Nat) : (d.tokenTaken x).held u = d.grid.held u := d.held_gridTo x.due u

/-- The package with the token taken out of flight. -/
theorem Dev.tokenTaken_eq : ({ d.gridTo x.due with
    grid := { (d.gridTo x.due).grid with flight := dropToken x (d.gridTo x.due).grid.flight } } : Dev) = { d with grid := d.tokenTaken x } := by
  obtain ⟨n, y, h⟩ := d.gridTo_eq x.due
  rw [Dev.tokenTaken, h]

theorem Dev.arrive_of_stale (h : x.epoch ≠ d.epoch) : d.arrive x =
    if ({ d with grid := d.tokenTaken x } : Dev).staleCounted.bit Reg.lgrCtrl 0 then ({ d with grid := d.tokenTaken x } : Dev).staleCounted.raise 129
    else ({ d with grid := d.tokenTaken x } : Dev).staleCounted := by
  rw [Dev.arrive, d.tokenTaken_eq]
  exact if_pos h

theorem Dev.arrive_of_alone (h : x.epoch = d.epoch) (hnone : (d.grid.held x.unit).find? (fun h => partners h x) = none) :
    d.arrive x = { d with grid := (d.tokenTaken x).setHeld x.unit (d.grid.held x.unit ++ [x]) } := by
  rw [Dev.arrive, d.tokenTaken_eq]
  refine (if_neg (not_not.mpr h)).trans ?_
  dsimp only
  rw [d.held_tokenTaken, hnone]

theorem Dev.arrive_of_partner {h : GridToken} (hepoch : x.epoch = d.epoch) (hsome : (d.grid.held x.unit).find? (fun h => partners h x) = some h) :
    d.arrive x = Dev.deliverPair { d with grid := (d.tokenTaken x).setHeld x.unit (dropToken h (d.grid.held x.unit)) } x.unit
      (if x.ctl then x.word else h.word) (if x.ctl then h.word else x.word) := by
  rw [Dev.arrive, d.tokenTaken_eq]
  refine (if_neg (not_not.mpr hepoch)).trans ?_
  dsimp only
  rw [d.held_tokenTaken, hsome]
  cases x.ctl <;> rfl

theorem Dev.staleCounted_spec : d.staleCounted.grid = d.grid ∧
    d.staleCounted.reg Reg.lgrStaleCount = BitVec.ofNat 32 (min ((d.reg Reg.lgrStaleCount).toNat + 1) 0xFFFFFFFF) ∧
    d.RegsWithin [Reg.lgrStaleCount] d.staleCounted ∧ d.Within [.regs] d.staleCounted := by
  have hpulse := (d.count Reg.lgrStaleCount).within_pulse 99
  have hwithin := (d.within_count Reg.lgrStaleCount).trans hpulse
  exact ⟨hwithin.part .grid (by decide), (Dev.reg_congr (hpulse.part .regs (by decide)) _).trans (d.reg_count_same _),
    ((d.regsWithin_count _).trans (hpulse.regsWithin (by decide))).mono (by decide), hwithin.mono (by decide)⟩

end

section
variable {s : State} (hon : On s)
include hon

theorem does_tokenArrival {x : GridToken} (h : earliest s.dev.grid.flight = some x) : Does .tokenArrival s (s.dev.arrive x) := by
  have hexec : exec .tokenArrival s = execTokenArrival s := rfl
  rw [Does, hexec, execTokenArrival, onDev_on hon, h]

theorem runs_tokenArrival_none (h : s.dev.grid.flight = []) : Runs .tokenArrival s (fun t => t = s) := by
  have hexec : exec .tokenArrival s = execTokenArrival s := rfl
  have hdoes : Does .tokenArrival s s.dev := by rw [Does, hexec, execTokenArrival, onDev_on hon, h, earliest]
  exact runs_same hdoes

/-- A token of an old epoch (R230). -/
theorem runs_tokenArrival_stale {x : GridToken} (h : earliest s.dev.grid.flight = some x) (hepoch : x.epoch ≠ s.dev.epoch) :
    Runs .tokenArrival s (fun t => t.dev.grid = s.dev.tokenTaken x ∧
      t.dev.reg Reg.lgrStaleCount = BitVec.ofNat 32 (min ((s.dev.reg Reg.lgrStaleCount).toNat + 1) 0xFFFFFFFF) ∧
      KeepsRegs [Reg.lgrStaleCount] s t ∧ (s.dev.bit Reg.lgrCtrl 0 = false → Keeps [.grid, .regs] s t) ∧
      (s.dev.bit Reg.lgrCtrl 0 = true → Raised 129 s t ∧ Keeps (.grid :: .regs :: raising) s t)) := by
  have hdoes := does_tokenArrival hon h
  rw [s.dev.arrive_of_stale x hepoch] at hdoes
  have htaken := s.dev.within_grid (s.dev.tokenTaken x)
  obtain ⟨hgrid, hcount, hregs, hwithin⟩ := Dev.staleCounted_spec { s.dev with grid := s.dev.tokenTaken x }
  generalize Dev.staleCounted { s.dev with grid := s.dev.tokenTaken x } = e at hdoes hgrid hcount hregs hwithin
  have hbit : e.bit Reg.lgrCtrl 0 = s.dev.bit Reg.lgrCtrl 0 := Dev.bit_congr (hregs _ (by decide)) 0
  rw [hbit] at hdoes
  have hboth := (htaken.trans hwithin).mono (qs := [.grid, .regs]) (by decide)
  cases hctrl : s.dev.bit Reg.lgrCtrl 0 with
  | false =>
    rw [hctrl, if_neg Bool.false_ne_true] at hdoes
    exact ⟨_, hdoes, hgrid, hcount, hregs, fun _ => hboth.keeps, fun h => absurd h Bool.false_ne_true⟩
  | true =>
    rw [hctrl, if_pos rfl] at hdoes
    have hraise := e.within_raise 129
    have hraised := raised_raise (s := s) (d := e) (hboth.part .arrivals (by decide)) 129
    have hreg (off : Nat) : (e.raise 129).reg off = e.reg off := e.reg_raise 129 off
    generalize e.raise 129 = f at hdoes hraise hraised hreg
    exact ⟨_, hdoes, (hraise.part .grid (by decide)).trans hgrid, (hreg _).trans hcount, fun off hoff => (hreg off).trans (hregs off hoff),
      fun h => absurd h (by decide), fun _ => ⟨hraised, ((hboth.trans hraise).mono (by decide)).keeps⟩⟩

/-- A token without a partner waits at its steering unit (R229). -/
theorem runs_tokenArrival_alone {x : GridToken} (h : earliest s.dev.grid.flight = some x) (hepoch : x.epoch = s.dev.epoch)
    (hnone : ∀ h ∈ s.dev.grid.held x.unit, partners h x = false) : Runs .tokenArrival s (fun t =>
        t.dev.grid.held x.unit = s.dev.grid.held x.unit ++ [x] ∧ (∀ u, u ≠ x.unit → t.dev.grid.held u = s.dev.grid.held u) ∧
        t.dev.grid = { s.dev.tokenTaken x with steer := t.dev.grid.steer } ∧ Keeps [.grid] s t) := by
  have hdoes := does_tokenArrival hon h
  rw [s.dev.arrive_of_alone x hepoch (List.find?_eq_none.mpr fun y hy => by rw [hnone y hy]; decide)] at hdoes
  refine ⟨_, hdoes, (Grid.held_setHeld _ _ _ _).trans (if_pos rfl), fun u hu => ?_, rfl, (s.dev.within_grid _).keeps⟩
  exact (Grid.held_setHeld _ _ _ _).trans ((if_neg hu).trans (s.dev.held_tokenTaken x u))

end

/-! ### Lonely tokens -/

/-- The Grid with a lonely token of unit `u` given up (R229). -/
def Dev.tokenGone (d : Dev) (u : Nat) (x : GridToken) : Grid := (d.gridTo (x.due + 5)).grid.setHeld u (dropToken x (d.grid.held u))

/-- An orphan recorded (R229). -/
def Dev.orphanNoted (d : Dev) (u : Nat) (x : GridToken) : Dev :=
  if d.bit Reg.lgrStatus 18 then d
  else d.setReg Reg.lgrOrphanInfo (BitVec.ofNat 32 (u + x.src * 2 ^ 9 + x.sslot * 2 ^ 18 + x.epoch * 2 ^ 22 + 2 ^ 31))

section
variable (d : Dev) (u : Nat) (x : GridToken)

/-- The package with the token given up. -/
theorem Dev.tokenGone_eq : ({ d.gridTo (x.due + 5) with
    grid := (d.gridTo (x.due + 5)).grid.setHeld u (dropToken x ((d.gridTo (x.due + 5)).grid.held u)) } : Dev) = { d with grid := d.tokenGone u x } := by
  rw [d.held_gridTo, Dev.tokenGone]
  obtain ⟨n, y, h⟩ := d.gridTo_eq (x.due + 5)
  rw [h]

theorem Dev.expireControl_eq : d.expireControl u x =
    if (Dev.count { d with grid := d.tokenGone u x } Reg.lgrExpiredCount).bit Reg.lgrCtrl 1 then
      (Dev.count { d with grid := d.tokenGone u x } Reg.lgrExpiredCount).raise 130
    else Dev.count { d with grid := d.tokenGone u x } Reg.lgrExpiredCount := by
  rw [Dev.expireControl, d.tokenGone_eq]

/-- What an orphan does after a changeover that failed with it (R229, R243). -/
def Dev.orphanEnds : Dev :=
  let d := d.gridTo (x.due + 5)
  let d := { d with grid := d.grid.setHeld u (dropToken x (d.grid.held u)) }
  ((d.orphanNoted u x).flagRaise Reg.lgrStatus 18 134).asyncFault 0x51

theorem Dev.orphanEnds_eq : d.orphanEnds u x =
    ((Dev.orphanNoted { d with grid := d.tokenGone u x } u x).flagRaise Reg.lgrStatus 18 134).asyncFault 0x51 :=
  congrArg (fun e : Dev => ((e.orphanNoted u x).flagRaise Reg.lgrStatus 18 134).asyncFault 0x51) (d.tokenGone_eq u x)

theorem Dev.orphan_of_quiet
    (h : ∀ c, d.grid.change = some c → d.swapReady c = true ∨ sameCoreCycle (c.start + 2048) (x.due + 5) = false) :
    d.orphan u x = d.orphanEnds u x := by
  cases hc : d.grid.change with
  | none => simp only [Dev.orphan, Dev.orphanEnds, Dev.orphanNoted, hc]
  | some c =>
    have hquiet : ¬(!d.swapReady c && sameCoreCycle (c.start + 2048) (x.due + 5)) = true := by
      rcases h c hc with h | h <;> rw [h]
      · exact Bool.false_ne_true
      · rw [Bool.and_false]
        exact Bool.false_ne_true
    simp only [Dev.orphan, Dev.orphanEnds, Dev.orphanNoted, hc, if_neg hquiet]

theorem Dev.orphan_of_failing {c : Changeover} (hc : d.grid.change = some c) (hready : d.swapReady c = false)
    (hsame : sameCoreCycle (c.start + 2048) (x.due + 5) = true) : d.orphan u x = (d.changeoverFails c).orphanEnds u x := by
  have hfails : (!d.swapReady c && sameCoreCycle (c.start + 2048) (x.due + 5)) = true := by rw [hready, hsame]; rfl
  simp only [Dev.orphan, Dev.orphanEnds, Dev.orphanNoted, hc, if_pos hfails]

theorem Dev.sameFault_orphanNoted : d.SameFault (d.orphanNoted u x) :=
  Dev.SameFault.ite d.sameFault_refl ((d.regsWithin_setReg _ _).sameFault (by decide) (d.within_setReg _ _) (by decide))

/-- A changeover that fails faults with 0x50 and halts the Prompter (R240). -/
theorem Dev.changeoverFails_spec (c : Changeover) (hrun : d.halted = false) :
    (d.changeoverFails c).faultCode = 0x50 ∧ (d.changeoverFails c).halted = true := by
  rw [Dev.changeoverFails]
  have hsame (g : Grid) : d.SameFault ((Dev.clrBit { d with grid := g } Reg.lgrStatus 16).flagRaise Reg.lgrStatus 17 135) := by
    have hclr := (d.within_grid g).trans (Dev.within_clrBit _ Reg.lgrStatus 16)
    have hregs := ((d.within_grid g).regsWithin (by decide)).trans (Dev.regsWithin_clrBit _ Reg.lgrStatus 16)
    generalize Dev.clrBit { d with grid := g } Reg.lgrStatus 16 = e at hclr hregs ⊢
    exact (hregs.trans (e.regsWithin_flagRaise _ 17 135)).sameFault (by decide) (hclr.trans (e.within_flagRaise _ 17 135)) (by decide)
  have hhere := hsame { d.grid with change := none, cycle := max d.grid.cycle (c.start + 2048) }
  generalize (Dev.clrBit { d with grid := { d.grid with change := none, cycle := max d.grid.cycle (c.start + 2048) } } Reg.lgrStatus 16).flagRaise
    Reg.lgrStatus 17 135 = e at hhere ⊢
  exact e.promptFault_spec (by decide) (hhere.halted.trans hrun) _ _ _ _

/-- The earlier fault of one core cycle stays recorded (R194, R243). -/
theorem Dev.faultCode_orphan_of_failing {c : Changeover} (hc : d.grid.change = some c) (hready : d.swapReady c = false)
    (hsame : sameCoreCycle (c.start + 2048) (x.due + 5) = true) (hrun : d.halted = false) : (d.orphan u x).faultCode = 0x50 := by
  obtain ⟨hcode, hhalt⟩ := d.changeoverFails_spec c hrun
  rw [d.orphan_of_failing u x hc hready hsame]
  generalize d.changeoverFails c = e at hcode hhalt
  rw [e.orphanEnds_eq]
  have hgone : e.SameFault { e with grid := e.tokenGone u x } := (e.within_grid _).sameFault (by decide) (by decide)
  have hnoted := hgone.trans (Dev.sameFault_orphanNoted _ u x)
  generalize Dev.orphanNoted { e with grid := e.tokenGone u x } u x = a at hnoted
  have hall := hnoted.trans ((a.regsWithin_flagRaise Reg.lgrStatus 18 134).sameFault (by decide) (a.within_flagRaise Reg.lgrStatus 18 134) (by decide))
  generalize a.flagRaise Reg.lgrStatus 18 134 = b at hall
  rw [Dev.asyncFault, b.promptFault_of_halted (hall.halted.trans hhalt)]
  exact hall.faultCode.trans hcode

end

section
variable {s : State} (hon : On s) {u : Fin 320}
include hon

theorem does_controlTokenExpiry {x : GridToken} (h : s.dev.lonely u.val true = some x) :
    Does (.controlTokenExpiry u) s (s.dev.expireControl u.val x) := by
  have hexec : exec (.controlTokenExpiry u) s = execControlTokenExpiry u s := rfl
  rw [Does, hexec, execControlTokenExpiry, onDev_on hon, h]

theorem runs_controlTokenExpiry_none (h : s.dev.lonely u.val true = none) : Runs (.controlTokenExpiry u) s (fun t => t = s) := by
  have hexec : exec (.controlTokenExpiry u) s = execControlTokenExpiry u s := rfl
  have hdoes : Does (.controlTokenExpiry u) s s.dev := by rw [Does, hexec, execControlTokenExpiry, onDev_on hon, h]
  exact runs_same hdoes

theorem does_orphanData {x : GridToken} (h : s.dev.lonely u.val false = some x) : Does (.orphanData u) s (s.dev.orphan u.val x) := by
  have hexec : exec (.orphanData u) s = execOrphanData u s := rfl
  rw [Does, hexec, execOrphanData, onDev_on hon, h]

theorem runs_orphanData_none (h : s.dev.lonely u.val false = none) : Runs (.orphanData u) s (fun t => t = s) := by
  have hexec : exec (.orphanData u) s = execOrphanData u s := rfl
  have hdoes : Does (.orphanData u) s s.dev := by rw [Does, hexec, execOrphanData, onDev_on hon, h]
  exact runs_same hdoes

theorem runs_controlTokenExpiry {x : GridToken} (h : s.dev.lonely u.val true = some x) : Runs (.controlTokenExpiry u) s (fun t =>
    t.dev.grid = s.dev.tokenGone u.val x ∧
      t.dev.reg Reg.lgrExpiredCount = BitVec.ofNat 32 (min ((s.dev.reg Reg.lgrExpiredCount).toNat + 1) 0xFFFFFFFF) ∧
      KeepsRegs [Reg.lgrExpiredCount] s t ∧ (s.dev.bit Reg.lgrCtrl 1 = true → Raised 130 s t) ∧ Keeps (.grid :: .regs :: raising) s t) := by
  have hdoes := does_controlTokenExpiry hon h
  rw [Dev.expireControl_eq] at hdoes
  have hwithin := (s.dev.within_grid (s.dev.tokenGone u.val x)).trans (Dev.within_count _ Reg.lgrExpiredCount)
  have hregs := ((s.dev.within_grid (s.dev.tokenGone u.val x)).regsWithin (by decide)).trans (Dev.regsWithin_count _ Reg.lgrExpiredCount)
  have hcount := Dev.reg_count_same { s.dev with grid := s.dev.tokenGone u.val x } Reg.lgrExpiredCount
  have hgrid : (Dev.count { s.dev with grid := s.dev.tokenGone u.val x } Reg.lgrExpiredCount).grid = s.dev.tokenGone u.val x :=
    (Dev.within_count _ Reg.lgrExpiredCount).part .grid (by decide)
  generalize Dev.count { s.dev with grid := s.dev.tokenGone u.val x } Reg.lgrExpiredCount = e at hdoes hwithin hregs hcount hgrid
  have hbit : e.bit Reg.lgrCtrl 1 = s.dev.bit Reg.lgrCtrl 1 := Dev.bit_congr (hregs _ (by decide)) 1
  rw [hbit] at hdoes
  cases hctrl : s.dev.bit Reg.lgrCtrl 1 with
  | false =>
    rw [hctrl, if_neg Bool.false_ne_true] at hdoes
    exact ⟨_, hdoes, hgrid, hcount, hregs, fun h => absurd h Bool.false_ne_true, (hwithin.mono (by decide)).keeps⟩
  | true =>
    rw [hctrl, if_pos rfl] at hdoes
    have hraise := e.within_raise 130
    have hraised := raised_raise (s := s) (d := e) (hwithin.part .arrivals (by decide)) 130
    have hreg (off : Nat) : (e.raise 130).reg off = e.reg off := e.reg_raise 130 off
    generalize e.raise 130 = f at hdoes hraise hraised hreg
    exact ⟨_, hdoes, (hraise.part .grid (by decide)).trans hgrid, (hreg _).trans hcount, fun off hoff => (hreg off).trans (hregs off hoff),
      fun _ => hraised, ((hwithin.trans hraise).mono (by decide)).keeps⟩

theorem does_orphanData_quiet {x : GridToken} (h : s.dev.lonely u.val false = some x) (hbit : s.dev.bit Reg.lgrStatus 18 = false)
    (hquiet : ∀ c, s.dev.grid.change = some c → s.dev.swapReady c = true ∨ sameCoreCycle (c.start + 2048) (x.due + 5) = false) :
    Does (.orphanData u) s (((({ s.dev with grid := s.dev.tokenGone u.val x } : Dev).setReg Reg.lgrOrphanInfo
          (BitVec.ofNat 32 (u.val + x.src * 2 ^ 9 + x.sslot * 2 ^ 18 + x.epoch * 2 ^ 22 + 2 ^ 31))).flagRaise Reg.lgrStatus 18 134).asyncFault 0x51) := by
  have hdoes := does_orphanData hon h
  have hbit' : Dev.bit { s.dev with grid := s.dev.tokenGone u.val x } Reg.lgrStatus 18 = false := hbit
  rwa [s.dev.orphan_of_quiet u.val x hquiet, Dev.orphanEnds_eq, Dev.orphanNoted, hbit', if_neg Bool.false_ne_true] at hdoes

theorem runs_orphanData_failing {x : GridToken} (h : s.dev.lonely u.val false = some x) {c : Changeover} (hc : s.dev.grid.change = some c)
    (hready : s.dev.swapReady c = false) (hsame : sameCoreCycle (c.start + 2048) (x.due + 5) = true) (hrun : s.dev.halted = false) :
    Runs (.orphanData u) s (fun t => t.dev.faultCode = 0x50) := by
  have hdoes := does_orphanData hon h
  have hcode := s.dev.faultCode_orphan_of_failing u.val x hc hready hsame hrun
  generalize s.dev.orphan u.val x = e at hdoes hcode
  exact ⟨_, hdoes, hcode⟩

end

/-! ### Edge units: what they take -/

section
variable (d : Dev) (u : Nat)

theorem Dev.edge_setEdge (k : Nat) (e : EdgeUnit) : (d.setEdge u e).edge k = if k = u then e else d.edge k := tabGet_tabSet ..

theorem Dev.within_setEdge (e : EdgeUnit) : d.Within [.grid] (d.setEdge u e) := d.within_grid _

theorem Dev.edge_congr {e : Dev} (h : e.grid = d.grid) (k : Nat) : e.edge k = d.edge k := by rw [Dev.edge, h, Dev.edge]

theorem Dev.edgeTakes_nil (h : (d.edge u).inbox = []) (op : Nat) : d.edgeTakes u op = false := by rw [Dev.edgeTakes, h]

theorem Dev.edgeTakes_cons {c w : Nat} {rest : List (Nat × Nat)} (h : (d.edge u).inbox = (c, w) :: rest) (op : Nat) :
    d.edgeTakes u op = (tokenKind c == 2 && (bits w 0 4 == op || decide (6 ≤ bits w 0 4))) := by rw [Dev.edgeTakes, h]

theorem Dev.edgeAccept_of_takes {c w op : Nat} {rest : List (Nat × Nat)} (h : (d.edge u).inbox = (c, w) :: rest) (hkind : tokenKind c = 2)
    (hop : bits w 0 4 = op) : d.edgeAccept u op =
      d.setEdge u { d.edge u with inbox := rest, reqs := (d.edge u).reqs ++ [edgeReq (bits c 12 9) w] } := by
  rw [Dev.edgeAccept, h]
  exact if_pos ⟨hkind, .inl hop⟩

theorem Dev.edgeAccept_of_other {op : Nat} (hno : d.edgeTakes u op = false) : d.edgeAccept u op = d := by
  rw [Dev.edgeAccept]
  cases h : (d.edge u).inbox with
  | nil => rfl
  | cons p rest =>
    rw [d.edgeTakes_cons u h] at hno
    refine if_neg fun hc => ?_
    obtain ⟨hkind, hop⟩ := hc
    rw [hkind, beq_self_eq_true, Bool.true_and] at hno
    rcases hop with hop | hop
    · rw [hop, beq_self_eq_true] at hno
      exact Bool.false_ne_true hno.symm
    · rw [decide_eq_true hop, Bool.or_true] at hno
      exact Bool.false_ne_true hno.symm

end

/-- The rows of requests at an edge unit, with the OP that each accepts and what its reads find (Table 7-7). -/
def edgeRows (u : Fin 320) (fs : List Found) : List (Instr × Nat × List Found) :=
  [(.tsRead u fs, 0, fs), (.tsWrite u, 1, []), (.hbmRead u fs, 2, fs), (.hbmWrite u, 3, []), (.cstRead u, 4, []), (.cstWrite u, 5, [])]

section
variable {s : State} (hon : On s) {u : Fin 320}
include hon

/-- Each row accepts the request at the front where its OP is the row's (R232). -/
theorem does_edgeRow {fs : List Found} {r : Instr × Nat × List Found} (hr : r ∈ edgeRows u fs) : Does r.1 s
    (if s.dev.edgeTakes u.val r.2.1 then (s.dev.meets s.ident r.2.2).edgeAccept u.val r.2.1 else s.dev) := by
  have hsame (op : Nat) : s.dev.edgeAccept u.val op = if s.dev.edgeTakes u.val op then (s.dev.meets s.ident []).edgeAccept u.val op else s.dev := by
    cases h : s.dev.edgeTakes u.val op with
    | false => exact s.dev.edgeAccept_of_other u.val h
    | true => rfl
  simp only [edgeRows, List.mem_cons, List.not_mem_nil, or_false] at hr
  rcases hr with rfl | rfl | rfl | rfl | rfl | rfl
  · exact does_onDev hon (f := fun i d => if d.edgeTakes u.val 0 then (d.meets i fs).edgeAccept u.val 0 else d) rfl rfl
  · exact does_onDev hon (f := fun _ d => d.edgeAccept u.val 1) rfl (hsame 1)
  · exact does_onDev hon (f := fun i d => if d.edgeTakes u.val 2 then (d.meets i fs).edgeAccept u.val 2 else d) rfl rfl
  · exact does_onDev hon (f := fun _ d => d.edgeAccept u.val 3) rfl (hsame 3)
  · exact does_onDev hon (f := fun _ d => d.edgeAccept u.val 4) rfl (hsame 4)
  · exact does_onDev hon (f := fun _ d => d.edgeAccept u.val 5) rfl (hsame 5)

theorem runs_edgeRow_other {fs : List Found} {r : Instr × Nat × List Found} (hr : r ∈ edgeRows u fs)
    (hno : s.dev.edgeTakes u.val r.2.1 = false) : Runs r.1 s (fun t => t = s) := by
  have hdoes := does_edgeRow hon hr
  rw [hno, if_neg Bool.false_ne_true] at hdoes
  exact runs_same hdoes

theorem runs_edgeRow_takes {fs : List Found} {r : Instr × Nat × List Found} (hr : r ∈ edgeRows u fs) {c w : Nat} {rest : List (Nat × Nat)}
    (hin : (s.dev.edge u.val).inbox = (c, w) :: rest) (hkind : tokenKind c = 2) (hop : bits w 0 4 = r.2.1) : Runs r.1 s (fun t =>
      t.dev.edge u.val = { s.dev.edge u.val with inbox := rest, reqs := (s.dev.edge u.val).reqs ++ [edgeReq (bits c 12 9) w] } ∧
        (∀ k, k ≠ u.val → t.dev.edge k = s.dev.edge k) ∧ t.dev.grid = { s.dev.grid with edges := t.dev.grid.edges } ∧
        Keeps [.grid] { s with dev := s.dev.meets s.ident r.2.2 } t) := by
  have hdoes := does_edgeRow hon hr
  rw [s.dev.edgeTakes_cons u.val hin, hkind, hop, beq_self_eq_true, beq_self_eq_true, Bool.true_or, Bool.true_and, if_pos rfl] at hdoes
  have hgrid : (s.dev.meets s.ident r.2.2).grid = s.dev.grid := (s.dev.within_meets s.ident r.2.2).part .grid (by decide)
  generalize s.dev.meets s.ident r.2.2 = d at hdoes hgrid ⊢
  have hedge (k : Nat) := Dev.edge_congr s.dev hgrid k
  rw [d.edgeAccept_of_takes u.val ((congrArg EdgeUnit.inbox (hedge _)).trans hin) hkind hop, hedge] at hdoes
  refine ⟨_, hdoes, (d.edge_setEdge ..).trans (if_pos rfl), fun k hk => ((d.edge_setEdge ..).trans (if_neg hk)).trans (hedge k), ?_,
    d.within_setEdge u.val _ s⟩
  rw [← hgrid]
  rfl

theorem does_wdata : Does (.wdata u) s (s.dev.edgeData u.val) := does_onDev hon (f := fun _ d => d.edgeData u.val) rfl rfl

theorem runs_wdata_taken {c w : Nat} {rest : List (Nat × Nat)} (hin : (s.dev.edge u.val).inbox = (c, w) :: rest) (hkind : tokenKind c = 4)
    {rs : List EdgeReq} (htake : takeData (bits c 12 9) (leBytes 16 w) (s.dev.edge u.val).reqs = some rs) : Runs (.wdata u) s (fun t =>
      t.dev.edge u.val = { s.dev.edge u.val with inbox := rest, reqs := rs } ∧ (∀ k, k ≠ u.val → t.dev.edge k = s.dev.edge k) ∧
        Keeps [.grid] s t) := by
  have hdoes := does_wdata hon (u := u)
  rw [Dev.edgeData, hin] at hdoes
  dsimp only at hdoes
  rw [if_neg (not_not.mpr hkind), htake] at hdoes
  exact ⟨_, hdoes, (Dev.edge_setEdge ..).trans (if_pos rfl), fun k hk => (Dev.edge_setEdge ..).trans (if_neg hk), (s.dev.within_setEdge _ _).keeps⟩

/-- Write data without an open write (R233). -/
theorem runs_wdata_stray {c w : Nat} {rest : List (Nat × Nat)} (hin : (s.dev.edge u.val).inbox = (c, w) :: rest) (hkind : tokenKind c = 4)
    (htake : takeData (bits c 12 9) (leBytes 16 w) (s.dev.edge u.val).reqs = none) : Runs (.wdata u) s (fun t =>
      t.dev.edge u.val = { s.dev.edge u.val with inbox := rest } ∧
      t.dev.reg Reg.lgrMisrouteCount = BitVec.ofNat 32 (min ((s.dev.reg Reg.lgrMisrouteCount).toNat + 1) 0xFFFFFFFF) ∧
      Raised 131 s t ∧ Keeps (.grid :: .regs :: raising) s t) := by
  have hdoes := does_wdata hon (u := u)
  rw [Dev.edgeData, hin] at hdoes
  dsimp only at hdoes
  rw [if_neg (not_not.mpr hkind), htake] at hdoes
  have hset := s.dev.within_setEdge u.val { s.dev.edge u.val with inbox := rest }
  have hedge := s.dev.edge_setEdge u.val u.val { s.dev.edge u.val with inbox := rest }
  rw [if_pos rfl] at hedge
  dsimp only at hdoes
  generalize s.dev.setEdge u.val { s.dev.edge u.val with inbox := rest } = d at hdoes hset hedge
  rw [Dev.gridMisroute] at hdoes
  have hcount := d.reg_count_same Reg.lgrMisrouteCount
  have hwithin := hset.trans (d.within_count Reg.lgrMisrouteCount)
  have hgrid := (d.within_count Reg.lgrMisrouteCount).part .grid (by decide)
  generalize d.count Reg.lgrMisrouteCount = e at hdoes hcount hwithin hgrid
  have hraise := e.within_raise 131
  refine ⟨_, hdoes, ?_, ?_, raised_raise (hwithin.part .arrivals (by decide)) 131, ((hwithin.trans hraise).mono (by decide)).keeps⟩
  · exact (Dev.edge_congr d ((hraise.part .grid (by decide)).trans hgrid) _).trans hedge
  · rw [← Dev.reg_congr (hset.part .regs (by decide)) Reg.lgrMisrouteCount, ← hcount]
    exact e.reg_raise 131 _

end

/-! ### Edge units: what they answer -/

section
variable (d : Dev) (i : Ident) (u : Nat) {r : EdgeReq} {rs : List EdgeReq}

/-- The edge unit with its front request taken out. -/
def Dev.requestTaken (rs : List EdgeReq) : Dev := d.setEdge u { d.edge u with reqs := rs }

theorem Dev.edgeFinish_nil (h : (d.edge u).reqs = []) : d.edgeFinish i u = d := by rw [Dev.edgeFinish, h]

/-- A write that waits for its data is not answered (R233). -/
theorem Dev.edgeFinish_of_open (h : (d.edge u).reqs = r :: rs) (hwrite : r.isWrite = true) (hopen : r.data.length < 16 * r.words) :
    d.edgeFinish i u = d := by
  rw [Dev.edgeFinish, h]
  exact if_pos (by rw [hwrite, decide_eq_true hopen]; rfl)

theorem not_waiting (h : r.isWrite = false ∨ 16 * r.words ≤ r.data.length) : ¬(r.isWrite && decide (r.data.length < 16 * r.words)) = true := by
  rcases h with h | h
  · rw [h]
    exact Bool.false_ne_true
  · rw [decide_eq_false (Nat.not_lt.mpr h), Bool.and_false]
    exact Bool.false_ne_true

/-- A request with a status is answered by it (R234). -/
theorem Dev.edgeFinish_of_refused (h : (d.edge u).reqs = r :: rs) (hwhole : r.isWrite = false ∨ 16 * r.words ≤ r.data.length)
    (hstatus : (d.requestTaken u rs).edgeStatus i u r ≠ 0) :
    d.edgeFinish i u = (d.requestTaken u rs).answer u r true [(d.requestTaken u rs).edgeStatus i u r] := by
  rw [Dev.edgeFinish, h]
  dsimp only
  rw [if_neg (not_waiting hwhole)]
  exact if_pos hstatus

theorem Dev.edgeFinish_of_write (h : (d.edge u).reqs = r :: rs) (hwrite : r.isWrite = true) (hwhole : 16 * r.words ≤ r.data.length)
    (hstatus : (d.requestTaken u rs).edgeStatus i u r = 0) : d.edgeFinish i u =
      if ((d.requestTaken u rs).serveWrite r).1 then ((d.requestTaken u rs).serveWrite r).2.answer u r true [3]
      else ((d.requestTaken u rs).serveWrite r).2.answer u r false [0] := by
  rw [Dev.edgeFinish, h]
  dsimp only
  rw [if_neg (not_waiting (.inr hwhole))]
  refine (if_neg (not_not.mpr hstatus)).trans ?_
  rw [if_pos hwrite]
  rfl

theorem Dev.edgeFinish_of_written (h : (d.edge u).reqs = r :: rs) (hwrite : r.isWrite = true) (hwhole : 16 * r.words ≤ r.data.length)
    (hstatus : (d.requestTaken u rs).edgeStatus i u r = 0) (hok : ((d.requestTaken u rs).serveWrite r).1 = false) :
    d.edgeFinish i u = ((d.requestTaken u rs).serveWrite r).2.answer u r false [0] := by
  rw [d.edgeFinish_of_write i u h hwrite hwhole hstatus, if_neg (ne_true_of_eq_false hok)]

theorem Dev.edgeFinish_of_cut (h : (d.edge u).reqs = r :: rs) (hwrite : r.isWrite = true) (hwhole : 16 * r.words ≤ r.data.length)
    (hstatus : (d.requestTaken u rs).edgeStatus i u r = 0) (hcut : ((d.requestTaken u rs).serveWrite r).1 = true) :
    d.edgeFinish i u = ((d.requestTaken u rs).serveWrite r).2.answer u r true [3] := by
  rw [d.edgeFinish_of_write i u h hwrite hwhole hstatus, if_pos hcut]

theorem Dev.edgeFinish_of_read {ws : List Nat} (h : (d.edge u).reqs = r :: rs) (hread : r.isWrite = false)
    (hstatus : (d.requestTaken u rs).edgeStatus i u r = 0) (hserve : (d.requestTaken u rs).serveRead r = (some ws, d.requestTaken u rs)) :
    d.edgeFinish i u = (d.requestTaken u rs).answer u r false ws := by
  rw [Dev.edgeFinish, h]
  dsimp only
  rw [if_neg (not_waiting (.inl hread))]
  refine (if_neg (not_not.mpr hstatus)).trans ?_
  rw [hread, if_neg Bool.false_ne_true]
  change (match (d.requestTaken u rs).serveRead r with
    | (some ws, d) => d.answer u r false ws
    | (none, d) => d.answer u r true [3]) = _
  rw [hserve]

/-- A read of memory whose bytes hold no error (R234). -/
theorem Dev.serveRead_of_clean (hop : r.op ≠ 4) (hclean : d.errorsIn r.place.1 r.place.2 (16 * r.words) = []) :
    d.serveRead r = (some ((List.range r.words).map (fun k => leNat (memBytes (d.mems.get r.place.1) (r.place.2 + 16 * k) 16))), d) := by
  rw [Dev.serveRead, if_neg hop]
  dsimp only
  rw [Dev.readErrors_none hclean]
  rfl

/-- A write that covers a unit with an error in part writes nothing (R234). -/
theorem Dev.get_serveWrite_of_cut (h : (d.serveWrite r).1 = true) (c : MemCode) : (d.serveWrite r).2.mems.get c = d.mems.get c := by
  rw [Dev.serveWrite] at h ⊢
  by_cases hop : r.op = 5
  · rw [if_pos hop] at h
    exact absurd h Bool.false_ne_true
  · rw [if_neg hop] at h ⊢
    dsimp only at h ⊢
    split at h
    · exact absurd h Bool.false_ne_true
    case isFalse hpart =>
      rw [if_neg hpart]
      have hwithin := Dev.within_foldl (fun (d : Dev) (e : Nat) => d.within_uncorrectable r.place.1 (e * memUnit r.place.1))
        (d.errorsCut r.place.1 r.place.2 (16 * r.words)) d
      exact congrArg (fun m : Mems => m.get c) (hwithin.part .mems (by decide))

end

section
variable {s : State} (hon : On s) {u : Fin 320}
include hon

theorem does_edgeReply : Does (.edgeReply u) s (s.dev.edgeFinish s.ident u.val) := does_onDev hon (f := fun i d => d.edgeFinish i u.val) rfl rfl

theorem does_edgeReply_read {r : EdgeReq} {rs : List EdgeReq} (h : (s.dev.edge u.val).reqs = r :: rs) (hop : r.op = 0 ∨ r.op = 2)
    (hstatus : (s.dev.requestTaken u.val rs).edgeStatus s.ident u.val r = 0)
    (hclean : s.dev.errorsIn r.place.1 r.place.2 (16 * r.words) = []) : Does (.edgeReply u) s ((s.dev.requestTaken u.val rs).answer u.val r false
      ((List.range r.words).map (fun k => leNat (memBytes (s.dev.mems.get r.place.1) (r.place.2 + 16 * k) 16)))) := by
  have hread : r.isWrite = false := by
    rcases hop with h | h <;> rw [EdgeReq.isWrite, h] <;> rfl
  have hserve := Dev.serveRead_of_clean (s.dev.requestTaken u.val rs) (r := r) (by omega) hclean
  have hdoes := does_edgeReply hon (u := u)
  rwa [s.dev.edgeFinish_of_read s.ident u.val h hread hstatus hserve] at hdoes

end

/-! ### The settled statement -/

/-- Settles O59. -/
theorem gridNetwork : Obligations.GridNetwork := by
  unfold Obligations.GridNetwork
  intro s hon
  refine ⟨fun hnone => runs_tokenArrival_none hon hnone, fun x hx => ⟨earliest_least hx, fun hepoch hctrl => ?_, fun hepoch hctrl => ?_,
    fun hepoch hnone => runs_tokenArrival_alone hon hx hepoch hnone, fun h hepoch hsome => ?_⟩,
    fun u => ⟨fun hnone => runs_controlTokenExpiry_none hon hnone, fun hnone => runs_orphanData_none hon hnone,
      fun x hx => runs_controlTokenExpiry hon hx, fun x hx hbit hquiet => does_orphanData_quiet hon hx hbit hquiet,
      fun x c hx hc hready hsame hrun => runs_orphanData_failing hon hx hc hready hsame hrun,
      fun fs r hr => ⟨fun hnil => runs_edgeRow_other hon hr (s.dev.edgeTakes_nil u.val hnil _), fun c w rest hin => ⟨fun hkind hop =>
        runs_edgeRow_takes hon hr hin hkind hop, fun hother => runs_edgeRow_other hon hr ?_⟩⟩,
      fun c w rest hin hkind => ⟨fun rs htake => runs_wdata_taken hon hin hkind htake, fun htake => runs_wdata_stray hon hin hkind htake⟩,
      fun hnil => ?_, fun r rs hreqs => ⟨fun hwrite hopen => ?_, fun hwhole hstatus => ?_,
        fun hop hstatus hclean => does_edgeReply_read hon hreqs hop hstatus hclean, fun hwrite hwhole hstatus => ⟨fun hok => ?_, fun hcut => ⟨?_, ?_⟩⟩⟩⟩⟩
  · obtain ⟨t, hstep, hgrid, hcount, hregs, hquiet, -⟩ := runs_tokenArrival_stale hon hx hepoch
    exact ⟨t, hstep, hgrid, hcount, hregs, hquiet hctrl⟩
  · obtain ⟨t, hstep, hgrid, hcount, hregs, -, hloud⟩ := runs_tokenArrival_stale hon hx hepoch
    exact ⟨t, hstep, hgrid, (hloud hctrl).1, hcount, hregs, (hloud hctrl).2⟩
  · have hdoes := does_tokenArrival hon hx
    rwa [s.dev.arrive_of_partner x hepoch hsome] at hdoes
  · rw [s.dev.edgeTakes_cons u.val hin]
    rcases hother with hkind | ⟨hop, hlow⟩
    · rw [beq_eq_false_iff_ne.mpr hkind, Bool.false_and]
    · rw [beq_eq_false_iff_ne.mpr hop, decide_eq_false (Nat.not_le.mpr hlow), Bool.or_self, Bool.and_false]
  all_goals have hdoes := does_edgeReply hon (u := u)
  · rw [s.dev.edgeFinish_nil s.ident u.val hnil] at hdoes
    exact runs_same hdoes
  · rw [s.dev.edgeFinish_of_open s.ident u.val hreqs hwrite hopen] at hdoes
    exact runs_same hdoes
  · rwa [s.dev.edgeFinish_of_refused s.ident u.val hreqs hwhole hstatus] at hdoes
  · rwa [s.dev.edgeFinish_of_written s.ident u.val hreqs hwrite hwhole hstatus hok] at hdoes
  · rwa [s.dev.edgeFinish_of_cut s.ident u.val hreqs hwrite hwhole hstatus hcut] at hdoes
  · exact fun c => (Dev.get_serveWrite_of_cut _ hcut c).trans rfl

end Sys2Proof.Machine
end

section
/-! What the Cast Table's writes leave where no memory holds an error: writes of HBM, the journal and the log, blocks and frames
(R273, R295, R301, R462). -/
namespace Sys2Proof.Machine

/-! ### Writes of HBM -/

/-- A write has left the Cast Table's state, the memories without errors, every register but the log's backlog, and every source but that
of a full log queue (R465). -/
structure Dev.Wrote (d e : Dev) : Prop where
  cast : e.cast = d.cast
  errors : e.mems.errors = []
  regs : d.RegsWithin [Reg.usyLogBacklog] e
  counts : ∀ n, n ≠ 75 → e.arrivalCount n = d.arrivalCount n

/-- From memories without errors a write leaves what `Wrote` says. -/
def Dev.Writes (d e : Dev) : Prop := d.mems.errors = [] → d.Wrote e

section
variable {d e f : Dev}

theorem Dev.writes_refl (d : Dev) : d.Writes d := fun h => ⟨rfl, h, d.regsWithin_refl.mono (by decide), fun _ _ => rfl⟩

theorem Dev.Writes.trans (h : d.Writes e) (h' : e.Writes f) : d.Writes f := fun hd =>
  have he := h hd
  have hf := h' he.errors
  ⟨hf.cast.trans he.cast, hf.errors, (he.regs.trans hf.regs).mono (by decide), fun n hn => (hf.counts n hn).trans (he.counts n hn)⟩

theorem Dev.Writes.ite {c : Prop} [Decidable c] (h : d.Writes e) (h' : d.Writes f) : d.Writes (if c then e else f) := by
  split
  · exact h
  · exact h'

theorem Dev.arrivalCount_congr (h : e.arrivals = d.arrivals) (n : Nat) : e.arrivalCount n = d.arrivalCount n := by
  rw [Dev.arrivalCount, h, Dev.arrivalCount]

/-- What changes neither the Cast Table nor the errors, registers or sources. -/
theorem Dev.Within.writes {ps : List Part} (h : d.Within ps e) (hcast : Part.cast ∉ .lines :: ps) (hregs : Part.regs ∉ .lines :: ps)
    (harr : Part.arrivals ∉ .lines :: ps) (herr : d.mems.errors = [] → e.mems.errors = []) : d.Writes e := fun hd =>
  ⟨h.part .cast hcast, herr hd, (h.regsWithin hregs).mono (by decide), fun n _ => Dev.arrivalCount_congr (h.part .arrivals harr) n⟩

end

theorem Dev.writes_foldl {β : Type} {g : Dev → β → Dev} (hg : ∀ (d : Dev) x, d.Writes (g d x)) (xs : List β) (d : Dev) :
    d.Writes (xs.foldl g d) := by
  induction xs generalizing d with
  | nil => exact d.writes_refl
  | cons x xs ih => exact (hg d x).trans (ih _)

section
variable (d : Dev)

theorem Dev.writes_mems {m : Mems} (h : m.errors = d.mems.errors) : d.Writes { d with mems := m } :=
  (d.within_mems m).writes (by decide) (by decide) (by decide) fun hd => h.trans hd

/-- The log queue changed, its backlog shown, and what may be sent is sent (R465). -/
theorem Dev.writes_logQueued (q : List (List Byte)) (v : W32) :
    d.Writes ((Dev.setReg { d with usy := { d.usy with logq := q } } Reg.usyLogBacklog v).pumpAll 16) := by
  have hset := (d.within_usy { d.usy with logq := q }).trans (Dev.within_setReg _ Reg.usyLogBacklog v)
  have hregs := ((d.within_usy { d.usy with logq := q }).regsWithin (by decide)).trans (Dev.regsWithin_setReg _ Reg.usyLogBacklog v)
  generalize Dev.setReg { d with usy := { d.usy with logq := q } } Reg.usyLogBacklog v = e at hset hregs ⊢
  have hall := hset.trans (e.within_pumpAll 16)
  exact fun hd => ⟨hall.part .cast (by decide), (congrArg Mems.errors (hall.part .mems (by decide))).trans hd,
    (hregs.trans (e.sends_pumpAll 16).regs).mono (by decide), fun n _ => Dev.arrivalCount_congr (hall.part .arrivals (by decide)) n⟩

theorem Dev.writes_raise75 : d.Writes (d.raise 75) := by
  have hraise := d.within_raise 75
  exact fun hd => ⟨hraise.part .cast (by decide), (congrArg Mems.errors (hraise.part .mems (by decide))).trans hd,
    (d.regsWithin_raise 75).mono (by decide), fun n hn => by rw [Dev.arrivalCount_raise, if_neg hn]⟩

theorem Dev.writes_shipRecord (r : List Byte) : d.Writes (d.shipRecord r) :=
  Dev.Writes.ite ((d.writes_logQueued _ _).trans (Dev.writes_raise75 _)) (d.writes_logQueued _ _)

theorem Dev.writes_shipWrite (a n : Nat) : d.Writes (d.shipWrite a n) := by
  have hsteps (cs : List (List Byte)) (acc : Dev × Nat) : acc.1.Writes (cs.foldl (fun (acc : Dev × Nat) (c : List Byte) =>
      (acc.1.shipRecord (logRecord 1 0 (acc.1.reg Reg.stgStepSeq).toNat acc.2 c), acc.2 + c.length)) acc).1 := by
    induction cs generalizing acc with
    | nil => exact acc.1.writes_refl
    | cons c cs ih =>
      rw [List.foldl_cons]
      exact (acc.1.writes_shipRecord _).trans (ih (acc.1.shipRecord _, acc.2 + c.length))
  exact Dev.Writes.ite (hsteps _ (d, _)) d.writes_refl

theorem Dev.errors_put (m : Mems) (c : MemCode) (x : Memory) : (m.put c x).errors = m.errors := by cases c <;> rfl

/-- A write of HBM without errors meets none. -/
theorem Dev.hbmWrite_of_clean (a : Nat) (bs : List Byte) (h : d.mems.errors = []) : (d.hbmWrite a bs).1 = false ∧ d.Wrote (d.hbmWrite a bs).2 := by
  rw [Dev.hbmWrite, Dev.store_of_clean .hbm a bs h]
  exact ⟨rfl, ((d.writes_mems (Dev.errors_put _ _ _)).trans (Dev.writes_shipWrite _ a _)) h⟩

theorem Dev.writes_castWrite (a : Nat) (bs : List Byte) : d.Writes (d.castWrite a bs) := by
  intro hd
  obtain ⟨hno, hwrote⟩ := d.hbmWrite_of_clean a bs hd
  rw [Dev.castWrite]
  split
  · exact d.writes_mems (m := { d.mems with hbm := memPuts d.mems.hbm a bs }) rfl hd
  · dsimp only
    rw [hno, if_neg Bool.false_ne_true]
    exact hwrote

/-! ### The journal and the log -/

theorem Dev.writes_setUndoCount (n : Nat) : d.Writes (d.setUndoCount n) := d.writes_castWrite _ _

theorem Dev.writes_addUndo (u : Undo) : d.Writes (d.addUndo u) :=
  Dev.Writes.ite d.writes_refl ((d.writes_castWrite _ _).trans (Dev.writes_setUndoCount _ _))

theorem Dev.writes_castJournal (a : Nat) (bs : List Byte) : d.Writes (d.castJournal a bs) :=
  (d.writes_addUndo _).trans (Dev.writes_castWrite _ a bs)

theorem Dev.writes_setPt (s j v : Nat) : d.Writes (d.setPt s j v) := d.writes_castJournal _ _

theorem Dev.writes_addLog (b : List Byte) : d.Writes (d.addLog b) :=
  Dev.Writes.ite d.writes_refl ((d.writes_castWrite _ _).trans (Dev.writes_castWrite _ _ _))

theorem Dev.writes_setLog (es : List LogEntry) (ts : List CastEffect) : d.Writes (d.setLog es ts) :=
  (d.writes_castWrite _ _).trans (Dev.writes_castWrite _ _ _)

theorem Dev.writes_dropUndos (n : Nat) : d.Writes (d.dropUndos n) :=
  (Dev.writes_foldl (fun (d : Dev) (_ : Nat) => d.writes_castWrite _ _) _ d).trans (Dev.writes_setUndoCount _ _)

theorem Dev.writes_renumber (old new : Nat) (seqs : List Nat) : d.Writes (d.renumber old new seqs) :=
  Dev.writes_foldl (fun (d : Dev) (_ : Nat) => d.writes_castWrite _ _) seqs d

/-- An effect noted while no formation stands ahead joins the log (R301). -/
theorem Dev.writes_note (x : CastEffect) (h : d.cast.ahead = none) : d.Writes (d.note x) := by
  rw [Dev.note, h]
  exact d.writes_addLog _

end

/-! ### Blocks and frames -/

/-- Blocks and frames have changed hands: no error was met, and what a spill or return reads of the streams besides them stands. -/
structure Dev.Shifted (d e : Dev) : Prop where
  hurt : e.cast.hurt = d.cast.hurt
  ahead : e.cast.ahead = d.cast.ahead
  returns : e.cast.returns = d.cast.returns
  saved : ∀ s, (e.entry s).saved = (d.entry s).saved
  errors : e.mems.errors = []
  regs : d.RegsWithin [Reg.usyLogBacklog] e
  counts : ∀ n, n ≠ 75 → e.arrivalCount n = d.arrivalCount n

/-- From memories without errors blocks and frames change hands as `Shifted` says. -/
def Dev.Shifts (d e : Dev) : Prop := d.mems.errors = [] → d.Shifted e

section
variable {d e f : Dev}

theorem Dev.shifts_refl (d : Dev) : d.Shifts d := fun h => ⟨rfl, rfl, rfl, fun _ => rfl, h, d.regsWithin_refl.mono (by decide), fun _ _ => rfl⟩

theorem Dev.Shifts.trans (h : d.Shifts e) (h' : e.Shifts f) : d.Shifts f := fun hd =>
  have he := h hd
  have hf := h' he.errors
  ⟨hf.hurt.trans he.hurt, hf.ahead.trans he.ahead, hf.returns.trans he.returns, fun s => (hf.saved s).trans (he.saved s), hf.errors,
    (he.regs.trans hf.regs).mono (by decide), fun n hn => (hf.counts n hn).trans (he.counts n hn)⟩

theorem Dev.Shifts.ite {c : Prop} [Decidable c] (h : d.Shifts e) (h' : d.Shifts f) : d.Shifts (if c then e else f) := by
  split
  · exact h
  · exact h'

theorem Dev.Writes.shifts (h : d.Writes e) : d.Shifts e := fun hd =>
  have he := h hd
  ⟨congrArg Cast.hurt he.cast, congrArg Cast.ahead he.cast, congrArg Cast.returns he.cast,
    fun s => by rw [Dev.entry, he.cast, Dev.entry], he.errors, he.regs, he.counts⟩

/-- A change of the Cast Table alone that keeps the entries. -/
theorem Dev.shifts_cast (d : Dev) {c : Cast} (hhurt : c.hurt = d.cast.hurt) (hahead : c.ahead = d.cast.ahead)
    (hreturns : c.returns = d.cast.returns) (hentries : c.entries = d.cast.entries) : d.Shifts { d with cast := c } := fun hd =>
  ⟨hhurt, hahead, hreturns, fun s => congrArg (fun t => (tabGet Entry.zero t s).saved) hentries, hd,
    ((d.within_cast c).regsWithin (by decide)).mono (by decide), fun _ _ => rfl⟩

end

theorem Dev.shifts_foldl {β : Type} {g : Dev → β → Dev} (hg : ∀ (d : Dev) x, d.Shifts (g d x)) (xs : List β) (d : Dev) :
    d.Shifts (xs.foldl g d) := by
  induction xs generalizing d with
  | nil => exact d.shifts_refl
  | cons x xs ih => exact (hg d x).trans (ih _)

section
variable (d : Dev) (s : Nat)

theorem Dev.entry_setEntry (k : Nat) (e : Entry) : (d.setEntry s e).entry k = if k = s then e else d.entry k := tabGet_tabSet ..

theorem Dev.shifts_setEntry {e : Entry} (h : e.saved = (d.entry s).saved) : d.Shifts (d.setEntry s e) := fun hd =>
  ⟨rfl, rfl, rfl, fun k => by
      rw [Dev.entry_setEntry]
      split
      case isTrue hk => rw [h, hk]
      case isFalse => rfl,
    hd, ((d.within_cast _).regsWithin (by decide)).mono (by decide), fun _ _ => rfl⟩

theorem Dev.shifts_setFrame (f : Nat) (used : Bool) : d.Shifts (d.setFrame f used) :=
  (d.writes_addUndo _).shifts.trans (Dev.shifts_cast _ rfl rfl rfl rfl)

theorem Dev.shifts_setPlace (k : Option Nat) (v : Nat) : d.Shifts (d.setPlace s k v) := by
  cases k with
  | none => exact d.shifts_setEntry s rfl
  | some j => exact (d.writes_setPt s j v).shifts

theorem Dev.shifts_release (b : Nat) : d.Shifts (d.release b) := by
  have hwrite := (d.writes_castJournal (d.refAddr b) (leBytes 2 (d.refCount b - 1))).shifts
  have hdefer (e : Dev) (h : d.Shifts e) : d.Shifts { e with cast := { e.cast with deferred := e.cast.deferred ++ [b] } } :=
    h.trans (e.shifts_cast rfl rfl rfl rfl)
  exact d.shifts_refl.ite ((hdefer _ hwrite).ite hwrite)

/-- Block `b` noted as taken (R273, R302). -/
def Dev.blockNoted (b : Nat) : Dev :=
  { d with cast := { d.cast with
    allocated := d.cast.allocated ++ [b], given := d.cast.given.map (fun (g : Given) => { g with blocks := g.blocks.drop 1 }) } }

theorem Dev.alloc_eq : d.alloc = d.nextBlock.map fun b => (b, (d.blockNoted b).refer b) := by
  rw [Dev.alloc]
  cases d.nextBlock <;> rfl

theorem Dev.shifts_blockTaken (b : Nat) : d.Shifts ((d.blockNoted b).refer b) := by
  have hnoted : d.Shifts (d.blockNoted b) := d.shifts_cast rfl rfl rfl rfl
  generalize d.blockNoted b = e at hnoted ⊢
  exact hnoted.trans (e.writes_castJournal _ _).shifts

theorem Dev.shifts_hostWrite (a : Nat) (bs : List Byte) : d.Shifts (d.hostWrite a bs) :=
  (d.writes_mems (m := { d.mems with host := memPuts d.mems.host a bs }) rfl).shifts

theorem Dev.shifts_spillBlock (k : Option Nat) : d.Shifts (d.spillBlock s k) := by
  rw [Dev.spillBlock]
  cases d.freeFrame with
  | none => exact d.shifts_refl
  | some f =>
    exact (((d.shifts_hostWrite _ _).trans (Dev.shifts_setFrame _ f true)).trans (Dev.shifts_setPlace _ s k _)).trans (Dev.shifts_release _ _)

theorem Dev.shifts_returnBlock (k : Option Nat) : d.Shifts (d.returnBlock s k) := by
  rw [Dev.returnBlock]
  rw [d.alloc_eq]
  cases d.nextBlock with
  | none => exact d.shifts_refl
  | some b =>
    exact (((d.shifts_blockTaken b).trans (Dev.writes_castWrite _ _ _).shifts).trans (Dev.shifts_setPlace _ s k b)).trans
      (Dev.shifts_setFrame _ _ false)

/-- The blocks of a stream that is spilled are in the Wings (R296). -/
def Dev.blocksSpilled : Dev := (d.spillList s).foldl (fun d k => d.spillBlock s k) d

/-- The blocks of a stream that returns are back (R297). -/
def Dev.blocksReturned : Dev := (d.returnList s).foldl (fun d k => d.returnBlock s k) d

theorem Dev.shifts_blocksSpilled : d.Shifts (d.blocksSpilled s) := Dev.shifts_foldl (fun d k => d.shifts_spillBlock s k) _ d

theorem Dev.shifts_blocksReturned : d.Shifts (d.blocksReturned s) := Dev.shifts_foldl (fun d k => d.shifts_returnBlock s k) _ d

theorem Dev.spillStream_eq : d.spillStream s = (d.blocksSpilled s).setEntry s { (d.blocksSpilled s).entry s with state := .spilled } := rfl

theorem Dev.returnStream_eq : d.returnStream s = (d.blocksReturned s).setEntry s
    { (d.blocksReturned s).entry s with state := ((d.blocksReturned s).entry s).saved, saved := .free } := rfl

end

end Sys2Proof.Machine
end

section
/-! Formation, checkpoints, spills and returns (R275, R277, R296 to R298, R300): O60. -/
namespace Sys2Proof.Machine

/-! ### Acts that meet no error -/

/-- What an act of the Cast Table reads holds no error and names no block out of range (R313, Table 10-5). -/
structure Dev.CastClean (d : Dev) (ts : List Touch) (more : List Span) : Prop where
  hurt : d.cast.hurt = false
  spans : ∀ x ∈ d.castSpans ts ++ more, d.errorsIn x.1 x.2.1 x.2.2 = []
  touch : ∀ x ∈ ts, d.touchBad x = false

section
variable (d : Dev)

theorem Dev.castGuard_of_clean {ts : List Touch} {more : List Span} (h : d.CastClean ts more) (i : Ident) (act : Dev → Dev) :
    d.castGuard i ts more act = (act d).stopIfHurt i := by
  have hspans : ¬(d.castSpans ts ++ more).any (fun x => !(d.errorsIn x.1 x.2.1 x.2.2).isEmpty) = true := by
    rw [List.any_eq_true]
    rintro ⟨x, hx, hbad⟩
    rw [h.spans x hx] at hbad
    exact Bool.false_ne_true hbad
  have htouch : ¬ts.any d.touchBad = true := by
    rw [List.any_eq_true]
    rintro ⟨x, hx, hbad⟩
    rw [h.touch x hx] at hbad
    exact Bool.false_ne_true hbad
  rw [Dev.castGuard]
  exact (if_neg hspans).trans (if_neg htouch)

theorem Dev.stopIfHurt_of_unhurt (h : d.cast.hurt = false) (i : Ident) : d.stopIfHurt i = d := if_neg (ne_true_of_eq_false h)

theorem Dev.errorsIn_of_none (h : d.mems.errors = []) (c : MemCode) (k n : Nat) : d.errorsIn c k n = [] := by rw [Dev.errorsIn, h]; rfl

end

/-! ### Formation -/

section
variable {s : State} (hon : On s)
include hon

theorem runs_formation_none (h : s.dev.mayForm = false) : Runs .formation s (fun t => t = s) :=
  runs_same (does_onDev hon (f := fun i d => if d.mayForm then d.castGuard i d.formTouch d.formSpans (fun d => d.resumed.formNext) else d) rfl
    (if_neg (ne_true_of_eq_false h)))

theorem does_formation (h : s.dev.mayForm = true) (hclean : s.dev.CastClean s.dev.formTouch s.dev.formSpans) :
    Does .formation s (s.dev.resumed.formNext.stopIfHurt s.ident) :=
  does_onDev hon (f := fun i d => if d.mayForm then d.castGuard i d.formTouch d.formSpans (fun d => d.resumed.formNext) else d) rfl
    ((if_pos h).trans (s.dev.castGuard_of_clean hclean s.ident _))

end

/-! ### Checkpoints -/

section
variable (d : Dev)

theorem Dev.captureIdle_of_none (h : d.cast.ckptReq = []) : d.captureIdle = d := by
  rw [Dev.captureIdle]
  refine if_neg ?_
  rw [h]
  exact Bool.false_ne_true

theorem Dev.writes_shipCommits : d.Writes d.shipCommits := by
  have hmarked := (d.within_usy { d.usy with commits := d.usy.commits.map (fun c => { c with sent := true }) }).writes (by decide) (by decide)
    (by decide) id
  exact hmarked.trans (Dev.writes_foldl (fun (d : Dev) (_ : CommitWait) => d.writes_shipRecord _) _ _)

/-- The Cast Table with a checkpoint no longer due (R300). -/
def Dev.ckptEnded (x : CheckpointDue) (bs : List Nat) : Dev :=
  { d with
    cast := { d.cast with ckptDue := none, deferred := d.cast.deferred.filter (fun b => !x.deferred.contains b), allocated := bs }
    usy := { d.usy with errors := [] } }

theorem Dev.within_ckptEnded (x : CheckpointDue) (bs : List Nat) : d.Within [.cast, .usy] (d.ckptEnded x bs) := by
  intro s p hp
  cases p with
  | cast | usy | lines => simp at hp
  | _ => rfl

/-- A checkpoint without commands is complete: the journal and the log are cut, and its SEQ is shown (R300). -/
theorem Dev.ckptComplete_eq {x : CheckpointDue} (h : x.cmds = []) : ∃ es ts bs qs,
    let e := d.castWrite (d.ckptBuffer x.serial + 4) (leBytes 4 1)
    d.ckptComplete x = ((((((e.setLog es ts).dropUndos x.journal).ckptEnded x bs).renumber (e.reg Reg.cstCkptSeq).toNat
      (field (e.ckptRead x.serial) 16 4) qs).setReg Reg.cstCkptSeq (BitVec.ofNat 32 (field (e.ckptRead x.serial) 16 4))).raise 118) := by
  rw [Dev.ckptComplete]
  generalize d.castWrite (d.ckptBuffer x.serial + 4) (leBytes 4 1) = e
  rw [h]
  cases e.logRead with
  | mk log taken =>
    dsimp only
    cases keptLog x (field (e.ckptRead x.serial) 16 4) log taken with
    | mk log taken => exact ⟨log, taken, _, _, rfl⟩

/-- What a complete checkpoint leaves (R300). -/
theorem Dev.ckptComplete_spec {x : CheckpointDue} (h : x.cmds = []) (herr : d.mems.errors = []) :
    let f := d.ckptComplete x
    (f.cast.ckptDue = none ∧ f.cast.hurt = d.cast.hurt ∧ f.cast.ckptReq = d.cast.ckptReq ∧ f.cast.entries = d.cast.entries) ∧
    f.mems.errors = [] ∧
    f.reg Reg.cstCkptSeq =
      BitVec.ofNat 32 (field ((d.castWrite (d.ckptBuffer x.serial + 4) (leBytes 4 1)).ckptRead x.serial) 16 4) ∧
    f.arrivalCount 118 = min 255 (d.arrivalCount 118 + 1) := by
  obtain ⟨es, ts, bs, qs, heq⟩ := d.ckptComplete_eq h
  rw [heq]
  have hwrite := d.writes_castWrite (d.ckptBuffer x.serial + 4) (leBytes 4 1)
  generalize d.castWrite (d.ckptBuffer x.serial + 4) (leBytes 4 1) = e at hwrite ⊢
  generalize BitVec.ofNat 32 (field (e.ckptRead x.serial) 16 4) = v
  generalize field (e.ckptRead x.serial) 16 4 = new
  have hlog := (hwrite.trans ((e.writes_setLog es ts).trans (Dev.writes_dropUndos _ x.journal))) herr
  generalize (e.setLog es ts).dropUndos x.journal = a at hlog ⊢
  have hended := a.within_ckptEnded x bs
  have hcast : (a.ckptEnded x bs).cast = { a.cast with
      ckptDue := none, deferred := a.cast.deferred.filter (fun b => !x.deferred.contains b), allocated := bs } := rfl
  generalize a.ckptEnded x bs = b at hended hcast ⊢
  have hmoved := b.writes_renumber (e.reg Reg.cstCkptSeq).toNat new qs ((congrArg Mems.errors (hended.part .mems (by decide))).trans hlog.errors)
  generalize b.renumber (e.reg Reg.cstCkptSeq).toNat new qs = c at hmoved ⊢
  have hset := c.within_setReg Reg.cstCkptSeq v
  have hreg : (c.setReg Reg.cstCkptSeq v).reg Reg.cstCkptSeq = v := c.reg_setReg_same _ v
  generalize c.setReg Reg.cstCkptSeq v = y at hset hreg ⊢
  have hraise := y.within_raise 118
  have hlast : (y.raise 118).cast = b.cast := ((hraise.part .cast (by decide)).trans (hset.part .cast (by decide))).trans hmoved.cast
  have hcount : y.arrivalCount 118 = d.arrivalCount 118 := by
    rw [Dev.arrivalCount_congr (hset.part .arrivals (by decide)), hmoved.counts 118 (by decide),
      Dev.arrivalCount_congr (hended.part .arrivals (by decide)), hlog.counts 118 (by decide)]
  refine ⟨?_, ?_, (y.reg_raise 118 _).trans hreg, by rw [Dev.arrivalCount_raise, if_pos rfl, hcount]⟩
  · rw [hlast, hcast, hlog.cast]
    exact ⟨rfl, rfl, rfl, rfl⟩
  · rw [hraise.part .mems (by decide), hset.part .mems (by decide)]
    exact hmoved.errors

end

section
variable {s : State} (hon : On s)
include hon

theorem does_checkpointComplete : Does .checkpointComplete s (s.dev.finishCkpt.captureIdle.stopIfHurt s.ident) :=
  does_onDev hon (f := fun i d => d.finishCkpt.captureIdle.stopIfHurt i) rfl rfl

theorem runs_checkpointComplete_none (hhurt : s.dev.cast.hurt = false) (hdue : s.dev.cast.ckptDue = none) (hreq : s.dev.cast.ckptReq = []) :
    Runs .checkpointComplete s (fun t => t = s) := by
  have hdoes := does_checkpointComplete hon
  rw [Dev.finishCkpt, hdue] at hdoes
  dsimp only at hdoes
  rw [s.dev.captureIdle_of_none hreq, s.dev.stopIfHurt_of_unhurt hhurt] at hdoes
  exact runs_same hdoes

theorem runs_checkpointComplete {x : CheckpointDue} (hhurt : s.dev.cast.hurt = false) (herr : s.dev.mems.errors = [])
    (hdue : s.dev.cast.ckptDue = some x) (hreq : s.dev.cast.ckptReq = []) (hcmds : x.cmds = []) : Runs .checkpointComplete s (fun t =>
      t.dev.cast.ckptDue = none ∧ t.dev.reg Reg.cstCkptSeq = BitVec.ofNat 32
        (field ((s.dev.castWrite (s.dev.ckptBuffer x.serial + 4) (leBytes 4 1)).ckptRead x.serial) 16 4) ∧
      t.dev.arrivalCount 118 = min 255 (s.dev.arrivalCount 118 + 1) ∧ t.dev.cast.entries = s.dev.cast.entries) := by
  have hdoes := does_checkpointComplete hon
  obtain ⟨⟨hnone, hsame, hreq', hentries⟩, herr', hreg, hcount⟩ := s.dev.ckptComplete_spec hcmds herr
  generalize BitVec.ofNat 32 (field ((s.dev.castWrite (s.dev.ckptBuffer x.serial + 4) (leBytes 4 1)).ckptRead x.serial) 16 4) = v at hreg ⊢
  rw [Dev.finishCkpt, hdue] at hdoes
  dsimp only at hdoes
  generalize s.dev.ckptComplete x = e at hdoes hnone hsame hreq' hentries herr' hreg hcount
  have hship := e.writes_shipCommits herr'
  generalize e.shipCommits = f at hdoes hship
  rw [f.captureIdle_of_none ((congrArg Cast.ckptReq hship.cast).trans (hreq'.trans hreq)),
    f.stopIfHurt_of_unhurt ((congrArg Cast.hurt hship.cast).trans (hsame.trans hhurt))] at hdoes
  exact ⟨_, hdoes, (congrArg Cast.ckptDue hship.cast).trans hnone, (hship.regs _ (by decide)).trans hreg,
    (hship.counts 118 (by decide)).trans hcount, (congrArg Cast.entries hship.cast).trans hentries⟩

end

/-! ### The start of a spill -/

theorem mem_keyIns {k s : Nat} {l : List (Nat × Nat)} {x : Nat × Nat} (h : x ∈ keyIns k s l) : x = (k, s) ∨ x ∈ l := by
  induction l with
  | nil => exact .inl (List.mem_singleton.mp h)
  | cons e t ih =>
    rw [keyIns] at h
    split at h
    · exact List.mem_cons.mp h
    · rcases List.mem_cons.mp h with rfl | h
      · exact .inr List.mem_cons_self
      · exact (ih h).imp_right (List.mem_cons_of_mem _)

/-- What is sorted by a key is what was listed. -/
theorem mem_sorted {key : Nat → Nat} {ss : List Nat} {l : List (Nat × Nat)} {x : Nat × Nat}
    (h : x ∈ ss.foldl (fun l s => keyIns (key s) s l) l) : x.2 ∈ ss ∨ x ∈ l := by
  induction ss generalizing l with
  | nil => exact .inr h
  | cons s ss ih =>
    rcases ih h with h | h
    · exact .inl (List.mem_cons_of_mem _ h)
    · rcases mem_keyIns h with rfl | h
      · exact .inl List.mem_cons_self
      · exact .inr h

section
variable (d : Dev)

theorem Dev.spillable_of_next {x : Nat} (h : d.nextSpill = some x) : d.spillable x = true := by
  rw [Dev.nextSpill] at h
  split at h
  case h_1 y hfind =>
    obtain rfl := Option.some.inj h
    exact List.find?_some hfind
  case h_2 =>
    split at h
    · obtain ⟨e, he, rfl⟩ := Option.map_eq_some_iff.mp h
      rcases mem_sorted (key := fun s => (d.entry s).pauseSeq * 16384 + s) (List.mem_of_head? he) with hmem | hmem
      · exact (List.mem_filter.mp hmem).2
      · exact absurd hmem List.not_mem_nil
    · cases h

/-- A stream that is spilled next is PAUSED (R296). -/
theorem Dev.paused_of_next {x : Nat} (h : d.nextSpill = some x) : (d.entry x).state = .paused :=
  beq_iff_eq.mp (Bool.and_eq_true_iff.mp (d.spillable_of_next h)).1

/-- The Cast Table with stream `s` to spill (R296). -/
def Dev.spillSet (s : Nat) : Dev := { d with cast := { d.cast with spill := some s, spillReq := d.cast.spillReq.filter (· != s) } }

/-- A spill begins, or none is due (R296). -/
def Dev.spillBegun : Dev :=
  match d.nextSpill with
  | some s => (d.spillSet s).pulse 85
  | none => d

end

section
variable {s : State} (hon : On s)
include hon

theorem does_spillStart : Does .spillStart s (if !s.dev.wingsOn || s.dev.cast.spill.isSome || s.dev.freeFrame.isNone then s.dev
    else s.dev.castGuard s.ident [] [] Dev.spillBegun) :=
  does_onDev hon (f := fun i d => if !d.wingsOn || d.cast.spill.isSome || d.freeFrame.isNone then d
    else d.castGuard i [] [] Dev.spillBegun) rfl rfl

theorem runs_spillStart_refused (h : s.dev.wingsOn = false ∨ s.dev.cast.spill ≠ none ∨ s.dev.freeFrame = none) :
    Runs .spillStart s (fun t => t = s) := by
  have hdoes := does_spillStart hon
  have hno : (!s.dev.wingsOn || s.dev.cast.spill.isSome || s.dev.freeFrame.isNone) = true := by
    rcases h with h | h | h
    · rw [h]
      rfl
    · rw [Option.isSome_iff_ne_none.mpr h, Bool.or_true, Bool.true_or]
    · rw [h, Option.isNone_none, Bool.or_true]
  rw [if_pos hno] at hdoes
  exact runs_same hdoes

theorem does_spillStart_begins (hwings : s.dev.wingsOn = true) (hspill : s.dev.cast.spill = none) (hframe : s.dev.freeFrame ≠ none)
    (hclean : s.dev.CastClean [] []) : Does .spillStart s (s.dev.spillBegun.stopIfHurt s.ident) := by
  have hdoes := does_spillStart hon
  rwa [hwings, hspill, Option.isNone_eq_false_iff.mpr (Option.isSome_iff_ne_none.mpr hframe), if_neg (by decide),
    s.dev.castGuard_of_clean hclean] at hdoes

theorem runs_spillStart {x : Nat} (hwings : s.dev.wingsOn = true) (hspill : s.dev.cast.spill = none) (hframe : s.dev.freeFrame ≠ none)
    (hclean : s.dev.CastClean [] []) (hnext : s.dev.nextSpill = some x) : Runs .spillStart s (fun t =>
      t.dev.cast = { s.dev.cast with spill := some x, spillReq := s.dev.cast.spillReq.filter (· != x) } ∧ (s.dev.entry x).state = .paused ∧
      Keeps [.cast] s t) := by
  have hdoes := does_spillStart_begins hon hwings hspill hframe hclean
  rw [Dev.spillBegun, hnext] at hdoes
  dsimp only at hdoes
  have hset : s.dev.Within [.cast] (s.dev.spillSet x) := s.dev.within_cast _
  have hcast : (s.dev.spillSet x).cast = { s.dev.cast with spill := some x, spillReq := s.dev.cast.spillReq.filter (· != x) } := rfl
  generalize s.dev.spillSet x = e at hdoes hset hcast
  have hpulse := e.within_pulse 85
  have hlast : (e.pulse 85).cast = e.cast := hpulse.part .cast (by decide)
  generalize e.pulse 85 = f at hdoes hpulse hlast
  rw [f.stopIfHurt_of_unhurt (by rw [hlast, hcast]; exact hclean.hurt)] at hdoes
  exact ⟨_, hdoes, hlast.trans hcast, s.dev.paused_of_next hnext, ((hset.trans hpulse).mono (by decide)).keeps⟩

theorem runs_spillStart_none (hwings : s.dev.wingsOn = true) (hclean : s.dev.CastClean [] []) (hnext : s.dev.nextSpill = none) :
    Runs .spillStart s (fun t => t = s) := by
  by_cases hfree : s.dev.cast.spill = none ∧ s.dev.freeFrame ≠ none
  · have hdoes := does_spillStart_begins hon hwings hfree.1 hfree.2 hclean
    rw [Dev.spillBegun, hnext] at hdoes
    dsimp only at hdoes
    rw [s.dev.stopIfHurt_of_unhurt hclean.hurt] at hdoes
    exact runs_same hdoes
  · refine runs_spillStart_refused hon ?_
    rw [Classical.not_and_iff_not_or_not, not_not] at hfree
    exact .inr hfree

end

/-! ### The end of a spill -/

section
variable (d : Dev) (s : Nat)

theorem Dev.ahead_of_wingsOn (h : d.wingsOn = true) : d.cast.ahead = none :=
  Option.isNone_iff_eq_none.mp (Bool.and_eq_true_iff.mp h).2

/-- No spill is under way (R296). -/
def Dev.spillEnded : Dev := { d with cast := { d.cast with spill := none } }

theorem Dev.entry_spillEnded (k : Nat) : d.spillEnded.entry k = d.entry k := rfl

/-- A spill carried out, noted and counted (R296, R301). -/
def Dev.spillDoneWell : Dev := (((d.spillStream s).note (.spilled s)).count Reg.cstSpills).spillEnded

theorem Dev.spillDone_of_error (i : Ident) : d.spillDone i s true = d.spillEnded.wingsError := by
  rw [Dev.spillDone]
  exact if_pos rfl

theorem Dev.spillDone_of_room (i : Ident) (herr : d.mems.errors = []) (hroom : (d.spillList s).length ≤ d.frameCount - d.cast.frames.length) :
    d.spillDone i s false = d.spillDoneWell s := by
  have hgood : d.spillBad s = false := by
    rw [Dev.spillBad, List.any_eq_false]
    intro k _
    rw [d.errorsIn_of_none herr]
    exact Bool.false_ne_true
  rw [Dev.spillDone]
  refine (if_neg Bool.false_ne_true).trans ((if_neg (ne_true_of_eq_false hgood)).trans ?_)
  exact if_neg (Nat.not_lt.mpr hroom)

/-- A stream spilled is SPILLED, and an effect of it is in the log (R296, R301). -/
theorem Dev.spillDoneWell_spec (herr : d.mems.errors = []) (hahead : d.cast.ahead = none) :
    ((d.spillDoneWell s).entry s).state = .spilled ∧ (d.spillDoneWell s).cast.spill = none ∧ (d.spillDoneWell s).cast.hurt = d.cast.hurt ∧
    (d.spillDoneWell s).reg Reg.cstSpills = BitVec.ofNat 32 (min ((d.reg Reg.cstSpills).toNat + 1) 0xFFFFFFFF) := by
  rw [Dev.spillDoneWell, d.spillStream_eq]
  have hblocks := d.shifts_blocksSpilled s herr
  generalize d.blocksSpilled s = a at hblocks ⊢
  have hset := a.shifts_setEntry s (e := { a.entry s with state := .spilled }) rfl hblocks.errors
  have hentry : (a.setEntry s { a.entry s with state := .spilled }).entry s = { a.entry s with state := .spilled } :=
    (a.entry_setEntry ..).trans (if_pos rfl)
  generalize a.setEntry s { a.entry s with state := .spilled } = b at hset hentry ⊢
  have hnote := b.writes_note (.spilled s) (hset.ahead.trans (hblocks.ahead.trans hahead)) hset.errors
  generalize b.note (.spilled s) = c at hnote ⊢
  have hcount := c.reg_count_same Reg.cstSpills
  have hwithin := c.within_count Reg.cstSpills
  have hregs := ((hblocks.regs.trans hset.regs).trans hnote.regs) Reg.cstSpills (by decide)
  generalize c.count Reg.cstSpills = f at hcount hwithin ⊢
  have hcast : f.cast = b.cast := (hwithin.part .cast (by decide)).trans hnote.cast
  refine ⟨?_, rfl, ?_, ?_⟩
  · rw [Dev.entry_spillEnded, Dev.entry, hcast, ← Dev.entry, hentry]
  · exact (congrArg Cast.hurt hcast).trans (hset.hurt.trans hblocks.hurt)
  · rw [← hregs, ← hcount]
    rfl

end

section
variable {s : State} (hon : On s)
include hon

theorem runs_spillComplete_none (h : s.dev.cast.spill = none) (e : Bool) : Runs (.spillComplete e) s (fun t => t = s) := by
  have hexec : exec (.spillComplete e) s = execSpillComplete e s := rfl
  have hdoes : Does (.spillComplete e) s s.dev := by rw [Does, hexec, execSpillComplete, onDev_on hon, h]
  exact runs_same hdoes

section
variable {x : Nat} (hspill : s.dev.cast.spill = some x) (hwings : s.dev.wingsOn = true) (hstate : (s.dev.entry x).state = .paused)
  (hclean : s.dev.CastClean [(x, 0, (s.dev.entry x).blocks)] [])
include hspill hwings hstate hclean

theorem does_spillComplete (e : Bool) : Does (.spillComplete e) s ((s.dev.spillDone s.ident x e).stopIfHurt s.ident) := by
  have hexec : exec (.spillComplete e) s = execSpillComplete e s := rfl
  have htakes : (s.dev.wingsOn && (s.dev.entry x).state == .paused) = true := by rw [hwings, hstate]; rfl
  rw [Does, hexec, execSpillComplete, onDev_on hon, hspill]
  dsimp only
  rw [if_pos htakes, s.dev.castGuard_of_clean hclean]

theorem runs_spillComplete_error : Runs (.spillComplete true) s (fun t => t.dev.cast = { s.dev.cast with spill := none } ∧
    t.dev.bit Reg.cstStatus 2 = true ∧ Raised 116 s t ∧ KeepsRegs [Reg.cstStatus] s t ∧ Keeps (.cast :: .regs :: raising) s t) := by
  have hdoes := does_spillComplete hon hspill hwings hstate hclean true
  rw [Dev.spillDone_of_error] at hdoes
  have hended : s.dev.Within [.cast] s.dev.spillEnded := s.dev.within_cast _
  have hcast : s.dev.spillEnded.cast = { s.dev.cast with spill := none } := rfl
  generalize s.dev.spillEnded = d at hdoes hended hcast
  rw [Dev.wingsError] at hdoes
  have hbit : (d.flagRaise Reg.cstStatus 2 116).bit Reg.cstStatus 2 = true := d.bit_flagRaise_same _ 116 (by decide)
  have hregs := d.regsWithin_flagRaise Reg.cstStatus 2 116
  have hflag := d.within_flagRaise Reg.cstStatus 2 116
  have hraised := raised_flagRaise (s := s) (d := d) (hended.part .arrivals (by decide)) Reg.cstStatus 2 116
  have hsame : (d.flagRaise Reg.cstStatus 2 116).cast = d.cast := hflag.part .cast (by decide)
  generalize d.flagRaise Reg.cstStatus 2 116 = e at hdoes hbit hregs hflag hraised hsame
  rw [e.stopIfHurt_of_unhurt (by rw [hsame, hcast]; exact hclean.hurt)] at hdoes
  exact ⟨_, hdoes, hsame.trans hcast, hbit, hraised, ((hended.regsWithin (by decide)).trans hregs).mono (by decide),
    ((hended.trans hflag).mono (by decide)).keeps⟩

theorem runs_spillComplete (herr : s.dev.mems.errors = []) (hroom : (s.dev.spillList x).length ≤ s.dev.frameCount - s.dev.cast.frames.length) :
    Runs (.spillComplete false) s (fun t => (t.dev.entry x).state = .spilled ∧ t.dev.cast.spill = none ∧
        t.dev.reg Reg.cstSpills = BitVec.ofNat 32 (min ((s.dev.reg Reg.cstSpills).toNat + 1) 0xFFFFFFFF)) := by
  have hdoes := does_spillComplete hon hspill hwings hstate hclean false
  obtain ⟨hspilled, hnone, hhurt, hcount⟩ := s.dev.spillDoneWell_spec x herr (s.dev.ahead_of_wingsOn hwings)
  rw [s.dev.spillDone_of_room x s.ident herr hroom] at hdoes
  generalize s.dev.spillDoneWell x = e at hdoes hspilled hnone hhurt hcount
  rw [e.stopIfHurt_of_unhurt (hhurt.trans hclean.hurt)] at hdoes
  exact ⟨_, hdoes, hspilled, hnone, hcount⟩

end
end

/-! ### The end of a return -/

section
variable (d : Dev) (s : Nat)

/-- Stream `s` returns no more (R297). -/
def Dev.returnEnded : Dev := { d with cast := { d.cast with returns := d.cast.returns.filter (· != s) } }

theorem Dev.entry_returnEnded (k : Nat) : (d.returnEnded s).entry k = d.entry k := rfl

/-- A return carried out, noted and counted (R297, R301). -/
def Dev.returnDoneWell : Dev := (((d.returnStream s).note (.returned s)).count Reg.cstReturns).returnEnded s

/-- A stream that could not return (R298). -/
def Dev.returnFailed : Dev := ((d.returnEnded s).endStreams [s] .failed 8).wingsError.raise 115

theorem Dev.returnDone_of_error : d.returnDone s true = d.returnFailed s := by
  rw [Dev.returnDone]
  exact if_pos rfl

theorem Dev.returnDone_of_room (hroom : (d.returnList s).length ≤ d.freeBlocks.length) : d.returnDone s false = d.returnDoneWell s := by
  rw [Dev.returnDone]
  refine (if_neg Bool.false_ne_true).trans ?_
  exact if_neg (Nat.not_lt.mpr hroom)

/-- A stream that has returned takes its saved state (R297). -/
theorem Dev.returnDoneWell_spec (herr : d.mems.errors = []) (hahead : d.cast.ahead = none) :
    ((d.returnDoneWell s).entry s).state = (d.entry s).saved ∧ (d.returnDoneWell s).cast.returns = d.cast.returns.filter (· != s) ∧
    (d.returnDoneWell s).cast.hurt = d.cast.hurt ∧
    (d.returnDoneWell s).reg Reg.cstReturns = BitVec.ofNat 32 (min ((d.reg Reg.cstReturns).toNat + 1) 0xFFFFFFFF) := by
  rw [Dev.returnDoneWell, d.returnStream_eq]
  have hblocks := d.shifts_blocksReturned s herr
  generalize d.blocksReturned s = a at hblocks ⊢
  generalize hx : ({ a.entry s with state := (a.entry s).saved, saved := .free } : Entry) = x
  have hstate : x.state = (d.entry s).saved := by rw [← hx, ← hblocks.saved s]
  have hset := a.within_cast { a.cast with entries := tabSet Entry.zero a.cast.entries s x }
  have hentry : (a.setEntry s x).entry s = x := (a.entry_setEntry ..).trans (if_pos rfl)
  have hcast : (a.setEntry s x).cast = { a.cast with entries := tabSet Entry.zero a.cast.entries s x } := rfl
  change a.Within [.cast] (a.setEntry s x) at hset
  generalize a.setEntry s x = b at hset hentry hcast ⊢
  have hnote := b.writes_note (.returned s) (by rw [hcast]; exact hblocks.ahead.trans hahead)
    ((congrArg Mems.errors (hset.part .mems (by decide))).trans hblocks.errors)
  generalize b.note (.returned s) = c at hnote ⊢
  have hcount := c.reg_count_same Reg.cstReturns
  have hwithin := c.within_count Reg.cstReturns
  have hregs := ((hblocks.regs.trans (hset.regsWithin (by decide))).trans hnote.regs) Reg.cstReturns (by decide)
  generalize c.count Reg.cstReturns = f at hcount hwithin ⊢
  have hlast : f.cast = b.cast := (hwithin.part .cast (by decide)).trans hnote.cast
  refine ⟨?_, ?_, ?_, ?_⟩
  · rw [Dev.entry_returnEnded, Dev.entry, hlast, ← Dev.entry, hentry, hstate]
  · have hends : (f.returnEnded s).cast.returns = f.cast.returns.filter (· != s) := rfl
    rw [hends, hlast, hcast, ← hblocks.returns]
  · have hsame : (f.returnEnded s).cast.hurt = f.cast.hurt := rfl
    rw [hsame, hlast, hcast, ← hblocks.hurt]
  · rw [← hregs, ← hcount]
    rfl

/-- A stream that ends with a reason, noted but not yet told (R292). -/
def Dev.endNoted (st : StreamState) (reason : Nat) : Dev :=
  (d.setEntry s { d.entry s with state := st, reason := reason }).note (.ended s st reason)

theorem Dev.endStreams_one (st : StreamState) (reason : Nat) :
    d.endStreams [s] st reason = (d.endNoted s st reason).postTokens [endEntry s (d.entry s) reason] := rfl

theorem Dev.endNoted_spec (st : StreamState) (reason : Nat) (herr : d.mems.errors = []) (hahead : d.cast.ahead = none) :
    (d.endNoted s st reason).entry s = { d.entry s with state := st, reason := reason } ∧
    (d.endNoted s st reason).cast.returns = d.cast.returns ∧ (d.endNoted s st reason).cast.hurt = d.cast.hurt ∧
    ∀ n, n ≠ 75 → (d.endNoted s st reason).arrivalCount n = d.arrivalCount n := by
  rw [Dev.endNoted]
  have hset := d.shifts_setEntry s (e := { d.entry s with state := st, reason := reason }) rfl herr
  have hentry : (d.setEntry s { d.entry s with state := st, reason := reason }).entry s = { d.entry s with state := st, reason := reason } :=
    (d.entry_setEntry ..).trans (if_pos rfl)
  generalize d.setEntry s { d.entry s with state := st, reason := reason } = a at hset hentry ⊢
  have hnote := a.writes_note (.ended s st reason) (hset.ahead.trans hahead) hset.errors
  generalize a.note (.ended s st reason) = b at hnote ⊢
  refine ⟨?_, (congrArg Cast.returns hnote.cast).trans hset.returns, (congrArg Cast.hurt hnote.cast).trans hset.hurt,
    fun n hn => (hnote.counts n hn).trans (hset.counts n hn)⟩
  rw [Dev.entry, hnote.cast, ← Dev.entry, hentry]

/-- A stream whose return failed is FAILED with reason 8 (R298). -/
theorem Dev.returnFailed_spec (herr : d.mems.errors = []) (hahead : d.cast.ahead = none) :
    (((d.returnFailed s).entry s).state = .failed ∧ ((d.returnFailed s).entry s).reason = 8 ∧
    (d.returnFailed s).cast.returns = d.cast.returns.filter (· != s) ∧ (d.returnFailed s).bit Reg.cstStatus 2 = true ∧
    (d.returnFailed s).arrivalCount 115 = min 255 (d.arrivalCount 115 + 1) ∧
    (d.returnFailed s).arrivalCount 116 = min 255 (d.arrivalCount 116 + 1)) ∧ (d.returnFailed s).cast.hurt = d.cast.hurt := by
  rw [Dev.returnFailed, Dev.endStreams_one]
  have hreturns : (d.returnEnded s).cast.returns = d.cast.returns.filter (· != s) := rfl
  have hhurt : (d.returnEnded s).cast.hurt = d.cast.hurt := rfl
  have hcounts (n : Nat) : (d.returnEnded s).arrivalCount n = d.arrivalCount n := rfl
  have herr' : (d.returnEnded s).mems.errors = [] := herr
  have hahead' : (d.returnEnded s).cast.ahead = none := hahead
  generalize d.returnEnded s = a at hreturns hhurt hcounts herr' hahead' ⊢
  obtain ⟨hentry, hreturns', hhurt', hcounts'⟩ := a.endNoted_spec s .failed 8 herr' hahead'
  generalize a.endNoted s .failed 8 = b at hentry hreturns' hhurt' hcounts' ⊢
  have hpost : b.Within posting (b.postTokens [endEntry s (a.entry s) 8]) := b.within_post _ _
  generalize b.postTokens [endEntry s (a.entry s) 8] = c at hpost ⊢
  rw [Dev.wingsError]
  have hflag := c.within_flagRaise Reg.cstStatus 2 116
  have hbit : (c.flagRaise Reg.cstStatus 2 116).bit Reg.cstStatus 2 = true := c.bit_flagRaise_same _ 116 (by decide)
  have hflagged (n : Nat) : (c.flagRaise Reg.cstStatus 2 116).arrivalCount n = if n = 116 then min 255 (c.arrivalCount 116 + 1) else c.arrivalCount n := by
    have harr := c.within_setBit Reg.cstStatus 2
    rw [Dev.flagRaise, Dev.arrivalCount_raise, Dev.arrivalCount_congr (harr.part .arrivals (by decide)),
      Dev.arrivalCount_congr (harr.part .arrivals (by decide))]
  generalize c.flagRaise Reg.cstStatus 2 116 = f at hflag hbit hflagged ⊢
  have hraise := f.within_raise 115
  have hcast : (f.raise 115).cast = b.cast := (hraise.part .cast (by decide)).trans ((hflag.part .cast (by decide)).trans (hpost.part .cast (by decide)))
  have hposted (n : Nat) (hn : n ≠ 75) : c.arrivalCount n = d.arrivalCount n :=
    ((Dev.arrivalCount_congr (hpost.part .arrivals (by decide)) n).trans (hcounts' n hn)).trans (hcounts n)
  have hlast : (f.raise 115).entry s = { a.entry s with state := .failed, reason := 8 } := by
    rw [Dev.entry, hcast, ← Dev.entry, hentry]
  refine ⟨⟨by rw [hlast], by rw [hlast], ?_, (Dev.bit_congr (f.reg_raise 115 _) 2).trans hbit, ?_, ?_⟩, ?_⟩
  · rw [hcast, hreturns', hreturns]
  · rw [Dev.arrivalCount_raise, if_pos rfl, hflagged, if_neg (by decide), hposted 115 (by decide)]
  · rw [Dev.arrivalCount_raise, if_neg (by decide), hflagged, if_pos rfl, hposted 116 (by decide)]
  · rw [hcast, hhurt', hhurt]

end

section
variable {s : State} (hon : On s)
include hon

theorem runs_returnComplete_none (h : s.dev.cast.returns = []) (e : Bool) : Runs (.returnComplete e) s (fun t => t = s) := by
  have hexec : exec (.returnComplete e) s = execReturnComplete e s := rfl
  have hdoes : Does (.returnComplete e) s s.dev := by rw [Does, hexec, execReturnComplete, onDev_on hon, h]
  exact runs_same hdoes

section
variable {x : Nat} {xs : List Nat} (hreturns : s.dev.cast.returns = x :: xs) (hwings : s.dev.wingsOn = true)
  (hstate : (s.dev.entry x).state = .spilled) (hclean : s.dev.CastClean [(x, 0, (s.dev.entry x).blocks)] []) (herr : s.dev.mems.errors = [])
include hreturns hwings hstate hclean

theorem does_returnComplete (e : Bool) : Does (.returnComplete e) s ((s.dev.returnDone x e).stopIfHurt s.ident) := by
  have hexec : exec (.returnComplete e) s = execReturnComplete e s := rfl
  have htakes : (s.dev.wingsOn && (s.dev.entry x).state == .spilled) = true := by rw [hwings, hstate]; rfl
  rw [Does, hexec, execReturnComplete, onDev_on hon, hreturns]
  dsimp only
  rw [if_pos htakes, s.dev.castGuard_of_clean hclean]

include herr

theorem runs_returnComplete_error : Runs (.returnComplete true) s (fun t => (t.dev.entry x).state = .failed ∧ (t.dev.entry x).reason = 8 ∧
    t.dev.cast.returns = (x :: xs).filter (· != x) ∧ t.dev.bit Reg.cstStatus 2 = true ∧
    t.dev.arrivalCount 115 = min 255 (s.dev.arrivalCount 115 + 1) ∧ t.dev.arrivalCount 116 = min 255 (s.dev.arrivalCount 116 + 1)) := by
  have hdoes := does_returnComplete hon hreturns hwings hstate hclean true
  obtain ⟨hspec, hhurt⟩ := s.dev.returnFailed_spec x herr (s.dev.ahead_of_wingsOn hwings)
  rw [s.dev.returnDone_of_error] at hdoes
  rw [hreturns] at hspec
  generalize s.dev.returnFailed x = e at hdoes hspec hhurt
  rw [e.stopIfHurt_of_unhurt (hhurt.trans hclean.hurt)] at hdoes
  exact ⟨_, hdoes, hspec⟩

theorem runs_returnComplete (hroom : (s.dev.returnList x).length ≤ s.dev.freeBlocks.length) : Runs (.returnComplete false) s (fun t =>
    (t.dev.entry x).state = (s.dev.entry x).saved ∧ t.dev.cast.returns = (x :: xs).filter (· != x) ∧
    t.dev.reg Reg.cstReturns = BitVec.ofNat 32 (min ((s.dev.reg Reg.cstReturns).toNat + 1) 0xFFFFFFFF)) := by
  have hdoes := does_returnComplete hon hreturns hwings hstate hclean false
  obtain ⟨hback, hgone, hhurt, hcount⟩ := s.dev.returnDoneWell_spec x herr (s.dev.ahead_of_wingsOn hwings)
  rw [s.dev.returnDone_of_room x hroom] at hdoes
  rw [hreturns] at hgone
  generalize s.dev.returnDoneWell x = e at hdoes hback hgone hhurt hcount
  rw [e.stopIfHurt_of_unhurt (hhurt.trans hclean.hurt)] at hdoes
  exact ⟨_, hdoes, hback, hgone, hcount⟩

end
end

/-! ### The settled statement -/

/-- Settles O60. -/
theorem castTableActs : Obligations.CastTableActs := by
  unfold Obligations.CastTableActs
  intro s hon
  refine ⟨fun hno => runs_formation_none hon hno, fun hmay hclean => ?_, fun hhurt hdue hreq => runs_checkpointComplete_none hon hhurt hdue hreq,
    fun x hhurt herr hdue hreq hcmds => runs_checkpointComplete hon hhurt herr hdue hreq hcmds, fun hno => runs_spillStart_refused hon hno,
    fun x hwings hspill hframe hclean hnext => ?_, fun hwings hclean hnext => ?_, fun hnone e => runs_spillComplete_none hon hnone e,
    fun x hspill hwings hstate hclean => ?_, fun hnone e => runs_returnComplete_none hon hnone e,
    fun x xs hreturns hwings hstate hclean herr => ?_⟩
  all_goals
    obtain ⟨hhurt, hspans, htouch⟩ := hclean
    have hclean := Dev.CastClean.mk hhurt hspans htouch
  · exact does_formation hon hmay hclean
  · exact runs_spillStart hon hwings hspill hframe hclean hnext
  · exact runs_spillStart_none hon hwings hclean hnext
  · exact ⟨runs_spillComplete_error hon hspill hwings hstate hclean,
      fun herr hroom => runs_spillComplete hon hspill hwings hstate hclean herr hroom⟩
  · exact ⟨runs_returnComplete_error hon hreturns hwings hstate hclean herr,
      fun hroom => runs_returnComplete hon hreturns hwings hstate hclean herr hroom⟩

end Sys2Proof.Machine
end
